-- ==== Sys2Proof/Word.lean ====
section
/-! DEFINITION. Words of the UV96: register words are 32 bits (R464), tier and yard memory is bytes (R243),
and every bank of like things (registers, queues, routes, tensor entries, memory bytes) is a sparse map keyed by
a number: a list of pairs with strictly rising keys in which no entry equals what an unlisted key reads as. -/
namespace Sys2Proof

abbrev Byte := BitVec 8
abbrev W16 := BitVec 16
abbrev W32 := BitVec 32
abbrev W64 := BitVec 64

/-- A sparse map keyed by numbers; its canonical form is `Machine.mapWf`. -/
abbrev SMap (α : Type) := List (Nat × α)

end Sys2Proof
end

