-- ==== Sys2Proof/Machine/Map.lean ====
section
/-! DEFINITION. Reading, writing and the canonical form of the sparse maps that hold memory, registers and tables. -/
namespace Sys2Proof.Machine

/-- What key `k` reads as: the listed value, or the default `d` of an unlisted key. -/
def mget {α : Type} (d : α) : SMap α → Nat → α
  | [], _ => d
  | (k', v) :: t, k => if k = k' then v else mget d t k

/-- The map without key `k`. -/
def mdel {α : Type} : SMap α → Nat → SMap α
  | [], _ => []
  | (k', v) :: t, k => if k = k' then mdel t k else (k', v) :: mdel t k

/-- The map with an entry at `k` put where it belongs in rising order. -/
def minsert {α : Type} (k : Nat) (v : α) : SMap α → SMap α
  | [] => [(k, v)]
  | (k', v') :: t => if k < k' then (k, v) :: (k', v') :: t else (k', v') :: minsert k v t

/-- Write `v` at `k`, keeping keys strictly rising and listing no default value. -/
def mset {α : Type} [DecidableEq α] (d : α) (m : SMap α) (k : Nat) (v : α) : SMap α :=
  if v = d then mdel m k else minsert k v (mdel m k)

/-- Change the value at `k` by `f`. -/
def mmod {α : Type} [DecidableEq α] (d : α) (m : SMap α) (k : Nat) (f : α → α) : SMap α :=
  mset d m k (f (mget d m k))

/-- Write the values of `vs` at consecutive keys from `k`. -/
def msetList {α : Type} [DecidableEq α] (d : α) : SMap α → Nat → List α → SMap α
  | m, _, [] => m
  | m, k, v :: vs => msetList d (mset d m k v) (k + 1) vs

/-- Every key of `m` lies above `lo`, keys rise strictly and no entry is the default. -/
def mapWfFrom {α : Type} [DecidableEq α] (d : Nat → α) (lo : Nat) : SMap α → Bool
  | [] => true
  | (k, v) :: t => decide (lo ≤ k) && !decide (v = d k) && mapWfFrom d (k + 1) t

/-- The canonical form of a map whose unlisted key `k` reads as `d k`. -/
def mapWf {α : Type} [DecidableEq α] (d : Nat → α) (m : SMap α) : Bool := mapWfFrom d 0 m

/-- Change every value of a map (the function keeps no default). -/
def mmap {α : Type} [DecidableEq α] (d : α) (m : SMap α) (f : Nat → α → α) : SMap α :=
  m.foldr (fun p acc => mset d acc p.1 (f p.1 p.2)) []

/-- The values at keys `lo` to `lo + n - 1` of a map whose keys lie at or above `lo`. -/
def dense {α : Type} (d : α) : SMap α → Nat → Nat → List α
  | _, _, 0 => []
  | [], lo, n + 1 => d :: dense d [] (lo + 1) n
  | (k, v) :: t, lo, n + 1 => if k = lo then v :: dense d t (lo + 1) n else d :: dense d ((k, v) :: t) (lo + 1) n

/-- The map of the values of a list at consecutive keys from `k`. -/
def sparse {α : Type} [DecidableEq α] (d : α) : Nat → List α → SMap α
  | _, [] => []
  | k, v :: t => if v = d then sparse d (k + 1) t else (k, v) :: sparse d (k + 1) t

/-- The part of a map with keys from `lo` to `lo + n - 1`. -/
def mslice {α : Type} (m : SMap α) (lo n : Nat) : SMap α :=
  m.filter fun p => decide (lo ≤ p.1) && decide (p.1 < lo + n)

/-- Replace the values at keys from `lo` by those of a list. -/
def mreplace {α : Type} [DecidableEq α] (d : α) (m : SMap α) (lo : Nat) (l : List α) : SMap α :=
  (m.filter fun p => decide (p.1 < lo)) ++ sparse d lo l ++ (m.filter fun p => decide (lo + l.length ≤ p.1))

end Sys2Proof.Machine
end

