-- ==== Sys2Proof/Machine/Bits.lean ====
section
/-! DEFINITION. Bit fields of 32-bit words ([msb:lsb], R10), little-endian words in bytes (R11) and rounding helpers. -/
namespace Sys2Proof.Machine

/-- Field [hi:lo] of a word as a number (R10). -/
def fld (w : W32) (hi lo : Nat) : Nat := (w.toNat / 2 ^ lo) % 2 ^ (hi + 1 - lo)

/-- One bit of a word. -/
def bit (w : W32) (i : Nat) : Bool := w.getLsbD i

/-- Replace field [hi:lo] of a word. -/
def setFld (w : W32) (hi lo v : Nat) : W32 :=
  let mask : W32 := BitVec.ofNat 32 ((2 ^ (hi + 1 - lo) - 1) * 2 ^ lo)
  (w &&& ~~~mask) ||| (BitVec.ofNat 32 (v * 2 ^ lo) &&& mask)

/-- Set or clear one bit. -/
def setBit (w : W32) (i : Nat) (b : Bool) : W32 := setFld w i i b.toNat

/-- Field [hi:lo] of any number. -/
def nfld (n hi lo : Nat) : Nat := (n / 2 ^ lo) % 2 ^ (hi + 1 - lo)

/-- A 0/1 of a truth value. -/
def b2n (b : Bool) : Nat := if b then 1 else 0

/-- Little-endian number of a list of bytes (R11). -/
def leNat : List Byte → Nat
  | [] => 0
  | b :: t => b.toNat + 256 * leNat t

/-- `n` little-endian bytes of a number (R11). -/
def leBytes : Nat → Nat → List Byte
  | 0, _ => []
  | n + 1, v => BitVec.ofNat 8 (v % 256) :: leBytes n (v / 256)

/-- `n` bytes of a number in network byte order (R11). -/
def beBytes (n v : Nat) : List Byte := (leBytes n v).reverse

/-- Number of a list of bytes in network byte order (R11). -/
def beNat (bs : List Byte) : Nat := leNat bs.reverse

/-- Two's-complement value of a word. -/
def sint (w : W32) : Int := w.toInt

/-- Add with a stop at the maximum (the numeric and error counters: R71, R268). -/
def satAdd32 (w : W32) (n : Nat) : W32 := BitVec.ofNat 32 (Nat.min (w.toNat + n) 0xFFFFFFFF)

/-- Add modulo 2^32 (the stall and traffic counters: R102). -/
def wrapAdd32 (w : W32) (n : Nat) : W32 := BitVec.ofNat 32 (w.toNat + n)

/-- Ceiling division. -/
def cdiv (a b : Nat) : Nat := (a + b - 1) / b

/-- Round up to a multiple. -/
def roundUp (a b : Nat) : Nat := cdiv a b * b

/-- List replace at an index (out of range: no change). -/
def setAt {α : Type} : List α → Nat → α → List α
  | [], _, _ => []
  | _ :: t, 0, v => v :: t
  | x :: t, n + 1, v => x :: setAt t n v

/-- Entry `i` of a list of words, 0 past its end. -/
def wordAt (l : List W32) (i : Nat) : W32 := (l[i]?).getD 0

end Sys2Proof.Machine
end

