-- ==== Sys2Proof/Machine/Image.lean ====
section
/-! DEFINITION. What the configuration flash and the fuses hold: the configuration image by its sections (R491,
Tables 20-4 to 20-9), the boot record (Table 20-3) and the log record (Table 21-7). An image is held by its parsed
content; the outcomes of the bit-level checks that need its bytes (the layout of its header, the key hash, the P-384
signature, a completed flash read) are part of that content, since nothing of the machine reads them otherwise. -/
namespace Sys2Proof.Machine

/-- A window: base index and length in units of 256 MiB (fast tier) or GiB (bulk tier); length 0 is no window. -/
structure Window where
  base : Nat
  len : Nat
  deriving DecidableEq, Repr

/-- A tenant record (Table 20-7). -/
structure TenantRec where
  tenant : Nat
  cl0 : Bool
  func : Nat
  mode : Bool
  taskOvr : Bool
  coldFault : Bool
  thSize : Nat
  cores : Nat
  fastWin : List Window
  bulkWin : List Window
  cl0Depth : Nat × Nat × Nat
  decCtx : Nat
  encCtx : Nat
  sch : List W32
  deriving DecidableEq, Repr

/-- A port record of the PORTS section (Table 20-9). -/
structure PortRec where
  mode : Nat
  role : Nat
  preempt : Bool
  macsec : Bool
  xpn : Bool
  pfcEn : Nat
  ets4 : Nat
  share0 : Nat
  share1 : Nat
  share2 : Nat
  replay : Nat
  xoff : Nat
  asym : W32
  addr : Nat
  deriving DecidableEq, Repr

/-- The CARAVAN section (Table 20-8). -/
structure CaravanRec where
  caravanId : Nat
  tenant : Nat
  role : Nat
  rank : Nat
  domain : Nat
  bond : Nat
  slot : Nat
  master : Nat
  cands : List Nat
  deriving DecidableEq, Repr

/-- A configuration image (R491). -/
structure Image where
  /-- Reason 1 passes: MAGIC, VERSION, LENGTH, reserved fields, section placement. -/
  layoutOk : Bool
  /-- The SHA-384 of KEY equals the hash in fuse slot KEYSEL. -/
  keyHashOk : Bool
  /-- SIG is valid over the digest. -/
  sigOk : Bool
  keySel : Nat
  rollback : Nat
  fwRel : W32
  serial : Nat
  testMode : Bool
  timeoutMs : Nat
  thBase : Nat
  tenants : List TenantRec
  ipv6 : Bool
  dport : Nat
  dscp : Nat × Nat × Nat
  tunTimeout : Nat
  ports : List PortRec
  /-- DIR (true: D2H) and function mask of each mailbox. -/
  mailboxes : List (Bool × Nat)
  caravan : Option CaravanRec
  /-- Memory split code of each logical core. -/
  splits : List Nat
  /-- Key references of MACsec keys (R307): port, direction (1 transmit), AN, reference. -/
  keys : List (Nat × Nat × Nat × Nat) := []
  deriving DecidableEq, Repr

/-- A boot record sector's content (Table 20-3); an invalid sector is `none` where records are held. -/
structure BootRec where
  seq : Nat
  bootCount : Nat
  pref : Bool
  trial : Bool
  tries : Nat
  deriving DecidableEq, Repr

/-- A record of the persistent log (Table 21-7); what its DATA tells, as numbers (R520 lays DATA out for one kind
only, so the bytes are `Config.logData`). -/
structure LogRec where
  kind : Nat
  seq : Nat
  bootCount : Nat
  time : Nat
  what : List Nat
  deriving DecidableEq, Repr

/-- The blank values that an unnamed tenant, port or caravan reads as. -/
def TenantRec.none : TenantRec :=
  { tenant := 0, cl0 := false, func := 0, mode := false, taskOvr := false, coldFault := false, thSize := 0,
    cores := 0, fastWin := [], bulkWin := [], cl0Depth := (0, 0, 0), decCtx := 0, encCtx := 0, sch := [] }

def PortRec.none : PortRec :=
  { mode := 0, role := 0, preempt := false, macsec := false, xpn := false, pfcEn := 0, ets4 := 0, share0 := 0,
    share1 := 0, share2 := 0, replay := 0, xoff := 0, asym := 0, addr := 0 }

/-- The image that the module holds before any start has applied one: no tenant, no port in use. -/
def Image.blank : Image :=
  { layoutOk := false, keyHashOk := false, sigOk := false, keySel := 0, rollback := 0, fwRel := 0, serial := 0,
    testMode := false, timeoutMs := 50, thBase := 0, tenants := [], ipv6 := false, dport := 0, dscp := (0, 0, 0),
    tunTimeout := 0, ports := [], mailboxes := [], caravan := Option.none, splits := [] }

/-- The boot record current when no sector is valid (R488). -/
def BootRec.blank : BootRec := { seq := 0, bootCount := 0, pref := false, trial := false, tries := 0 }

/-- The record of tenant t in an image, if the image names it (R30). -/
def Image.tenant? (im : Image) (t : Nat) : Option TenantRec := im.tenants.find? fun r => decide (r.tenant = t)

/-- The record of tenant t, blank when the image does not name it. -/
def Image.tenant (im : Image) (t : Nat) : TenantRec := (im.tenant? t).getD TenantRec.none

/-- The record of port p. -/
def Image.port (im : Image) (p : Nat) : PortRec := (im.ports[p]?).getD PortRec.none

/-- The tenant that function f serves (R440). -/
def Image.funcTenant (im : Image) (f : Nat) : Option Nat :=
  (im.tenants.find? fun r => decide (r.func = f)).map (·.tenant)

/-- The tenant that owns logical core n (R30). -/
def Image.coreTenant (im : Image) (n : Nat) : Option Nat :=
  (im.tenants.find? fun r => decide (r.cores / 2 ^ n % 2 = 1)).map (·.tenant)

/-- Two windows overlap. -/
def Window.overlaps (a b : Window) : Bool :=
  decide (0 < a.len) && decide (0 < b.len) && decide (a.base < b.base + b.len) && decide (b.base < a.base + a.len)

/-- No two elements of a list are related. -/
def pairwiseNot {α : Type} (p : α → α → Bool) : List α → Bool
  | [] => true
  | a :: t => t.all (fun b => !p a b) && pairwiseNot p t

/-- Table 20-7 checks of one record. -/
def TenantRec.ok (r : TenantRec) : Bool :=
  decide (r.tenant < 8) && decide (r.func ≤ 8) && decide (1 ≤ r.thSize) && decide (r.thSize ≤ 256) &&
  decide (r.cores < 65536) && decide (r.fastWin.length ≤ 8) && decide (r.bulkWin.length ≤ 8) &&
  (r.fastWin ++ r.bulkWin).all (fun w => decide (w.len = 0) || decide (w.base + w.len ≤ 1024)) &&
  decide (r.decCtx ≤ 256) && decide (r.encCtx ≤ 64) && decide (r.sch.length = 11) &&
  r.sch.all (fun w => !decide (fld w 11 0 = 0) && !decide (fld w 23 12 = 0))

/-- The home-table region in units of 256 MiB: THBASE and one unit (R270: eight tables of 32 MiB). -/
def Image.thWindow (im : Image) : Window := { base := im.thBase, len := 1 }

/-- Tenants keep R30: none shares a core, a window, a number or a function with another. -/
def Image.tenantsOk (im : Image) : Bool :=
  decide (1 ≤ im.tenants.length) && decide (im.tenants.length ≤ 8) && im.tenants.all TenantRec.ok &&
  pairwiseNot (fun a b => decide (a.tenant = b.tenant) || decide (a.func = b.func) ||
    !decide (a.cores &&& b.cores = 0) || a.fastWin.any (fun w => b.fastWin.any w.overlaps) ||
    a.bulkWin.any (fun w => b.bulkWin.any w.overlaps)) im.tenants &&
  im.tenants.all (fun r => r.fastWin.all (fun w => !w.overlaps im.thWindow))

/-- One port record keeps R304, R305 and R307. -/
def PortRec.ok (r : PortRec) : Bool :=
  decide (r.role ≤ 2) && decide (r.mode ≤ 8) && decide (r.ets4 ≤ 100) &&
  decide (r.share0 + r.share1 + r.share2 = 32) && decide (r.replay ≤ 4096) &&
  decide (r.pfcEn / 64 % 4 = 0) &&
  !(r.macsec && !r.xpn && decide (1 ≤ r.mode) && decide (r.mode ≤ 6))

/-- The port roles keep R299 for a module in a bond or outside any. -/
def Image.rolesOk (im : Image) : Bool :=
  let inBond := match im.caravan with | some c => !decide (c.bond = 0xFFFF) | none => false
  decide (im.ports.length = 32) && (List.range 32).all fun p =>
    if inBond then (if p < 16 then decide ((im.port p).role = 1) else !decide ((im.port p).role = 1))
    else !decide ((im.port p).role = 1)

/-- Each port's address is the base plus the port number (R343); the base's last byte is a multiple of 32. -/
def Image.addrsOk (im : Image) : Bool :=
  im.caravan.isNone || (decide ((im.port 0).addr % 32 = 0) &&
    (List.range 32).all fun p => decide ((im.port p).addr = (im.port 0).addr + p))

/-- Mailbox directions and masks keep R451. -/
def Image.mailboxesOk (im : Image) : Bool :=
  decide (im.mailboxes.length = 64) && (List.range 64).all fun m =>
    let e := (im.mailboxes[m]?).getD (false, 0)
    decide (e.2 < 512) &&
    (!e.1 || decide (((List.range 9).filter fun f => decide (e.2 / 2 ^ f % 2 = 1)).length = 1)) &&
    (decide (m < 56) || decide (e.2 = 1))

/-- The caravan tenant exists and holds a class-0 grant; the CARAVAN fields keep Table 20-8. -/
def Image.caravanOk (im : Image) : Bool :=
  match im.caravan with
  | none => true
  | some c => (match im.tenant? c.tenant with | some r => r.cl0 | none => false) && decide (c.role ≤ 2) &&
      (if c.role = 2 then decide (1 ≤ c.rank) && decide (c.rank ≤ 3) else decide (c.rank = 0)) &&
      (if c.bond = 0xFFFF then decide (c.slot = 15) else decide (c.slot ≤ 8))

/-- The first failing section of reason 6 by its type of Table 20-6; 0 when all pass. -/
def Image.sectionFail (im : Image) : Nat :=
  if !(decide (1 ≤ im.timeoutMs) && decide (im.timeoutMs ≤ 64) && decide (im.thBase < 1024)) then 3
  else if !im.tenantsOk then 4
  else if !(im.ports.all PortRec.ok && im.rolesOk && im.addrsOk && decide (1 ≤ im.tunTimeout) &&
    decide (im.tunTimeout ≤ 10000)) then 5
  else if !im.mailboxesOk then 6
  else if !im.caravanOk then 7
  else if !(im.keys.all fun k => decide (k.1 < 32) && decide (k.2.1 < 2) && decide (k.2.2.1 < 4)) then 8
  else if !(decide (im.splits.length = 16) && im.splits.all fun c => decide (c ≤ 3)) then 9
  else 0

/-- The fuses: revoked key slots by bit, serial number, anti-rollback counter (R491), and the MAC address of P0, to which
the port number adds (R298). -/
structure Fuses where
  revoked : Nat
  serial : Nat
  rollback : Nat
  macBase : Nat
  deriving DecidableEq, Repr

/-- The rejection reason of a copy and its failing section (Table 20-5, in order); reason 0 passes. A copy that holds
no image fails reason 1; `readOk` false is reason 8. -/
def imageReason (fu : Fuses) (readOk trialUsedUp : Bool) (copy : Option Image) : Nat × Nat :=
  match copy with
  | none => if readOk then (1, 0) else (8, 0)
  | some im =>
    if trialUsedUp then (7, 0)
    else if !readOk then (8, 0)
    else if !im.layoutOk then (1, 0)
    else if decide (fu.revoked / 2 ^ im.keySel % 2 = 1) || !im.keyHashOk then (2, 0)
    else if !im.sigOk then (3, 0)
    else if im.rollback < fu.rollback then (4, 0)
    else if !(decide (im.serial = 0) || decide (im.serial = fu.serial)) then (5, 0)
    else if im.sectionFail = 0 then (0, 0) else (6, im.sectionFail)

end Sys2Proof.Machine
end

