-- ==== Sys2Proof/Syntax.lean ====
section
/-! DEFINITION. The commands of the UV96: one constructor per row of spec/opcode_table.json, in the table's order.
Operands name the unit a command acts on and carry what reaches the module from outside: register values, bodies and
ring entries read from the host, received frames, sensor readings, symbol errors and the outcomes of physical tests. -/
namespace Sys2Proof

open Sys2Proof.Machine (Image)

/-- A PCIe configuration request (R485). -/
inductive CfgReq where
  | read
  | busMaster (on : Bool)
  | vfEnable (on : Bool)
  | other
  deriving DecidableEq, Repr

/-- A codeword read with symbol errors: its address, the symbols in error, data 0 to 63 and check 64 to 71 (R249), the
error pattern of each in turn (1 where none is given), and whether the stored symbols are wrong, so that later reads meet
the errors too until the codeword is written. -/
structure CwErr where
  addr : Nat
  symbols : List Nat
  values : List Nat := []
  stays : Bool := false
  deriving DecidableEq, Repr

/-- A flipped register copy: register key, copy (true: staged), and whether the sweeper visits it now (R477). -/
structure Flip where
  key : Nat
  staged : Bool
  visited : Bool
  deriving DecidableEq, Repr

/-- The core faults of Table 21-3. -/
inductive CoreFaultKind where
  | yard | residue | parity | mortar | sensor | rail
  deriving DecidableEq, Repr

/-- Who was to use a failed read of host memory (R447). -/
inductive HostUser where
  | kilnSample (t : Fin 8) (k : Fin 16)
  | mailboxBody (m : Fin 64)
  | decodeRing (c : Fin 256)
  | encodeRing (e : Fin 64)
  deriving DecidableEq, Repr

/-- A Tunil segment: the header of Table 13-2 and its payload. -/
structure Seg where
  typ : Nat
  cls : Nat
  tenant : Nat
  retx : Bool
  move : Bool
  fw : Bool
  epoch : Nat
  srcNode : Nat
  dstNode : Nat
  route : Nat
  segIdx : Nat
  segCnt : Nat
  seq : Nat
  msgNo : Nat
  handle : Nat
  offset : Nat
  step : Nat
  tstamp : Nat
  aux : Nat
  payload : List Byte
  /-- On segment 0 of a MOVE, what the peer compares of the source entry: FMT, LAYOUT, BYTES, D0 to D4 (R287). -/
  image : List Nat := []
  deriving DecidableEq, Repr

/-- What the MAC sees of a received frame (R298, R304, R308, R316, R317). -/
structure RxFrame where
  pcp : Fin 8
  len : Nat
  fcsOk : Bool
  addrOk : Bool
  tagOk : Bool
  fragmentOk : Bool
  pause : Bool
  macsecOk : Bool
  lldpOrPtp : Bool
  tunilOk : Bool
  /-- The route that a Tunil frame names: FW bit and ROUTE (R331). -/
  route : Option (Bool × Nat)
  /-- Destination MAC address, where the command gives it in place of `addrOk` (R298). -/
  dst : Option Nat := none
  /-- AN and packet number of the SecTAG (R308). -/
  sec : Option (Nat × Nat) := none
  /-- The IP datagram, where the command gives it in place of `tunilOk` (R316, R317). -/
  datagram : Option (List Byte) := none
  /-- FEC codewords corrected and uncorrectable that came with the frame (R315). -/
  fecCe : Nat := 0
  fecUe : Nat := 0
  deriving DecidableEq, Repr

/-- Kinds of PTP messages: those received, and `send` for a Sync that the clock sends (R309). -/
inductive PtpKind where
  | announce | sync | delayRequest | management | send
  deriving DecidableEq, Repr

/-- A PTP message (R309): its domain; of a Sync, the time at the port that its origin time, correction and the measured
delay give, in ns; of an Announce, the grandmaster's priority1, class, accuracy, variance, priority2 and identity, the steps
removed and the sender's identity. -/
structure PtpMsg where
  kind : PtpKind
  domain : Nat
  time : Nat
  dataset : List Nat
  deriving DecidableEq, Repr

/-- Who sent an LLDP frame: its chassis ID, a serial number, and the bond of its TLV (R301). -/
structure LldpSender where
  chassis : Nat
  bond : W16
  deriving DecidableEq, Repr

/-- The common part of a caravan notice (R349). -/
structure NoteHdr where
  step : Nat
  sender : Nat
  term : Nat
  mapGen : Nat
  deriving DecidableEq, Repr

/-- A caravan map entry (Table 14-2). -/
structure MapEntry where
  node : Nat
  bond : Nat
  slot : Nat
  flags : Nat
  addr : Nat
  serial : Nat
  deriving DecidableEq, Repr

/-- Where a snapshot goes: handles of a local tenant, or a foreign node's handles (R375). -/
inductive SnapTarget where
  | here (tenant : Nat) (handles : List Nat)
  | foreign (node : Nat) (handles : List Nat)
  deriving DecidableEq, Repr

/-- What the coded stream makes of an output picture (R420, R422). -/
structure PicHdr where
  width : Nat
  height : Nat
  ten : Bool
  mono : Bool
  bad : Bool
  /-- Which picture it is among all that coded streams hold: the coding standards fix its samples (R415). -/
  content : Nat := 0
  /-- An IRAP picture or key frame, and the numbers of the earlier output pictures that it references (R422). -/
  irap : Bool := false
  refs : List Nat := []
  deriving DecidableEq, Repr

/-- The commands, one per row of the table. -/
inductive Instr where
  | inputPowerUp
  | pwrgd (failedSensors : List (Fin 32))
  | powerOnReset
  | perstNRelease (readOkA readOkB spareOk0 spareOk1 : Bool)
  | portGroupStart (g : Fin 8)
  | warmReset
  | hotReset
  | memoryTrainingDone (failedLanes : List (Fin 272 × Nat))
  | trainingTimeout
  | readiness
  | configRequest (f : Fin 9) (req : CfgReq)
  | refclkLoss
  | inputOvervoltage
  | electronicFuseOpen
  | powerThrottle
  | powerUnthrottle
  | sensorSample (readings : List (Fin 32 × Int))
  | railsOff
  | thermStepDown (island : Fin 49)
  | thermStepUp (island : Fin 49)
  | voltageSample (readings : List (Fin 49 × Nat))
  | voltStepDown (island : Fin 49)
  | voltStepUp (island : Fin 49)
  | railCritical (island : Option (Fin 49))
  | processMonitorRead (speeds : List (Fin 49 × Nat))
  | sensorFailed (sensor : Fin 32)
  | faultInAssert
  | stepSyncCapture
  | sidebandDeassert (syncInput : Bool)
  | sidebandStuck (syncInput : Bool)
  | sidebandGlitch
  | coreFault (core : Fin 18) (kind : CoreFaultKind)
  | coreSubstitution (die : Fin 2) (selfTestOk islandAnswers : Bool)
  | registerWrite (f : Fin 9) (bar2 : Bool) (offset : Nat) (allBytes : Bool) (value : W32)
  | registerCrossingTimeout (f : Fin 9) (offset : Nat) (write : Bool)
  | latchingRead (f : Fin 9) (beat : Bool)
  | hubLockWrite (f : Fin 9) (value : W32)
  | paritySweep (flips : List Flip)
  | ciFirmwareRepair (key : Nat)
  | flr (f : Fin 9)
  | vfEnableClear
  | apertureRead (f : Fin 9) (x len : Nat) (errs : List CwErr)
  | apertureWrite (f : Fin 9) (x : Nat) (data : List (Option Byte)) (errs : List CwErr)
  | hostReadFail (f : Fin 9) (user : HostUser)
  | msixUnmask (f : Fin 9) (v : Fin 256)
  | mbxLockRead (f : Fin 9) (m : Fin 64)
  | mbxLockRelease (f : Fin 9) (m : Fin 64) (value : W32)
  | mbxPost (f : Fin 9) (m : Fin 64) (value : W32)
  | mbxTake (m : Fin 64) (body : List W32)
  | mbxAck (f : Fin 9) (m : Fin 64) (code : W16)
  | d2hNoticePost (m : Fin 64)
  | processorRestart (security : Bool)
  | queueOpen (m : Fin 64)
  | manifestLoadDone (t : Fin 8) (q : Fin 16)
  | queueClose (m : Fin 64)
  | routeOpen (m : Fin 64)
  | routeClose (m : Fin 64)
  | kilnOpen (m : Fin 64)
  | kilnClose (m : Fin 64)
  | codecOpen (m : Fin 64) (cfg : List W32)
  | codecClose (m : Fin 64)
  | planSubmit (m : Fin 64)
  | tenantReset (t : Fin 8)
  | sakInstall (m : Fin 64) (unwraps : Bool)
  | sakRetire (m : Fin 64)
  | imageStage (m : Fin 64) (img : Image)
  | fuseRead (m : Fin 64)
  | logRead (m : Fin 64)
  | queueGo (f : Fin 9) (t : Fin 8) (q : Fin 16) (restart : W16)
  | queueStop (f : Fin 9) (t : Fin 8) (q : Fin 16)
  | matmul (t : Fin 8) (q : Fin 16) (waited : Nat)
  | fused2 (t : Fin 8) (q : Fin 16) (waited : Nat)
  | conv (t : Fin 8) (q : Fin 16) (waited : Nat)
  | vec (t : Fin 8) (q : Fin 16) (waited : Nat)
  | move (t : Fin 8) (q : Fin 16) (waited : Nat)
  | moveToPeer (t : Fin 8) (q : Fin 16) (waited : Nat)
  | send (t : Fin 8) (q : Fin 16) (waited : Nat)
  | recv (t : Fin 8) (q : Fin 16) (waited : Nat)
  | e8MaxPass (t : Fin 8) (q : Fin 16) (waited : Nat)
  | l32Sum (t : Fin 8) (q : Fin 16) (waited : Nat)
  | orderedF32Sum (t : Fin 8) (q : Fin 16) (waited : Nat)
  | l32ToF32 (t : Fin 8) (q : Fin 16) (waited : Nat)
  | kilnTake (t : Fin 8) (q : Fin 16) (waited : Nat)
  | loop (t : Fin 8) (q : Fin 16) (waited : Nat)
  | fence (t : Fin 8) (q : Fin 16) (waited : Nat)
  | wait (t : Fin 8) (q : Fin 16) (waited : Nat)
  | restWindowEnd (n : Fin 16)
  | taskComplete (t : Fin 8) (q : Fin 16) (pos : Fin 8)
  | prefetchIssue (n : Fin 16)
  | prefetchLand (n : Fin 16) (slot : Fin 6) (errs : List CwErr)
  | lateManifestEvent (t : Fin 8) (q : Fin 16)
  | tilePrologueLoad (t : Fin 8) (q : Fin 16)
  | codebookLoadDone (n : Fin 16) (port : Fin 4)
  | brickReadAhead (n : Fin 16) (port : Fin 4) (offset : Nat)
  | edgeFileSwap (n : Fin 16) (file : Fin 2)
  | sweepEnd (n : Fin 16) (array bank : Fin 4)
  | drain (n : Fin 16) (array bank : Fin 4)
  | drainEnd (n : Fin 16) (array bank : Fin 4)
  | drainProgram (n : Fin 16) (buffer : Fin 2)
  | onlineSoftmax (n : Fin 16)
  | gelu (n : Fin 16)
  | silu (n : Fin 16)
  | swiglu (n : Fin 16)
  | rmsScaling (n : Fin 16)
  | vAdd (n : Fin 16)
  | vSub (n : Fin 16)
  | vMul (n : Fin 16)
  | vFma (n : Fin 16)
  | vMin (n : Fin 16)
  | vMax (n : Fin 16)
  | vAbs (n : Fin 16)
  | vNeg (n : Fin 16)
  | vCmp (n : Fin 16)
  | vSel (n : Fin 16)
  | vMovi (n : Fin 16)
  | vMovs (n : Fin 16)
  | vExp2 (n : Fin 16)
  | vLog2 (n : Fin 16)
  | vRsqrt (n : Fin 16)
  | vRecip (n : Fin 16)
  | vSin (n : Fin 16)
  | vCos (n : Fin 16)
  | vRmax (n : Fin 16)
  | vRsum (n : Fin 16)
  | vRssq (n : Fin 16)
  | vCvt (n : Fin 16)
  | vCvtsr (n : Fin 16)
  | vBexp (n : Fin 16)
  | vIadd (n : Fin 16)
  | vIsub (n : Fin 16)
  | vImul (n : Fin 16)
  | vShl (n : Fin 16)
  | vShr (n : Fin 16)
  | vSar (n : Fin 16)
  | vAnd (n : Fin 16)
  | vOr (n : Fin 16)
  | vXor (n : Fin 16)
  | vImin (n : Fin 16)
  | vImax (n : Fin 16)
  | vIcmp (n : Fin 16)
  | vNoiseu (n : Fin 16)
  | vNoiseg (n : Fin 16)
  | vLd (n : Fin 16)
  | vLdh (n : Fin 16)
  | vLdb (n : Fin 16)
  | vSt (n : Fin 16)
  | vSth (n : Fin 16)
  | vStb (n : Fin 16)
  | vGather (n : Fin 16)
  | vGatherh (n : Fin 16)
  | vLdl (n : Fin 16)
  | vSte (n : Fin 16)
  | vSmov (n : Fin 16)
  | vSpar (n : Fin 16)
  | vSadd (n : Fin 16)
  | vRep (n : Fin 16)
  | haloExchangeStart (n : Fin 16)
  | haloToken (n : Fin 16) (link : Fin 4)
  | haloInboundComplete (n : Fin 16)
  | haloPartnerAbort (n : Fin 16)
  | mortarFlitError (n : Fin 16) (link : Fin 4)
  | mortarLinkFailed (n : Fin 16) (link : Fin 4)
  | maintenanceBurst (chan : Fin 272) (errs : List CwErr)
  | periodicCalibration (chan : Fin 272)
  | rowRetirement (bank : Nat) (row : Nat)
  | laneErasure (chan : Fin 272) (lane : Nat)
  | backgroundInit
  | refresh (bank : Nat) (hot : Bool)
  | create (f : Fin 9) (t : Fin 8) (handle : BitVec 24)
  | destroy (f : Fin 9) (t : Fin 8) (handle : BitVec 24)
  | thRead (f : Fin 9) (t : Fin 8) (handle : BitVec 24)
  | clear (f : Fin 9) (t : Fin 8) (handle : BitVec 24)
  | rehome (f : Fin 9) (t : Fin 8) (handle : BitVec 24)
  | thUnknownCommand (f : Fin 9) (t : Fin 8) (op : BitVec 3) (handle : BitVec 24)
  | tensorFillDone (t : Fin 8) (handle : BitVec 24)
  | moveSwitch (t : Fin 8) (handle : BitVec 24)
  | moveRelease (t : Fin 8) (handle : BitVec 24)
  | sharedUnitGrant (unit : Fin 11) (errs : List CwErr)
  | portLinkUp (p : Fin 32)
  | portBringupFail (p : Fin 32)
  | portBringupRetry (p : Fin 32)
  | portRetrain (p : Fin 32)
  | portRetrainRequest (f : Fin 9) (p : Fin 32)
  | portHold (f : Fin 9) (p : Fin 32)
  | portHoldRelease (f : Fin 9) (p : Fin 32)
  | lldpTransmit (p : Fin 32)
  | lldpReceive (p : Fin 32) (sender : LldpSender) (slot : Fin 16) (port : Fin 32)
  | lldpPartnerTimeout (p : Fin 32)
  | frameReceive (p : Fin 32) (frame : RxFrame)
  | pfcReceive (p : Fin 32) (priorities : BitVec 8) (xoff : Bool)
  | pfcXoffRepeat (p : Fin 32) (pcp4 : Bool)
  | frameTransmit (p : Fin 32)
  | preemptVerify (p : Fin 32) (ok : Bool)
  | finjHoldRelease (p : Fin 32)
  | routeFinjHoldRelease
  | ptpMessage (p : Fin 32) (msg : PtpMsg) (offsetOk : Bool)
  | data (p : Fin 32) (seg : Seg)
  | ack (p : Fin 32) (seg : Seg)
  | notReady (p : Fin 32) (seg : Seg)
  | participantReset (p : Fin 32) (seg : Seg)
  | openSeg (p : Fin 32) (seg : Seg)
  | openAck (p : Fin 32) (seg : Seg)
  | commit (p : Fin 32) (seg : Seg)
  | refused (p : Fin 32) (seg : Seg)
  | busy (p : Fin 32) (seg : Seg)
  | routeFail (p : Fin 32) (seg : Seg)
  | ackSend (fw : Bool) (r : Fin 16384)
  | retransmit (fw : Bool) (r : Fin 16384) (seq : W32)
  | routeTimeout (fw : Bool) (r : Fin 16384)
  | retryAfterExpiry (fw : Bool) (r : Fin 16384)
  | participantResetRepeat (r : Fin 8192)
  | join (h : NoteHdr) (serial : Nat) (bond slot role ports addr : Nat)
  | joinWaitExpiry
  | stageDone (h : NoteHdr)
  | bondDone (h : NoteHdr) (bond : Nat) (slots : Nat)
  | stepGo (h : NoteHdr) (nextStep beat : Nat) (freeze : Bool) (gen : Nat)
  | stepBoundary
  | ckptFreezeDone
  | ckptStreamDone
  | lateManifest (h : NoteHdr) (core queue slip : Nat)
  | haltReport (h : NoteHdr) (code core queue task peer : Nat)
  | haltCollectExpiry
  | replace (h : NoteHdr) (reason : Nat)
  | portState (h : NoteHdr) (port state : Nat)
  | probe (h : NoteHdr)
  | alive (h : NoteHdr) (done waiting : Nat)
  | probeTimer (stalled : Bool)
  | probeWaitExpiry (node : Nat)
  | rollback (h : NoteHdr) (restart : Nat) (checkpoint : Bool) (gen : Nat)
  | ckptRestoreDone
  | mapUpdate (h : NoteHdr) (entries : List MapEntry) (final : Bool)
  | ckptDone (h : NoteHdr) (gen : Nat) (buddy : Bool) (ok : Bool)
  | heartbeat (h : NoteHdr) (beat : Nat) (restore : Option (Nat × Nat))
  | heartbeatSend
  | masterLoss
  | takeover (h : NoteHdr) (answer : Bool) (lastBeat : Nat)
  | snapshot (h : NoteHdr) (gen id : Nat) (target : SnapTarget)
  | snapDone (h : NoteHdr) (id : Nat) (ok : Bool)
  | caravanHalt (h : NoteHdr) (reason : Nat)
  | kilnTailWrite (f : Fin 9) (t : Fin 8) (k : Fin 16) (value : W32)
  | kilnAccept (t : Fin 8) (k : Fin 16) (desc params : List W32)
  | kilnSampleStart (t : Fin 8) (k : Fin 16) (pos : Fin 4) (host : List (Nat × List Byte))
  | kilnSampleEnd (t : Fin 8) (k : Fin 16) (pos : Fin 4)
  | kilnDeadline (t : Fin 8) (k : Fin 16) (batch : W32)
  | kilnBatchCopy (t : Fin 8) (k : Fin 16)
  | decodeTailWrite (f : Fin 9) (c : Fin 256) (value : W32)
  | encodeTailWrite (f : Fin 9) (e : Fin 64) (value : W32)
  | codecFrameAdmit (pipe : Fin 8) (entries : List (List W32)) (roi : List W32) (more : Bool)
  | decodePictureOutput (c : Fin 256) (pic : Option PicHdr) (frameEnds last : Bool)
  | decodeReleaseWrite (f : Fin 9) (c : Fin 256) (value : W32)
  | encodePassDone (e : Fin 64) (qp bits : Nat)
  | encodeCommit (f : Fin 9) (e : Fin 64) (value : W32) (block : List W32)
  | encodeReleaseWrite (f : Fin 9) (e : Fin 64) (value : W32)
  | codecModeRequest (f : Fin 9) (value : W32)
  | pipeFault (pipe : Fin 8)
  | pfcPauseExpiry (p : Fin 32) (pcp4 : Bool)
  | midMessageTimeout (fw : Bool) (r : Fin 16384)
  | standbyLoss
  | snapshotCopyDone
  | inputVoltageWarn (mv : Nat)
  | pwrgdDeassert
  deriving DecidableEq, Repr

end Sys2Proof
end

