-- ==== Sys2Proof/Machine/Crc.lean ====
section
/-! DEFINITION. CRC-32C (R226) and the Reed-Solomon symbol code of both tiers (R249, R250). -/
namespace Sys2Proof.Machine

/-- One bit of the reflected CRC-32C. -/
def crcBit (c : W32) : W32 := if bit c 0 then (c >>> 1) ^^^ 0x82F63B78#32 else c >>> 1

/-- One byte of the reflected CRC-32C. -/
def crcByte (c : W32) (b : Byte) : W32 :=
  (List.range 8).foldl (fun a _ => crcBit a) (c ^^^ BitVec.ofNat 32 b.toNat)

/-- CRC-32C of a byte string (R226). -/
def crc32c (bs : List Byte) : W32 := bs.foldl crcByte 0xFFFFFFFF#32 ^^^ 0xFFFFFFFF#32

/-- Multiply by x in GF(2^8) with field polynomial 0x11D (R249). -/
def gfX (a : Nat) : Nat := if 128 ≤ a then (2 * a) ^^^ 0x11D else 2 * a

/-- Product in GF(2^8) (R249). -/
def gfMul (a b : Nat) : Nat :=
  ((List.range 8).foldl (fun st i => (if a / 2 ^ i % 2 = 1 then st.1 ^^^ st.2 else st.1, gfX st.2)) (0, b)).1

/-- α^i, with α = x a root of the field polynomial (R249). -/
def gfPow (i : Nat) : Nat := (List.range i).foldl (fun a _ => gfX a) 1

/-- The generator polynomial's coefficients, highest first: the product of (x - α^i) for i = 0 to 7 (R249). -/
def rsGen : List Nat :=
  (List.range 8).foldl (fun g i =>
    let sh := g ++ [0]
    let sc := 0 :: g.map (gfMul (gfPow i))
    List.zipWith (· ^^^ ·) sh sc) [1]

/-- The 8 check symbols of 64 data symbols: the remainder of data × x^8 by the generator (R249). -/
def rsCheck (data : List Nat) : List Nat :=
  data.foldl (fun r d =>
    let f := d ^^^ r.headD 0
    List.zipWith (· ^^^ ·) (r.tail ++ [0]) (rsGen.tail.map (gfMul f))) (List.replicate 8 0)

/-- α^-i and the inverse of a nonzero element. -/
def gfNeg (i : Nat) : Nat := gfPow ((255 - i % 255) % 255)
def gfInv (a : Nat) : Nat := (List.range 253).foldl (fun x _ => gfMul x a) a

/-- A polynomial over GF(2^8), lowest coefficient first: its value, sum and product. -/
def gfEval (p : List Nat) (x : Nat) : Nat := p.foldr (fun c a => c ^^^ gfMul x a) 0
def gfAdd : List Nat → List Nat → List Nat
  | [], q => q
  | p, [] => p
  | a :: p, b :: q => (a ^^^ b) :: gfAdd p q
def gfProd : List Nat → List Nat → List Nat
  | [], _ => []
  | a :: p, q => gfAdd (q.map (gfMul a)) (0 :: gfProd p q)

/-- Power of x that carries symbol k: data symbol 0 is the highest coefficient, check symbol 7 the lowest. -/
def symPower (k : Nat) : Nat := 71 - k

/-- The eight syndromes of an error pattern of symbols and their values (R249). -/
def rsSyndromes (e : List (Nat × Nat)) : List Nat :=
  (List.range 8).map fun j => e.foldl (fun a p => a ^^^ gfMul p.2 (gfPow (j * symPower p.1 % 255))) 0

/-- The shortest recurrence of a sequence, as a polynomial with constant term 1, and its length. -/
def gfRecurrence (t : List Nat) : List Nat × Nat :=
  let r := (List.range t.length).foldl (fun (st : List Nat × List Nat × Nat × Nat × Nat) n =>
    let (c, b, len, m, last) := st
    let d := (List.range (len + 1)).foldl (fun a i => a ^^^ gfMul (c.getD i 0) ((t[n - i]?).getD 0)) 0
    if d = 0 then (c, b, len, m + 1, last)
    else
      let c1 := gfAdd c (List.replicate m 0 ++ b.map (gfMul (gfMul d (gfInv last))))
      if 2 * len ≤ n then (c1, c, n + 1 - len, 1, d) else (c1, b, len, m + 1, last)) ([1], [1], 0, 1, 1)
  (r.1, r.2.2.1)

/-- The error that bounded-distance decoding of an error pattern finds, with `er` the erased symbols: symbols and values;
none when no codeword lies within correcting distance (R250). -/
def rsDecode (er : List Nat) (e : List (Nat × Nat)) : Option (List (Nat × Nat)) :=
  let s := rsSyndromes e
  let g := er.foldl (fun p k => gfProd p [1, gfPow (symPower k)]) [1]
  let r := gfRecurrence (((gfProd s g).take 8).drop er.length)
  let roots := (List.range 72).filter fun k => !er.contains k && decide (gfEval r.1 (gfNeg (symPower k)) = 0)
  if 8 < 2 * r.2 + er.length ∨ roots.length ≠ r.2 then none
  else
    let loc := gfProd r.1 g
    let om := (gfProd s loc).take 8
    let der := (loc.zipIdx.map fun p => if p.2 % 2 = 1 then p.1 else 0).tail
    let found := (roots ++ er).map fun k =>
      let x := gfNeg (symPower k)
      (k, gfMul (gfPow (symPower k)) (gfMul (gfEval om x) (gfInv (gfEval der x))))
    if rsSyndromes found = s then some (found.filter fun p => decide (p.2 ≠ 0)) else none

/-- A pattern of e symbol errors and f erasures is corrected when 2e + f is at most 8 (R250). -/
def rsCorrects (e f : Nat) : Bool := decide (2 * e + f ≤ 8)

end Sys2Proof.Machine
end

