-- ==== Sys2Proof/Config.lean ====
section
/-! DEFINITION. What the spec leaves to the firmware release or leaves open: constants with no body, so that no
proof can rest on a value of theirs. The coefficient and seed tables of the vector functions belong to the firmware
release (R151); so do the encoder's rate model and bitstreams (R428). -/
namespace Sys2Proof

/-- Coefficient `i` of the degree-7 EXP2 polynomial (R151, Table 5-4). -/
opaque Config.exp2Coef : Nat → W32
/-- Coefficient `i` of the degree-10 LOG2 polynomial q (R151, Table 5-4). -/
opaque Config.log2Coef : Nat → W32
/-- The 256-entry RECIP seed table, by the leading fraction bits of the operand (R151). -/
opaque Config.recipSeed : Nat → W32
/-- The 256-entry RSQRT seed table, by exponent parity and leading fraction bits (R151). -/
opaque Config.rsqrtSeed : Nat → W32
/-- The three F32 parts that hold pi/2 in SIN and COS (R151). -/
opaque Config.piHalfPart : Nat → W32
/-- Coefficient of x^(2i + 1) in the odd degree-9 polynomial of SIN (R151). -/
opaque Config.sinCoef : Nat → W32
/-- Coefficient of x^(2i) in the even degree-8 polynomial of COS (R151). -/
opaque Config.cosCoef : Nat → W32

/-- A fresh value wherever the spec leaves a result open: applied to State's counter `freeCtr`. -/
opaque Config.freeWord : Nat → W32
/-- The mask bit of a CMP or ICMP whose condition code 5 to 7 the spec does not give: code, lane operands. -/
opaque Config.cmpOpen : Nat → W32 → W32 → Bool
/-- A lane of a CVT along a path that Table 2-5 lacks, where the loader has not met it: formats, operand. -/
opaque Config.cvtOpen : Nat → Nat → W32 → W32
/-- Whether NaN block `j` of a conversion of L32 sums counts as produced, by the fresh number of the conversion: its E8 is
0xFF and every q is 0 whether or not a contributor held a NaN (R59), so the converting module's data do not tell (R62). -/
opaque Config.l32NanProduced : Nat → Nat → Bool
/-- The running control firmware's identifier of its coefficient tables, by firmware release (R167). -/
opaque Config.coefTab : Nat → W16
/-- The bytes that fill the last 256-byte unit of a transfer (packed blocks and header arrays, R291, R292; rows of a
picture slot, R420): unstated. -/
opaque Config.packPad : List Byte → Nat → Byte
/-- One bit of the poison pattern's effect: the bytes of a poisoned codeword are never delivered (R252). -/
opaque Config.poisonByte : Nat → Byte
/-- Sample code `i` of a decoded picture, by the content of the picture as the command names it: the HEVC and AV1
specifications define what the coded stream makes of it (R415), whatever else the module does (R15; log 79). -/
opaque Config.decodedCode : Nat → Nat → Nat
/-- What an encode context has coded after a frame: what it had coded before, the firmware release, the context record, the
configuration and ROI map in force, the codes of the input picture, its key mark, the pass kept and its quantiser. It is all
that the bitstream depends on (R415; log 79). -/
opaque Config.encState : Nat → Nat → List (List W32) → List (Option Nat) → List Nat → Nat
/-- Coded byte `i` of the frame that left an encode context there (R415, R428). -/
opaque Config.codedByte : Nat → Nat → Byte
/-- The limits of an HEVC or AV1 level (R424): AV1, LEVEL, W, H, MAXRATE. The coding standards state them. -/
opaque Config.levelOk : Bool → Nat → Nat → Nat → Nat → Bool
/-- A byte of host memory that no read of the Kiln has returned, by host address. -/
opaque Config.hostByte : Nat → Byte
/-- A Kiln sample at a position that is not a number (R399 does not say where its taps lie): position words. -/
opaque Config.kilnNan : W32 → W32 → W32
/-- The firmware's estimate of the time left to readiness, in microseconds (R337). -/
opaque Config.readyEstimate : Nat → Nat
/-- The 36 DATA bytes of a log record by kind and content, where Table 21-8 leaves their layout open (R520). -/
opaque Config.logData : Nat → List Nat → List Byte
/-- LEN of such a record. -/
opaque Config.logLen : Nat → List Nat → Nat
/-- The DRAM bank and row of a codeword, by its address: the tier address maps stop at the channel (R246, R248). -/
opaque Config.bankOf : Nat → Nat
opaque Config.rowOf : Nat → Nat

/-- A byte of the copy that a module's buddy holds of it, by generation and offset (R364; log 133). -/
opaque Config.buddyByte : Nat → Nat → Byte
/-- Fields of the IP header that the spec does not state: 0 time to live or hop limit, 1 flow label, 2 IPv4 identification;
and the VLAN ID of the 802.1Q tag (R298, R316; log 127). -/
opaque Config.ipField : Nat → Nat
opaque Config.vlanId : Nat
/-- MAC address of the next hop towards an IP address, and the IP address of a node that the map does not hold (R320; log
127). -/
opaque Config.macOf : Nat → Nat
opaque Config.strayAddr : Nat → Nat
/-- A SAK byte of the key material that the security processor unwrapped or that a key reference names; the bytes of the
AES-256 counter stream of a key and nonce, and those of the ICV over the associated data and the ciphertext (R307, R461; log
128). -/
opaque Config.sakByte : List W32 → Nat → Byte
opaque Config.gcmStream : List Byte → List Byte → Nat → Byte
opaque Config.gcmTag : List Byte → List Byte → List Byte → List Byte → Nat → Byte

end Sys2Proof
end

