-- ==== Sys2Proof/Machine/Float.lean ====
section
/-! DEFINITION. The exact-then-round-once arithmetic of the UV96 (R46, R48, R64, R66): every operand becomes an exact
extended value, the operation is exact, and one step rounds to nearest even into the destination format. -/
namespace Sys2Proof.Machine

/-- An exact extended value: NaN, a signed infinity, a signed zero, or the nonzero number m × 2^e. -/
inductive Ext where
  | nan
  | inf (neg : Bool)
  | zero (neg : Bool)
  | fin (m : Int) (e : Int)
  deriving DecidableEq, Repr

/-- m × 2^e, with a zero of the given sign when m is 0. -/
def mkFin (zeroNeg : Bool) (m e : Int) : Ext := if m = 0 then .zero zeroNeg else .fin m e

def extNeg : Ext → Bool
  | .nan => false
  | .inf n => n
  | .zero n => n
  | .fin m _ => decide (m < 0)

def extNegate : Ext → Ext
  | .nan => .nan
  | .inf n => .inf !n
  | .zero n => .zero !n
  | .fin m e => .fin (-m) e

/-- Exact product; 0 × infinity is NaN (Table 2-4). -/
def extMul (a b : Ext) : Ext :=
  match a, b with
  | .nan, _ => .nan
  | _, .nan => .nan
  | .inf _, .zero _ => .nan
  | .zero _, .inf _ => .nan
  | .inf s, y => .inf (Bool.xor s (extNeg y))
  | x, .inf s => .inf (Bool.xor s (extNeg x))
  | .zero s, y => .zero (Bool.xor s (extNeg y))
  | x, .zero s => .zero (Bool.xor s (extNeg x))
  | .fin m e, .fin n f => .fin (m * n) (e + f)

/-- m × 2^e at the scale 2^f, for f ≤ e. -/
def atScale (m e f : Int) : Int := m * 2 ^ (e - f).toNat

/-- Exact sum; +inf + -inf is NaN, +0 + -0 is +0, exact cancellation gives +0 (Table 2-4, R64). -/
def extAdd (a b : Ext) : Ext :=
  match a, b with
  | .nan, _ => .nan
  | _, .nan => .nan
  | .inf s, .inf t => if s = t then .inf s else .nan
  | .inf s, _ => .inf s
  | _, .inf t => .inf t
  | .zero s, .zero t => .zero (s && t)
  | .zero _, y => y
  | x, .zero _ => x
  | .fin m e, .fin n f =>
    let g := min e f
    mkFin false (atScale m e g + atScale n f g) g

/-- Multiply by a power of two, exactly. -/
def extScale (a : Ext) (k : Int) : Ext :=
  match a with
  | .fin m e => .fin m (e + k)
  | x => x

/-- n / 2^k rounded to nearest, ties to even (R64). -/
def rneShift (n k : Nat) : Nat :=
  if Nat.log2 n + 2 < k then 0
  else
    let q := n / 2 ^ k
    let r := n % 2 ^ k
    let half := 2 ^ k / 2
    if k = 0 then n
    else if r < half then q
    else if half < r then q + 1
    else q + q % 2

/-- A rounded result with the events that Table 2-4 counts. -/
structure FRes where
  bits : W32
  sat : Bool := false
  flush : Bool := false
  nan : Bool := false
  deriving DecidableEq, Repr

/-- Magnitude bits of n × 2^e (n > 0) in a format of `p` significant bits whose least subnormal is 2^qmin and whose
infinity encodes as `cap`: the integer encoding without sign, capped at infinity's. -/
def roundMag (p : Nat) (qmin : Int) (cap : Nat) (n : Nat) (e : Int) : Nat :=
  let lsb := max (e + (Nat.log2 n + 1 : Nat) - (p : Nat)) qmin
  let n' := if lsb ≤ e then n * 2 ^ (e - lsb).toNat else rneShift n (lsb - e).toNat
  let enc := if n' < 2 ^ (p - 1) then n' else (lsb - qmin + 1).toNat * 2 ^ (p - 1) + (n' - 2 ^ (p - 1))
  Nat.min enc cap

/-- Round an exact value once into a format of `p` significant bits (24: F32; 8: B16). -/
def roundExt (p : Nat) (qmin : Int) (x : Ext) : FRes :=
  let infw := 255 * 2 ^ (p - 1)
  let sgn (neg : Bool) : Nat := if neg then 256 * 2 ^ (p - 1) else 0
  match x with
  | .nan => { bits := BitVec.ofNat 32 (infw + 2 ^ (p - 2)) }
  | .inf s => { bits := BitVec.ofNat 32 (sgn s + infw) }
  | .zero s => { bits := BitVec.ofNat 32 (sgn s) }
  | .fin m e =>
    let mag := roundMag p qmin infw m.natAbs e
    { bits := BitVec.ofNat 32 (sgn (decide (m < 0)) + mag), sat := decide (mag = infw), flush := decide (mag = 0) }

/-- Round to F32 (R46). -/
def round32 (x : Ext) : FRes := roundExt 24 (-149) x
/-- Round to B16, in the low 16 bits (R44). -/
def round16 (x : Ext) : FRes := roundExt 8 (-133) x

/-- The exact value of an encoding with `p` significant bits and an 8-bit exponent field. -/
def decodeExt (p : Nat) (qmin : Int) (w : Nat) : Ext :=
  let neg := decide (w / (256 * 2 ^ (p - 1)) % 2 = 1)
  let ex := w / 2 ^ (p - 1) % 256
  let fr := w % 2 ^ (p - 1)
  let sg : Int → Int := fun m => if neg then -m else m
  if ex = 255 then (if fr = 0 then .inf neg else .nan)
  else if ex = 0 then mkFin neg (sg (fr : Nat)) qmin
  else .fin (sg ((2 ^ (p - 1) + fr : Nat) : Int)) (qmin + (ex - 1 : Nat))

/-- An F32 word's exact value (R46). -/
def ext32 (w : W32) : Ext := decodeExt 24 (-149) w.toNat
/-- A B16 value's exact value, from the low 16 bits (R44). -/
def ext16 (w : W32) : Ext := decodeExt 8 (-133) (w.toNat % 65536)

def isNan32 (w : W32) : Bool := decide (ext32 w = .nan)
def canonNan32 : W32 := 0x7FC00000#32
def canonNan16 : W32 := 0x7FC0#32

/-- Round, and mark a NaN as produced when no operand held one (R66, Table 2-4); an infinity that an infinite
operand carried is not saturated. -/
def finish32 (anyNan : Bool) (x : Ext) : FRes :=
  { round32 x with nan := decide (x = .nan) && !anyNan }

/-- VA + VB (R66). -/
def fadd (a b : W32) : FRes := finish32 (isNan32 a || isNan32 b) (extAdd (ext32 a) (ext32 b))
/-- VA - VB: the sum with the second operand's sign inverted. -/
def fsub (a b : W32) : FRes := finish32 (isNan32 a || isNan32 b) (extAdd (ext32 a) (extNegate (ext32 b)))
/-- VA × VB. -/
def fmul (a b : W32) : FRes := finish32 (isNan32 a || isNan32 b) (extMul (ext32 a) (ext32 b))
/-- VA × VB + VC with one rounding (Table 5-3). -/
def ffma (a b c : W32) : FRes :=
  finish32 (isNan32 a || isNan32 b || isNan32 c) (extAdd (extMul (ext32 a) (ext32 b)) (ext32 c))

/-- Exact comparison a < b of two extended values; false with a NaN; zeros are equal. -/
def extLt (a b : Ext) : Bool :=
  match a, b with
  | .nan, _ => false
  | _, .nan => false
  | .inf s, .inf t => s && !t
  | .inf s, _ => s
  | _, .inf t => !t
  | .zero _, .zero _ => false
  | .zero _, .fin n _ => decide (0 < n)
  | .fin m _, .zero _ => decide (m < 0)
  | .fin m e, .fin n f => let g := min e f; decide (atScale m e g < atScale n f g)

def flt (a b : W32) : Bool := extLt (ext32 a) (ext32 b)

/-- MAX: NaN wins; +0 for the pair (-0, +0) (R149). -/
def fmax (a b : W32) : FRes :=
  if isNan32 a || isNan32 b then { bits := canonNan32 }
  else if flt a b then { bits := b } else if flt b a then { bits := a }
  else { bits := if extNeg (ext32 a) then b else a }

/-- MIN: NaN wins; -0 for the pair (-0, +0) (R149). -/
def fmin (a b : W32) : FRes :=
  if isNan32 a || isNan32 b then { bits := canonNan32 }
  else if flt a b then { bits := a } else if flt b a then { bits := b }
  else { bits := if extNeg (ext32 a) then a else b }

/-- Nearest integer, ties to even, of an exact finite value; 0 otherwise. -/
def extRint (a : Ext) : Int :=
  match a with
  | .fin m e =>
    if 0 ≤ e then m * 2 ^ e.toNat
    else
      let r : Int := (rneShift m.natAbs (-e).toNat : Nat)
      if m < 0 then -r else r
  | _ => 0

/-- Largest integer at or below an exact finite value; 0 otherwise. -/
def extFloor (a : Ext) : Int :=
  match a with
  | .fin m e => if 0 ≤ e then m * 2 ^ e.toNat else m / 2 ^ (-e).toNat
  | _ => 0

/-- The F32 of an integer, rounded to nearest even. -/
def ofInt32 (n : Int) : W32 := (round32 (mkFin false n 0)).bits

end Sys2Proof.Machine
end

