-- ==== Sys2Proof/Machine/Formats.lean ====
section
/-! DEFINITION. The formats of Table 2-1 and the conversions of Table 2-5: B8X blocks (R51 to R55), L32 ledger sums
(R56 to R62), integers (R63), stochastic rounding (R65). -/
namespace Sys2Proof.Machine

/-- The element value v of a B8X byte (Table 2-3). -/
def ext8 (w : Nat) : Ext :=
  let neg := decide (w / 128 % 2 = 1)
  let e := w / 8 % 16
  let m := w % 8
  let sg : Nat → Int := fun n => if neg then -(n : Int) else n
  if e = 15 then (if m = 0 then .inf neg else .nan)
  else if e = 0 then mkFin neg (sg m) (-9)
  else .fin (sg (8 + m)) ((e : Int) - 10)

/-- The value of a B8X element under scale byte S; S = 255 reads as NaN (R51). -/
def ext8s (w s : Nat) : Ext := if s = 255 then .nan else extScale (ext8 w) ((s : Int) - 127)

/-- The larger of two magnitudes given as (n, e) pairs meaning n × 2^e. -/
def magMax (a b : Nat × Int) : Nat × Int :=
  let g := min a.2 b.2
  if a.1 * 2 ^ (a.2 - g).toNat < b.1 * 2 ^ (b.2 - g).toNat then b else a

/-- The largest finite magnitude of a block of F32 values; 0 when none is finite and nonzero. -/
def blockMag (xs : List W32) : Nat × Int :=
  xs.foldl (fun acc w => match ext32 w with | .fin m e => magMax acc (m.natAbs, e) | _ => acc) (0, 0)

/-- The scale byte of a block of 32 F32 values (R54 steps 1 to 3). -/
def b8xScale (xs : List W32) : Nat :=
  let a := blockMag xs
  if a.1 = 0 then 0
  else
    let len := Nat.log2 a.1 + 1
    let up : Nat := if 4 < len && decide (rneShift a.1 (len - 4) = 16) then 1 else 0
    (a.2 + ((len + up : Nat) : Int) - 1 - 7 + 127).toNat

/-- One element under scale S (R54 steps 4 and 5). -/
def b8xElem (s : Nat) (w : W32) : FRes :=
  match extScale (ext32 w) (127 - (s : Int)) with
  | .nan => { bits := 0x7F#32 }
  | .inf n => { bits := BitVec.ofNat 32 (b2n n * 128 + 0x78) }
  | .zero n => { bits := BitVec.ofNat 32 (b2n n * 128) }
  | .fin m e =>
    let mag := roundMag 4 (-9) 120 m.natAbs e
    { bits := BitVec.ofNat 32 (b2n (decide (m < 0)) * 128 + mag), flush := decide (mag = 0) }

/-- B8X to F32: exact, an overflow saturates (R55). -/
def b8xToF32 (s w : Nat) : FRes := round32 (ext8s w s)

/-- The E8 of an F32 block (R57). -/
def blockE8 (xs : List W32) : Nat :=
  xs.foldl (fun acc w =>
    match ext32 w with
    | .nan => 255
    | .inf _ => 255
    | _ => Nat.max acc (w.toNat / 2 ^ 23 % 256)) 0

/-- Clamp an integer to ±lim. -/
def clampInt (lim x : Int) : Int := if x < -lim then -lim else if lim < x then lim else x

/-- Quantise one F32 value with combined E8 and guard bits g (R59). -/
def l32Quant (e8 g : Nat) (w : W32) : W32 :=
  let lim : Int := (2 ^ (31 - g) - 1 : Nat)
  if e8 = 255 then 0
  else
    match ext32 w with
    | .nan => 0
    | .inf n => BitVec.ofInt 32 (if n then -lim else lim)
    | x => BitVec.ofInt 32 (clampInt lim (extRint (extScale x (30 - (g : Int) - ((e8 : Int) - 127)))))

/-- Convert an L32 sum back to F32 (R61, R62); `made` says whether a NaN block counts as produced: no contributor held a
NaN in it. -/
def l32ToF32 (made : Bool) (e8 g : Nat) (q : W32) : FRes :=
  if e8 = 255 then { bits := canonNan32, nan := made }
  else round32 (mkFin false q.toInt ((e8 : Int) - 127 - 30 + g))

/-- F32 to B16, round to nearest even. -/
def f32ToB16 (w : W32) : FRes := round16 (ext32 w)

/-- B16 to F32, exact; a NaN becomes the canonical one (R66). -/
def b16ToF32 (w : W32) : FRes := round32 (ext16 w)

/-- F32 to I32: nearest even; outside the range saturates; NaN gives 0 and counts as produced (Table 2-5). -/
def f32ToI32 (w : W32) : FRes :=
  match ext32 w with
  | .nan => { bits := 0, nan := true }
  | .inf n => { bits := if n then 0x80000000#32 else 0x7FFFFFFF#32, sat := true }
  | x =>
    let n := extRint x
    if n < -2147483648 then { bits := 0x80000000#32, sat := true }
    else if 2147483647 < n then { bits := 0x7FFFFFFF#32, sat := true }
    else { bits := BitVec.ofInt 32 n }

/-- I32 to U16, saturating (Table 2-5). -/
def i32ToU16 (w : W32) : FRes :=
  if w.toInt < 0 then { bits := 0, sat := true }
  else if 65535 < w.toInt then { bits := 0xFFFF#32, sat := true }
  else { bits := w }

/-- The element-wise conversions of Table 2-5, by format code of Table 2-1; none for a path the table lacks. -/
def cvtLane (src dst : Nat) (w : W32) : Option FRes :=
  match src, dst with
  | 1, 2 => some (b16ToF32 w)
  | 2, 1 => some (f32ToB16 w)
  | 2, 5 => some (f32ToI32 w)
  | 5, 2 => some { bits := ofInt32 w.toInt }
  | 5, 6 => some (i32ToU16 w)
  | 6, 2 => some { bits := ofInt32 ((w.toNat % 65536 : Nat) : Int) }
  | 6, 5 => some { bits := BitVec.ofNat 32 (w.toNat % 65536) }
  | _, _ => none

/-- Whether Table 2-5 has a path from `src` to `dst`. -/
def cvtPath (src dst : Nat) : Bool :=
  (src, dst) ∈ [(1, 2), (2, 1), (2, 3), (2, 4), (2, 5), (3, 2), (4, 2), (5, 2), (5, 6), (6, 2), (6, 5)]

/-- Stochastic F32 to B16 with the 16-bit draw r (R65). -/
def cvtSr (r : Nat) (w : W32) : FRes :=
  let sg := w.toNat / 2 ^ 31 * 0x8000
  match ext32 w with
  | .nan => { bits := canonNan16 }
  | .inf _ => { bits := BitVec.ofNat 32 (sg + 0x7F80) }
  | _ =>
    let mag := w.toNat % 2 ^ 31
    let t := (mag + r % 65536) / 65536
    let t' := if 0x7F80 ≤ t then 0x7F80 else t
    { bits := BitVec.ofNat 32 (sg + t'), sat := decide (0x7F80 ≤ t), flush := decide (t' = 0) && !decide (mag = 0) }

/-- A B16 operand entering an array: a subnormal becomes a zero of its sign and counts (R45). -/
def arrayIn16 (w : Nat) : Ext × Bool :=
  if w / 128 % 256 = 0 then (.zero (decide (w / 32768 % 2 = 1)), !decide (w % 128 = 0))
  else (ext16 (BitVec.ofNat 32 w), false)

/-- One accumulate step of a cell on one position (B16) or two (B8X): products and their sum exact, one rounding
(R48, R49, R50). -/
def cellStep (acc : W32) (xs ys : List Ext) : FRes :=
  let anyNan := isNan32 acc || xs.contains .nan || ys.contains .nan
  let sum := match List.zipWith extMul xs ys with
    | [] => Ext.zero true
    | p :: t => t.foldl extAdd p
  finish32 anyNan (extAdd sum (ext32 acc))

/-- One expanded brick weight: exact product of entry element and SCALE, one rounding to B16 (R229). -/
def brickWeight (elem scale : Nat) : FRes :=
  round16 (extMul (ext16 (BitVec.ofNat 32 elem)) (ext16 (BitVec.ofNat 32 scale)))

end Sys2Proof.Machine
end

