-- ==== Sys2Proof/Machine/Flags.lean ====
section
/-! DEFINITION. The numeric counts of an array sweep (R45, R71, R100) and the order in which produced NaNs trap (R72):
a sweep runs step by step over all arrays of its task, and a trap stops it after the step that made the first NaN. -/
namespace Sys2Proof.Machine

/-- A cell during a sweep: its value and what it has counted. -/
structure Cell where
  v : W32
  sat : Bool
  nan : Bool
  flush : Nat
  deriving DecidableEq, Repr

def Cell.start (v : W32) : Cell := ⟨v, false, false, 0⟩

/-- One update of a cell; a saturation and a produced NaN count once per sweep (R100). -/
def Cell.update (c : Cell) (xs ys : List Ext) : Cell :=
  let r := cellStep c.v xs ys
  ⟨r.bits, c.sat || r.sat, c.nan || r.nan, c.flush + b2n r.flush⟩

/-- One operand of one step: 256 lists of the step's positions, with the flushed subnormals and the saturated brick
weights that the operand brings (R45, R229). -/
structure Side where
  vals : List (List Ext)
  flush : Nat
  sat : Nat

/-- An array in use: the weight stream its port reads and the activation tile it takes. -/
structure ArrUse where
  array : Nat
  stream : Nat
  act : Nat
  deriving DecidableEq, Repr

/-- The operands of a sweep: its steps, the activation columns by edge tile, the weight rows by the array whose port
delivers them. -/
structure Operands where
  steps : Nat
  act : Nat → Nat → Side
  wgt : ArrUse → Nat → Side

/-- A sweep in progress. -/
structure Sweep where
  banks : List (ArrUse × List (List Cell))
  flush : Nat
  sat : Nat
  /-- Steps run. -/
  done : Nat
  /-- Element and array of the trap. -/
  trap : Option (Nat × Nat)

/-- The lowest produced NaN over the arrays, as element index and array. -/
def firstNan (elem : Nat → Nat → Nat → Nat) (banks : List (ArrUse × List (List Cell))) : Option (Nat × Nat) :=
  (banks.flatMap fun u => (u.2.zipIdx.flatMap fun row => row.1.zipIdx.filterMap fun c =>
    if c.1.nan then some (elem u.1.array row.2 c.2, u.1.array) else none)).foldl
    (fun best x => match best with
      | none => some x
      | some y => if x.1 < y.1 then some x else some y) none

/-- One step of a sweep in every array. -/
def Sweep.step (o : Operands) (trap : Bool) (elem : Nat → Nat → Nat → Nat) (w : Sweep) (k : Nat) : Sweep :=
  if w.trap.isSome then w
  else
    let tiles := (w.banks.map fun u => u.1.act).eraseDups.map fun x => (x, o.act x k)
    let rows := w.banks.map fun u => (u, o.wgt u.1 k)
    let banks := rows.map fun p =>
      let col := match tiles.find? fun x => decide (x.1 = p.1.1.act) with
        | some x => x.2.vals
        | none => []
      (p.1.1, List.zipWith (fun xs row => List.zipWith (fun ys c => c.update xs ys) p.2.vals row) col p.1.2)
    { banks := banks
      flush := w.flush + (tiles.map fun x => x.2.flush).sum + (rows.map fun p => p.2.flush).sum
      sat := w.sat + (rows.map fun p => p.2.sat).sum
      done := w.done + 1
      trap := if trap then firstNan elem banks else none }

/-- A whole sweep from the banks' starting values. -/
def runSweep (o : Operands) (trap : Bool) (elem : Nat → Nat → Nat → Nat) (start : List (ArrUse × List (List W32))) :
    Sweep :=
  (List.range o.steps).foldl (Sweep.step o trap elem)
    { banks := start.map fun u => (u.1, u.2.map fun row => row.map Cell.start), flush := 0, sat := 0, done := 0, trap := none }

/-- The counts of a sweep: saturated, flushed, produced NaN. -/
def Sweep.counts (w : Sweep) : Nat × Nat × Nat :=
  let cells := w.banks.flatMap fun u => u.2.flatMap id
  (w.sat + (cells.filter fun c => c.sat).length, w.flush + (cells.map fun c => c.flush).sum,
    (cells.filter fun c => c.nan).length)

/-- The counts of a list of results of one instruction or one drain (R71). -/
def resCounts (l : List FRes) : Nat × Nat × Nat :=
  ((l.filter fun r => r.sat).length, (l.filter fun r => r.flush).length, (l.filter fun r => r.nan).length)

/-- Position of the first produced NaN in a list of results. -/
def firstRes (l : List FRes) : Option Nat := l.findIdx? fun r => r.nan

end Sys2Proof.Machine
end

