-- ==== Sys2Proof/Machine/Operands.lean ====
section
/-! DEFINITION. The operand forms of the arrays: the tile menu (Table 6-1), tile-blocked regions (R171), activation
tiles (R77, R79), weight rows in B16 and B8X (R81, Table 6-4) and bricks (R223 to R234). A yard is read through a
function from yard offset to byte. -/
namespace Sys2Proof.Machine

/-- Byte offset of element (r, c) in a tile-blocked region of width W with elements of b bytes (R171). -/
def tileOff (W r c b : Nat) : Nat := (r / 32 * (W / 32) + c / 32) * 1024 * b + (r % 32 * 32 + c % 32) * b

/-- w of a tile code: 0 T1, 1 T2, 2 T4, 3 T4W, 4 T2X (Table 6-1). -/
def tileWidth (tile : Nat) : Nat := if tile = 0 then 256 else if tile = 1 ∨ tile = 4 then 512 else 1024

/-- The mask is one of the tile code's masks (R168). -/
def maskOk (tile mask : Nat) : Bool :=
  match tile with
  | 0 => [1, 4, 5].contains mask
  | 1 => [3, 12].contains mask
  | t => decide (t ≤ 4) && decide (mask = 15)

/-- The first mask of a tile code, which FUSED2 and CONV take (R168). -/
def firstMask (tile : Nat) : Nat := if tile = 0 then 1 else if tile = 1 then 3 else 15

/-- Dual T1. -/
def isDual (tile mask : Nat) : Bool := decide (tile = 0) && decide (mask = 5)

/-- Arrays of a mask in increasing order. -/
def arraysOf (mask : Nat) : List Nat := (List.range 4).filter fun a => decide (mask / 2 ^ a % 2 = 1)

/-- Arrays in use with their streams and activation tiles (R78, R169). -/
def usesOf (tile mask : Nat) : List ArrUse :=
  if tile = 4 then [⟨0, 0, 0⟩, ⟨1, 1, 0⟩, ⟨2, 0, 1⟩, ⟨3, 1, 1⟩]
  else if isDual tile mask then [⟨0, 0, 0⟩, ⟨2, 1, 1⟩]
  else (arraysOf mask).zipIdx.map fun p => ⟨p.1, p.2, 0⟩

/-- s of R170: weight streams. -/
def streamsOf (tile mask : Nat) : Nat := if tile = 4 then 2 else (arraysOf mask).length

/-- Edge file that feeds an activation tile of a task (Table 3-1). -/
def fileOf (tile mask act : Nat) : Nat :=
  if tile = 2 ∨ tile = 3 then 0
  else if act = 1 then 1
  else match arraysOf mask with
    | a :: _ => if tile = 4 then 0 else a / 2
    | [] => 0

/-- Edge files in use. -/
def filesOf (tile mask : Nat) : List Nat := ((usesOf tile mask).map fun u => fileOf tile mask u.act).eraseDups

/-- Row and column of an array's block inside the task's output block (Table 6-1, R171). -/
def placeOf (tile mask a : Nat) : Nat × Nat :=
  if tile = 4 then (a / 2 * 256, a % 2 * 256)
  else if isDual tile mask then (a / 2 * 256, a / 2 * 256)
  else (0, ((arraysOf mask).findIdx fun x => decide (x = a)) * 256)

/-- Width of the drain region (R171). -/
def drainWidth (tile mask : Nat) : Nat := if isDual tile mask then 512 else tileWidth tile

/-- Rows of the drain region. -/
def drainRows (tile mask : Nat) : Nat := if tile = 4 ∨ isDual tile mask then 512 else 256

/-- S of Table 6-4: bytes of an activation tile. -/
def tileBytes (b8 : Bool) (kt : Nat) : Nat := if b8 then roundUp (264 * kt) 2048 else 512 * kt

/-! Activation tiles. -/

/-- Byte o of an edge half loaded from the tile at `base`, as stored or transposed (R77, R79). -/
def halfByte (rd : Nat → Byte) (base : Nat) (b8 trans : Bool) (kt o : Nat) : Byte :=
  let b := if b8 then 1 else 2
  if !trans || decide (256 * kt * b ≤ o) then rd (base + o)
  else
    let blk := o / (1024 * b)
    let i := o % (1024 * b) / b
    let r := blk / (kt / 32) * 32 + i / 32
    let k := blk % (kt / 32) * 32 + i % 32
    rd (base + tileOff 256 k r b + o % b)

/-- The bytes of an edge half loaded from a stored tile. -/
def loadTile (rd : Nat → Byte) (base : Nat) (b8 trans : Bool) (kt : Nat) : SMap Byte :=
  sparse 0 0 ((List.range (tileBytes b8 kt)).map (halfByte rd base b8 trans kt))

/-- Activation column k of a tile whose half holds the given bytes: one step's values with its flushes (R45). -/
def actCol16 (half : Nat → Byte) (kt k : Nat) : Side :=
  let v := (List.range 256).map fun r =>
    let o := tileOff kt r k 2
    arrayIn16 ((half o).toNat + 256 * (half (o + 1)).toNat)
  { vals := v.map fun p => [p.1], flush := (v.filter fun p => p.2).length, sat := 0 }

/-- Two activation columns of a B8X tile (R49, R77). -/
def actCol8 (half : Nat → Byte) (kt k : Nat) : Side :=
  { vals := (List.range 256).map fun r =>
      let sc := (half (256 * kt + k / 32 * 256 + r)).toNat
      [ext8s (half (tileOff kt r k 1)).toNat sc, ext8s (half (tileOff kt r (k + 1) 1)).toNat sc]
    flush := 0, sat := 0 }

/-! Weight rows. -/

/-- Row k of stream j of a B16 weight buffer (R81, Table 6-4). -/
def wgtRow16 (rd : Nat → Byte) (base s j k : Nat) : Side :=
  let v := (List.range 256).map fun c =>
    let o := base + (k * s + j) * 512 + 2 * c
    arrayIn16 ((rd o).toNat + 256 * (rd (o + 1)).toNat)
  { vals := v.map fun p => [p.1], flush := (v.filter fun p => p.2).length, sat := 0 }

/-- Positions k and k + 1 of stream j of a B8X weight buffer of K positions (R81, Table 6-4). -/
def wgtRow8 (rd : Nat → Byte) (base s kext j k : Nat) : Side :=
  { vals := (List.range 256).map fun c =>
      let sc := (rd (roundUp (base + kext * s * 256) 256 + (k / 32 * s + j) * 256 + c)).toNat
      let e := base + (k / 2 * s + j) * 512 + c
      [ext8s (rd e).toNat sc, ext8s (rd (e + 256)).toNat sc]
    flush := 0, sat := 0 }

/-- Bytes of a weight buffer (Table 6-4, R233). -/
def wgtBytes (b8 : Bool) (kext s : Nat) : Nat := if b8 then kext * s * 264 else kext * s * 512

/-! Bricks. -/

/-- Row of Table 9-1 for CODEBITS and VLEN. -/
def brickForm (codeBits vlen : Nat) : Nat := if vlen = 1 then codeBits else 3 + codeBits
/-- Code width b and vector length v of a row of Table 9-1. -/
def formBits (form : Nat) : Nat := 8 + 2 * (form % 3)
def formV (form : Nat) : Nat := if form < 3 then 8 else 4
/-- Bytes of the entries of a codebook. -/
def entryBytes (form : Nat) : Nat := 2 ^ formBits form * formV form * 2
/-- Code bytes of a brick. -/
def codeBytes (form : Nat) : Nat := 32 * (32 * formBits form / formV form)

def rd16 (rd : Nat → Byte) (a : Nat) : Nat := (rd a).toNat + 256 * (rd (a + 1)).toNat
def rd32 (rd : Nat → Byte) (a : Nat) : Nat := rd16 rd a + 65536 * rd16 rd (a + 2)

/-- Brick header fields (Table 9-2). -/
def brickCbid (rd : Nat → Byte) (a : Nat) : Nat := rd16 rd a
def brickKpos (rd : Nat → Byte) (a : Nat) : Nat := rd16 rd (a + 8)
def brickCblk (rd : Nat → Byte) (a : Nat) : Nat := rd16 rd (a + 10)
def brickScale (rd : Nat → Byte) (a : Nat) : Nat := rd16 rd (a + 4)

/-- A B16 encoding is finite. -/
def finite16 (w : Nat) : Bool := !decide (w / 128 % 256 = 255)

/-- The first failing check of rows 7 to 10 of Table 9-4 for the brick at address a; 0 when all pass. -/
def brickCheck (rd : Nat → Byte) (a form cbForm cbid cblk : Nat) (kpos : Option Nat) : Nat :=
  let w0 := rd32 rd a
  let resOk := decide (w0 / 2 ^ 19 = 0) && decide (rd16 rd (a + 6) = 0) &&
    (List.range 48).all fun i => decide (rd (a + 12 + i) = 0)
  let f := brickForm (w0 / 2 ^ 16 % 4) (w0 / 2 ^ 18 % 2)
  if w0 / 2 ^ 16 % 4 = 3 ∨ !resOk ∨ f ≠ form ∨ f ≠ cbForm then 7
  else
    let bytes := (List.range 60).map (fun i => rd (a + i)) ++ (List.range (codeBytes f)).map fun i => rd (a + 64 + i)
    if (crc32c bytes).toNat ≠ rd32 rd (a + 60) then 8
    else if !finite16 (brickScale rd a) then 9
    else if decide (brickCbid rd a ≠ cbid) || decide (brickCblk rd a ≠ cblk) || (match kpos with
      | some k => decide (brickKpos rd a ≠ k)
      | none => false) then 10
    else 0

/-- Code of column group g in row r of the brick at a (R225). -/
def brickCode (rd : Nat → Byte) (a form r g : Nat) : Nat :=
  let b := formBits form
  let o := a + 64 + r * (32 * b / formV form) + g * b / 8
  ((rd o).toNat + 256 * (rd (o + 1)).toNat + 65536 * (if g * b % 8 + b ≤ 16 then 0 else (rd (o + 2)).toNat)) /
    2 ^ (g * b % 8) % 2 ^ b

/-- Element t of entry e of a codebook's entry bytes (R227). -/
def bookElem (entries : Nat → Byte) (form e t : Nat) : Nat := rd16 entries ((e * formV form + t) * 2)

/-- Expanded row r of the brick at a (R229): one step's weights, with the saturations of the expansion and the
flushes of the expansion and of array entry. -/
def brickRow (rd : Nat → Byte) (entries : Nat → Byte) (a form r : Nat) : Side :=
  let v := (List.range 256).map fun c =>
    let w := brickWeight (bookElem entries form (brickCode rd a form r (c / formV form)) (c % formV form))
      (brickScale rd a)
    (w, arrayIn16 w.bits.toNat)
  { vals := v.map fun p => [p.2.1]
    flush := (v.filter fun p => p.1.flush).length + (v.filter fun p => p.2.2).length
    sat := (v.filter fun p => p.1.sat).length }

end Sys2Proof.Machine
end

