-- ==== Sys2Proof/Machine/Registers.lean ====
section
/-! DEFINITION. The registers of the UV96: their names, their fields' access codes (R465), their reset values, and
where they lie in the register map (R480, R481). A register whose reset the tables give as "from configuration
image" resets to 0 until start-up applies an image (R484 stage 8). -/
namespace Sys2Proof.Machine

/-- Every register of the manual's register tables. -/
inductive Reg where
  /-- BLK_ID -/
  | blkId
  /-- BLK_STATUS -/
  | blkStatus
  /-- HUB_ID -/
  | hubId
  /-- HUB_FWREL -/
  | hubFwrel
  /-- HUB_STATUS -/
  | hubStatus
  /-- HUB_LOCK -/
  | hubLock
  /-- HUB_REGERR0 -/
  | hubRegerr0
  /-- HUB_REGERR1 -/
  | hubRegerr1
  /-- HUB_REGERRCNT -/
  | hubRegerrcnt
  /-- HUB_CIFAULT0 -/
  | hubCifault0
  /-- HUB_CIFAULT1 -/
  | hubCifault1
  /-- HUB_CICNT -/
  | hubCicnt
  /-- CAR_STATUS -/
  | carStatus
  /-- CAR_STEP0 -/
  | carStep0
  /-- CAR_STEP1 -/
  | carStep1
  /-- CAR_BEAT0 -/
  | carBeat0
  /-- CAR_BEAT1 -/
  | carBeat1
  /-- CAR_MAPGEN -/
  | carMapgen
  /-- CAR_TERM -/
  | carTerm
  /-- CAR_RESTORE0 -/
  | carRestore0
  /-- CAR_RESTORE1 -/
  | carRestore1
  /-- CAR_CKPTSTAT -/
  | carCkptstat
  /-- CAR_LATEBND -/
  | carLatebnd
  /-- CAR_ROLLBACKS -/
  | carRollbacks
  /-- SCH_CFG -/
  | schCfg
  /-- HST_FUNC -/
  | hstFunc
  /-- HST_APBASE -/
  | hstApbase
  /-- HST_IVMAP -/
  | hstIvmap
  /-- HST_APERR -/
  | hstAperr
  /-- HST_RDERR -/
  | hstRderr
  /-- MON_TEMP -/
  | monTemp
  /-- MON_VOLT -/
  | monVolt
  /-- MON_PROC -/
  | monProc
  /-- MON_CLKSTEP -/
  | monClkstep
  /-- MON_THRCNT -/
  | monThrcnt
  /-- MON_VTHRCNT -/
  | monVthrcnt
  /-- MON_PWRTHR -/
  | monPwrthr
  /-- MON_REPLACE -/
  | monReplace
  /-- MON_SUBST -/
  | monSubst
  /-- MON_SBCFG -/
  | monSbcfg
  /-- MON_SBSTAT -/
  | monSbstat
  /-- MON_SBGLITCH -/
  | monSbglitch
  /-- MON_SBRATE -/
  | monSbrate
  /-- MON_SYNCCAP0 -/
  | monSynccap0
  /-- MON_SYNCCAP1 -/
  | monSynccap1
  /-- MON_LOGLOST -/
  | monLoglost
  /-- TUN_CTRL -/
  | tunCtrl
  /-- TUN_UDP -/
  | tunUdp
  /-- TUN_DSCP -/
  | tunDscp
  /-- TUN_TIMEOUT -/
  | tunTimeout
  /-- TUN_RTSEL -/
  | tunRtsel
  /-- TUN_RTSTAT -/
  | tunRtstat
  /-- TUN_RETX -/
  | tunRetx
  /-- TUN_DUPDROP -/
  | tunDupdrop
  /-- TUN_STALE -/
  | tunStale
  /-- TUN_CRCDROP -/
  | tunCrcdrop
  /-- TUN_NOTREADY -/
  | tunNotready
  /-- TUN_BUSY -/
  | tunBusy
  /-- TUN_CL0LATE -/
  | tunCl0late
  /-- TUN_FINJ -/
  | tunFinj
  /-- TUN_FINJSEED -/
  | tunFinjseed
  /-- TUN_FINJCNT -/
  | tunFinjcnt
  /-- CDC_MODE -/
  | cdcMode
  /-- CDC_DROP -/
  | cdcDrop
  /-- CDC_PIPEFLT -/
  | cdcPipeflt
  /-- CDC_DSTAT -/
  | cdcDstat
  /-- CDC_DTAIL -/
  | cdcDtail
  /-- CDC_DHEAD -/
  | cdcDhead
  /-- CDC_DOUT -/
  | cdcDout
  /-- CDC_DRELEASE -/
  | cdcDrelease
  /-- CDC_DBAD -/
  | cdcDbad
  /-- CDC_ESTAT -/
  | cdcEstat
  /-- CDC_ETAIL -/
  | cdcEtail
  /-- CDC_EHEAD -/
  | cdcEhead
  /-- CDC_ECOMMIT -/
  | cdcEcommit
  /-- CDC_EGEN -/
  | cdcEgen
  /-- CDC_EFRAME -/
  | cdcEframe
  /-- CDC_EREL -/
  | cdcErel
  /-- CDC_EREENC -/
  | cdcEreenc
  /-- CDC_ESKIP -/
  | cdcEskip
  /-- CDC_EROISTALE -/
  | cdcEroistale
  /-- MEM_STATUS -/
  | memStatus
  /-- MEM_CHSTAT -/
  | memChstat
  /-- MEM_LANEMAP -/
  | memLanemap
  /-- MEM_CECNT -/
  | memCecnt
  /-- MEM_UECNT -/
  | memUecnt
  /-- MEM_UELOG0 -/
  | memUelog0
  /-- MEM_UELOG1 -/
  | memUelog1
  /-- PORT_CFG -/
  | portCfg
  /-- PORT_STATUS -/
  | portStatus
  /-- PORT_CTRL -/
  | portCtrl
  /-- PORT_PEER -/
  | portPeer
  /-- PORT_FECCE -/
  | portFecce
  /-- PORT_FECUE -/
  | portFecue
  /-- PORT_RXDROP -/
  | portRxdrop
  /-- PORT_SECDROP -/
  | portSecdrop
  /-- PORT_PAUSEIGN -/
  | portPauseign
  /-- PORT_TXCL0 -/
  | portTxcl0
  /-- PORT_FINJ -/
  | portFinj
  /-- PORT_FINJSEED -/
  | portFinjseed
  /-- PORT_FINJCNT -/
  | portFinjcnt
  /-- TEN_NUMCFG -/
  | tenNumcfg
  /-- TEN_PLANID0 -/
  | tenPlanid0
  /-- TEN_PLANID1 -/
  | tenPlanid1
  /-- TEN_RUNSIZE -/
  | tenRunsize
  /-- TUN_EPOCH -/
  | tunEpoch
  /-- TUN_STEPFLR0 -/
  | tunStepflr0
  /-- TUN_STEPFLR1 -/
  | tunStepflr1
  /-- TH_CFG -/
  | thCfg
  /-- TH_CMD -/
  | thCmd
  /-- TH_CMDSTAT -/
  | thCmdstat
  /-- TH_ENTRY -/
  | thEntry
  /-- TH_COLDCNT -/
  | thColdcnt
  /-- TH_FILLCNT -/
  | thFillcnt
  /-- TH_STALEUPD -/
  | thStaleupd
  /-- TH_PACKIN -/
  | thPackin
  /-- TH_PACKOUT -/
  | thPackout
  /-- QUE_CTRL -/
  | queCtrl
  /-- QUE_STATUS -/
  | queStatus
  /-- QUE_RINGBASE -/
  | queRingbase
  /-- QUE_RINGHEAD -/
  | queRinghead
  /-- QUE_RINGTAIL -/
  | queRingtail
  /-- QUE_SLIP -/
  | queSlip
  /-- QUE_LATEEVT -/
  | queLateevt
  /-- QUE_LDINFO -/
  | queLdinfo
  /-- QUE_LDROW -/
  | queLdrow
  /-- KLN_QTAIL -/
  | klnQtail
  /-- KLN_QHEAD -/
  | klnQhead
  /-- KLN_QSTATUS -/
  | klnQstatus
  /-- KLN_QOLDEST -/
  | klnQoldest
  /-- KLN_QFILL -/
  | klnQfill
  /-- KLN_QPAD -/
  | klnQpad
  /-- KLN_QLATE -/
  | klnQlate
  /-- KLN_QDROP -/
  | klnQdrop
  /-- KLN_FAULT0 -/
  | klnFault0
  /-- KLN_FAULT1 -/
  | klnFault1
  /-- KLN_FAULT2 -/
  | klnFault2
  /-- KLN_FAULT3 -/
  | klnFault3
  /-- CORE_NUMSAT -/
  | coreNumsat
  /-- CORE_NUMFLUSH -/
  | coreNumflush
  /-- CORE_NUMNAN -/
  | coreNumnan
  /-- CORE_NANTRAP0 -/
  | coreNantrap0
  /-- CORE_NANTRAP1 -/
  | coreNantrap1
  /-- CORE_NANTRAP2 -/
  | coreNantrap2
  /-- CORE_NANTRAP3 -/
  | coreNantrap3
  /-- CORE_BANKSTATE -/
  | coreBankstate
  /-- CORE_ARRISSUE -/
  | coreArrissue
  /-- CORE_STALLEDGE -/
  | coreStalledge
  /-- CORE_STALLOPND -/
  | coreStallopnd
  /-- CORE_STALLBANK -/
  | coreStallbank
  /-- CORE_MEMSPLIT -/
  | coreMemsplit
  /-- CORE_RESTOVR -/
  | coreRestovr
  /-- CORE_VECISSUE -/
  | coreVecissue
  /-- CORE_STALLLAND -/
  | coreStallland
  /-- CORE_VECID -/
  | coreVecid
  /-- CORE_MLINK -/
  | coreMlink
  /-- CORE_MHALOWAIT -/
  | coreMhalowait
  /-- CORE_MREPLAY -/
  | coreMreplay
  /-- CORE_MTXBYTES -/
  | coreMtxbytes
  /-- CORE_CBDIR -/
  | coreCbdir
  /-- CORE_CBSTATE -/
  | coreCbstate
  /-- CORE_STALLCB -/
  | coreStallcb
  /-- CORE_BRKFAULT0 -/
  | coreBrkfault0
  /-- CORE_BRKFAULT1 -/
  | coreBrkfault1
  /-- MBX_LOCK -/
  | mbxLock
  /-- MBX_STATUS -/
  | mbxStatus
  /-- MBX_PTRLO -/
  | mbxPtrlo
  /-- MBX_PTRHI -/
  | mbxPtrhi
  /-- MBX_LEN -/
  | mbxLen
  /-- MBX_POST -/
  | mbxPost
  /-- MBX_TAG -/
  | mbxTag
  /-- MBX_ACK -/
  | mbxAck
  /-- MBX_RXBUF0 -/
  | mbxRxbuf0
  /-- MBX_RXBUF1 -/
  | mbxRxbuf1
  deriving DecidableEq, Repr

/-- Access codes of Table 19-1; a field the list of a register leaves out is RO. -/
inductive Access where
  | rw | rwb | w1c | rwl | wo1 | wo | cnt
  deriving DecidableEq, Repr

/-- A field: its bits and its access code. -/
structure Field where
  hi : Nat
  lo : Nat
  acc : Access
  deriving DecidableEq, Repr

/-- The fields that a software write can change, with their access codes (Table 19-1). -/
def Reg.fields : Reg → List Field
  | .hubLock => [⟨0, 0, .wo1⟩]
  | .hubRegerr0 => [⟨31, 31, .w1c⟩, ⟨30, 30, .w1c⟩]
  | .hubRegerrcnt => [⟨31, 0, .cnt⟩]
  | .hubCifault0 => [⟨31, 31, .w1c⟩, ⟨30, 30, .w1c⟩]
  | .hubCicnt => [⟨31, 0, .cnt⟩]
  | .carCkptstat => [⟨29, 29, .w1c⟩]
  | .carLatebnd => [⟨31, 0, .cnt⟩]
  | .carRollbacks => [⟨31, 0, .cnt⟩]
  | .schCfg => [⟨31, 24, .rwb⟩, ⟨23, 12, .rwb⟩, ⟨11, 0, .rwb⟩]
  | .hstApbase => [⟨8, 0, .rw⟩]
  | .hstIvmap => [⟨31, 31, .rw⟩, ⟨7, 0, .rw⟩]
  | .hstAperr => [⟨31, 0, .cnt⟩]
  | .hstRderr => [⟨31, 0, .cnt⟩]
  | .monThrcnt => [⟨31, 0, .cnt⟩]
  | .monVthrcnt => [⟨31, 0, .cnt⟩]
  | .monPwrthr => [⟨31, 0, .cnt⟩]
  | .monSubst => [⟨31, 31, .w1c⟩]
  | .monSbcfg => [⟨1, 0, .rwl⟩]
  | .monSbstat => [⟨31, 31, .w1c⟩, ⟨30, 30, .w1c⟩, ⟨15, 15, .w1c⟩, ⟨14, 14, .w1c⟩]
  | .monSbglitch => [⟨31, 0, .cnt⟩]
  | .monSbrate => [⟨31, 0, .cnt⟩]
  | .monLoglost => [⟨31, 0, .cnt⟩]
  | .tunRtsel => [⟨31, 31, .rw⟩, ⟨13, 0, .rw⟩]
  | .tunRetx => [⟨31, 0, .cnt⟩]
  | .tunDupdrop => [⟨31, 0, .cnt⟩]
  | .tunStale => [⟨31, 0, .cnt⟩]
  | .tunCrcdrop => [⟨31, 0, .cnt⟩]
  | .tunNotready => [⟨31, 0, .cnt⟩]
  | .tunBusy => [⟨31, 0, .cnt⟩]
  | .tunCl0late => [⟨31, 0, .cnt⟩]
  | .tunFinj => [⟨31, 31, .rwl⟩, ⟨30, 28, .rwl⟩, ⟨27, 23, .rwl⟩, ⟨12, 0, .rwl⟩]
  | .tunFinjseed => [⟨31, 0, .rwl⟩]
  | .tunFinjcnt => [⟨31, 0, .cnt⟩]
  | .cdcMode => [⟨1, 0, .rwb⟩]
  | .cdcDrop => [⟨31, 0, .cnt⟩]
  | .cdcPipeflt => [⟨31, 0, .cnt⟩]
  | .cdcDtail => [⟨15, 0, .rw⟩]
  | .cdcDrelease => [⟨31, 0, .rw⟩]
  | .cdcDbad => [⟨31, 0, .cnt⟩]
  | .cdcEstat => [⟨22, 22, .w1c⟩]
  | .cdcEtail => [⟨15, 0, .rw⟩]
  | .cdcEcommit => [⟨31, 31, .rw⟩, ⟨0, 0, .rw⟩]
  | .cdcErel => [⟨31, 0, .rw⟩]
  | .cdcEreenc => [⟨31, 0, .cnt⟩]
  | .cdcEskip => [⟨31, 0, .cnt⟩]
  | .cdcEroistale => [⟨31, 0, .cnt⟩]
  | .memCecnt => [⟨31, 0, .cnt⟩]
  | .memUecnt => [⟨31, 0, .cnt⟩]
  | .memUelog0 => [⟨31, 31, .w1c⟩, ⟨30, 30, .w1c⟩]
  | .portCtrl => [⟨31, 31, .rw⟩, ⟨30, 30, .rw⟩]
  | .portFecce => [⟨31, 0, .cnt⟩]
  | .portFecue => [⟨31, 0, .cnt⟩]
  | .portRxdrop => [⟨31, 0, .cnt⟩]
  | .portSecdrop => [⟨31, 0, .cnt⟩]
  | .portPauseign => [⟨31, 0, .cnt⟩]
  | .portTxcl0 => [⟨31, 0, .cnt⟩]
  | .portFinj => [⟨31, 31, .rwl⟩, ⟨30, 29, .rwl⟩, ⟨28, 24, .rwl⟩, ⟨23, 16, .rwl⟩]
  | .portFinjseed => [⟨31, 0, .rwl⟩]
  | .portFinjcnt => [⟨31, 0, .cnt⟩]
  | .tenNumcfg => [⟨1, 1, .rwb⟩, ⟨0, 0, .rwb⟩]
  | .tunStepflr0 => [⟨31, 0, .rw⟩]
  | .tunStepflr1 => [⟨15, 0, .rw⟩]
  | .thCfg => [⟨31, 31, .rwb⟩]
  | .thCmd => [⟨31, 31, .rw⟩, ⟨26, 24, .rw⟩, ⟨23, 0, .rw⟩]
  | .thCmdstat => [⟨31, 31, .w1c⟩]
  | .thEntry => [⟨31, 0, .rw⟩]
  | .thColdcnt => [⟨31, 0, .cnt⟩]
  | .thFillcnt => [⟨31, 0, .cnt⟩]
  | .thStaleupd => [⟨31, 0, .cnt⟩]
  | .thPackin => [⟨31, 0, .cnt⟩]
  | .thPackout => [⟨31, 0, .cnt⟩]
  | .queCtrl => [⟨31, 16, .rw⟩, ⟨1, 1, .rw⟩, ⟨0, 0, .rw⟩]
  | .queRingbase => [⟨31, 0, .rwb⟩]
  | .queRingtail => [⟨9, 0, .rw⟩]
  | .queSlip => [⟨31, 0, .cnt⟩]
  | .queLateevt => [⟨31, 0, .cnt⟩]
  | .klnQtail => [⟨15, 0, .rw⟩]
  | .klnQfill => [⟨31, 0, .cnt⟩]
  | .klnQpad => [⟨31, 0, .cnt⟩]
  | .klnQlate => [⟨31, 0, .cnt⟩]
  | .klnQdrop => [⟨31, 0, .cnt⟩]
  | .klnFault0 => [⟨31, 31, .w1c⟩, ⟨30, 30, .w1c⟩]
  | .coreNumsat => [⟨31, 0, .cnt⟩]
  | .coreNumflush => [⟨31, 0, .cnt⟩]
  | .coreNumnan => [⟨31, 0, .cnt⟩]
  | .coreNantrap0 => [⟨31, 31, .w1c⟩, ⟨30, 30, .w1c⟩]
  | .coreArrissue => [⟨31, 0, .cnt⟩]
  | .coreStalledge => [⟨31, 0, .cnt⟩]
  | .coreStallopnd => [⟨31, 0, .cnt⟩]
  | .coreStallbank => [⟨31, 0, .cnt⟩]
  | .coreRestovr => [⟨31, 0, .cnt⟩]
  | .coreVecissue => [⟨31, 0, .cnt⟩]
  | .coreStallland => [⟨31, 0, .cnt⟩]
  | .coreMhalowait => [⟨31, 0, .cnt⟩]
  | .coreMreplay => [⟨31, 0, .cnt⟩]
  | .coreMtxbytes => [⟨31, 0, .cnt⟩]
  | .coreCbdir => [⟨31, 24, .rwb⟩, ⟨16, 0, .rwb⟩]
  | .coreStallcb => [⟨31, 0, .cnt⟩]
  | .coreBrkfault0 => [⟨31, 31, .w1c⟩, ⟨30, 30, .w1c⟩]
  | .mbxLock => [⟨3, 0, .rw⟩]
  | .mbxStatus => [⟨28, 28, .w1c⟩, ⟨27, 27, .w1c⟩]
  | .mbxPtrlo => [⟨31, 0, .rw⟩]
  | .mbxPtrhi => [⟨31, 31, .rw⟩, ⟨30, 0, .rw⟩]
  | .mbxLen => [⟨31, 0, .rw⟩]
  | .mbxPost => [⟨31, 31, .wo⟩, ⟨15, 0, .wo⟩]
  | .mbxAck => [⟨15, 0, .wo⟩]
  | .mbxRxbuf0 => [⟨31, 0, .rw⟩]
  | .mbxRxbuf1 => [⟨31, 0, .rw⟩]
  | _ => []

/-- The reset value of instance `i` of a register. -/
def Reg.reset (r : Reg) (i : Nat) : W32 :=
  match r with
  | .blkId => (BitVec.ofNat 32 (i / 256 * 2 ^ 24 + i % 256 * 2 ^ 16 + 0x100))
  | .hubId => 0x00964200#32
  | .carStatus => 0x0000FFFF#32
  | .hstFunc => (BitVec.ofNat 32 i)
  | .hstIvmap => (BitVec.ofNat 32 (i % 256))
  | .monProc => 0x1000#32
  | .monClkstep => 0x10101010#32
  | .monSubst => 0x00001F1F#32
  | .monSbcfg => 1#32
  | .tunFinj => 0x02000000#32
  | .memLanemap => 0xFFFFFFFF#32
  | .portPeer => 0xFFFFF01F#32
  | .portFinj => 0x04000000#32
  | _ => 0

/-- Configuration registers carry hidden parity (R476): at least one RW, RWB, RWL or WO1 field, or an RO field
whose reset is "from configuration image". -/
def Reg.isConfig (r : Reg) : Bool :=
  (r.fields.any fun f => decide (f.acc = .rw) || decide (f.acc = .rwb) || decide (f.acc = .rwl) || decide (f.acc = .wo1)) ||
  (match r with
    | .hubStatus => true
    | .hstFunc => true
    | .tunCtrl => true
    | .tunUdp => true
    | .tunDscp => true
    | .tunTimeout => true
    | .portCfg => true
    | .coreMemsplit => true
    | .mbxStatus => true
    | _ => false)

/-! The sub-blocks of Table 19-7, each register with the count of its index, in the order of the named tables (R481). -/

def hubTable : List (Reg × Nat) :=
  [(.hubId, 1), (.hubFwrel, 1), (.hubStatus, 1), (.hubLock, 1), (.hubRegerr0, 1), (.hubRegerr1, 1), (.hubRegerrcnt,
   1), (.hubCifault0, 1), (.hubCifault1, 1), (.hubCicnt, 1)]

def carTable : List (Reg × Nat) :=
  [(.carStatus, 1), (.carStep0, 1), (.carStep1, 1), (.carBeat0, 1), (.carBeat1, 1), (.carMapgen, 1), (.carTerm, 1),
   (.carRestore0, 1), (.carRestore1, 1), (.carCkptstat, 1), (.carLatebnd, 1), (.carRollbacks, 1)]

def schTable : List (Reg × Nat) :=
  [(.schCfg, 88)]

def hostTable : List (Reg × Nat) :=
  [(.hstFunc, 1), (.hstApbase, 1), (.hstIvmap, 256), (.hstAperr, 1), (.hstRderr, 1)]

def monTable : List (Reg × Nat) :=
  [(.monTemp, 32), (.monVolt, 49), (.monProc, 49), (.monClkstep, 49), (.monThrcnt, 1), (.monVthrcnt, 1),
   (.monPwrthr, 1), (.monReplace, 1), (.monSubst, 1), (.monSbcfg, 1), (.monSbstat, 1), (.monSbglitch, 1),
   (.monSbrate, 1), (.monSynccap0, 1), (.monSynccap1, 1), (.monLoglost, 1)]

def tunTable : List (Reg × Nat) :=
  [(.tunCtrl, 1), (.tunUdp, 1), (.tunDscp, 1), (.tunTimeout, 1), (.tunRtsel, 1), (.tunRtstat, 1), (.tunRetx, 1),
   (.tunDupdrop, 1), (.tunStale, 1), (.tunCrcdrop, 1), (.tunNotready, 1), (.tunBusy, 1), (.tunCl0late, 1),
   (.tunFinj, 1), (.tunFinjseed, 1), (.tunFinjcnt, 1)]

def codecTable : List (Reg × Nat) :=
  [(.cdcMode, 1), (.cdcDrop, 1), (.cdcPipeflt, 1)]

def decodeTable : List (Reg × Nat) :=
  [(.cdcDstat, 1), (.cdcDtail, 1), (.cdcDhead, 1), (.cdcDout, 1), (.cdcDrelease, 1), (.cdcDbad, 1)]

def encodeTable : List (Reg × Nat) :=
  [(.cdcEstat, 1), (.cdcEtail, 1), (.cdcEhead, 1), (.cdcEcommit, 1), (.cdcEgen, 1), (.cdcEframe, 1), (.cdcErel, 1),
   (.cdcEreenc, 1), (.cdcEskip, 1), (.cdcEroistale, 1)]

def memTable : List (Reg × Nat) :=
  [(.memStatus, 1), (.memChstat, 272), (.memLanemap, 272), (.memCecnt, 272), (.memUecnt, 272), (.memUelog0, 1),
   (.memUelog1, 1)]

def portTable : List (Reg × Nat) :=
  [(.portCfg, 1), (.portStatus, 1), (.portCtrl, 1), (.portPeer, 1), (.portFecce, 1), (.portFecue, 1), (.portRxdrop,
   1), (.portSecdrop, 1), (.portPauseign, 1), (.portTxcl0, 1), (.portFinj, 1), (.portFinjseed, 1), (.portFinjcnt,
   1)]

def tenantTable : List (Reg × Nat) :=
  [(.tenNumcfg, 1), (.tenPlanid0, 1), (.tenPlanid1, 1), (.tenRunsize, 1), (.tunEpoch, 1), (.tunStepflr0, 1),
   (.tunStepflr1, 1)]

def homeTable : List (Reg × Nat) :=
  [(.thCfg, 1), (.thCmd, 1), (.thCmdstat, 1), (.thEntry, 8), (.thColdcnt, 1), (.thFillcnt, 1), (.thStaleupd, 1),
   (.thPackin, 1), (.thPackout, 1)]

def queueTable : List (Reg × Nat) :=
  [(.queCtrl, 1), (.queStatus, 1), (.queRingbase, 1), (.queRinghead, 1), (.queRingtail, 1), (.queSlip, 1),
   (.queLateevt, 1), (.queLdinfo, 1), (.queLdrow, 1)]

def kilnTable : List (Reg × Nat) :=
  [(.klnQtail, 1), (.klnQhead, 1), (.klnQstatus, 1), (.klnQoldest, 1), (.klnQfill, 1), (.klnQpad, 1), (.klnQlate,
   1), (.klnQdrop, 1)]

def kilnFaultTable : List (Reg × Nat) :=
  [(.klnFault0, 1), (.klnFault1, 1), (.klnFault2, 1), (.klnFault3, 1)]

def core1Table : List (Reg × Nat) :=
  [(.coreNumsat, 1), (.coreNumflush, 1), (.coreNumnan, 1), (.coreNantrap0, 1), (.coreNantrap1, 1), (.coreNantrap2,
   1), (.coreNantrap3, 1)]

def core2Table : List (Reg × Nat) :=
  [(.coreBankstate, 1), (.coreArrissue, 1), (.coreStalledge, 1), (.coreStallopnd, 1), (.coreStallbank, 1)]

def core3Table : List (Reg × Nat) :=
  [(.coreMemsplit, 1), (.coreRestovr, 1)]

def core4Table : List (Reg × Nat) :=
  [(.coreVecissue, 1), (.coreStallland, 1), (.coreVecid, 1)]

def core5Table : List (Reg × Nat) :=
  [(.coreMlink, 1), (.coreMhalowait, 1), (.coreMreplay, 1), (.coreMtxbytes, 1)]

def core6Table : List (Reg × Nat) :=
  [(.coreCbdir, 1), (.coreCbstate, 1), (.coreStallcb, 1), (.coreBrkfault0, 1), (.coreBrkfault1, 1)]

def mailboxTable : List (Reg × Nat) :=
  [(.mbxLock, 1), (.mbxStatus, 1), (.mbxPtrlo, 1), (.mbxPtrhi, 1), (.mbxLen, 1), (.mbxPost, 1), (.mbxTag, 1),
   (.mbxAck, 1), (.mbxRxbuf0, 1), (.mbxRxbuf1, 1)]

/-- A sub-block: where it starts in its block, how far apart its copies lie, how many there are, its registers. -/
structure SubBlock where
  start : Nat
  stride : Nat
  copies : Nat
  table : List (Reg × Nat)
  deriving DecidableEq, Repr

/-- A block of a BAR: the type of its common header (0: none), first offset, distance of its instances (Table 19-6). -/
structure Block where
  typ : Nat
  base : Nat
  stride : Nat
  instances : Nat
  subs : List SubBlock
  deriving DecidableEq, Repr

/-- BAR0 (Tables 19-6 and 19-7). -/
def bar0 : List Block :=
  [⟨1, 0, 0x10000, 1, [⟨0x100, 0x100, 1, hubTable⟩, ⟨0x200, 0x200, 1, carTable⟩, ⟨0x400, 0x400, 1, schTable⟩]⟩,
   ⟨2, 0x10000, 0x1000, 9, [⟨0x100, 0xF00, 1, hostTable⟩]⟩,
   ⟨3, 0x20000, 0x10000, 1, [⟨0x100, 0xF00, 1, monTable⟩]⟩,
   ⟨4, 0x30000, 0x10000, 1, [⟨0x100, 0xF00, 1, tunTable⟩]⟩,
   ⟨5, 0x40000, 0x10000, 1,
     [⟨0x100, 0x100, 1, codecTable⟩, ⟨0x2000, 0x20, 256, decodeTable⟩, ⟨0x4000, 0x40, 64, encodeTable⟩]⟩,
   ⟨6, 0x50000, 0x10000, 1, [⟨0x100, 0x1F00, 1, memTable⟩]⟩,
   ⟨7, 0x60000, 0x1000, 32, [⟨0x100, 0xF00, 1, portTable⟩]⟩,
   ⟨8, 0x100000, 0x10000, 8,
     [⟨0x100, 0x100, 1, tenantTable⟩, ⟨0x200, 0x100, 1, homeTable⟩, ⟨0x1000, 0x100, 16, queueTable⟩,
      ⟨0x2000, 0x100, 16, kilnTable⟩, ⟨0x3000, 0x100, 1, kilnFaultTable⟩]⟩,
   ⟨9, 0x200000, 0x10000, 16,
     [⟨0x100, 0x100, 1, core1Table⟩, ⟨0x200, 0x100, 1, core2Table⟩, ⟨0x300, 0x100, 1, core3Table⟩,
      ⟨0x400, 0x100, 1, core4Table⟩, ⟨0x500, 0x100, 1, core5Table⟩, ⟨0x600, 0x100, 1, core6Table⟩]⟩]

/-- The mailbox pages of BAR2 (Table 18-3); they have no common header. -/
def bar2 : List Block := [⟨0, 0, 0x1000, 64, [⟨0, 0x1000, 1, mailboxTable⟩]⟩]

/-- Word `w` of a register table: the register there and its index (R481). -/
def tableAt : List (Reg × Nat) → Nat → Option (Reg × Nat × Nat)
  | [], _ => none
  | (r, n) :: t, w => if w < n then some (r, n, w) else tableAt t (w - n)

/-- The word offset of register `r` in a table, with its count. -/
def tableFind : List (Reg × Nat) → Reg → Option (Nat × Nat)
  | [], _ => none
  | (r', n) :: t, r => if r = r' then some (0, n) else (tableFind t r).map fun p => (p.1 + n, p.2)

/-- The register at byte `o` of block instance `b` among the sub-blocks; the result's index counts
instance, copy and table index together. -/
def subsAt (b : Nat) : List SubBlock → Nat → Option (Reg × Nat)
  | [], _ => none
  | sb :: t, o =>
    if sb.start ≤ o ∧ o < sb.start + sb.stride * sb.copies then
      let k := (o - sb.start) / sb.stride
      match tableAt sb.table ((o - sb.start) % sb.stride / 4) with
      | some (r, n, j) => some (r, (b * sb.copies + k) * n + j)
      | none => none
    else subsAt b t o

/-- The register at an offset of a BAR (R480, R481); none at a reserved or unaligned offset. -/
def blocksAt : List Block → Nat → Option (Reg × Nat)
  | [], _ => none
  | bl :: t, off =>
    if bl.base ≤ off ∧ off < bl.base + bl.stride * bl.instances then
      let b := (off - bl.base) / bl.stride
      let o := (off - bl.base) % bl.stride
      if o % 4 ≠ 0 then none
      else if bl.typ ≠ 0 ∧ o = 0 then some (.blkId, bl.typ * 256 + b)
      else if bl.typ ≠ 0 ∧ o = 4 then some (.blkStatus, bl.typ * 256 + b)
      else subsAt b bl.subs o
    else blocksAt t off

/-- The register at a BAR0 offset as PF0 sees it. -/
def regAt (off : Nat) : Option (Reg × Nat) := blocksAt bar0 off

/-- The register at a BAR2 offset, doorbells apart. -/
def regAt2 (off : Nat) : Option (Reg × Nat) := blocksAt bar2 off

/-- Where a register's instance `i` lies among sub-blocks: block instance and byte offset in the block. -/
def subsFind : List SubBlock → Reg → Nat → Option (Nat × Nat)
  | [], _, _ => none
  | sb :: t, r, i =>
    match tableFind sb.table r with
    | some (w, n) => some (i / n / sb.copies, sb.start + sb.stride * (i / n % sb.copies) + 4 * (w + i % n))
    | none => subsFind t r i

/-- The block type, instance, block byte offset and BAR offset of instance `i` of register `r`. -/
def blocksFind : List Block → Reg → Nat → Option (Nat × Nat × Nat × Nat)
  | [], _, _ => none
  | bl :: t, r, i =>
    match subsFind bl.subs r i with
    | some (b, o) => some (bl.typ, b, o, bl.base + bl.stride * b + o)
    | none => blocksFind t r i

/-- Where instance `i` of register `r` lies: block type, block instance, offset in the block, offset in BAR0 (or in
BAR2 for a mailbox register). -/
def regPlace (r : Reg) (i : Nat) : Nat × Nat × Nat × Nat := (blocksFind (bar0 ++ bar2) r i).getD (0, 0, 0, 0)

/-- How many instances a register has over all blocks of its kind. -/
def regCount (r : Reg) : Nat :=
  ((bar0 ++ bar2).findSome? fun bl => bl.subs.findSome? fun sb =>
    (tableFind sb.table r).map fun p => bl.instances * sb.copies * p.2).getD 0

/-- The key of instance `i` of a register in `State.regs`. -/
def rkey (r : Reg) (i : Nat) : Nat := 256 * i + r.ctorIdx

/-- The register and the instance of a key. -/
def runkey (k : Nat) : Reg × Nat := (Reg.ofNat (k % 256), k / 256)

end Sys2Proof.Machine
end

