-- ==== Sys2Proof/Machine/State.lean ====
section
/-! DEFINITION. The state of one UV96 as plain data. A register's one home is `regs`; what a register shows of a unit
whose state lives elsewhere (bank states, codebook states, held blocks) is computed when it is read. -/
namespace Sys2Proof.Machine

/-- Why a step stops. No meaning of this model raises it (safe): every command has an effect in the spec. -/
inductive Fault where
  /-- Raised by no command. -/
  | none
  deriving DecidableEq, Repr

/-- Why a command has no meaning. -/
inductive Refusal where
  /-- The command of the given mnemonic has no meaning yet; raised by the arms of `exec` alone (safe). -/
  | notModelled (mnemonic : String)
  deriving DecidableEq, Repr

/-- What the module is doing as a whole (R484, R486, R493, R494, R506, R532). -/
inductive Phase where
  | off | rails | idle | starting | ready | failed | recovery | shutdown | dark | disconnected
  deriving DecidableEq, Repr

/-- Power, reset and start-up state (Tables 20-1, 22-2). -/
structure Power where
  phase : Phase
  /-- PWRGD released (R530). -/
  pwrgd : Bool
  /-- REPLACE_N asserted (R519, R506). -/
  replaceN : Bool
  /-- The boot record current at this start gave this BOOTCOUNT (R488). -/
  bootCount : Nat
  /-- Image copy in use (R489); true is B. -/
  copyB : Bool
  /-- Port groups started so far (R487). -/
  groups : Nat
  /-- Memory training is running (R258). -/
  training : Bool
  /-- Every island clock but the control processor's is stopped (R506). -/
  clocksStopped : Bool
  /-- The monitors run from their internal oscillator (R535). -/
  internalOsc : Bool
  /-- VF Enable of the PCIe configuration space (R441, R494). -/
  vfEnable : Bool
  /-- HUB_LOCK has taken its first write (R472). -/
  lockWritten : Bool
  /-- A warm reset is held asserted (PERST_N low). -/
  perst : Bool
  deriving DecidableEq, Repr

/-- Module time (R351, R520): PTP time, whether the servo is locked, and time since PERST_N release. -/
structure Clock where
  ptp : Nat
  locked : Bool
  since : Nat
  deriving DecidableEq, Repr

/-- Flash and fuses (Table 20-2, R491, R520). -/
structure Flash where
  copyA : Option Image
  copyB : Option Image
  rec0 : Option BootRec
  rec1 : Option BootRec
  fuses : Fuses
  /-- Records of the repair area, newest first. -/
  repair : List LogRec
  /-- Records of the ring, newest first. -/
  ring : List LogRec
  logSeq : Nat
  /-- The second of module time and the ring records written in it (R522). -/
  logSecond : Nat
  logCount : Nat
  deriving DecidableEq, Repr

/-- One sideband input beyond what MON_SBSTAT shows (R508 to R511). -/
structure Sideband where
  /-- STUCK holds the input until a deassertion qualifies. -/
  held : Bool
  /-- Time of the last assertion acted on. -/
  lastActed : Option Nat
  /-- The second in which the last CHATTER record was written. -/
  chatSecond : Option Nat
  deriving DecidableEq, Repr

/-- A rollback in progress (R361). -/
structure Rollback where
  restart : Nat
  checkpoint : Bool
  gen : Nat
  deriving DecidableEq, Repr

/-- A tenant reset that waits for the end of a core substitution (R517): the mailbox whose service asked for it, or the
rollback that it belongs to. -/
structure ResetWait where
  tenant : Nat
  mailbox : Option Nat
  rollback : Option Rollback
  deriving DecidableEq, Repr

/-- Monitors beyond their registers. -/
structure Mon where
  /-- Consecutive samples at or above critical, by sensor (R506). -/
  hot : SMap Nat
  fault : Sideband
  sync : Sideband
  /-- FAULTACT 1 holds every THERM at 4 (R511). -/
  forced : Bool
  /-- Physical cores that have had a core fault (R513, R516). -/
  dead : List Nat
  /-- Core faults waiting for a spare's self-test: die, logical core, failed core, oldest aborted task per queue. -/
  subst : List (Nat × Nat × Nat × List (Nat × Nat))
  /-- Tenant resets that wait for the end of a substitution (R517). -/
  waiting : List ResetWait
  /-- Sensors that failed before a start, whose consequences firmware takes at the next start (R505). -/
  selfFail : List Nat
  deriving DecidableEq, Repr

/-- A unit that has not yet passed a boundary after an RWB write still applies the value `old` (R467, R468). -/
structure Staged where
  reg : Nat
  unit : Nat
  old : W32
  deriving DecidableEq, Repr

/-- Hidden parity (R476, R477): flips no check has met yet, and registers held by a fault. -/
structure Parity where
  /-- Register key and copy (true: staged) of a flip not yet found. -/
  latent : List (Nat × Bool)
  /-- Register keys of faulted registers. -/
  faulted : List Nat
  deriving DecidableEq, Repr

/-- Memory of both tiers and the yards (Table 10-1), with what the controllers keep about it. -/
structure Mem where
  /-- Bytes by device address; an unlisted byte reads 0. -/
  bytes : SMap Byte
  /-- Poisoned codewords, by address div 64 (R252). -/
  poison : SMap Bool
  /-- Initialised 64 KiB granules (R260). -/
  init : SMap Bool
  /-- Granules below this number of every channel and group are initialised by the background initialiser. -/
  initNext : Nat
  /-- Codewords queued for write-back, by channel index (R251). -/
  writeBack : SMap (List Nat)
  /-- Corrected lanes of the last 64 corrected codewords, newest first, by channel index (R256). -/
  history : SMap (List (List Nat))
  /-- Lanes held as erasures, by channel index, in increasing order (R256). -/
  erased : SMap (List Nat)
  /-- Scrub position by channel index: the next 256-byte unit (R264). -/
  scrub : SMap Nat
  /-- Rows whose retirement waits for a memory rest: bank key and row (R266). -/
  retireQ : List (Nat × Nat)
  /-- Rows retired since training, by bank key (R266). -/
  retired : SMap (List Nat)
  /-- By row key, 4 × the last scrub pass that corrected the row + the consecutive passes that did (R266). -/
  scrubRow : SMap Nat
  /-- Periodic calibrations taken, by channel index (R264). -/
  calibrated : SMap Nat
  /-- Refreshes taken, by bank key (R261). -/
  refreshed : SMap Nat
  /-- Stored codewords in error, by address div 64: the symbols in error and their error patterns (R249 to R251). -/
  latent : SMap (List (Nat × Nat))
  deriving DecidableEq, Repr

/-- A tensor home table entry (Table 11-1), word by word. -/
structure HEntry where
  w0 : W32
  w1 : W32
  w2 : W32
  w3 : W32
  w4 : W32
  w5 : W32
  w6 : W32
  w7 : W32
  deriving DecidableEq, Repr

/-- The entry of a FREE handle at reset. -/
def HEntry.free : HEntry := ⟨0, 0, 0, 0, 0, 0, 0, 0⟩

/-- A running fill (R278): tenant, handle, its writer's class, and the next offset. -/
structure Fill where
  tenant : Nat
  handle : Nat
  cls : Nat
  next : Nat
  deriving DecidableEq, Repr

/-- A MOVE in its phases (R282, R287). -/
structure MoveRec where
  tenant : Nat
  queue : Nat
  /-- Serial number of the MOVE task. -/
  task : Nat
  handle : Nat
  gen : Nat
  /-- Destination: 0 yard, 1 fast tier, 2 bulk tier, 3 peer. -/
  dkind : Nat
  dcore : Nat
  daddr : Nat
  node : Nat
  route : Nat
  pack : Bool
  /-- Physical addresses of the source and of a local destination. -/
  src : Nat
  dst : Nat
  /-- Next byte to copy, and bytes in all. -/
  next : Nat
  total : Nat
  switched : Bool
  /-- The peer has acknowledged the commit (R287); true for a local MOVE. -/
  acked : Bool
  /-- Its queue's core has failed after the switch: the MOVE goes on without its task (R545). -/
  detached : Bool := false
  deriving DecidableEq, Repr

/-- A scoreboard entry (R118): 0 EMPTY, 1 READY, 2 VOID. -/
structure SbEntry where
  st : Nat
  handle : Nat
  code : Nat
  deriving DecidableEq, Repr

def SbEntry.empty : SbEntry := ⟨0, 0, 0⟩

/-- A prefetch in a slot (R123). -/
structure PfSlot where
  tenant : Nat
  queue : Nat
  index : Nat
  handle : Nat
  gen : Nat
  /-- Zeros are written instead of a read (R277). -/
  zeros : Bool
  src : Nat
  bytes : Nat
  dst : Nat
  entry : Nat
  /-- The translation was to the source of a MOVE (R283). -/
  oldHome : Bool
  deriving DecidableEq, Repr

/-- Bank states of Table 3-6. -/
inductive BankSt where
  | empty | held | busy | void
  deriving DecidableEq, Repr

/-- What a BUSY bank is busy with. -/
inductive BankUse where
  | none | sweep | landed | drain
  deriving DecidableEq, Repr

/-- An accumulator bank: 256 × 256 F32 values keyed 256 r + c (R88). -/
structure Bank where
  st : BankSt
  use : BankUse
  data : SMap W32
  /-- Tenant queue 16t + q and task serial that own the sweep or drain. -/
  owner : Nat × Nat
  /-- Number of the sweep within its task: the block that a drain of it fills. -/
  tag : Nat
  deriving DecidableEq, Repr

def Bank.init : Bank := ⟨.empty, .none, [], (0, 0), 0⟩

/-- One half of an edge file (R77): its bytes in the tile order of the yard, and where they came from. -/
structure EdgeHalf where
  full : Bool
  /-- Filled through the return path by STE (R164). -/
  fromEngine : Bool
  bytes : SMap Byte
  /-- Queue and descriptor index of the array task whose first tile a prologue loaded (R127). -/
  chosen : Nat × Nat
  /-- Chunks that programs which have ended put there, and those of a running program (R164). -/
  loaded : List Nat
  coming : List Nat
  deriving DecidableEq, Repr

def EdgeHalf.init : EdgeHalf := ⟨false, false, [], (0, 0), [], []⟩

/-- An edge file: the active and the shadow half (R77). -/
structure EdgeFile where
  active : EdgeHalf
  shadow : EdgeHalf
  deriving DecidableEq, Repr

def EdgeFile.init : EdgeFile := ⟨.init, .init⟩

/-- A landing buffer (R163): free, or a bank's F32 values keyed 256 r + c with the vectors taken so far. -/
structure Landing where
  full : Bool
  data : SMap W32
  taken : Nat
  /-- The array whose bank it holds, and the owning queue and task serial. -/
  array : Nat
  owner : Nat × Nat
  deriving DecidableEq, Repr

def Landing.init : Landing := ⟨false, [], 0, 0, (0, 0)⟩

/-- A vector program context (Table 5-1): registers keyed 2048 v + lane, masks keyed 2048 m + lane. -/
structure VecCtx where
  running : Bool
  /-- Yard byte address of the program image, and whether it is a drain program. -/
  prog : Nat
  drainProg : Bool
  pc : Nat
  v : SMap W32
  m : SMap Bool
  s : SMap W32
  p : SMap W32
  /-- REP frames, innermost first: first instruction, end, iterations left (R143). -/
  reps : List (Nat × Nat × Nat)
  seed : W64
  owner : Nat × Nat
  /-- The landing buffer a drain program consumes. -/
  buffer : Nat
  deriving DecidableEq, Repr

def VecCtx.init : VecCtx := ⟨false, 0, false, 0, [], [], [], [], [], 0, (0, 0), 0⟩

/-- The array task in hand on a core: its queue and serial, and how far it has come (R181, R210). -/
structure ArrJob where
  owner : Nat × Nat
  desc : List W32
  /-- Tile boundaries of the running sweep still ahead at edge files 0 and 1 (R80). -/
  left0 : Nat
  left1 : Nat
  /-- Sweeps begun (CONV), or the chunk in hand (FUSED2). -/
  chunk : Nat
  /-- Sweeps still to begin. -/
  more : Nat
  /-- FUSED2: banks of the chunk taken from the landing buffers, by array. -/
  got : SMap (SMap W32)
  /-- FUSED2: intermediate tiles still to sweep, as B16 values keyed 512 r + k. -/
  pending : List (SMap W32)
  /-- FUSED2: the intermediate tile in the edge file, its number, and the next block of the result. -/
  tile : SMap W32
  tileNo : Nat
  block : Nat
  /-- FUSED2: every tile of the second product so far was the first contribution to its block. -/
  firstTile : Bool
  /-- FUSED2: 0 first product of the chunk, 1 second product, 2 ready for the next chunk, 3 all steps issued. -/
  phase : Nat
  /-- FUSED2: the 16 words of the row-function record as read at the task's start (R192). -/
  rowRec : List W32
  deriving DecidableEq, Repr

def ArrJob.start (owner : Nat × Nat) (desc : List W32) : ArrJob :=
  { owner := owner, desc := desc, left0 := 0, left1 := 0, chunk := 0, more := 0, got := [], pending := [], tile := [],
    tileNo := 0, block := 0, firstTile := true, phase := 0, rowRec := [] }

/-- Online softmax state of a FUSED2 task (R162): m and l by row, o keyed 4096 r + j. -/
structure Softmax where
  m : SMap W32
  l : SMap W32
  o : SMap W32
  a : SMap W32
  deriving DecidableEq, Repr

def Softmax.init : Softmax := ⟨[], [], [], []⟩

/-- A halo exchange of an issued CONV (R217). -/
structure Halo where
  owner : Nat × Nat
  desc : List W32
  /-- Time of the issue, in ns since PERST_N release (R219). -/
  issued : Nat
  /-- Links (0 N, 1 S, 2 E, 3 W) whose ready token has come and matches; links whose phase's token has come, after which
  this core sends; and links whose data have landed. -/
  ready : List Nat
  tokens : List Nat
  landed : List Nat
  /-- Links whose outbound data the partner has. -/
  acked : List Nat
  started : Bool
  phase : Nat
  /-- A partner's CONV has aborted before its data had landed here (R219). -/
  gone : Bool
  deriving DecidableEq, Repr

/-- A rest window open on a core (R131): its queue, when its length runs out in ns since PERST_N release, and whether
its WAIT still waits. -/
structure Rest where
  queue : Nat
  ends : Nat
  waiting : Bool
  deriving DecidableEq, Repr

/-- A codebook bank of a brick port (R236): its CBID and form (row of Table 9-1), its entries, and while it loads the
yard address of the image and the queue and descriptor index that chose the load. -/
structure CbBank where
  valid : Bool
  loading : Bool
  inUse : Bool
  cbid : Nat
  form : Nat
  entries : List Byte
  addr : Nat
  chosen : Nat × Nat
  /-- The stream of the chosen task that the port reads (R242). -/
  stream : Nat
  deriving DecidableEq, Repr

def CbBank.init : CbBank := ⟨false, false, false, 0, 0, [], 0, (0, 0), 0⟩

/-- A brick buffer of a port (R240): the number of its brick in the stream, the brick's bytes, and the queue and descriptor
index of the task that it was read for. -/
structure BrickBuf where
  full : Bool
  chosen : Nat × Nat
  num : Nat
  bytes : List Byte
  deriving DecidableEq, Repr

def BrickBuf.init : BrickBuf := ⟨false, (0, 0), 0, []⟩

/-- A failing check of Table 9-4 met for a task before its issue: its queue and descriptor index, and the fault code with
which it aborts (R241). -/
structure ChosenFail where
  chosen : Nat × Nat
  code : Nat
  deriving DecidableEq, Repr

/-- A message landed over a mortar link: its link here, destination handle, length in 256-byte units, fault code of a
refused write, and the bytes that a forwarding REDUCE stage sent for the receiving stage's DST (R381, R382). -/
structure Landed where
  link : Nat
  handle : Nat
  len : Nat
  code : Nat
  bytes : Option (List Byte)
  deriving DecidableEq, Repr

/-- One logical core. -/
structure Core where
  /-- The sequencer stops issuing: a core fault (R513). -/
  stopped : Bool
  sb : SMap SbEntry
  slots : List PfSlot
  /-- Banks keyed 4 array + bank. -/
  banks : SMap Bank
  edges : SMap EdgeFile
  landings : SMap Landing
  vec : VecCtx
  drainVec : VecCtx
  arr : Option ArrJob
  softmax : Softmax
  halo : Option Halo
  rest : Option Rest
  /-- Codebook banks keyed 2 port + bank. -/
  cb : SMap CbBank
  /-- Brick buffers keyed 2 port + the brick's number mod 2 (R240). -/
  ahead : SMap BrickBuf
  /-- Tasks chosen as next array task that have met a failing check (R241). -/
  failed : List ChosenFail
  /-- Links (0 N, 1 S, 2 E, 3 W) whose inbound direction is held failed (R221). -/
  linkFail : List Nat
  /-- A write of CORE_CBDIR empties the codebook banks at the next task boundary (R239). -/
  cbdirWritten : Bool
  /-- Messages landed over mortar links and not yet taken, oldest first (R382). -/
  inbox : List Landed
  deriving DecidableEq, Repr

def Core.init : Core :=
  { stopped := false, sb := [], slots := [], banks := [], edges := [], landings := [], vec := .init, drainVec := .init,
    arr := none, softmax := .init, halo := none, rest := none, cb := [], ahead := [], failed := [], linkFail := [], cbdirWritten := false,
    inbox := [] }

/-- A translation a transfer holds (R276): handle, GEN, 0 for a read, 1 for a plain write, 2 for a write that also reads
its destination, 3 for a destination it only names; whether a MOVE has switched the home since, and whether the tensor was
UNWRITTEN, so that the transfer reads zeros (R277); the device address of the home it translated to. -/
structure Xlate where
  handle : Nat
  gen : Nat
  mode : Nat
  oldHome : Bool
  cold : Bool := false
  addr : Option Nat := none
  deriving DecidableEq, Repr

/-- A task in flight (R113). -/
structure Task where
  serial : Nat
  index : Nat
  iter : Nat
  /-- The descriptor as patched by its LOOPs (R111). -/
  desc : List W32
  /-- Row words P0 to P63 of the enclosing LOOPs (R139). -/
  params : List W32
  xlates : List Xlate
  /-- NUMMODE in force: trap mode (R69, R70). -/
  trap : Bool
  sat : Nat
  flush : Nat
  nan : Nat
  waited : Nat
  /-- Every effect has landed (R116). -/
  landed : Bool
  /-- Bytes or units still to move, for transfers. -/
  progress : Nat
  /-- Tunil message number of a SEND, MOVE or REDUCE leg (R321). -/
  msg : Nat
  /-- End of the rest window that admitted a class-1 or class-2 task (R131). -/
  windowEnd : Option Nat
  /-- The caravan step current at the issue (R139). -/
  step : Nat
  /-- COUNT of the innermost LOOP around the task as it runs, 0 outside one (R192). -/
  count : Nat
  /-- Module time of the issue, in ns since PERST_N release (R327, R382). -/
  issued : Nat
  deriving DecidableEq, Repr

/-- A task that has ended and whose record waits for those of earlier tasks (R128): fault code, 0 for a completion, and the
module time of its end. -/
structure Ended where
  task : Task
  code : Nat
  ns : Nat
  deriving DecidableEq, Repr

/-- A LOOP being run (R111): index of the LOOP, iteration, its descriptor as enclosing LOOPs patched it. -/
structure LoopFrame where
  index : Nat
  iter : Nat
  desc : List W32
  deriving DecidableEq, Repr

/-- A tenant queue beyond its registers (R104, R113). -/
structure Queue where
  lcore : Nat
  /-- The manifest image, word by word. -/
  img : List W32
  /-- The read of the image met an uncorrectable codeword (R252). -/
  imgBad : Bool
  imgAddr : Nat
  imgLen : Nat
  /-- The mailbox whose QUEUE_OPEN waits for the loader. -/
  mailbox : Option Nat
  loading : Bool
  /-- GO held while RUNNING or while loading (Table 4-9, R177). -/
  goHeld : Bool
  next : Nat
  loops : List LoopFrame
  tasks : List Task
  /-- Prefetch entries eligible, in table order, with their iteration (R122). -/
  eligible : List (Nat × Nat)
  /-- Triggers whose one-time eligibility was used since the last start. -/
  fired : List Nat
  /-- The late-manifest event of this step has been raised (R130). -/
  lateSent : Bool
  /-- Serial of an issued FENCE that keeps later tasks back (R117). -/
  fence : Option Nat
  /-- GEN of the prefetch sources at load, by handle (R294). -/
  gens : SMap Nat
  /-- Tasks completed since the last step boundary (R358). -/
  ended : Nat
  /-- The completion ring holds 1,024 records, so that HEAD equals TAIL as it does when empty (R113, R128). -/
  ringFull : Bool
  /-- Ended tasks whose records wait, in the order of their issue (R128). -/
  unrecorded : List Ended
  deriving DecidableEq, Repr

def Queue.init : Queue :=
  { lcore := 0, img := [], imgBad := false, imgAddr := 0, imgLen := 0, mailbox := none, loading := false, goHeld := false, next := 0,
    loops := [], tasks := [], eligible := [], fired := [], lateSent := false, fence := none,
    gens := [], ended := 0, ringFull := false, unrecorded := [] }

/-- A request at a shared unit (R35): tenant, class, deadline of a class-1 request, what it is for. -/
structure Req where
  tenant : Nat
  cls : Nat
  deadline : Nat
  /-- 0 fill burst, 1 MOVE burst, 2 Kiln sample, 3 codec frame, 4 Tunil segment. -/
  kind : Nat
  key : Nat
  deriving DecidableEq, Repr

/-- A shared unit (R35 to R39). -/
structure SharedUnit where
  queue : List Req
  /-- The oldest grant in progress. -/
  holder : Option Req
  /-- The holder's tenant was reset: its result is discarded (R39). -/
  discard : Bool
  /-- Last tenant served in class 0, for round robin. -/
  last0 : Nat
  /-- Credits left in the class-2 round by tenant, and the tenant whose turn it is. -/
  credit : SMap Nat
  turn2 : Nat
  /-- Requests completed busy, by tenant (R38). -/
  dropped : SMap Nat
  /-- Requests that have their busy status and wait for room to ask again (R38). -/
  busy : List Req
  /-- Later grants in progress on other engines of the tier movers, oldest first, with their discards (R293). -/
  more : List (Req × Bool)
  deriving DecidableEq, Repr

def SharedUnit.init : SharedUnit :=
  { queue := [], holder := none, discard := false, last0 := 7, credit := [], turn2 := 0, dropped := [], busy := [], more := [] }

/-- A running service of a receiving processor (R456). -/
structure Svc where
  active : Bool
  func : Nat
  code : Nat
  /-- Words of the body after its 16-byte header. -/
  body : List W32
  /-- The service has begun and waits for its end. -/
  begun : Bool
  /-- Return code once the service has ended. -/
  result : Option Nat
  deriving DecidableEq, Repr

def Svc.init : Svc := ⟨false, 0, 0, [], false, none⟩

/-- A queued D2H notice (R458): code and body words after the header. -/
structure Notice where
  code : Nat
  body : List W32
  deriving DecidableEq, Repr

/-- The host link beyond its registers. -/
structure HostLink where
  /-- Function that posted each H2D mailbox's notice (R453). -/
  poster : SMap Nat
  svc : SMap Svc
  /-- D2H notices queued by mailbox, oldest first (R458). -/
  d2h : SMap (List Notice)
  /-- MSI-X vector masked, keyed 256 f + v; reset masked (R441). -/
  unmasked : SMap Bool
  pba : SMap Bool
  /-- Bus Master Enable by function (R447). -/
  busMaster : SMap Bool
  /-- Latched high halves of CAR_STEP and CAR_BEAT (R376). -/
  latchStep : Option W32
  latchBeat : Option W32
  /-- Installed secure associations: port, direction (1 transmit), AN, next packet number (R307). -/
  sas : List (Nat × Nat × Nat × Nat)
  /-- Key material of the associations, by 8 port + 4 direction + AN: the body of SAK_INSTALL from SSCI on, or the key
  reference of the image alone (R307, R461). -/
  saKeys : SMap (List W32)
  deriving DecidableEq, Repr

/-- A segment waiting at a port with its priority (R322). -/
structure TxFrame where
  pcp : Nat
  fw : Bool
  /-- Local route, in the table that `fw` names. -/
  route : Nat
  seg : Seg
  /-- Bit of the payload that a route injection flips, and whether the FCS covers the flip (R340). -/
  flip : Option (Nat × Bool)
  deriving DecidableEq, Repr

/-- A frame on the wire (R314): a Tunil frame with its bytes, or a MAC frame of PCP 7 (kind and argument as in `Emit`). -/
inductive WireFrame where
  | tunil (f : TxFrame) (bytes : List Byte)
  | mac (kind arg : Nat)
  deriving DecidableEq, Repr

/-- A received frame in a share of the receive buffer until its segment is taken (R302, R304): key of the route it names,
share, bytes. -/
structure RxHeld where
  key : Nat
  share : Nat
  len : Nat
  deriving DecidableEq, Repr

/-- An Ethernet port beyond its registers. -/
structure Port where
  txq : List TxFrame
  /-- The frames that an injection of KIND 3 holds, at most one of a PCP, oldest first (R314). -/
  held : List WireFrame
  /-- Complete frames in the receive buffer, oldest first. -/
  rx : List RxHeld
  injNo : Nat
  /-- Receive share occupancy in bytes by class (R304). -/
  used0 : Nat
  used1 : Nat
  used2 : Nat
  /-- XOFF stands sent for PCP 4, PCP 2; pause stands received for PCP 4, PCP 2 (R305). -/
  xoff4 : Bool
  xoff2 : Bool
  paused4 : Bool
  paused2 : Bool
  /-- Consecutive failed bring-up attempts, and whether the first attempt of this start has ended (R311, R486). -/
  fails : Nat
  firstEnded : Bool
  /-- A partner TLV has matched since link-up (R301). -/
  matched : Bool
  verifyFails : Nat
  /-- ETS bytes served at PCP 4 and PCP 2 in the round (R303). -/
  ets4 : Nat
  ets2 : Nat
  /-- Transmit AN in use (R308). -/
  an : Nat
  /-- PCP 6 bytes sent beyond the whole units that PORT_TXCL0 counts. -/
  cl0Bytes : Nat
  /-- Chassis ID of the partner on a switch port (R301). -/
  chassis : Option Nat
  /-- Data set of the last Announce on the port (R309). -/
  foreign : Option (List Nat)
  deriving DecidableEq, Repr

def Port.init : Port :=
  { txq := [], held := [], rx := [], injNo := 0, used0 := 0, used1 := 0, used2 := 0, xoff4 := false, xoff2 := false,
    paused4 := false, paused2 := false, fails := 0, firstEnded := false, matched := false, verifyFails := 0, ets4 := 0,
    ets2 := 0, an := 0, cl0Bytes := 0, chassis := none, foreign := none }

/-- A sequenced segment sent and not acknowledged (R325). -/
structure TxSeg where
  seg : Seg
  /-- Queue and task serial of the message; (0, 0) for a firmware transfer. -/
  task : Nat × Nat
  port : Nat
  tries : Nat
  /-- Due for retransmission at once after a port loss (R332). -/
  due : Bool
  deriving DecidableEq, Repr

/-- A segment of a message not yet sent (R321): its header, the device address and length of its payload (no address:
zeros of a cold source), and the queue and task serial of its message. -/
structure TxPlan where
  seg : Seg
  src : Option Nat
  len : Nat
  task : Nat × Nat
  /-- The payload of a segment whose bytes the firmware holds itself. -/
  bytes : List Byte := []
  deriving DecidableEq, Repr

/-- A message being received (R327, R328). -/
structure RxMsg where
  msgNo : Nat
  segCnt : Nat
  /-- Segment indexes written, and bytes of the last segment once known. -/
  got : List Nat
  lastLen : Nat
  handle : Nat
  gen : Nat
  start : Nat
  tstamp : Nat
  cls : Nat
  /-- Fault code of a refused message; 0 if none, 256 for a message below the step floor (R336). -/
  code : Nat
  /-- DATA of a MOVE, and all of it written: its COMMIT is awaited (R287). -/
  move : Bool
  commit : Bool
  /-- Address of the tensor as translated, and its bytes. -/
  addr : Nat
  extent : Nat
  /-- Bytes past the message become +0 at delivery (R289). -/
  tail : Bool
  /-- A MOVE has switched the tensor's home since the translation (R282). -/
  oldHome : Bool := false
  deriving DecidableEq, Repr

/-- A delivered message in a route's receive queue (R327): handle, length in 256-byte units, fault code. -/
structure Delivery where
  msgNo : Nat
  handle : Nat
  len : Nat
  code : Nat
  deriving DecidableEq, Repr

/-- A route (R318, R319). -/
structure Route where
  /-- 0 CLOSED, 1 OPENING, 2 OPEN, 3 RESET, 4 TIMEDOUT. -/
  st : Nat
  /-- Held under a NOT_READY or BUSY retry-after (R329, R337). -/
  held : Bool
  /-- The segment that goes alone until it is acknowledged (R329, R337). -/
  solo : Option Nat
  /-- The segment that a BUSY refused: it goes first when the retry-after ends (R329). -/
  retry : Option Nat
  cls : Nat
  tenant : Nat
  peerRoute : Nat
  peerNode : Nat
  peerTenant : Nat
  hops : Nat
  ports : Nat
  peerEpoch : Nat
  txSeq : Nat
  txMsg : Nat
  toSend : List TxPlan
  unacked : List TxSeg
  rxNext : Nat
  rxMarks : List Nat
  rxPending : Nat
  msgs : List RxMsg
  rxMsg : Nat
  rxQueue : List Delivery
  /-- PARTICIPANT_RESET stands sent and unacknowledged (R334). -/
  resetSent : Bool
  /-- The mailbox whose ROUTE_OPEN waits for this route. -/
  mailbox : Option Nat
  /-- A Kiln route: the Kiln takes every message it delivers (R396). -/
  kiln : Bool
  deriving DecidableEq, Repr

def Route.init : Route :=
  { st := 0, held := false, solo := none, retry := none, cls := 0, tenant := 0, peerRoute := 0, peerNode := 0xFFFF, peerTenant := 0,
    hops := 0, ports := 0, peerEpoch := 0, txSeq := 0, txMsg := 0, toSend := [], unacked := [], rxNext := 0,
    rxMarks := [], rxPending := 0, msgs := [], rxMsg := 0, rxQueue := [], resetSent := false, mailbox := none, kiln := false }

/-- The Tunil engines: routes keyed r for the tenant table and 16384 + r for the firmware table (R318). -/
structure Tunil where
  routes : SMap Route
  /-- Boot epoch of firmware routes (R333). -/
  bootEpoch : Nat
  /-- Module time of the last NOT_READY by 65536 × route key + source node (R337). -/
  notReadyAt : SMap Nat
  injNo : Nat
  /-- The frame a route injection of KIND 3 holds (R340): port and frame. -/
  held : Option (Nat × TxFrame)
  deriving DecidableEq, Repr

/-- The caravan record of the plan in force (Table 14-4). -/
structure CarPlan where
  logicalSize : Nat
  stepReplay : Bool
  swap : Bool
  ckptEvery : Nat
  bonds : List Nat
  serials : List Nat
  stepLimit : Nat
  lead : Nat
  probeWait : Nat
  firstStep : Nat
  ckptList : List Nat
  ckptBase : Nat
  slotGib : Nat
  deriving DecidableEq, Repr

/-- A STEP_GO that waits for its beat (R356). -/
structure StepGo where
  step : Nat
  beat : Nat
  freeze : Bool
  gen : Nat
  deriving DecidableEq, Repr

/-- A module known by its JOIN (R354). -/
structure Joined where
  serial : Nat
  bond : Nat
  slot : Nat
  /-- Image role, and the base address that the JOIN came from. -/
  role : Nat
  addr : Nat
  deriving DecidableEq, Repr

/-- What the acting master keeps (R353 to R375). -/
structure Master where
  joined : List Joined
  started : Bool
  stagesDone : List Nat
  bondsDone : List Nat
  /-- Fault codes reported in the step, with the reporting node (R360). -/
  reports : List (Nat × Nat)
  collecting : Bool
  probed : List Nat
  failed : List Nat
  /-- Failures of each step (R362). -/
  fails : SMap Nat
  /-- Modules still to answer ALIVE after a rollback. -/
  awaiting : List Nat
  rollback : Option Rollback
  homeDone : List Nat
  buddyDone : List Nat
  /-- Number of the next generation, and the step of the generation before it (R365). -/
  nextGen : Nat
  genStep : Nat
  /-- A freeze has been moved to the next boundary (R367). -/
  freezeDue : Bool
  /-- The step whose boundary follows the last replayed step of a substitution: it freezes (R367). -/
  freezeAt : Option Nat
  replaceAsked : List Nat
  /-- A new map, and a rollback, that wait for the standby's acknowledgement (R368). -/
  pendMap : Option (List MapEntry)
  pendGo : Bool
  /-- A restore point that waits for it: generation and step. -/
  pendRestore : Option (Nat × Nat)
  /-- The 100 µs of R360 are over and only probes are awaited. -/
  collectOver : Bool
  /-- Bond ports reported MISCABLED or FAILED, by the serial number of their module: a substitute does not take over its
  predecessor's (R350). -/
  downPorts : List (Nat × Nat)
  /-- Nodes that have acknowledged the map generation in force (R344). -/
  mapAcks : List Nat
  /-- Address and length of each stage's part, as submitted (R353, R370). -/
  parts : List (Nat × Nat)
  lateLog : List (Nat × Nat × Nat × Nat)
  deriving DecidableEq, Repr

def Master.init : Master :=
  { joined := [], started := false, stagesDone := [], bondsDone := [], reports := [], collecting := false, probed := [],
    failed := [], fails := [], awaiting := [], rollback := none, homeDone := [], buddyDone := [], nextGen := 0,
    genStep := 0, freezeDue := false, freezeAt := none, replaceAsked := [], pendMap := none, pendGo := false,
    pendRestore := none, collectOver := false, downPorts := [], mapAcks := [], parts := [], lateLog := [] }

/-- The caravan state beyond Table 14-8. -/
structure Caravan where
  /-- Tenant of the caravan: the image's, or the first to submit a plan (R346). -/
  tenant : Option Nat
  plan : Option CarPlan
  map : List MapEntry
  /-- Map entries received of a generation not yet complete (R344). -/
  incoming : List MapEntry
  incomingGen : Nat
  stepGo : Option StepGo
  /-- STAGE_DONE stands sent for the step (R355). -/
  stageSent : Bool
  /-- The last generation frozen here and its restart step (R365). -/
  lastGen : Option (Nat × Nat)
  /-- By buddy slot, the module whose copy it holds: node, serial number, bytes (R366). -/
  wards : SMap (Nat × Nat × Nat)
  restoring : Option Rollback
  master : Master
  masterNode : Option Nat
  /-- Beat at which the master was last heard. -/
  masterHeard : Nat
  /-- Heads' TAKEOVER answers: node and last beat heard (R372). -/
  takeover : List (Nat × Nat)
  takingOver : Bool
  /-- Snapshot in progress: generation, ID, modules still to report (R375). -/
  snapshot : Option (Nat × Nat × List Nat)
  /-- A snapshot copy of this module is running: generation, ID, target. -/
  snapCopy : Option (Nat × Nat × SnapTarget)
  /-- Heads only: slots of the bond that have reported (R355). -/
  slotsDone : List Nat
  /-- Segments of plan parts arriving (route, message, index, bytes), and the parts received: a spare holds those of its
  bond's slots in order (R370). -/
  partSegs : List (Nat × Nat × Nat × List Byte)
  parts : List CarPlan
  /-- The restore point known here: generation and restart step; the registers follow at a STEP boundary. -/
  restore : Option (Nat × Nat)
  /-- The rollback carried out since the last step boundary. -/
  rolled : Option Rollback
  /-- Class-0 queues that a rollback reloads: queue, core, image address, image bytes (R361 step 5). -/
  reload : List (Nat × Nat × Nat × Nat)
  /-- Routes of the tenant that a rollback re-opens (R361 step 4). -/
  reroutes : List Nat
  /-- The plan as the master has sent it to this standby: the bytes of each part by its number (R372). -/
  planCopy : SMap (List Byte) := []
  deriving DecidableEq, Repr


/-- A Kiln sample in progress (R403): descriptor and parameter words, and what its grants have made so far. -/
structure KSample where
  desc : List W32
  params : List W32
  started : Bool
  /-- Frames granted so far (R405). -/
  frames : Nat
  /-- Host bytes of a KIND 0 source that the reads returned, by host address. -/
  host : SMap (Option Byte)
  /-- Base address of each frame's pixels, host or device (Table 16-4), and the translation of a KIND 1 source (R396). -/
  bases : List Nat
  xlate : Option Xlate
  /-- An UNWRITTEN source reads as zeros (R277). -/
  cold : Bool
  /-- Mesh points as words, and its dimensions (R395). -/
  mesh : List W32
  mx : Nat
  my : Nat
  sat : Bool
  /-- B16 results by feature index within the slot's token rows. -/
  out : SMap W32
  deriving DecidableEq, Repr

/-- Slot states while a batch is open (Table 16-6): 0 claimed, 1 FILLED, 2 FAILED, 3 LATE. -/
structure KSlot where
  st : Nat
  idLo : W32
  idHi : W32
  reason : Nat
  sat : Bool
  ts : Nat
  hs : Nat
  ws : Nat
  deriving DecidableEq, Repr

def KSlot.missing : KSlot := ⟨4, 0, 0, 0, false, 0, 0, 0⟩

/-- A batch of the window that something has named (R403, R406, R407). -/
structure KBatch where
  id : Nat
  slots : SMap KSlot
  closed : Bool
  /-- Deadline beat; none while neither a descriptor nor a KILN_TAKE has set it; 0 is no deadline. -/
  deadline : Option Nat
  /-- Fault code of a failed class-0 batch (R409). -/
  code : Nat
  /-- The batch has been copied or its KILN_TAKE has aborted: it leaves the window (R408, R409). -/
  done : Bool
  /-- Queue and task serial of the KILN_TAKE that names it. -/
  take : Option (Nat × Nat)
  deriving DecidableEq, Repr

/-- A Kiln queue beyond its registers (R392). -/
structure KQueue where
  isOpen : Bool
  record : List W32
  /-- The words of the gamma tensor read at open (R400). -/
  gamma : List W32
  batches : List KBatch
  /-- Samples in progress, oldest first. -/
  samples : List KSample
  deriving DecidableEq, Repr

def KQueue.init : KQueue := ⟨false, [], [], [], []⟩

/-- The Kiln: queues keyed 16 t + k. -/
structure Kiln where
  queues : SMap KQueue
  deriving DecidableEq, Repr

/-- An output picture of a decode context that has not been freed (R420). -/
structure Pic where
  num : Nat
  width : Nat
  height : Nat
  ten : Bool
  bad : Bool
  deriving DecidableEq, Repr

/-- A decode context beyond its registers (Table 17-2). -/
structure DecCtx where
  isOpen : Bool
  record : List W32
  /-- Posted and not yet wholly consumed: how many entries each TAIL write posted, and its beat (R435). -/
  posts : List (Nat × Nat)
  /-- The last consumed entries hold further frames; their beat. -/
  more : Option Nat
  /-- An END entry has been consumed, or the last picture output (R423). -/
  endSeen : Bool
  /-- The pipe that holds the context's frame. -/
  pipe : Option Nat
  /-- A read for a frame met a stop (R422): the next output picture is BAD. -/
  badNext : Bool
  pics : List Pic
  /-- BAD pictures output since the last IRAP picture or key frame (R422). -/
  bads : List Nat := []
  deriving DecidableEq, Repr

def DecCtx.init : DecCtx := ⟨false, [], [], none, false, none, false, [], []⟩

/-- A frame in an encode pipe (R425 to R432). -/
structure EFrame where
  pipe : Nat
  entry : List W32
  deadline : Nat
  roi : List W32
  roiStale : Bool
  key : Bool
  /-- Frame 0 or the first frame after a parameter change (R430). -/
  first : Bool
  failed : Bool
  start : Nat
  pass : Nat
  qp1 : Nat
  qp : Nat
  gen : Nat
  input : Option Xlate
  deriving DecidableEq, Repr

/-- An encode context beyond its registers (Table 17-3). -/
structure EncCtx where
  isOpen : Bool
  record : List W32
  /-- The configuration in force and the one a commit made valid for the next frame (R433). -/
  config : List W32
  nextConfig : Option (List W32)
  /-- BUFSIZE of generation 0. -/
  buf0 : Nat
  /-- Posting beats of entries not admitted. -/
  posts : List Nat
  /-- Frames admitted. -/
  admitted : Nat
  frame : Option EFrame
  /-- The next frame is made a key frame (R430). -/
  keyNext : Bool
  /-- The next frame is the first after a parameter change. -/
  paramNext : Bool
  /-- Fullness of the buffer model before the next removal, in bits (R427). -/
  fullness : Nat
  lastRoi : Option (List W32)
  lastSeen : Bool
  /-- What the context has coded since its open: the encoder's own state (R415, R428). -/
  coded : Nat := 0
  deriving DecidableEq, Repr

def EncCtx.init : EncCtx :=
  { isOpen := false, record := [], config := [], nextConfig := none, buf0 := 0, posts := [], admitted := 0,
    frame := none, keyNext := false, paramNext := false, fullness := 0, lastRoi := none, lastSeen := false }

/-- The codec (R416, R435, R436). -/
structure Codec where
  dec : SMap DecCtx
  enc : SMap EncCtx
  /-- Contexts (true: encode) that must complete a frame before a recovery hold ends. -/
  recover : List (Bool × Nat)
  /-- Contexts that a tenant reset closes when their frame has left its pipe; until then ORDERED holds (R436). -/
  held : List (Bool × Nat)
  /-- Last context admitted in STARTUP and ORDERED, decode and encode. -/
  lastDec : Nat
  lastEnc : Nat
  deriving DecidableEq, Repr

/-- What leaves the module. -/
inductive Emit where
  /-- An MSI-X message of function f, vector v (R448). -/
  | msix (f v : Nat)
  /-- An AER error message of function f; fatal or not. -/
  | aer (f : Nat) (fatal : Bool)
  /-- A completion of a register read. -/
  | reply (f : Nat) (value : W32)
  /-- Completion statuses of a read: Unsupported Request, Completer Abort, Request Retry (R455, R485). -/
  | unsupported (f : Nat)
  | completerAbort (f : Nat)
  | retry (f : Nat)
  /-- A successful completion of a configuration request. -/
  | configDone (f : Nat)
  /-- The data of an aperture read, with the EP bit when poisoned (R446). -/
  | data (f : Nat) (bytes : List Byte) (poisoned : Bool)
  /-- A write of host memory on behalf of function f. -/
  | hostWrite (f addr : Nat) (bytes : List Byte)
  /-- A read of host memory on behalf of function f. -/
  | hostRead (f addr len : Nat)
  /-- A Tunil frame leaves port p, with its bytes from the destination address to the FCS. -/
  | frame (p : Nat) (fr : TxFrame) (bytes : List Byte)
  /-- A MAC frame: kind 0 PFC XOFF, 1 PFC XON (argument: priority), 2 LLDP (serial number, bond, slot, port), 3 PTP Sync
  and 4 the answer to a delay request (the time). -/
  | macFrame (p kind arg : Nat)
  /-- A frame that leaves with one bit flipped, counted from the first bit on the wire, after the FCS was computed or before
  it (R314). -/
  | flipped (p bit : Nat) (fcsOk : Bool) (fr : WireFrame)
  /-- A caravan notice of the given code of Table 14-3 to node: the 256 bytes of its NOTICE segment's payload (R349). -/
  | notice (code node : Nat) (payload : List Byte)
  /-- An output pin changes: 1 REPLACE_N (true: asserted, low), 2 PWRGD (true: released). -/
  | pin (name : Nat) (level : Bool)
  deriving DecidableEq, Repr

/-- The whole module. -/
structure State where
  /-- Commands waiting, the next one first. -/
  pending : List Instr
  power : Power
  clock : Clock
  flash : Flash
  mon : Mon
  staged : List Staged
  parity : Parity
  /-- Registers by `rkey`; an unlisted one reads its reset value. -/
  regs : SMap W32
  mem : Mem
  /-- Tensor home tables keyed t × 2^24 + handle (R270). -/
  homes : SMap HEntry
  fills : List Fill
  moves : List MoveRec
  /-- Physical core + 1 of each logical core; 0 is unmapped (R18, R22). -/
  coreMap : SMap Nat
  cores : SMap Core
  queues : SMap Queue
  units : SMap SharedUnit
  ports : SMap Port
  tunil : Tunil
  caravan : Caravan
  kiln : Kiln
  codec : Codec
  host : HostLink
  /-- The configuration image in force (R484 stage 8). -/
  cfg : Image
  /-- Serial number of the next task. -/
  serial : Nat
  /-- The next free value's number; no rule reads it otherwise. -/
  freeCtr : Nat
  /-- What has left the module, newest first. -/
  sent : List Emit
  deriving DecidableEq, Repr

/-- Logical core n stands on physical core n for n below 8 and n + 1 above (R18). -/
def coreMapReset : SMap Nat := (List.range 16).map fun n => (n, if n < 8 then n + 1 else n + 2)

/-- The module before input power: no rail up, flash and fuses blank. -/
def State.reset : State :=
  { pending := []
    power := { phase := .off, pwrgd := false, replaceN := false, bootCount := 0, copyB := false, groups := 0,
               training := false, clocksStopped := false, internalOsc := false, vfEnable := false,
               lockWritten := false, perst := true }
    clock := { ptp := 0, locked := false, since := 0 }
    flash := { copyA := none, copyB := none, rec0 := none, rec1 := none, fuses := ⟨0, 0, 0, 0⟩, repair := [], ring := [],
               logSeq := 0, logSecond := 0, logCount := 0 }
    mon := { hot := [], fault := ⟨false, none, none⟩, sync := ⟨false, none, none⟩, forced := false, dead := [],
             subst := [], waiting := [], selfFail := [] }
    staged := []
    parity := { latent := [], faulted := [] }
    regs := []
    mem := { bytes := [], poison := [], init := [], initNext := 0, writeBack := [], history := [], erased := [],
             scrub := [], retireQ := [], retired := [], scrubRow := [], calibrated := [], refreshed := [], latent := [] }
    homes := []
    fills := []
    moves := []
    coreMap := coreMapReset
    cores := []
    queues := []
    units := []
    ports := []
    tunil := { routes := [], bootEpoch := 0, notReadyAt := [], injNo := 0, held := none }
    caravan := { tenant := none, plan := none, map := [], incoming := [], incomingGen := 0, stepGo := none,
                 stageSent := false, lastGen := none, wards := [], restoring := none, master := .init,
                 masterNode := none, masterHeard := 0, takeover := [], takingOver := false, snapshot := none,
                 snapCopy := none, slotsDone := [], partSegs := [], parts := [], restore := none, rolled := none,
                 reload := [], reroutes := [] }
    kiln := { queues := [] }
    codec := { dec := [], enc := [], recover := [], held := [], lastDec := 255, lastEnc := 63 }
    host := { poster := [], svc := [], d2h := [], unmasked := [], pba := [], busMaster := [], latchStep := none,
              latchBeat := none, sas := [], saKeys := [] }
    cfg := .blank
    serial := 1
    freeCtr := 0
    sent := [] }

end Sys2Proof.Machine
end

