-- ==== Sys2Proof/Machine/Ops.lean ====
section
/-! DEFINITION. The named operations over State that every family uses: registers, interrupts, the persistent log,
configuration-integrity faults, staged copies and the tables of cores, queues, ports, routes and contexts. -/
namespace Sys2Proof.Machine

/-! Registers. -/

/-- The register as a read returns it, staged copy for RWB (R465). -/
def State.reg (s : State) (r : Reg) (i : Nat) : W32 := mget (r.reset i) s.regs (rkey r i)

/-- Store a register. -/
def State.setReg (s : State) (r : Reg) (i : Nat) (v : W32) : State :=
  { s with regs := mset (r.reset i) s.regs (rkey r i) v }

/-- Field [hi:lo] of a register. -/
def State.rfld (s : State) (r : Reg) (i hi lo : Nat) : Nat := fld (s.reg r i) hi lo

/-- Change field [hi:lo] of a register. -/
def State.setRfld (s : State) (r : Reg) (i hi lo v : Nat) : State := s.setReg r i (setFld (s.reg r i) hi lo v)

/-- A counter that stops at its maximum (R71, R268, R483). -/
def State.countSat (s : State) (r : Reg) (i n : Nat) : State := s.setReg r i (satAdd32 (s.reg r i) n)

/-- A counter that wraps (R102). -/
def State.countWrap (s : State) (r : Reg) (i n : Nat) : State := s.setReg r i (wrapAdd32 (s.reg r i) n)

/-- Restore a register to its reset value. -/
def State.resetReg (s : State) (r : Reg) (i : Nat) : State := s.setReg r i (r.reset i)

/-- Restore instances `lo` to `lo + n - 1` of each register of a list. -/
def State.resetRegs (s : State) (rs : List Reg) (lo n : Nat) : State :=
  rs.foldl (fun a r => (List.range n).foldl (fun b j => b.resetReg r (lo + j)) a) s

/-- A 64-bit register pair. -/
def State.reg64 (s : State) (lo hi : Reg) (i : Nat) : Nat := (s.reg lo i).toNat + (s.reg hi i).toNat * 2 ^ 32

/-- A record guarded by VALID and LOST (R73): while VALID is 1 only LOST is set; the Bool says the record is taken. -/
def guardRec (old new : W32) : W32 × Bool :=
  if bit old 31 then (old ||| 0x40000000#32, false) else (0x80000000#32 ||| (old &&& 0x40000000#32) ||| new, true)

/-- Write a guarded record of first register `r0` and further registers. -/
def State.record (s : State) (i : Nat) (r0 : Reg) (v0 : W32) (more : List (Reg × W32)) : State :=
  let g := guardRec (s.reg r0 i) v0
  let s1 := s.setReg r0 i g.1
  if g.2 then more.foldl (fun a p => a.setReg p.1 i p.2) s1 else s1

/-- Something leaves the module. -/
def State.emit (s : State) (e : Emit) : State := { s with sent := e :: s.sent }

/-- A fresh free value. -/
def State.fresh (s : State) : State × W32 := ({ s with freeCtr := s.freeCtr + 1 }, Config.freeWord s.freeCtr)

/-! Phases. -/

/-- Logic of the module runs: start-up has begun and no shutdown has stopped the clocks. -/
def State.clocked (s : State) : Bool :=
  (decide (s.power.phase = .starting) || decide (s.power.phase = .ready) || decide (s.power.phase = .failed) ||
    decide (s.power.phase = .recovery)) && !s.power.clocksStopped

/-- The endpoint serves requests (R485, R493, R494). -/
def State.served (s : State) : Bool :=
  (decide (s.power.phase = .ready) || decide (s.power.phase = .failed) || decide (s.power.phase = .recovery)) &&
    !s.power.clocksStopped

/-- The module runs its schedule (R486). -/
def State.up (s : State) : Bool := decide (s.power.phase = .ready) && !s.power.clocksStopped

/-- The monitors run (R499): from PWRGD until the input opens. -/
def State.monitored (s : State) : Bool :=
  s.clocked || decide (s.power.phase = .idle) || decide (s.power.phase = .shutdown)

/-- A command of the running module; before readiness and after a shutdown it changes nothing. -/
def whenUp (s : State) (f : State → State) : Host.Outcome State Fault Refusal := .next (if s.up then f s else s)

/-- A command of logic that also runs during start-up. -/
def whenClocked (s : State) (f : State → State) : Host.Outcome State Fault Refusal :=
  .next (if s.clocked then f s else s)

/-- A request of the host. -/
def whenServed (s : State) (f : State → State) : Host.Outcome State Fault Refusal :=
  .next (if s.served then f s else s)

/-! The log (R520 to R522). -/

/-- TIME of a record: PTP time, or bit 63 and the time since PERST_N release. -/
def State.logTime (s : State) : Nat := if s.clock.locked then s.clock.ptp else 2 ^ 63 + s.clock.since

/-- Records of the ring at most: 7,934 sectors of 64 (R520). -/
def ringRecords : Nat := 7934 * 64

/-- Append to the ring; a full ring first loses its oldest sector (R521). -/
def ringPush (ring : List LogRec) (r : LogRec) : List LogRec :=
  if ring.length < ringRecords then r :: ring else r :: ring.take (ringRecords - 64)

/-- Append a record of the given kind and content in its area (Table 21-8). -/
def State.log (s : State) (kind : Nat) (what : List Nat) : State :=
  let r : LogRec := { kind := kind, seq := s.flash.logSeq, bootCount := s.power.bootCount, time := s.logTime, what := what }
  if kind = 4 ∨ kind = 6 then
    { s with flash := { s.flash with repair := r :: s.flash.repair, logSeq := s.flash.logSeq + 1 } }
  else
    let sec := s.clock.since / 1000000000
    let n := if s.flash.logSecond = sec then s.flash.logCount else 0
    if n < 64 then
      { s with flash := { s.flash with ring := ringPush s.flash.ring r, logSeq := s.flash.logSeq + 1, logSecond := sec,
                                       logCount := n + 1 } }
    else s.countWrap .monLoglost 0 1

/-! Interrupts (R448, R449). -/

/-- Vectors of a function's MSI-X table. -/
def vectorsOf (f : Nat) : Nat := if f = 0 then 256 else 224

/-- The message of vector v of function f, or its pending bit while it is masked. -/
def State.sendVec (s : State) (f v : Nat) : State :=
  if v < vectorsOf f then
    if mget false s.host.unmasked (256 * f + v) then s.emit (.msix f v)
    else { s with host := { s.host with pba := mset false s.host.pba (256 * f + v) true } }
  else s

/-- A register is held by a configuration-integrity fault (R477). -/
def State.faulty (s : State) (r : Reg) (i : Nat) : Bool := s.parity.faulted.contains (rkey r i)

/-- Event n of Table 18-5 in function f; an HST_IVMAP held by a fault sends nothing. -/
def State.raise (s : State) (f n : Nat) : State :=
  let w := s.reg .hstIvmap (256 * f + n)
  if bit w 31 && !s.faulty .hstIvmap (256 * f + n) then s.sendVec f (fld w 7 0) else s

/-- An event of a tenant, in the tenant's function. -/
def State.raiseTenant (s : State) (t n : Nat) : State :=
  match s.cfg.tenant? t with
  | some r => s.raise r.func n
  | none => s

/-! Configuration integrity (R476 to R478). -/

/-- The unit that owns a configuration register (R477 step 1). -/
inductive Owner where
  | core (n : Nat)
  | tenant (t : Nat)
  | queue (tq : Nat)
  | kiln (tk : Nat)
  | decode (c : Nat)
  | encode (e : Nat)
  | codec
  | port (p : Nat)
  | tunil
  | sched (u : Nat)
  | access
  deriving DecidableEq, Repr

/-- The owner of instance i of a register. -/
def regOwner (r : Reg) (i : Nat) : Owner :=
  match r with
  | .tunCtrl | .tunUdp | .tunDscp | .tunTimeout | .tunRtsel | .tunFinj | .tunFinjseed => .tunil
  | .cdcMode => .codec
  | .cdcDtail | .cdcDrelease => .decode i
  | .cdcEtail | .cdcEcommit | .cdcErel => .encode i
  | .portCfg | .portCtrl | .portFinj | .portFinjseed => .port i
  | .tenNumcfg | .tunStepflr0 | .tunStepflr1 | .thCfg | .thCmd => .tenant i
  | .thEntry => .tenant (i / 8)
  | .schCfg => .sched (i / 8)
  | .queCtrl | .queRingbase | .queRingtail => .queue i
  | .klnQtail => .kiln i
  | .coreMemsplit | .coreCbdir => .core i
  | _ => .access

/-- A unit is held by a faulted register of its own (R477). -/
def State.held (s : State) (o : Owner) : Bool :=
  s.parity.faulted.any fun k => decide (regOwner (runkey k).1 (runkey k).2 = o)

/-- Raise a configuration-integrity fault on a register copy (R477 steps 1 and 3). -/
def State.ciFault (s : State) (key : Nat) (copy sweeper : Bool) : State :=
  let (typ, inst, off, _) := regPlace (runkey key).1 (runkey key).2
  let s1 := { s with parity := { latent := s.parity.latent.filter fun p => !decide (p = (key, copy)),
                                 faulted := if s.parity.faulted.contains key then s.parity.faulted
                                            else key :: s.parity.faulted } }
  let w0 : W32 := BitVec.ofNat 32 (b2n sweeper * 2 ^ 29 + b2n copy * 2 ^ 28 + typ * 2 ^ 16 + inst * 2 ^ 8)
  let s2 := (s1.record 0 .hubCifault0 w0 [(.hubCifault1, BitVec.ofNat 32 off)]).countSat .hubCicnt 0 1
  (s2.log 9 [typ, inst, off, b2n sweeper, b2n copy]).raise 0 196

/-- A use of a register checks its parity first (R477). -/
def State.useReg (s : State) (r : Reg) (i : Nat) : State :=
  if s.parity.latent.contains (rkey r i, false) then s.ciFault (rkey r i) false false else s

/-- Uses of several registers. -/
def State.useRegs (s : State) (l : List (Reg × Nat)) : State := l.foldl (fun a p => a.useReg p.1 p.2) s

/-- A hardware update of a configuration register: not made when the register's parity fails (R477). -/
def State.hwSet (s : State) (r : Reg) (i : Nat) (v : W32) : State :=
  let s1 := s.useReg r i
  if s1.faulty r i then s1 else s1.setReg r i v

/-- A hardware update of one field of a configuration register. -/
def State.hwFld (s : State) (r : Reg) (i hi lo v : Nat) : State := s.hwSet r i (setFld (s.reg r i) hi lo v)

/-- Forget the faults and flips of a register: it has been rewritten whole (R478). -/
def State.repair (s : State) (key : Nat) : State :=
  { s with parity := { latent := s.parity.latent.filter fun p => !decide (p.1 = key),
                       faulted := s.parity.faulted.filter fun k => !decide (k = key) } }

/-! Staged copies (R467, R468). -/

/-- The units that apply an RWB register, each by number: logical core n, shared unit 64 + u, codec pipe 96 + p. -/
def State.applying (s : State) (r : Reg) (i : Nat) : List Nat :=
  let coresOf (t : Nat) : List Nat := (List.range 16).filter fun n => decide (s.cfg.coreTenant n = some t)
  match r with
  | .tenNumcfg => coresOf i
  | .thCfg => coresOf i ++ [65, 66]
  | .queRingbase => [(mget Queue.init s.queues i).lcore]
  | .schCfg => [64 + i / 8]
  | .coreCbdir => if (s.cfg.coreTenant i).isSome then [i] else []
  | .cdcMode => (List.range 8).map fun p => 96 + p
  | _ => []

/-- The applied copy of a register at a unit. -/
def State.applied (s : State) (r : Reg) (i unit : Nat) : W32 :=
  match s.staged.find? fun e => decide (e.reg = rkey r i) && decide (e.unit = unit) with
  | some e => e.old
  | none => s.reg r i

/-- The copy that most units last applied, for a user without a boundary of its own (R277 at Tunil and the Kiln). -/
def State.appliedAny (s : State) (r : Reg) (i : Nat) : W32 :=
  match (s.applying r i).find? fun u => !(s.staged.any fun e => decide (e.reg = rkey r i) && decide (e.unit = u)) with
  | some _ => s.reg r i
  | none => match s.applying r i with
    | u :: _ => s.applied r i u
    | [] => s.reg r i

/-- A boundary of a unit for a register: the staged copy becomes the applied copy when its parity holds (R467, R477). -/
def State.boundary (s : State) (r : Reg) (i unit : Nat) : State :=
  if s.staged.any fun e => decide (e.reg = rkey r i) && decide (e.unit = unit) then
    let s1 := if s.parity.latent.contains (rkey r i, true) then s.ciFault (rkey r i) true false else s
    if s1.faulty r i then s1
    else { s1 with staged := s1.staged.filter fun e => !(decide (e.reg = rkey r i) && decide (e.unit = unit)) }
  else s

/-- The staging that a landing write of an RWB register makes: each unit keeps applying what it applied. -/
def State.stage (s : State) (r : Reg) (i : Nat) : State :=
  let new := ((s.applying r i).filter fun u =>
    !(s.staged.any fun e => decide (e.reg = rkey r i) && decide (e.unit = u))).map fun u =>
      ({ reg := rkey r i, unit := u, old := s.reg r i } : Staged)
  { s with staged := s.staged ++ new }

/-! The tables. -/

def State.core (s : State) (n : Nat) : Core := mget Core.init s.cores n
def State.setCore (s : State) (n : Nat) (c : Core) : State := { s with cores := mset Core.init s.cores n c }
def State.modCore (s : State) (n : Nat) (f : Core → Core) : State := s.setCore n (f (s.core n))
/-- Tenant queues are keyed 16 t + q. -/
def State.queue (s : State) (k : Nat) : Queue := mget Queue.init s.queues k
def State.setQueue (s : State) (k : Nat) (q : Queue) : State := { s with queues := mset Queue.init s.queues k q }
def State.modQueue (s : State) (k : Nat) (f : Queue → Queue) : State := s.setQueue k (f (s.queue k))
def State.unit (s : State) (u : Nat) : SharedUnit := mget SharedUnit.init s.units u
def State.setUnit (s : State) (u : Nat) (x : SharedUnit) : State := { s with units := mset SharedUnit.init s.units u x }
def State.port (s : State) (p : Nat) : Port := mget Port.init s.ports p
def State.setPort (s : State) (p : Nat) (x : Port) : State := { s with ports := mset Port.init s.ports p x }
def State.modPort (s : State) (p : Nat) (f : Port → Port) : State := s.setPort p (f (s.port p))
/-- Routes of the firmware table are keyed 16,384 + r. -/
def State.route (s : State) (k : Nat) : Route := mget Route.init s.tunil.routes k
def State.setRoute (s : State) (k : Nat) (x : Route) : State :=
  { s with tunil := { s.tunil with routes := mset Route.init s.tunil.routes k x } }
def State.modRoute (s : State) (k : Nat) (f : Route → Route) : State := s.setRoute k (f (s.route k))
def State.kq (s : State) (k : Nat) : KQueue := mget KQueue.init s.kiln.queues k
def State.setKq (s : State) (k : Nat) (x : KQueue) : State :=
  { s with kiln := { s.kiln with queues := mset KQueue.init s.kiln.queues k x } }
def State.dec (s : State) (c : Nat) : DecCtx := mget DecCtx.init s.codec.dec c
def State.setDec (s : State) (c : Nat) (x : DecCtx) : State :=
  { s with codec := { s.codec with dec := mset DecCtx.init s.codec.dec c x } }
def State.enc (s : State) (e : Nat) : EncCtx := mget EncCtx.init s.codec.enc e
def State.setEnc (s : State) (e : Nat) (x : EncCtx) : State :=
  { s with codec := { s.codec with enc := mset EncCtx.init s.codec.enc e x } }
/-- Key of a tenant's handle in `homes`. -/
def hkey (t h : Nat) : Nat := t * 2 ^ 24 + h
def State.home (s : State) (t h : Nat) : HEntry := mget HEntry.free s.homes (hkey t h)
def State.setHome (s : State) (t h : Nat) (e : HEntry) : State :=
  { s with homes := mset HEntry.free s.homes (hkey t h) e }
def State.svc (s : State) (m : Nat) : Svc := mget Svc.init s.host.svc m
def State.setSvc (s : State) (m : Nat) (x : Svc) : State :=
  { s with host := { s.host with svc := mset Svc.init s.host.svc m x } }

/-- The running service of mailbox m ends with a return code (R456). -/
def State.endSvc (s : State) (m code : Nat) : State :=
  s.setSvc m { s.svc m with result := some code }

/-- A core may start work: no fault of the core has stopped it and no faulted register holds it (R477, R513). -/
def State.coreHeld (s : State) (n : Nat) : Bool :=
  (s.core n).stopped || s.held (.core n) ||
    (match s.cfg.coreTenant n with | some t => s.held (.tenant t) | none => false)

/-- A tenant queue may start work. -/
def State.queueHeld (s : State) (k : Nat) : Bool := s.held (.queue k) || s.coreHeld (s.queue k).lcore

/-- Physical core of a logical core; none while it is unmapped (R18, R22). -/
def State.phys (s : State) (n : Nat) : Option Nat :=
  match mget 0 s.coreMap n with
  | 0 => none
  | c + 1 => some c

/-- Module time in beats of a microsecond: PTP time div 1,000 (R351). -/
def State.beat (s : State) : Nat := s.clock.ptp / 1000 % 2 ^ 48

/-- Beat b is at or past deadline d on the 48-bit scale. -/
def beatPast (b d : Nat) : Bool := decide ((b + 2 ^ 48 - d % 2 ^ 48) % 2 ^ 48 < 2 ^ 47)

/-- Module time has come to beat d at the latest: an event at a beat takes place then. -/
def State.untilBeat (s : State) (d : Nat) : State :=
  if beatPast s.beat d then s
  else
    let ns := (d + 2 ^ 48 - s.beat) % 2 ^ 48 * 1000 - s.clock.ptp % 1000
    { s with clock := { s.clock with ptp := s.clock.ptp + ns, since := s.clock.since + ns } }

/-- A D2H notice for mailbox m: queued behind the posted one, at most 32, the newest lost beyond (R458). -/
def State.queueNotice (s : State) (m : Nat) (n : Notice) : State :=
  let q := mget [] s.host.d2h m
  if q.length < 32 then { s with host := { s.host with d2h := mset [] s.host.d2h m (q ++ [n]) } }
  else s.setRfld .mbxStatus m 23 16 (Nat.min 255 (s.rfld .mbxStatus m 23 16 + 1))

/-- The lowest-numbered D2H mailbox of a function, secure or not (R458). -/
def State.d2hBox (s : State) (f : Nat) (secure : Bool) : Option Nat :=
  (List.range 64).find? fun m =>
    decide (secure = decide (56 ≤ m)) &&
    (match s.cfg.mailboxes[m]? with | some (d, mask) => d && decide (mask / 2 ^ f % 2 = 1) | none => false)

/-- A D2H notice of a tenant, to its function (R458); a function without a D2H mailbox gets none. -/
def State.noticeTenant (s : State) (t code : Nat) (body : List W32) : State :=
  match s.cfg.tenant? t with
  | none => s
  | some r => match s.d2hBox r.func false with
    | some m => s.queueNotice m { code := code, body := body }
    | none => s

end Sys2Proof.Machine
end

