-- ==== Sys2Proof/Machine/Access.lean ====
section
/-! DEFINITION. How the UV96 answers register accesses: views (R440, R442, R443), Table 19-4, landing writes under the
access codes of Table 19-1, and what a read returns. -/
namespace Sys2Proof.Machine

/-- A mailbox's mask holds function f. -/
def State.maskHas (s : State) (m f : Nat) : Bool :=
  match s.cfg.mailboxes[m]? with
  | some (_, mask) => decide (mask / 2 ^ f % 2 = 1)
  | none => false

/-- The mailbox is device-to-host. -/
def State.isD2h (s : State) (m : Nat) : Bool := bit (s.reg .mbxStatus m) 26

/-- Function f has a mailbox page: in recovery only PF0 has those of M56 and M63 (R494). -/
def State.boxView (s : State) (f m : Nat) : Bool :=
  if s.power.phase = .recovery then decide (f = 0) && (decide (m = 56) || decide (m = 63)) else s.maskHas m f

/-- The tenant of a codec context, while it is open or ended. -/
def State.decTenant (s : State) (c : Nat) : Option Nat :=
  if s.rfld .cdcDstat c 31 29 = 0 then none else some (s.rfld .cdcDstat c 28 26)
def State.encTenant (s : State) (e : Nat) : Option Nat :=
  if s.rfld .cdcEstat e 31 29 = 0 then none else some (s.rfld .cdcEstat e 28 26)

/-- Instance i of a register lies in the view of function f (R440, R442, R494). -/
def State.inView (s : State) (f : Nat) (r : Reg) (i : Nat) : Bool :=
  let ten := s.cfg.funcTenant f
  let own (t : Nat) : Bool := decide (f = 0) || decide (ten = some t)
  let pf0 := decide (f = 0)
  let (typ, inst, _, _) := regPlace r i
  let bootOnly := decide (s.power.phase = .recovery)
  match r with
  | .mbxLock | .mbxStatus | .mbxPtrlo | .mbxPtrhi | .mbxLen | .mbxPost | .mbxTag | .mbxAck | .mbxRxbuf0 | .mbxRxbuf1 =>
    s.boxView f i
  | .blkId | .blkStatus =>
    let bt := i / 256
    let bi := i % 256
    if bootOnly then pf0 && (decide (bt = 1) || (decide (bt = 2) && decide (bi = 0)))
    else pf0 || (decide (bt = 2) && decide (bi = f)) || (decide (bt = 8) && decide (ten = some bi)) ||
      (decide (bt = 9) && decide (s.cfg.coreTenant bi = ten) && ten.isSome)
  | .hstIvmap =>
    (if bootOnly then pf0 && decide (i < 256) else pf0 || decide (i / 256 = f)) &&
      (decide (i < 256) || decide (i % 256 < 224))
  | .cdcDstat | .cdcDtail | .cdcDhead | .cdcDout | .cdcDrelease | .cdcDbad =>
    !bootOnly && (pf0 || (ten.isSome && decide (s.decTenant i = ten)))
  | .cdcEstat | .cdcEtail | .cdcEhead | .cdcEcommit | .cdcEgen | .cdcEframe | .cdcErel | .cdcEreenc | .cdcEskip
  | .cdcEroistale => !bootOnly && (pf0 || (ten.isSome && decide (s.encTenant i = ten)))
  | _ =>
    if bootOnly then pf0 && (decide (typ = 1) || (decide (typ = 2) && decide (inst = 0)))
    else if typ = 2 then decide (inst = f) || pf0
    else if typ = 8 then own inst
    else if typ = 9 then pf0 || (ten.isSome && decide (s.cfg.coreTenant inst = ten))
    else pf0

/-- The register that function f finds at a BAR0 or BAR2 offset, doorbells and the MSI-X table apart (R480). -/
def State.regOf (s : State) (f : Nat) (bar2 : Bool) (off : Nat) : Option (Reg × Nat) :=
  let at' : Option (Reg × Nat) :=
    if bar2 then regAt2 off
    else if f = 0 then regAt off
    else if 0x10000 ≤ off ∧ off < 0x11000 then regAt (off + 0x1000 * f)
    else if 0x100000 ≤ off ∧ off < 0x110000 then
      match s.cfg.funcTenant f with
      | some t => regAt (off + 0x10000 * t)
      | none => none
    else if (0x10000 ≤ off ∧ off < 0x20000) ∨ (0x100000 ≤ off ∧ off < 0x200000) then none
    else regAt off
  match at' with
  | some (r, i) => if s.inView f r i then some (r, i) else none
  | none => none

/-- The BAR offset at which function f reaches instance i of a register (R480). -/
def offsetFor (f : Nat) (r : Reg) (i : Nat) : Nat :=
  let (typ, _, off, bar) := regPlace r i
  if f = 0 then bar
  else if typ = 2 then 0x10000 + off
  else if typ = 8 then 0x100000 + off
  else bar

/-- A register lies in BAR2 (Table 18-3). -/
def inBar2 (r : Reg) : Bool :=
  match r with
  | .mbxLock | .mbxStatus | .mbxPtrlo | .mbxPtrhi | .mbxLen | .mbxPost | .mbxTag | .mbxAck | .mbxRxbuf0 | .mbxRxbuf1 => true
  | _ => false

/-- Log an access under Table 19-4; `aer` sends the non-fatal message. -/
def State.regError (s : State) (kind bar f off : Nat) (aer : Bool) : State :=
  let w0 : W32 := BitVec.ofNat 32 (kind % 16 * 2 ^ 24 + bar % 4 * 2 ^ 22 + f % 16 * 2 ^ 16 + off / 2 ^ 32 % 16)
  let s1 := (s.record 0 .hubRegerr0 w0 [(.hubRegerr1, BitVec.ofNat 32 off)]).countSat .hubRegerrcnt 0 1
  if aer then s1.emit (.aer f false) else s1

/-- An RWL field is locked (R471). -/
def State.rwlLocked (s : State) (r : Reg) : Bool :=
  bit (s.reg .hubLock 0) 0 ||
  (match r with
    | .portFinj | .portFinjseed | .tunFinj | .tunFinjseed => !bit (s.reg .hubStatus 0) 30
    | _ => false)

/-- A value that the defining rule drops whole with KIND 9 (R314, R340, R438, R479, MON_SBCFG). -/
def State.badValue (s : State) (r : Reg) (v : W32) : Bool :=
  let kOk (k : Nat) : Bool := decide (4 ≤ k) && decide (k ≤ 30)
  match r with
  | .monSbcfg => decide (fld v 1 0 = 3)
  | .schCfg => decide (fld v 11 0 = 0) || decide (fld v 23 12 = 0)
  | .cdcMode => decide (fld v 1 0 = 3) || (decide (fld v 1 0 = 2) && !bit (s.reg .hubStatus 0) 30)
  | .portFinj => !kOk (fld v 28 24)
  | .tunFinj => !kOk (fld v 27 23) || decide (5 ≤ fld v 30 28)
  | _ => false

/-- The function may write the mailbox register as the party Table 18-9 names (R453, R454). -/
def State.boxParty (s : State) (f : Nat) (r : Reg) (m : Nat) : Bool :=
  let holder := s.rfld .mbxLock m 3 0
  match r with
  | .mbxPtrlo | .mbxPtrhi | .mbxLen | .mbxPost =>
    !s.isD2h m && (!bit (s.reg .mbxStatus m) 25 || decide (holder = f + 1))
  | .mbxAck | .mbxRxbuf0 | .mbxRxbuf1 => s.isD2h m
  | .mbxLock => s.isD2h m || decide (holder = f + 1)
  | _ => true

/-- The log kind and AER of a write that does not land, none for one that lands (Table 19-4). The register is in the
function's view. -/
def State.writeKind (s : State) (f : Nat) (r : Reg) (i : Nat) (allBytes : Bool) (v : W32) : Option (Nat × Bool) :=
  if !allBytes then some (5, true)
  else if !s.boxParty f r i then some (7, false)
  else if r.fields.isEmpty then some (2, false)
  else if r.fields.any (fun x => decide (x.acc = .rwl)) && s.rwlLocked r then some (3, false)
  else if decide (r = .hubLock) && s.power.lockWritten then some (4, false)
  else if s.badValue r v then some (9, false)
  else none

/-- The stored value after a landing write (Table 19-1). -/
def landValue (r : Reg) (old v : W32) : W32 :=
  r.fields.foldl (fun w x =>
    match x.acc with
    | .w1c => setFld w x.hi x.lo (fld (w &&& ~~~v) x.hi x.lo)
    | .wo => w
    | _ => setFld w x.hi x.lo (fld v x.hi x.lo)) old

/-- A register has an RWB field. -/
def Reg.isRwb (r : Reg) : Bool := r.fields.any fun x => decide (x.acc = .rwb)

/-- A write lands: a faulted register is repaired with both copies (R478), an RWB register is staged (R467). -/
def State.land (s : State) (r : Reg) (i : Nat) (v : W32) : State :=
  let k := rkey r i
  let nv := landValue r (s.reg r i) v
  if s.faulty r i then
    let s1 := s.repair k
    { s1 with staged := s1.staged.filter fun e => !decide (e.reg = k) }.setReg r i nv
  else if r.isRwb then
    let s1 := s.stage r i
    let drop := if (s.applying r i).isEmpty then s1.parity.latent.filter (fun p => !decide (p.1 = k))
                else s1.parity.latent.filter (fun p => !decide (p = (k, true)))
    { s1 with parity := { s1.parity with latent := drop } }.setReg r i nv
  else (s.repair k).setReg r i nv

/-- A write of a register by a function, up to its landing: the new state and whether the value landed. A register
outside the function's view is dropped with KIND 1. -/
def State.write (s : State) (f : Nat) (r : Reg) (i : Nat) (allBytes : Bool) (v : W32) : State × Bool :=
  let bar := b2n (inBar2 r)
  if !s.inView f r i then (s.regError 1 bar f (offsetFor f r i) true, false)
  else
    match s.writeKind f r i allBytes v with
    | some (kind, aer) =>
      let s1 := s.regError kind bar f (offsetFor f r i) aer
      let overrun := decide (kind = 7) && bit (s.reg .mbxStatus i) 25 && !s.isD2h i &&
        (decide (r = .mbxPtrlo) || decide (r = .mbxPtrhi) || decide (r = .mbxLen) || decide (r = .mbxPost))
      (if overrun then s1.setRfld .mbxStatus i 27 27 1 else s1, false)
    | none => (s.land r i v, true)

end Sys2Proof.Machine
end

