-- ==== Sys2Proof/Machine/Memory.lean ====
section
/-! DEFINITION. The device address space of Table 10-1 and the tier controllers: interleave, initialisation maps,
corrections, lane erasures, poison and the uncorrectable-codeword log (R243 to R269). -/
namespace Sys2Proof.Machine

/-- First address of the bulk tier and of the yards (Table 10-1). -/
def bulkBase : Nat := 0x010000000000
def yardBase : Nat := 0x020000000000
/-- Bytes of a yard. -/
def yardSize : Nat := 0x02000000

def isFast (a : Nat) : Bool := decide (a < 0x004000000000)
def isBulk (a : Nat) : Bool := decide (bulkBase ≤ a) && decide (a < 0x020000000000)
def isYard (a : Nat) : Bool := decide (yardBase ≤ a) && decide (a < 0x020024000000)
/-- The address is in a listed range of Table 10-1. -/
def populated (a : Nat) : Bool := isFast a || isBulk a || isYard a

/-- Stack and channel of a fast-tier address as 32 × stack + channel, and its channel offset (R246). -/
def fastPlace (a : Nat) : Nat × Nat :=
  (32 * (nfld a 10 8 ^^^ nfld a 21 19) + (nfld a 15 11 ^^^ nfld a 26 22), nfld a 37 16 * 256 + nfld a 7 0)

/-- Group and unit index of a bulk-tier address (R248). -/
def bulkPlace (a : Nat) : Nat × Nat :=
  let o := a - bulkBase
  (nfld o 11 8 ^^^ nfld o 23 20, nfld o 39 12)

/-- Byte within each of the group's channels of a bulk unit (R248). -/
def chanByte (n : Nat) : Nat := n / 8 * 576 + n % 8 * 64

/-- Channel index n of R268 of a tier address: 0 to 255 fast, 256 + g bulk; none for a yard. -/
def chanOf (a : Nat) : Option Nat :=
  if isFast a then some (fastPlace a).1 else if isBulk a then some (256 + (bulkPlace a).1) else none

/-- Initialisation granule of a tier address within its channel or group (R260). -/
def granuleOf (a : Nat) : Nat := if isFast a then (fastPlace a).2 / 65536 else (bulkPlace a).2 / 256

/-- Granules of a channel and of a group. -/
def granules (n : Nat) : Nat := if n < 256 then 16384 else 1048576

/-- Key of a granule in the initialisation map. -/
def granuleKey (n m : Nat) : Nat := n * 1048576 + m

/-- The granule that holds a tier address is initialised; a yard has no map. -/
def State.inited (s : State) (a : Nat) : Bool :=
  match chanOf a with
  | none => true
  | some n => decide (granuleOf a < s.mem.initNext) || mget false s.mem.init (granuleKey n (granuleOf a))

/-- All granules of channel n are initialised (MEM_CHSTAT.INITDONE). -/
def State.initDone (s : State) (n : Nat) : Bool :=
  decide (granules n ≤ s.mem.initNext + (s.mem.init.filter fun p =>
    decide (p.1 / 1048576 = n) && decide (s.mem.initNext ≤ p.1 % 1048576)).length)

/-- The unit of 256 bytes that channel n holds at unit index u: its device address (R246, R248 inverted). -/
def unitAddr (n u : Nat) : Nat :=
  if n < 256 then
    u * 65536 + ((n % 32) ^^^ nfld u 10 6) * 2048 + ((n / 32) ^^^ nfld u 5 3) * 256
  else bulkBase + u * 4096 + ((n - 256) ^^^ nfld u 11 8) * 256

/-- Units of a channel or group. -/
def unitsOf (n : Nat) : Nat := if n < 256 then 4194304 else 268435456

/-- One byte of the device address space. -/
def State.byte (s : State) (a : Nat) : Byte := mget 0 s.mem.bytes a

/-- `len` bytes from address a. -/
def State.bytesAt (s : State) (a len : Nat) : List Byte := (List.range len).map fun i => s.byte (a + i)

/-- A little-endian number of k bytes at address a. -/
def State.le (s : State) (a k : Nat) : Nat := leNat (s.bytesAt a k)

/-- A 32-bit word at address a. -/
def State.word (s : State) (a : Nat) : W32 := BitVec.ofNat 32 (s.le a 4)

/-- Store bytes from address a, with nothing else. -/
def State.putBytes (s : State) (a : Nat) (bs : List Byte) : State :=
  { s with mem := { s.mem with bytes := msetList 0 s.mem.bytes a bs } }

/-- A codeword is poisoned (R252). -/
def State.poisoned (s : State) (cw : Nat) : Bool := mget false s.mem.poison (cw / 64)

def State.setPoison (s : State) (cw : Nat) (b : Bool) : State :=
  { s with mem := { s.mem with poison := mset false s.mem.poison (cw / 64) b } }

/-- Addresses of the codewords that bytes a to a + len - 1 touch. -/
def codewords (a len : Nat) : List Nat :=
  if len = 0 then [] else (List.range ((a + len - 1) / 64 + 1 - a / 64)).map fun i => (a / 64 + i) * 64

/-- A write into an uninitialised granule initialises the whole granule first (R260). -/
def State.initGranule (s : State) (a : Nat) : State :=
  match chanOf a with
  | none => s
  | some n =>
    if granuleOf a < s.mem.initNext then s
    else { s with mem := { s.mem with init := mset false s.mem.init (granuleKey n (granuleOf a)) true } }

/-- Put an error pattern of a stored codeword in its place. -/
def State.setLatent (s : State) (cw : Nat) (e : List (Nat × Nat)) : State :=
  { s with mem := { s.mem with latent := mset [] s.mem.latent (cw / 64) e } }

/-- A codeword is written whole, with new check symbols: its poison and its errors go (R253). -/
def State.cleanCw (s : State) (cw : Nat) : State := (s.setPoison cw false).setLatent cw []

/-- Store whole codewords: granules are initialised, poison and errors are cleared (R253, R260). -/
def State.putUnits (s : State) (a : Nat) (bs : List Byte) : State :=
  let s1 := (codewords a bs.length).foldl (fun x cw => (x.initGranule cw).cleanCw cw) s
  s1.putBytes a bs

/-- Store bytes as whole 256-byte units, the rest of each unit as it stands (R253). -/
def State.putWhole (s : State) (a : Nat) (bs : List Byte) : State :=
  let lo := a / 256 * 256
  let fin := a + bs.length
  s.putUnits lo (s.bytesAt lo (a - lo) ++ bs ++ s.bytesAt fin (roundUp fin 256 - fin))

/-- The lane that carries a symbol of a codeword (Table 10-4): fast tier lane = symbol; bulk tier check symbols ride
on data lanes. -/
def symbolLane (cw sym : Nat) : Nat :=
  if isFast cw || decide (sym < 64) then sym
  else
    let u := (bulkPlace cw).2 % 8
    let c := cw % 256 / 64
    let k := sym - 64
    16 * (k / 2) + (2 * (4 * u + c) + k % 2) % 16

/-- The sum of two error patterns. -/
def errSum (a b : List (Nat × Nat)) : List (Nat × Nat) :=
  let v (l : List (Nat × Nat)) (k : Nat) : Nat := l.foldl (fun x p => if p.1 = k then x ^^^ p.2 else x) 0
  ((List.range 72).map fun k => (k, v a k ^^^ v b k)).filter fun p => decide (p.2 ≠ 0)

/-- Lanes of a channel that the controller holds as erasures. -/
def State.erased (s : State) (n : Nat) : List Nat := mget [] s.mem.erased n

/-- How one codeword with the given error pattern decodes: the corrected symbols outside the erased lanes, and the error
that the correction leaves in the data, none within the limit of R250; no answer for a pattern found uncorrectable. Beyond
the limit, a pattern within correcting distance of another codeword is corrected to that codeword. -/
def State.decode (s : State) (n cw : Nat) (e : List (Nat × Nat)) : Option (List Nat × List (Nat × Nat)) :=
  let er := s.erased n
  let lost := if er.isEmpty then [] else (List.range 72).filter fun k => er.contains (symbolLane cw k)
  let bad := (List.range 72).filter fun k => (e.any fun p => decide (p.1 = k)) && !lost.contains k
  if rsCorrects bad.length lost.length then some (bad, [])
  else match rsDecode lost e with
    | none => none
    | some x => some ((List.range 72).filter fun k => (x.any fun p => decide (p.1 = k)) && !lost.contains k, errSum e x)

/-- The error pattern that a report of symbol errors gives. -/
def cwPattern (x : CwErr) : List (Nat × Nat) :=
  x.symbols.zipIdx.map fun p => (p.1, Nat.max 1 ((x.values[p.2]?).getD 1 % 256))

/-- The error pattern that a read of a codeword meets: the stored one, with the reported symbols in place of theirs. -/
def State.errorAt (s : State) (errs : List CwErr) (cw : Nat) : List (Nat × Nat) :=
  let old := mget [] s.mem.latent (cw / 64)
  match errs.find? fun x => decide (x.addr / 64 = cw / 64) with
  | none => old
  | some x => cwPattern x ++ old.filter fun p => !x.symbols.contains p.1

/-- One byte of an error left in the data of a codeword: byte p of 64 holds bit p div 8 of the symbols of lanes
8 (p mod 8) onward (Table 10-4; the bytes' order on lanes and beats is not stated, DESIGN CHOICE, log 125). -/
def errorByte (e : List (Nat × Nat)) (p : Nat) : Byte :=
  BitVec.ofNat 8 ((e.filter fun x => decide (x.1 / 8 = p % 8) && decide (x.1 < 64)).foldl
    (fun a x => a ^^^ (x.2 / 2 ^ (p / 8) % 2 * 2 ^ (x.1 % 8))) 0)

/-- One byte as a read of the tiers delivers it: a stored error that decodes to another codeword leaves its difference
(R250). -/
def State.datum (s : State) (a : Nat) : Byte :=
  match chanOf a, mget [] s.mem.latent (a / 64) with
  | some n, p :: t =>
    match s.decode n (a / 64 * 64) (p :: t) with
    | some (_, q :: u) => s.byte a ^^^ errorByte (q :: u) (a % 64)
    | _ => s.byte a
  | _, _ => s.byte a

/-- `len` bytes as a read delivers them. -/
def State.data (s : State) (a len : Nat) : List Byte :=
  if s.mem.latent.isEmpty then s.bytesAt a len else (List.range len).map fun i => s.datum (a + i)

/-- Put a lane into a rising list. -/
def laneInsert (l : Nat) : List Nat → List Nat
  | [] => [l]
  | h :: t => if l < h then l :: h :: t else if l = h then h :: t else h :: laneInsert l t

/-- Erased lanes that fail a channel: more than four of a fast channel, or of one of a group's four channels, whose lanes
16 c to 16 c + 15 it carries (R257). -/
def failsChannel (n : Nat) (er : List Nat) : Bool :=
  if n < 256 then decide (4 < er.length)
  else (List.range 4).any fun c => decide (4 < (er.filter fun l => decide (l / 16 = c)).length)

/-- MEM_CHSTAT and MEM_LANEMAP show the erasures of channel n (R256, R257). -/
def State.showErased (s : State) (n : Nat) : State :=
  let er := s.erased n
  let s1 := s.setRfld .memChstat n 23 20 (Nat.min 15 er.length)
  let s2 := if failsChannel n er then s1.setRfld .memChstat n 31 31 1 else s1
  (s2.setRfld .memLanemap n 15 8 (er[0]?.getD 0xFF)).setRfld .memLanemap n 7 0 (er[1]?.getD 0xFF)

/-- Hold a lane as an erasure from now on (R256). -/
def State.eraseLane (s : State) (n lane : Nat) : State :=
  if (s.erased n).contains lane then s
  else
    let s1 := { s with mem := { s.mem with erased := mset [] s.mem.erased n (laneInsert lane (s.erased n)) } }
    (s1.showErased n).log 3 [n, lane, 1]

/-- A corrected codeword enters the channel's history; a lane that has carried a corrected symbol in 16 of the last 64
corrected codewords is marked failed (R256). -/
def State.laneHistory (s : State) (n : Nat) (lanes : List Nat) : State :=
  let h := (lanes :: mget [] s.mem.history n).take 64
  let s1 := { s with mem := { s.mem with history := mset [] s.mem.history n h } }
  lanes.foldl (fun x l => if 16 ≤ (h.filter fun c => c.contains l).length then x.eraseLane n l else x) s1

/-- Bank of a codeword: 256 numbers to a channel or group, the channel by the address map (R246, R248). -/
def bankKey (cw : Nat) : Nat := 256 * (chanOf cw).getD 0 + Config.bankOf cw % 256

/-- Ask for a row to be retired in the next memory rest (R266). -/
def State.askRetire (s : State) (cw : Nat) : State :=
  let k := (bankKey cw, Config.rowOf cw)
  if s.mem.retireQ.contains k then s else { s with mem := { s.mem with retireQ := s.mem.retireQ ++ [k] } }

/-- Count, log and poison an uncorrectable codeword (R252, R269); its tensor is marked by the caller. -/
def State.ueRecord (s : State) (n cw source : Nat) : State :=
  let s1 := s.countSat .memUecnt n 1
  let was := bit (s1.reg .memUelog0 0) 31
  let s2 := s1.record 0 .memUelog0 (BitVec.ofNat 32 (source * 2 ^ 28 + cw / 2 ^ 32 % 65536))
    [(.memUelog1, BitVec.ofNat 32 (cw % 2 ^ 32 / 64 * 64))]
  let s3 := if was then s2 else s2.raise 0 194
  (((s3.log 5 [cw, source]).setPoison cw true).setLatent cw []).askRetire cw

/-- A read of a codeword corrects symbols (R251). -/
def State.corrects (s : State) (errs : List CwErr) (cw : Nat) : Bool :=
  match chanOf cw with
  | none => false
  | some n => s.inited cw && !s.poisoned cw && (match s.decode n cw (s.errorAt errs cw) with
    | some (_ :: _, _) => true
    | _ => false)

/-- Write a corrected codeword back as it was decoded (R251, R264): the memory then holds what the read delivered. -/
def State.writeCorrected (s : State) (cw : Nat) : State := (s.putBytes cw (s.data cw 64)).setLatent cw []

/-- One codeword is read: corrections are counted and queued, an uncorrectable one is recorded. The Bool is false for
an uncorrectable codeword. `source` is that of MEM_UELOG0. Errors that stay are held with the codeword, and so are those
that a read has corrected to another codeword. -/
def State.readCw (s : State) (source : Nat) (errs : List CwErr) (cw : Nat) : State × Bool :=
  match chanOf cw with
  | none => (s, true)
  | some n =>
    if !s.inited cw then (s, true)
    else if s.poisoned cw then (s.ueRecord n cw source, false)
    else
      let e := s.errorAt errs cw
      let stays := errs.any fun x => decide (x.addr / 64 = cw / 64) && x.stays
      match s.decode n cw e with
      | none => (s.ueRecord n cw source, false)
      | some ([], rest) => (if stays || !rest.isEmpty then s.setLatent cw e else s, true)
      | some (bad, rest) =>
        let s0 := if stays || !rest.isEmpty then s.setLatent cw e else s
        let s1 := (s0.countSat .memCecnt n bad.length).laneHistory n ((bad.map (symbolLane cw)).eraseDups)
        if 2 ≤ bad.length ∧ source = 0 then
          let wb := mset [] s1.mem.writeBack n (mget [] s1.mem.writeBack n ++ [cw])
          ({ s1 with mem := { s1.mem with writeBack := wb } }, true)
        else (s1, true)

/-- A foreground read of a range: every codeword is handled in full; the list holds the uncorrectable ones (R252). -/
def State.readRange (s : State) (source : Nat) (errs : List CwErr) (a len : Nat) : State × List Nat :=
  (codewords a len).foldl (fun acc cw =>
    let r := acc.1.readCw source errs cw
    (r.1, if r.2 then acc.2 else acc.2 ++ [cw])) (s, [])

end Sys2Proof.Machine
end

