-- ==== Sys2Proof/Machine/Homes.lean ====
section
/-! DEFINITION. The tensor home table: entries (Table 11-1), layouts (Table 11-2), permission (R275), translation and
the state rules (R276 to R281), fills (R278), and the entry commands (R273, Tables 11-3 and 11-4). -/
namespace Sys2Proof.Machine

/-! Fields of an entry (Table 11-1). -/

def HEntry.st (e : HEntry) : Nat := fld e.w0 2 0
def HEntry.kind (e : HEntry) : Nat := fld e.w0 5 4
def HEntry.packed (e : HEntry) : Bool := bit e.w0 6
def HEntry.fmt (e : HEntry) : Nat := fld e.w0 11 8
def HEntry.layout (e : HEntry) : Nat := fld e.w0 15 12
def HEntry.bform (e : HEntry) : Nat := fld e.w0 18 16
def HEntry.gen (e : HEntry) : Nat := fld e.w0 31 24
def HEntry.yoff (e : HEntry) : Nat := fld e.w1 24 0
def HEntry.lcore (e : HEntry) : Nat := fld e.w1 31 28
def HEntry.addr (e : HEntry) : Nat := e.w1.toNat + fld e.w2 15 0 * 2 ^ 32
def HEntry.node (e : HEntry) : Nat := fld e.w1 15 0
def HEntry.route (e : HEntry) : Nat := fld e.w1 31 16
def HEntry.rhandle (e : HEntry) : Nat := fld e.w2 23 0
/-- Extent in bytes. -/
def HEntry.bytes (e : HEntry) : Nat := e.w3.toNat * 256
def HEntry.d0 (e : HEntry) : Nat := e.w4.toNat
def HEntry.d1 (e : HEntry) : Nat := e.w5.toNat
def HEntry.d2 (e : HEntry) : Nat := fld e.w6 15 0
def HEntry.d3 (e : HEntry) : Nat := fld e.w6 31 16
def HEntry.d4 (e : HEntry) : Nat := fld e.w7 15 0
def HEntry.withSt (e : HEntry) (v : Nat) : HEntry := { e with w0 := setFld e.w0 2 0 v }
def HEntry.withGen (e : HEntry) (v : Nat) : HEntry := { e with w0 := setFld e.w0 31 24 v }
def HEntry.withPacked (e : HEntry) (b : Bool) : HEntry := { e with w0 := setBit e.w0 6 b }
def HEntry.nextGen (e : HEntry) : HEntry := e.withGen (e.gen + 1)

/-- States of Table 11-1. -/
def stFree : Nat := 0
def stUnwritten : Nat := 1
def stValid : Nat := 2
def stMoving : Nat := 3
def stVoid : Nat := 4
def stPoisoned : Nat := 5

/-- Bytes of an element, by format code (Table 2-1). -/
def fmtBytes (f : Nat) : Nat :=
  match f with
  | 1 => 2
  | 2 => 4
  | 3 => 1
  | 4 => 4
  | 5 => 4
  | 6 => 2
  | _ => 0

/-- Brick stride BS by row of Table 9-1. -/
def brickStride (form : Nat) : Nat :=
  match form with
  | 0 => 1088
  | 1 => 1344
  | 2 => 1600
  | 3 => 2112
  | 4 => 2624
  | _ => 3136

/-- Data extent of n elements of a format, with the scale or E8 region of B8X and L32 (R53, R56). -/
def elemExtent (fmt n : Nat) : Nat :=
  match fmt with
  | 3 => roundUp n 256 + cdiv n 32
  | 4 => roundUp (4 * n) 256 + cdiv n 64
  | f => n * fmtBytes f

/-- Smallest extent that the data require (Table 11-2). -/
def HEntry.extent (e : HEntry) : Nat :=
  match e.layout with
  | 5 => e.d1 / 32 * (e.d0 / 256) * brickStride e.bform
  | 6 => e.d1 * (2 * e.d2 * e.d0 + 2 * e.d0 * e.d0)
  | 7 => e.bytes
  | l => if l ≤ 1 then elemExtent e.fmt (e.d0 * e.d1) else elemExtent e.fmt (e.d0 * e.d1 * e.d2 * e.d3 * e.d4)

/-- Reserved bits of an image are 0 (R271). -/
def HEntry.reservedOk (e : HEntry) : Bool :=
  decide (fld e.w0 3 3 = 0) && decide (fld e.w0 7 7 = 0) && decide (fld e.w0 23 19 = 0) && decide (fld e.w7 31 16 = 0) &&
  (match e.kind with
    | 0 => decide (fld e.w1 27 25 = 0) && decide (e.w2 = 0)
    | 3 => decide (fld e.w2 31 24 = 0)
    | _ => decide (fld e.w2 31 16 = 0))

/-- Dimensions and format of a layout (R272); a channel-blocked one needs its block's format and a channel extent that is
a multiple of the block (R207, Table 8-1). -/
def HEntry.layoutOk (e : HEntry) : Bool :=
  let ones (l : List Nat) : Bool := l.all fun d => decide (d = 1)
  decide (1 ≤ e.fmt) && decide (e.fmt ≤ 6) && decide (e.layout ≤ 7) &&
  (decide (e.layout = 5) || decide (e.bform = 0)) &&
  (match e.layout with
    | 0 => ones [e.d2, e.d3, e.d4]
    | 1 => decide (e.d0 % 32 = 0) && decide (e.d1 % 32 = 0) && ones [e.d2, e.d3, e.d4]
    | 2 => (decide (e.fmt = 1) || decide (e.fmt = 3)) && decide (e.d3 % 32 = 0)
    | 3 => decide (e.fmt = 2) && decide (e.d3 % 16 = 0)
    | 4 => decide (e.fmt = 1)
    | 5 => decide (e.bform ≤ 5) && decide (e.fmt = 1) && decide (e.d0 % 256 = 0) && decide (e.d1 % 32 = 0) &&
        ones [e.d2, e.d3, e.d4]
    | 6 => decide (e.fmt = 1) && ones [e.d3, e.d4]
    | _ => ones [e.d0, e.d1, e.d2, e.d3, e.d4]) &&
  (match e.kind with
    | 0 => decide (e.yoff % 256 = 0)
    | 3 => true
    | _ => decide (e.addr % 256 = 0))

/-- An image passes R272: result 0x04 otherwise. -/
def HEntry.imageOk (e : HEntry) : Bool := e.reservedOk && e.layoutOk && decide (e.extent ≤ e.bytes)

/-- Bytes that a PACKED tensor's range takes: slots and header array (R292). -/
def packedRange (bytes : Nat) : Nat := roundUp bytes 4096 + roundUp (4 * cdiv bytes 4096) 256

/-- Bytes of the tensor's range at its home. -/
def HEntry.rangeBytes (e : HEntry) : Nat := if e.packed then packedRange e.bytes else e.bytes

/-- A tier range lies inside a tenant's windows (Table 1-4, R275). -/
def State.inWindows (s : State) (t addr len : Nat) : Bool :=
  let r := s.cfg.tenant t
  let unit := if isFast addr then 0x10000000 else 0x40000000
  let base := if isFast addr then 0 else bulkBase
  let wins := if isFast addr then r.fastWin else r.bulkWin
  decide (0 < len) && populated addr && !isYard addr && populated (addr + len - 1) &&
  decide (isFast addr = isFast (addr + len - 1)) &&
  (List.range ((addr + len - 1 - base) / unit + 1 - (addr - base) / unit)).all fun i =>
    let u := (addr - base) / unit + i
    wins.any fun w => decide (w.base ≤ u) && decide (u < w.base + w.len)

/-- A home lies inside the tenant's windows or on its cores; a peer is a node of the map in force (R275). An empty range
still needs its address inside. -/
def State.homeOk (s : State) (t : Nat) (e : HEntry) : Bool :=
  match e.kind with
  | 0 => decide (s.cfg.coreTenant e.lcore = some t) && decide (e.yoff + e.rangeBytes ≤ yardSize)
  | 3 => s.caravan.map.any fun m => decide (m.node = e.node)
  | k => s.inWindows t e.addr (max 1 e.rangeBytes) && decide (isFast e.addr = decide (k = 1))

/-- Device address of a home in a yard or a tier; none for a peer or an unmapped core. -/
def State.homeAddr (s : State) (e : HEntry) : Option Nat :=
  match e.kind with
  | 0 => (s.phys e.lcore).map fun c => yardBase + c * yardSize + e.yoff
  | 3 => none
  | _ => some e.addr

/-- Device address of a yard offset of a logical core. -/
def State.yardAddr (s : State) (n off : Nat) : Nat :=
  match s.phys n with
  | some c => yardBase + c * yardSize + off
  | none => yardBase + 18 * yardSize + off

/-- Some of `len` bytes at offset `off` of a tier home lie at an unpopulated address (R244). -/
def HEntry.reaches (e : HEntry) (off len : Nat) : Bool :=
  (decide (e.kind = 1) || decide (e.kind = 2)) &&
    let first := e.addr + off
    let last := first + max 1 len - 1
    !(populated first && populated last && decide (isFast first = isFast last) && decide (isBulk first = isBulk last))

/-- Entries of a tenant's table (R270). -/
def State.thSize (s : State) (t : Nat) : Nat := s.rfld .thCfg t 8 0 * 4096

/-- A handle is nonzero and below the table size. -/
def State.handleOk (s : State) (t h : Nat) : Bool := decide (0 < h) && decide (h < s.thSize t)

/-- A fill runs on a tensor (R278). -/
def State.filling (s : State) (t h : Nat) : Bool :=
  s.fills.any fun f => decide (f.tenant = t) && decide (f.handle = h)

/-! Reads and writes by handle. -/

/-- COLDFAULT as a unit applies it (R277). -/
def State.coldFault (s : State) (t unit : Nat) : Bool := bit (s.applied .thCfg t unit) 31

/-- Fault code of a read of an entry, 0 for none: missing, peer and packed first, then the state (R277, R280, R281,
R284, R290). -/
def HEntry.readCode (e : HEntry) (cold : Bool) : Nat :=
  if e.st = stFree then 0x20
  else if e.kind = 3 then 0x20
  else if e.packed then 0x20
  else if e.st = stVoid then 0x22
  else if e.st = stPoisoned then 0x51
  else if e.st = stUnwritten ∧ cold then 0x23
  else 0

/-- Fault code of a write by handle; `reads` for a writer that also reads its destination (R279 to R281, R290). -/
def HEntry.writeCode (e : HEntry) (reads : Bool) : Nat :=
  if e.st = stFree then 0x20
  else if e.kind = 3 then 0x20
  else if e.packed then 0x20
  else if e.st = stPoisoned then 0x51
  else if e.st = stMoving then 0x21
  else if e.st = stVoid ∧ reads then 0x22
  else 0

/-- Change the state of an entry. -/
def State.setSt (s : State) (t h st : Nat) : State := s.setHome t h ((s.home t h).withSt st)

/-- A read of an UNWRITTEN tensor is counted (R277). -/
def State.coldRead (s : State) (t h : Nat) : State :=
  if (s.home t h).st = stUnwritten then s.countSat .thColdcnt t 1 else s

/-- A writer issues into a tensor (R278): an UNWRITTEN one becomes VALID when the writes cover its extent, and fills
first otherwise. -/
def State.beginWrite (s : State) (t h cls : Nat) (covers : Bool) : State :=
  if (s.home t h).st = stUnwritten then
    if covers then s.setSt t h stValid
    else if s.filling t h then s
    else { s with fills := s.fills ++ [{ tenant := t, handle := h, cls := cls, next := 0 }] }
  else s

/-- An update at the end of a transfer carries the GEN of its start (R274). -/
def State.genUpdate (s : State) (t h gen : Nat) (f : State → State) : State :=
  if (s.home t h).gen = gen then f s else s.countSat .thStaleupd t 1

/-- A writer that does not read the tensor completes: VOID becomes VALID (R281). -/
def State.endWrite (s : State) (t h gen : Nat) : State :=
  s.genUpdate t h gen fun x => if (x.home t h).st = stVoid then x.setSt t h stValid else x

/-- A writer aborts: UNWRITTEN, VALID and VOID become VOID, and its fill ends (Table 11-5, R278). -/
def State.voidWrite (s : State) (t h gen : Nat) : State :=
  s.genUpdate t h gen fun x =>
    let st := (x.home t h).st
    let y := if st = stUnwritten ∨ st = stValid ∨ st = stVoid then x.setSt t h stVoid else x
    { y with fills := y.fills.filter fun f => !(decide (f.tenant = t) && decide (f.handle = h)) }

/-- Mark POISONED every tensor whose tier range holds a codeword (R252, Table 11-5). -/
def State.poisonHomes (s : State) (cw : Nat) : State :=
  { s with homes := s.homes.map fun p =>
      let e := p.2
      if (decide (e.kind = 1) || decide (e.kind = 2)) && (decide (e.st = stValid) || decide (e.st = stMoving)) &&
        decide (e.addr < cw + 64) && decide (cw < e.addr + e.rangeBytes)
      then (p.1, e.withSt stPoisoned) else p }

/-- One burst of a fill writes up to 4 KiB of +0 (R278). -/
def State.fillBurst (s : State) (f : Fill) : State :=
  let e := s.home f.tenant f.handle
  match s.homeAddr e with
  | none => s
  | some a =>
    let n := Nat.min 4096 (e.bytes - f.next)
    let s1 := s.putUnits (a + f.next) (List.replicate n 0)
    { s1 with fills := s1.fills.map fun x =>
        if decide (x.tenant = f.tenant) && decide (x.handle = f.handle) then { x with next := f.next + n } else x }

/-- A fill ends: the extent is +0, counted, and the tensor is VALID (R278). A yard fill writes its bytes here. -/
def State.fillDone (s : State) (t h : Nat) : State :=
  match s.fills.find? fun f => decide (f.tenant = t) && decide (f.handle = h) with
  | none => s
  | some f =>
    let e := s.home t h
    if e.kind = 0 ∨ e.bytes ≤ f.next then
      let s1 := match s.homeAddr e with
        | some a => s.putUnits (a + f.next) (List.replicate (e.bytes - f.next) 0)
        | none => s
      let s2 := { s1 with fills := s1.fills.filter fun x => !(decide (x.tenant = t) && decide (x.handle = h)) }
      (if (s2.home t h).st = stUnwritten then s2.setSt t h stValid else s2).countWrap .thFillcnt t e.w3.toNat
    else s

/-! Entry commands (R273). -/

/-- The entry image in TH_ENTRY0 to TH_ENTRY7. -/
def State.entryImage (s : State) (t : Nat) : HEntry :=
  let w (i : Nat) : W32 := s.reg .thEntry (8 * t + i)
  ⟨w 0, w 1, w 2, w 3, w 4, w 5, w 6, w 7⟩

/-- A READ writes TH_ENTRY0 to TH_ENTRY7. -/
def State.putImage (s : State) (t : Nat) (e : HEntry) : State :=
  let w (x : State) (i : Nat) (v : W32) : State := x.hwSet .thEntry (8 * t + i) v
  w (w (w (w (w (w (w (w s 0 e.w0) 1 e.w1) 2 e.w2) 3 e.w3) 4 e.w4) 5 e.w5) 6 e.w6) 7 e.w7

/-- A nonzero result of a command on an entry, checked in the order handle, busy, state, image, permission. -/
def State.cmdCheck (s : State) (t h : Nat) (okState : Bool) (image : Option (HEntry × Bool)) : Nat :=
  if !s.handleOk t h then 0x03
  else if !okState && (decide ((s.home t h).st = stMoving) || s.filling t h) then 0x01
  else if !okState then 0x02
  else if s.filling t h then 0x01
  else match image with
    | none => 0
    | some (im, ok) => if !ok || !im.imageOk then 0x04 else if !s.homeOk t im then 0x05 else 0

/-- CREATE. -/
def State.cmdCreate (s : State) (t h : Nat) : State × Nat :=
  let im := s.entryImage t
  let old := s.home t h
  let r := s.cmdCheck t h (decide (old.st = stFree)) (some (im, !im.packed))
  if r = 0 then (s.setHome t h ((im.withSt stUnwritten).withGen (old.gen + 1)), 0) else (s, r)

/-- DESTROY. -/
def State.cmdDestroy (s : State) (t h : Nat) : State × Nat :=
  let old := s.home t h
  let r := s.cmdCheck t h (!decide (old.st = stMoving)) none
  if r = 0 then (s.setHome t h ((old.withSt stFree).nextGen), 0) else (s, r)

/-- READ. -/
def State.cmdRead (s : State) (t h : Nat) : State × Nat :=
  if s.handleOk t h then (s.putImage t (s.home t h), 0) else (s, 0x03)

/-- CLEAR. -/
def State.cmdClear (s : State) (t h : Nat) : State × Nat :=
  let old := s.home t h
  let r := s.cmdCheck t h (decide (old.st = stUnwritten) || decide (old.st = stValid) || decide (old.st = stVoid) ||
    decide (old.st = stPoisoned)) none
  if r = 0 then (s.setHome t h (((old.withSt stUnwritten).withPacked false).nextGen), 0) else (s, r)

/-- The entry that REHOME makes of an old entry and an image: HOME and PACKED of word 0, words 1 to 7. -/
def rehomed (old im : HEntry) : HEntry :=
  { im with w0 := setBit (setFld old.w0 5 4 im.kind) 6 im.packed }

/-- REHOME; `fw` when the firmware issues it for a restore (R364). -/
def State.cmdRehome (s : State) (t h : Nat) (im : HEntry) (fw : Bool) : State × Nat :=
  let old := s.home t h
  let same := decide (im.fmt = old.fmt) && decide (im.layout = old.layout) && decide (im.bform = old.bform)
  let r := s.cmdCheck t h (decide (old.st = stUnwritten) || decide (old.st = stVoid))
    (some (im, same && (fw || !im.packed)))
  if r = 0 then (s.setHome t h (rehomed old im), 0) else (s, r)

/-- A command by its OP; 0, 6 and 7 are unknown (Table 11-4). -/
def State.homeCmd (s : State) (t op h : Nat) : State × Nat :=
  match op with
  | 1 => s.cmdCreate t h
  | 2 => s.cmdDestroy t h
  | 3 => s.cmdRead t h
  | 4 => s.cmdClear t h
  | 5 => s.cmdRehome t h (s.entryImage t) false
  | _ => (s, 0x06)

/-- A command runs from its registers: their parity is checked, the result and DONE are shown, GO clears, and source
34 fires (R273, R477, Table 18-5). -/
def State.runHomeCmd (s : State) (t : Nat) : State :=
  let s1 := s.useRegs ((.thCmd, t) :: (List.range 8).map fun i => (Reg.thEntry, 8 * t + i))
  if s1.held (.tenant t) then s1
  else
    let c := s1.reg .thCmd t
    let r := s1.homeCmd t (fld c 26 24) (fld c 23 0)
    let s2 := r.1.setReg .thCmdstat t (setFld (setBit (r.1.reg .thCmdstat t) 31 true) 7 0 r.2)
    (s2.hwFld .thCmd t 31 31 0).raiseTenant t 34

/-- The effect of a landed write of TH_CMD. -/
def State.afterThCmd (s : State) (t : Nat) : State :=
  if bit (s.reg .thCmd t) 31 then s.runHomeCmd t else s

/-- A function writes TH_CMD with GO, an OP and a handle. -/
def State.thCommand (s : State) (f t op h : Nat) : State :=
  let r := s.write f .thCmd t true (BitVec.ofNat 32 (2 ^ 31 + op % 8 * 2 ^ 24 + h % 2 ^ 24))
  if r.2 then r.1.afterThCmd t else r.1

/-- CREATE (R273). -/
def execCreate (f : Fin 9) (t : Fin 8) (handle : BitVec 24) (s : State) : Host.Outcome State Fault Refusal :=
  whenServed s fun x => x.thCommand f t 1 handle.toNat
/-- DESTROY (R273). -/
def execDestroy (f : Fin 9) (t : Fin 8) (handle : BitVec 24) (s : State) : Host.Outcome State Fault Refusal :=
  whenServed s fun x => x.thCommand f t 2 handle.toNat
/-- READ (R273). -/
def execThRead (f : Fin 9) (t : Fin 8) (handle : BitVec 24) (s : State) : Host.Outcome State Fault Refusal :=
  whenServed s fun x => x.thCommand f t 3 handle.toNat
/-- CLEAR (R273). -/
def execClear (f : Fin 9) (t : Fin 8) (handle : BitVec 24) (s : State) : Host.Outcome State Fault Refusal :=
  whenServed s fun x => x.thCommand f t 4 handle.toNat
/-- REHOME (R273). -/
def execRehome (f : Fin 9) (t : Fin 8) (handle : BitVec 24) (s : State) : Host.Outcome State Fault Refusal :=
  whenServed s fun x => x.thCommand f t 5 handle.toNat
/-- A command with an OP of 0, 6 or 7 ends with 0x06; one of 1 to 5 is the command of that OP (Table 11-4). -/
def execThUnknownCommand (f : Fin 9) (t : Fin 8) (op : BitVec 3) (handle : BitVec 24) (s : State) :
    Host.Outcome State Fault Refusal :=
  whenServed s fun x => x.thCommand f t op.toNat handle.toNat
/-- A fill of a tensor ends (R278). -/
def execTensorFillDone (t : Fin 8) (handle : BitVec 24) (s : State) : Host.Outcome State Fault Refusal :=
  whenUp s fun x => x.fillDone t handle.toNat

end Sys2Proof.Machine
end

