-- ==== Sys2Proof/Machine/Notices.lean ====
section
/-! DEFINITION. The caravan map (R342 to R347), the sending of caravan notices (R349) and of D2H notices of the caravan
tenant (R462), and replace reasons (R518, R519). -/
namespace Sys2Proof

/-! Flags of a map entry (Table 14-2). -/

def MapEntry.isMaster (e : MapEntry) : Bool := decide (e.flags % 2 = 1)
def MapEntry.isStandby (e : MapEntry) : Bool := decide (e.flags / 2 % 2 = 1)
def MapEntry.isHead (e : MapEntry) : Bool := decide (e.flags / 4 % 2 = 1)
def MapEntry.isDeputy (e : MapEntry) : Bool := decide (e.flags / 8 % 2 = 1)
def MapEntry.isSpare (e : MapEntry) : Bool := decide (e.flags / 16 % 2 = 1)
def MapEntry.isFailed (e : MapEntry) : Bool := decide (e.flags / 32 % 2 = 1)
/-- The entry holds a logical ID (Table 14-1). -/
def MapEntry.isStage (e : MapEntry) : Bool := decide (e.node < 0x4000)
/-- The entry is a module of this caravan (not a foreign node). -/
def MapEntry.isOurs (e : MapEntry) : Bool := decide (e.node < 0xC000)

end Sys2Proof

namespace Sys2Proof.Machine

/-! Caravan registers. -/

def State.carStep (s : State) : Nat := s.reg64 .carStep0 .carStep1 0
def State.carNode (s : State) : Nat := s.rfld .carStatus 0 15 0
/-- 0 JOINING, 1 SPARE, 2 RUNNING, 3 HALTED, 4 RESTORING, 5 OUT. -/
def State.carState (s : State) : Nat := s.rfld .carStatus 0 31 29
/-- 0 worker, 1 master, 2 standby. -/
def State.carRole (s : State) : Nat := s.rfld .carStatus 0 28 27
def State.carTerm (s : State) : Nat := (s.reg .carTerm 0).toNat
def State.setCarStep (s : State) (v : Nat) : State :=
  (s.setReg .carStep0 0 (BitVec.ofNat 32 v)).setRfld .carStep1 0 15 0 (v / 2 ^ 32)
/-- CAR_STATUS.STATE changes: source 197. -/
def State.setCarState (s : State) (v : Nat) : State :=
  if s.carState = v then s else (s.setRfld .carStatus 0 31 29 v).raise 0 197
/-- The module is in a caravan: its image has the section, or a plan is in force (R345, R346). -/
def State.inCaravan (s : State) : Bool := s.cfg.caravan.isSome || s.caravan.plan.isSome
/-- Bond of this module; 0xFFFF outside any. -/
def State.carBond (s : State) : Nat := match s.cfg.caravan with | some c => c.bond | none => 0xFFFF

/-- Map entry of a node. -/
def State.mapOf (s : State) (node : Nat) : Option MapEntry := s.caravan.map.find? fun e => decide (e.node = node)
/-- Map entry of this module, by its serial number. -/
def State.mapSelf (s : State) : Option MapEntry := s.caravan.map.find? fun e =>
  decide (e.serial = s.flash.fuses.serial) && e.isOurs
/-- Members of a bond. -/
def State.bondOf (s : State) (bond : Nat) : List MapEntry :=
  if bond = 0xFFFF then [] else s.caravan.map.filter fun e => decide (e.bond = bond)
/-- Head and deputy of a bond (R347). -/
def State.headOf (s : State) (bond : Nat) : Option Nat := ((s.bondOf bond).find? MapEntry.isHead).map (·.node)
def State.deputyOf (s : State) (bond : Nat) : Option Nat := ((s.bondOf bond).find? MapEntry.isDeputy).map (·.node)
/-- The master's node: from the map or as last heard; 0xFFFF while it is known only by its image address. -/
def State.masterId (s : State) : Nat :=
  match s.caravan.map.find? MapEntry.isMaster with
  | some e => e.node
  | none => s.caravan.masterNode.getD 0xFFFF

/-! Notices (R349). -/

/-- A map entry as it stands in memory and in MAP_UPDATE (Table 14-2). -/
def MapEntry.bytes (ipv6 : Bool) (e : MapEntry) : List Byte :=
  leBytes 2 e.node ++ leBytes 2 e.bond ++ [BitVec.ofNat 8 e.slot, BitVec.ofNat 8 e.flags, 0, 0] ++
    (if ipv6 then beBytes 16 e.addr else beBytes 4 e.addr ++ List.replicate 12 0) ++ leBytes 8 e.serial

/-- The map entries of a MAP_UPDATE body, six numbers each. -/
def bodyEntries (ipv6 : Bool) : List Nat → List Byte
  | n :: b :: sl :: fl :: a :: se :: t => MapEntry.bytes ipv6 ⟨n, b, sl, fl, a, se⟩ ++ bodyEntries ipv6 t
  | _ => []

/-- Body bytes of a notice in network byte order: numbers of 4 bytes each, but for the serial number of JOIN, of 8, and
MAP_UPDATE, the final flag in 4 bytes and entries of 32 from byte 32 on (Table 14-3 states no places: DESIGN CHOICE, log
70). -/
def noticeBody (ipv6 : Bool) (code : Nat) (body : List Nat) : List Byte :=
  match code, body with
  | 0x01, serial :: t => beBytes 8 serial ++ t.flatMap (beBytes 4)
  | 0x0C, final :: t => beBytes 4 final ++ List.replicate 12 0 ++ bodyEntries ipv6 t
  | _, l => l.flatMap (beBytes 4)

/-- The payload of a NOTICE segment: 256 bytes, STEP, SENDER, TERM, MAPGEN and the body, padded with 0 (R349). -/
def noticePayload (ipv6 : Bool) (h : NoteHdr) (code : Nat) (body : List Nat) : List Byte :=
  let b := beBytes 6 h.step ++ beBytes 2 h.sender ++ beBytes 4 h.term ++ beBytes 4 h.mapGen ++ noticeBody ipv6 code body
  (b ++ List.replicate (256 - b.length) 0).take 256

/-- A notice of a kind of Table 14-3 goes to a node with a header (R349). -/
def State.noticeWith (s : State) (h : NoteHdr) (code node : Nat) (body : List Nat) : State :=
  s.emit (.notice code node (noticePayload (bit (s.reg .tunCtrl 0) 29) h code body))

/-- The header of this module's notices. -/
def State.noteHdr (s : State) : NoteHdr := ⟨s.carStep, s.carNode, s.carTerm, (s.reg .carMapgen 0).toNat⟩

/-- A notice of this module to a node. -/
def State.notice (s : State) (code node : Nat) (body : List Nat) : State := s.noticeWith s.noteHdr code node body

/-- A notice to several nodes. -/
def State.notices (s : State) (code : Nat) (nodes : List Nat) (body : List Nat) : State :=
  nodes.foldl (fun x n => x.notice code n body) s

/-- Where a notice of this module to the master goes first: to its head unless it is the head or outside any bond. -/
def State.upNode (s : State) : Nat :=
  match s.headOf s.carBond with
  | some h => if h = s.carNode then s.masterId else h
  | none => s.masterId

/-- A notice module → head → master. -/
def State.noticeUp (s : State) (code : Nat) (body : List Nat) : State :=
  if s.inCaravan then s.notice code s.upNode body else s

/-- Where the master's notices go first: heads, and modules outside any bond (Table 14-3). -/
def State.downNodes (s : State) : List Nat :=
  (s.caravan.map.filter fun e => e.isOurs && !e.isFailed && (e.isHead || decide (e.bond = 0xFFFF))).map (·.node)

/-- A notice master → heads → members. -/
def State.noticeDown (s : State) (code : Nat) (body : List Nat) : State := s.notices code s.downNodes body

/-- Members that a head or deputy relays a master's notice to (R350). -/
def State.memberNodes (s : State) : List Nat :=
  match s.mapSelf with
  | some e => if e.isHead || e.isDeputy then
      ((s.bondOf e.bond).filter fun m => !decide (m.node = e.node) && !m.isFailed && !(e.isDeputy && m.isHead)).map (·.node)
    else []
  | none => []

/-! Notices to the host driver. -/

/-- A D2H notice to the caravan tenant's host driver. -/
def State.noticeHost (s : State) (code : Nat) (body : List Nat) : State :=
  match s.caravan.tenant with
  | some t => s.noticeTenant t code (body.map (BitVec.ofNat 32))
  | none => s

/-- A step number as two body words. -/
def stepWords (v : Nat) : List Nat := [v % 2 ^ 32, v / 2 ^ 32 % 65536]

/-! Replace reasons. -/

/-- A replace reason becomes set (R519). -/
def State.replaceReason (s : State) (b : Nat) : State :=
  if bit (s.reg .monReplace 0) b then s
  else
    let s1 := s.setReg .monReplace 0 (setBit (setBit (s.reg .monReplace 0) b true) 31 true)
    let s2 := (({ s1 with power := { s1.power with replaceN := true } }.emit (.pin 1 true)).raise 0 192).log 7 [b]
    if b ≤ 3 ∧ s2.carState ≠ 0 then s2.noticeUp 0x07 [b] else s2

/-! Halts of the caravan tenant (R359, R360). -/

/-- An abort has halted a class-0 queue of the caravan tenant: the module reports it to the master. -/
def State.haltReport (s : State) (k code core index peer : Nat) : State :=
  if decide (s.caravan.tenant = some (k / 16)) && s.caravan.plan.isSome && decide (s.carState = 2) then
    s.noticeUp 0x06 [code, core, k % 16, index, peer]
  else s

end Sys2Proof.Machine
end

