-- ==== Sys2Proof/Machine/Tasks.lean ====
section
/-! DEFINITION. Manifests and the core sequencer: the manifest image, issue (R113), LOOP copies (R111), the scoreboard
(R118 to R121), completion (R116, R128) and abort (R132, R133). -/
namespace Sys2Proof.Machine

/-! The image (Tables 4-1, 4-2, 4-5). -/

def Queue.hdr (q : Queue) (i : Nat) : W32 := wordAt q.img i
def Queue.cls (q : Queue) : Nat := fld (q.hdr 2) 1 0
def Queue.haltOnAbort (q : Queue) : Bool := bit (q.hdr 2) 8
def Queue.descCount (q : Queue) : Nat := fld (q.hdr 3) 15 0
def Queue.prefCount (q : Queue) : Nat := fld (q.hdr 3) 31 16
def Queue.bankset (q : Queue) : Nat := fld (q.hdr 4) 15 0
def Queue.sbBase (q : Queue) : Nat := fld (q.hdr 5) 8 0
def Queue.sbCount (q : Queue) : Nat := fld (q.hdr 5) 25 16
def Queue.slack (q : Queue) : Nat := (q.hdr 6).toNat
def Queue.cl0Depth (q : Queue) (u : Nat) : Nat := fld (q.hdr 7) (8 * u + 7) (8 * u)
def Queue.logicalSize (q : Queue) : Nat := fld (q.hdr 10) 15 0
/-- Descriptor j as stored. -/
def Queue.desc (q : Queue) (j : Nat) : List W32 := (q.img.drop (64 + 16 * j)).take 16
/-- Prefetch entry j. -/
def Queue.pref (q : Queue) (j : Nat) : List W32 := (q.img.drop (64 + 16 * q.descCount + 8 * j)).take 8

/-- Fields of the common header (Table 4-2). -/
def dType (d : List W32) : Nat := fld (wordAt d 0) 7 0
def dNummode (d : List W32) : Nat := fld (wordAt d 0) 9 8
def dIrq (d : List W32) : Bool := bit (wordAt d 0) 10
def dBudget (d : List W32) : Nat := fld (wordAt d 0) 31 16
def dSig (d : List W32) : Nat := fld (wordAt d 2) 8 0
def dSigValid (d : List W32) : Bool := bit (wordAt d 2) 9
def dDst (d : List W32) : Nat := fld (wordAt d 3) 23 0
/-- Field of word w. -/
def df (d : List W32) (w hi lo : Nat) : Nat := fld (wordAt d w) hi lo

/-- The 11-bit wait slots that a task names: two in word 1, and eight more of a WAIT (Tables 4-2, 4-4). -/
def waitSlots (d : List W32) : List Nat :=
  [df d 1 10 0, df d 1 21 11] ++
    (if dType d = 0x0C then [df d 4 10 0, df d 4 26 16, df d 5 10 0, df d 5 26 16, df d 6 10 0, df d 6 26 16,
      df d 7 10 0, df d 7 26 16] else [])

/-- Entries of the valid wait slots, and of those with the release bit. -/
def waitEntries (d : List W32) : List Nat := ((waitSlots d).filter fun w => decide (w / 512 % 2 = 1)).map (· % 512)
def releaseEntries (d : List W32) : List Nat :=
  ((waitSlots d).filter fun w => decide (w / 512 % 2 = 1) && decide (w / 1024 % 2 = 1)).map (· % 512)

/-! Queue states and the scoreboard. -/

/-- QUE_STATUS.STATE: 0 CLOSED, 1 LOADED, 2 RUNNING, 3 HALTED, 4 DONE, 5 REJECTED. -/
def State.qst (s : State) (k : Nat) : Nat := s.rfld .queStatus k 18 16
def State.setQst (s : State) (k v : Nat) : State := s.setRfld .queStatus k 18 16 v
/-- The queue is open: loaded and not rejected. -/
def State.qOpen (s : State) (k : Nat) : Bool := decide (1 ≤ s.qst k) && decide (s.qst k ≤ 4)
/-- Keys of the open queues of a core. -/
def State.queuesOn (s : State) (n : Nat) : List Nat :=
  (List.range 128).filter fun k => s.qOpen k && decide ((s.queue k).lcore = n)
/-- A core has an open class-0 queue. -/
def State.class0On (s : State) (n : Nat) : Bool := (s.queuesOn n).any fun k => decide ((s.queue k).cls = 0)

def Core.sbEntry (c : Core) (e : Nat) : SbEntry := mget SbEntry.empty c.sb e
def Core.setSb (c : Core) (e : Nat) (x : SbEntry) : Core := { c with sb := mset SbEntry.empty c.sb e x }
/-- Set a scoreboard entry of a queue's core. -/
def State.setSb (s : State) (k e : Nat) (x : SbEntry) : State :=
  s.modCore (s.queue k).lcore fun c => c.setSb e x
def State.sbEntry (s : State) (k e : Nat) : SbEntry := (s.core (s.queue k).lcore).sbEntry e

/-- Empty every scoreboard entry of a queue (R118, R135). -/
def State.clearSb (s : State) (k : Nat) : State :=
  let q := s.queue k
  s.modCore q.lcore fun c => (List.range q.sbCount).foldl (fun x i => x.setSb (q.sbBase + i) .empty) c

/-- Memory rest (R262). -/
def State.memRest (s : State) : Bool :=
  (List.range 16).all fun n =>
    !s.class0On n || (match (s.core n).rest with
      | some r => decide ((s.queue r.queue).cls = 0)
      | none => false)

/-! LOOP copies. -/

/-- Apply the PATCHes of one LOOP frame to the descriptor at index j (R111). -/
def State.patchBy (s : State) (n : Nat) (fr : LoopFrame) (j : Nat) (d : List W32) : List W32 :=
  let row := s.yardAddr n (df fr.desc 6 24 0) + df fr.desc 7 6 0 * fr.iter
  [8, 9, 10, 11].foldl (fun x w =>
    let p := wordAt fr.desc w
    if bit p 31 && decide (fld p 11 0 + fr.index = j) then
      let v := s.word (row + 4 * fld p 19 16)
      let t := fld p 15 12
      setAt x t (if bit p 20 then wordAt x t + v else v)
    else x) d

/-- The working copy of descriptor j under the LOOPs that run: outer LOOPs patch first. -/
def State.patched (s : State) (k j : Nat) : List W32 :=
  let q := s.queue k
  q.loops.foldr (fun fr d => s.patchBy q.lcore fr j d) (q.desc j)

/-- Row word w of a LOOP frame, 0 past the row (R139). -/
def State.rowWord (s : State) (n : Nat) (fr : LoopFrame) (w : Nat) : W32 :=
  let rb := df fr.desc 7 6 0
  if 4 * w + 4 ≤ rb then s.word (s.yardAddr n (df fr.desc 6 24 0) + rb * fr.iter + 4 * w) else 0

/-- Parameter words P0 to P63 (R139). -/
def State.paramWords (s : State) (k : Nat) : List W32 :=
  let q := s.queue k
  (List.range 64).map fun i =>
    match q.loops[i / 16]? with
    | some fr => s.rowWord q.lcore fr (i % 16)
    | none => 0

/-- The index after descriptor j: an ended body repeats or leaves its LOOP (R111). -/
def loopNext (j : Nat) : List LoopFrame → Nat × List LoopFrame
  | [] => (j + 1, [])
  | fr :: t =>
    if j = fr.index + df fr.desc 4 11 0 then
      if fr.iter + 1 < (wordAt fr.desc 5).toNat then (fr.index + 1, { fr with iter := fr.iter + 1 } :: t)
      else loopNext j t
    else (j + 1, fr :: t)

/-! Destinations (R110, R141). -/

/-- Region r of a vector program at a device address: handle, RD, WR, yard offset, length (Table 5-2). -/
def State.region (s : State) (prog r : Nat) : Nat × Bool × Bool × Nat × Nat :=
  let a := prog + 0x40 + 16 * r
  let w := s.word a
  (fld w 23 0, bit w 24, bit w 25, fld (s.word (a + 4)) 24 0, fld (s.word (a + 8)) 25 0)

/-- Regions in use of a program. -/
def State.regionCount (s : State) (prog : Nat) : Nat := fld (s.word (prog + 8)) 20 16

/-- The vector program that a descriptor names, as a yard offset: PROG of VEC, VPROG of an array task that drains to
the engine. -/
def dProg (d : List W32) : Option Nat :=
  if dType d = 4 then some (df d 4 24 0)
  else if (dType d = 1 ∨ dType d = 3) ∧ df d 9 4 3 = 3 then some (df d 12 24 0) else none

/-- Handles of the regions that a program may write. -/
def State.progWrites (s : State) (prog : Nat) : List Nat :=
  ((List.range (s.regionCount prog)).filter fun r => (s.region prog r).2.2.1).map fun r => (s.region prog r).1

/-- Destination handles of a task, MOVE's own tensor apart (R110, R141, R285). -/
def State.destHandles (s : State) (n : Nat) (d : List W32) : List Nat :=
  ([dDst d] ++
    (match dType d with
      | 7 => [df d 4 23 0]
      | 8 => [df d 7 23 0]
      | 9 => [df d 6 23 0]
      | _ => []) ++
    (match dProg d with
      | some off => s.progWrites (s.yardAddr n off)
      | none => [])).filter (fun h => decide (0 < h)) |>.eraseDups

/-! Task records. -/

def State.task? (s : State) (k serial : Nat) : Option Task := (s.queue k).tasks.find? fun t => decide (t.serial = serial)

/-- Change a task in flight. -/
def State.modTask (s : State) (k serial : Nat) (f : Task → Task) : State :=
  s.modQueue k fun q => { q with tasks := q.tasks.map fun t => if t.serial = serial then f t else t }

/-- Every effect of a task has landed. -/
def State.landTask (s : State) (k serial : Nat) : State := s.modTask k serial fun t => { t with landed := true }

/-- Add a translation to a task; a read of an UNWRITTEN tensor reads zeros to its end (R276, R277). -/
def State.addXlate (s : State) (k serial : Nat) (h mode : Nat) : State :=
  let e := s.home (k / 16) h
  s.modTask k serial fun t =>
    if t.xlates.any fun x => decide (x.handle = h) && decide (x.mode = mode) then t
    else { t with xlates := t.xlates ++ [{ handle := h, gen := e.gen, mode := mode, oldHome := false
                                           cold := decide (mode = 0) && decide (e.st = stUnwritten)
                                           addr := s.homeAddr e }] }

/-- A task's reads of a tensor give zeros: it was UNWRITTEN when the task translated it (R277). -/
def State.taskCold (s : State) (k serial h : Nat) : Bool :=
  match s.task? k serial with
  | some t => t.xlates.any fun x => decide (x.handle = h) && x.cold
  | none => false

/-- Address of the home that a task translated a handle to: it keeps that place whatever MOVE switches the home (R276,
R283). -/
def State.taskAddr (s : State) (k serial h : Nat) : Option Nat :=
  match s.task? k serial with
  | some t => t.xlates.findSome? fun x => if x.handle = h then x.addr else none
  | none => none

/-- Add to a task's numeric counts. -/
def State.addCounts (s : State) (k serial sat flush nan : Nat) : State :=
  s.modTask k serial fun t => { t with sat := t.sat + sat, flush := t.flush + flush, nan := t.nan + nan }

/-- Bytes of a completion record (Table 4-8). -/
def recordBytes (k lcore code nowNs : Nat) (t : Task) : List Byte :=
  leBytes 4 (t.index + k % 16 * 2 ^ 16 + lcore * 2 ^ 20 + code * 2 ^ 24) ++ leBytes 4 t.iter ++
    leBytes 4 (Nat.min t.sat 0xFFFFFFFF) ++ leBytes 4 (Nat.min t.flush 0xFFFFFFFF) ++
    leBytes 4 (Nat.min t.nan 0xFFFFFFFF) ++ leBytes 4 t.waited ++ leBytes 8 nowNs

/-- Write a record of 32 bytes, half a codeword, into the fast tier: it reads, merges and writes back; onto an uncorrectable
codeword it is dropped, and the codeword handled with SOURCE 2 (R253). -/
def State.writeRecord (s : State) (a : Nat) (bs : List Byte) : State :=
  let cw := a / 64 * 64
  let r := s.readCw 2 [] cw
  if r.2 then
    let s1 := r.1.initGranule cw
    (if (s1.errorAt [] cw).isEmpty then s1 else s1.writeCorrected cw).putBytes a bs
  else r.1.poisonHomes cw

/-- Store a completion record: at QUE_RINGBASE as the core applies it, in the tenant's windows (R128). -/
def State.putRecord (s : State) (k code ns : Nat) (t : Task) : State :=
  let n := (s.queue k).lcore
  let base := (s.applied .queRingbase k n).toNat * 32768
  let head := s.rfld .queRinghead k 9 0
  let a := base + 32 * head
  let s1 := if s.inWindows (k / 16) a 32 && isFast a then
      s.writeRecord a (recordBytes k n code ns t) else s
  (s1.setRfld .queRinghead k 9 0 ((head + 1) % 1024)).modQueue k fun q =>
    { q with ringFull := decide ((head + 1) % 1024 = s.rfld .queRingtail k 9 0) }

/-- A task's counts go to its core's counters when it completes or aborts (R71). -/
def State.countTask (s : State) (n : Nat) (t : Task) : State :=
  ((s.countSat .coreNumsat n t.sat).countSat .coreNumflush n t.flush).countSat .coreNumnan n t.nan

/-- Remove a task; a queue whose last descriptor has completed is DONE, and a held GO is taken by the caller (R135). -/
def State.dropTask (s : State) (k serial : Nat) : State :=
  s.modQueue k fun q => { q with tasks := q.tasks.filter fun t => !decide (t.serial = serial),
                                 fence := if q.fence = some serial then none else q.fence }

/-- What the prologue loaded or found for chosen tasks goes: first tiles, first bricks and failures (R127, R238, R241). -/
def Core.dropChoice (c : Core) (p : Nat × Nat → Bool) : Core :=
  { c with
    edges := mmap EdgeFile.init c.edges fun _ e =>
      if e.shadow.full && !e.shadow.fromEngine && p e.shadow.chosen then { e with shadow := .init } else e
    ahead := mmap BrickBuf.init c.ahead fun _ b => if p b.chosen then .init else b
    failed := c.failed.filter fun x => !p x.chosen }

/-- Restart a queue at RESTART_IDX; from DONE the scoreboard and the prefetch schedule start anew (R135). What the prologue
has loaded for the queue goes. A restart inside a LOOP's body runs it outside that LOOP, with no iteration and no row, and
one at or past DESC_COUNT leaves the queue RUNNING with nothing to issue: the spec states neither (DESIGN CHOICE, log 122). -/
def State.startQueue (s : State) (k : Nat) : State :=
  let st := s.qst k
  let idx := if st = 1 then 0 else s.rfld .queCtrl k 31 16
  let s0 := s.modCore (s.queue k).lcore fun c => c.dropChoice fun x => decide (x.1 = k)
  let s1 := if st = 4 then s0.clearSb k else s0
  let s2 := s1.modQueue k fun q =>
    { q with next := idx, loops := [], goHeld := false, fired := [],
             eligible := if st = 4 then [] else q.eligible }
  (s2.setQst k 2).hwFld .queCtrl k 0 0 0

/-- A held GO is taken at HALTED or DONE (Table 4-9). -/
def State.takeGo (s : State) (k : Nat) : State :=
  if (s.queue k).goHeld && (decide (s.qst k = 3) || decide (s.qst k = 4)) then s.startQueue k else s

/-- The queue enters HALTED or DONE. -/
def State.enter (s : State) (k st : Nat) : State := (s.setQst k st).takeGo k

/-! The mortar mesh (R19, R20): links 0 north, 1 south, 2 east, 3 west. -/

/-- The logical core that link l of core n joins; none at the edge of the mesh. -/
def meshPartner (n l : Nat) : Option Nat :=
  match l with
  | 0 => if 4 ≤ n then some (n - 4) else none
  | 1 => if n < 12 then some (n + 4) else none
  | 2 => if n % 4 < 3 then some (n + 1) else none
  | _ => if 1 ≤ n % 4 then some (n - 1) else none

/-- The link of the partner that faces back. -/
def meshBack (l : Nat) : Nat := match l with | 0 => 1 | 1 => 0 | 2 => 3 | _ => 2

/-- Link of a PATH code (R109): 4 north, 5 south, 6 east, 7 west. -/
def pathLink (path : Nat) : Nat := path - 4

/-! Aborting. -/

/-- Bank states and engines of an aborted task: its banks are VOID, its drains, programs and landing data go (R93,
R132, R166, R183). -/
def Core.stopOwner (c : Core) (o : Nat × Nat) : Core :=
  { c with
    banks := mmap Bank.init c.banks fun _ b =>
      if b.owner = o ∧ (b.st = .busy ∨ b.use ≠ .none) then { b with st := .void, use := .none, data := [] } else b
    landings := mmap Landing.init c.landings fun _ l => if l.owner = o then Landing.init else l
    edges := match c.arr with
      | some a => if a.owner = o then mmap EdgeFile.init c.edges fun _ e => { e with shadow := .init } else c.edges
      | none => c.edges
    vec := if c.vec.owner = o ∧ c.vec.running then VecCtx.init else c.vec
    drainVec := if c.drainVec.owner = o ∧ c.drainVec.running then VecCtx.init else c.drainVec
    arr := match c.arr with
      | some a => if a.owner = o then none else some a
      | none => none
    softmax := match c.arr with
      | some a => if a.owner = o then Softmax.init else c.softmax
      | none => c.softmax
    halo := match c.halo with
      | some h => if h.owner = o then none else some h
      | none => none }

/-- A MOVE of an aborted task ends: before the switch its tensor is VALID at the source again, after it VOID at the
peer (R285, R288). -/
def State.endMove (s : State) (k serial : Nat) : State :=
  match s.moves.find? fun m => decide (m.tenant * 16 + m.queue = k) && decide (m.task = serial) && !m.detached with
  | none => s
  | some m =>
    let s1 := { s with moves := s.moves.filter fun x => !(decide (x.tenant * 16 + x.queue = k) && decide (x.task = serial)) }
    s1.genUpdate m.tenant m.handle m.gen fun x =>
      if (x.home m.tenant m.handle).st = stMoving then
        x.setSt m.tenant m.handle (if m.switched then stVoid else stValid)
      else x

/-- The peer node that a task's descriptor names; 0xFFFF for none. -/
def dPeer (d : List W32) : Nat :=
  match dType d with
  | 5 => if df d 5 1 0 = 3 then df d 8 15 0 else 0xFFFF
  | 6 => if df d 6 2 0 = 0 then df d 7 15 0 else 0xFFFF
  | 7 => if df d 6 2 0 = 0 then df d 7 15 0 else 0xFFFF
  | 8 => if df d 8 2 0 = 0 ∧ df d 4 1 0 ≠ 3 then df d 9 15 0 else 0xFFFF
  | _ => 0xFFFF

/-- Links of HALO that a CONV names (Table 4-4). -/
def haloLinks (d : List W32) : List Nat := (List.range 4).filter fun l => decide (df d 11 3 0 / 2 ^ l % 2 = 1)

/-- The partner over link l has aborted: an exchange whose data over it have not landed is lost. -/
def Halo.lose (l : Nat) (p : Halo) : Halo :=
  { p with gone := p.gone || ((haloLinks p.desc).contains l && !p.landed.contains l) }

/-- The exchange of a task that aborts fails at every partner whose inbound data from it have not landed (R219). -/
def State.haloGone (s : State) (n : Nat) (o : Nat × Nat) : State :=
  match (s.core n).halo with
  | none => s
  | some h =>
    if h.owner ≠ o then s
    else (haloLinks h.desc).foldl (fun x l =>
      match meshPartner n l with
      | none => x
      | some m => x.modCore m fun c => { c with halo := c.halo.map (Halo.lose (meshBack l)) }) s

/-- Insert an ended task in the order of issue. -/
def insertEnded (e : Ended) : List Ended → List Ended
  | [] => [e]
  | x :: l => if e.task.serial < x.task.serial then e :: x :: l else x :: insertEnded e l

/-- The record of an ended task is written, and what follows it: the completion interrupt, and for an abort QUE_STATUS, the
fault interrupt and HALTED (R116, R132 steps 5 and 6, R133). -/
def State.recordNow (s : State) (k : Nat) (e : Ended) : State :=
  let q := s.queue k
  let ten := k / 16
  let s1 := s.putRecord k e.code e.ns e.task
  let irq (x : State) : State := if dIrq e.task.desc then x.raiseTenant ten (k % 16) else x
  if e.code = 0 then irq s1
  else
    let s2 := s1.setReg .queStatus k (setFld (setFld (s1.reg .queStatus k) 31 24 e.code) 15 0 e.task.index)
    let s3 := irq (s2.raiseTenant ten 32)
    if q.haltOnAbort then
      (if q.cls = 0 then s3.haltReport k e.code q.lcore e.task.index (dPeer e.task.desc) else s3).enter k 3
    else s3

/-- Records are written in the order of issue, so that an abort's comes before that of any task that issued after it: an
ended task's record waits while an earlier task of the queue is in flight (R128; log 123). -/
def State.flushRecords (s : State) (k : Nat) : State :=
  let q := s.queue k
  let due := q.unrecorded.takeWhile fun e => q.tasks.all fun t => decide (e.task.serial < t.serial)
  due.foldl (fun x e => x.recordNow k e) (s.modQueue k fun y => { y with unrecorded := y.unrecorded.drop due.length })

/-- A task ends: it is in flight no longer, and its record is written in its turn. -/
def State.endTask (s : State) (k code : Nat) (t : Task) : State :=
  (((s.countTask (s.queue k).lcore t).dropTask k t.serial).modQueue k fun q =>
    { q with unrecorded := insertEnded ⟨t, code, s.clock.ptp⟩ q.unrecorded }).flushRecords k

/-- A class-1 or class-2 task that ends past its rest window counts the cycles by which it overran; a window that its WAIT
holds open has not ended (R131). -/
def State.restOver (s : State) (k : Nat) (t : Task) : State :=
  let n := (s.queue k).lcore
  match t.windowEnd with
  | none => s
  | some e =>
    if s.clock.since ≤ e || (match (s.core n).rest with | some r => r.waiting | none => false) then s
    else s.countWrap .coreRestovr n ((s.clock.since - e) * 7 / 5)

/-- The queue has run its last descriptor: no task is in flight and none is left to issue. Where HALT_ON_ABORT is clear this
holds too when the last of them aborts; the spec speaks of the last descriptor's completion (DESIGN CHOICE, log 121). -/
def State.ranOut (s : State) (k : Nat) : Bool :=
  let q := s.queue k
  q.tasks.isEmpty && decide (q.descCount ≤ q.next) && decide (s.qst k = 2)

/-- Abort a task in flight with a fault code (R132, R133). -/
def State.abortTask (s : State) (k serial code : Nat) : State :=
  match s.task? k serial with
  | none => s
  | some t =>
    let ten := k / 16
    let q := s.queue k
    let n := q.lcore
    let s1 := (s.haloGone n (k, serial)).modCore n fun c => (c.stopOwner (k, serial)).dropChoice fun x => decide (x = (k, t.index))
    let s2 := s1.endMove k serial
    let s3 := (t.xlates.filter fun x => decide (1 ≤ x.mode)).foldl (fun x y => x.voidWrite ten y.handle y.gen) s2
    let s4 := if dSigValid t.desc then s3.setSb k (dSig t.desc) ⟨2, dDst t.desc, code⟩ else s3
    let s5 := (s4.restOver k t).endTask k code t
    if s5.ranOut k then s5.enter k 4 else s5

/-- Abort all tasks in flight of a queue, oldest first. -/
def State.abortAll (s : State) (k code : Nat) : State :=
  (s.queue k).tasks.foldl (fun x t => x.abortTask k t.serial code) s

/-- A trap of the tenant's numeric mode: the record of R72 and R73, then the abort with 0x40. -/
def State.nanTrap (s : State) (k serial unit handle elem : Nat) : State :=
  match s.task? k serial with
  | none => s
  | some t =>
    let n := (s.queue k).lcore
    let was := bit (s.reg .coreNantrap0 n) 31
    let s1 := s.record n .coreNantrap0
      (BitVec.ofNat 32 (n * 2 ^ 24 + k % 16 * 2 ^ 20 + unit * 2 ^ 16 + t.index))
      [(.coreNantrap1, BitVec.ofNat 32 t.iter), (.coreNantrap2, BitVec.ofNat 32 handle),
       (.coreNantrap3, BitVec.ofNat 32 elem)]
    let s2 := if was then s1 else s1.raiseTenant (k / 16) 32
    s2.abortTask k serial 0x40

/-! Completion. -/

/-- A task completes (R116, R128): its writers end, SIG_ENTRY is READY, released entries are EMPTY, its record is written
in its turn with the interrupt after it, and the queue may be DONE. -/
def State.completeTask (s : State) (k serial : Nat) : State :=
  match s.task? k serial with
  | none => s
  | some t =>
    let ten := k / 16
    let s1 := (t.xlates.filter fun x => decide (x.mode = 1)).foldl (fun x y => x.endWrite ten y.handle y.gen) s
    let s2 := (releaseEntries t.desc).foldl (fun x e => x.setSb k e .empty) s1
    let s3 := if dSigValid t.desc then s2.setSb k (dSig t.desc) ⟨1, dDst t.desc, 0⟩ else s2
    let s4 := ((s3.restOver k t).endTask k 0 t).modQueue k fun q => { q with ended := q.ended + 1 }
    if s4.ranOut k then s4.enter k 4 else s4

/-! Issue. -/

/-- The code of the first VOID entry that a task waits on (R119). -/
def State.voidWait (s : State) (k : Nat) (d : List W32) : Option Nat :=
  ((waitEntries d).find? fun e => decide ((s.sbEntry k e).st = 2)).map fun e => (s.sbEntry k e).code

/-- All wait slots are READY. -/
def State.waitsReady (s : State) (k : Nat) (d : List W32) : Bool :=
  (waitEntries d).all fun e => decide ((s.sbEntry k e).st = 1)

/-- Records that the completion ring holds (R128). -/
def State.ringUsed (s : State) (k : Nat) : Nat :=
  if (s.queue k).ringFull then 1024 else (s.rfld .queRinghead k 9 0 + 1024 - s.rfld .queRingtail k 9 0) % 1024

/-- The completion ring has room for one record per task in flight and one more (R113). -/
def State.ringRoom (s : State) (k : Nat) : Bool := decide (s.ringUsed k + (s.queue k).tasks.length + (s.queue k).unrecorded.length + 1 ≤ 1024)

/-- A class-1 or class-2 task may issue on a core with an open class-0 queue: it fits in an open rest window (R34,
R131). BUDGET counts 64 core cycles at 1.4 GHz. -/
def State.windowFits (s : State) (n : Nat) (cls : Nat) (d : List W32) : Bool :=
  decide (cls = 0) || !s.class0On n ||
    (match (s.core n).rest with
      | some r => decide (s.clock.since + dBudget d * 64 * 5 / 7 ≤ r.ends)
      | none => false)

/-- The next task of a queue could issue but for its unit (R113, R117, R119, R121). -/
def State.issuable (s : State) (k : Nat) : Bool :=
  let q := s.queue k
  let d := s.patched k q.next
  decide (s.qst k = 2) && !s.queueHeld k && (s.phys q.lcore).isSome && decide (q.next < q.descCount) &&
    !bit (s.reg .queCtrl k) 1 && q.fence.isNone && decide (q.tasks.length < 8) && s.ringRoom k &&
    q.unrecorded.all (fun e => decide (e.code = 0)) && s.windowFits q.lcore q.cls d &&
    ((s.voidWait k d).isSome || (s.waitsReady k d &&
      (!dSigValid d || !decide ((s.sbEntry k (dSig d)).st = 1))))

/-- All steps of the array task in hand have issued (R114). -/
def ArrJob.idle (j : ArrJob) : Bool :=
  if dType j.desc = 2 then decide (j.phase = 3)
  else decide (j.left0 = 0) && decide (j.left1 = 0) && decide (j.more = 0)

/-- The arrays accept a new task (R114). -/
def Core.arraysFree (c : Core) : Bool := match c.arr with | none => true | some j => j.idle

/-! The shared units' tenant queues (R35 to R38): unit 0 the tier movers, 1 the Kiln, 2 the codec, 3 + g the Tunil engines of
port group g. -/

/-- SCH_CFG of a tenant as a unit applies it. -/
def State.schCfg (s : State) (u t : Nat) : W32 := s.applied .schCfg (8 * u + t) (64 + u)
/-- Class-2 weight. -/
def State.weight2 (s : State) (u t : Nat) : Nat := fld (s.schCfg u t) 31 24
/-- Depth of a tenant's queue in a class; class-0 queues are sized by the plan. -/
def State.unitDepth (s : State) (u t cls : Nat) : Nat :=
  if cls = 1 then fld (s.schCfg u t) 11 0 else fld (s.schCfg u t) 23 12

/-- A tenant's queue at a unit is full: a class-1 or class-2 queue holds its set depth; class 0 has none here (R38). -/
def State.unitFull (s : State) (u t cls : Nat) : Bool :=
  decide (cls ≠ 0) && decide (s.unitDepth u t cls ≤
    ((s.unit u).queue.filter fun y => decide (y.tenant = t) && decide (y.cls = cls)).length)

/-- The unit that runs the next task of a queue accepts it (R113, R114): the arrays, the vector engine, or a tenant queue of
the movers, of the Kiln or of a Tunil engine that the route's ports lead to. -/
def State.unitFree (s : State) (k : Nat) : Bool :=
  let q := s.queue k
  let d := s.patched k q.next
  let c := s.core q.lcore
  let room (u : Nat) : Bool := !s.unitFull u (k / 16) q.cls
  let engine (r : Nat) : Bool :=
    (List.range 32).all (fun p => !decide ((s.route r).ports / 2 ^ p % 2 = 1)) ||
      (List.range 8).any fun g => (List.range 4).any (fun i => decide ((s.route r).ports / 2 ^ (4 * g + i) % 2 = 1)) && room (3 + g)
  match dType d with
  | 1 | 2 | 3 => c.arraysFree
  | 4 => !c.vec.running
  | 5 => if df d 5 1 0 = 3 then engine (df d 8 31 16) else room 0
  | 6 => decide (df d 6 2 0 ≠ 0) || engine (df d 7 31 16)
  | 9 => room 1
  | _ => true

/-- No other queue of the core whose next task could issue ranks before queue k: lower class first, then lower queue
number (R34). A task whose unit does not accept it holds no other queue back. -/
def State.firstOnCore (s : State) (k : Nat) : Bool :=
  let q := s.queue k
  (s.queuesOn q.lcore).all fun j =>
    decide (j = k) || !(decide ((s.queue j).cls < q.cls) || (decide ((s.queue j).cls = q.cls) && decide (j < k))) ||
      !(s.issuable j && s.unitFree j)

/-- The task boundary of a queue's core: staged copies apply (R467), a CORE_CBDIR write empties the codebook banks
(R239). -/
def State.taskBoundary (s : State) (k : Nat) : State :=
  let n := (s.queue k).lcore
  let t := k / 16
  let s1 := (((s.boundary .tenNumcfg t n).boundary .thCfg t n).boundary .queRingbase k n).boundary .coreCbdir n n
  if (s1.core n).cbdirWritten then s1.modCore n fun c => { c with cb := [], ahead := [], cbdirWritten := false } else s1

/-- The registers that a task issue uses (R477). -/
def issueRegs (k n : Nat) : List (Reg × Nat) :=
  [(.tenNumcfg, k / 16), (.thCfg, k / 16), (.queCtrl, k), (.queRingbase, k), (.queRingtail, k), (.coreMemsplit, n),
   (.coreCbdir, n)]

/-- Trap mode of a task: its NUMMODE over the tenant's default (R69). -/
def State.trapMode (s : State) (k : Nat) (d : List W32) : Bool :=
  match dNummode d with
  | 0 => bit (s.applied .tenNumcfg (k / 16) (s.queue k).lcore) 0
  | m => decide (m = 2)

/-- Prefetch entries that the issue of descriptor j makes eligible (Table 4-5). -/
def State.trigger (s : State) (k j : Nat) : State :=
  let q := s.queue k
  let iter := match q.loops with | fr :: _ => fr.iter | [] => 0
  let hits := (List.range q.prefCount).filter fun i =>
    decide (df (q.pref i) 0 15 0 = j) && (bit (wordAt (q.pref i) 0) 16 || !q.fired.contains j)
  s.modQueue k fun x => { x with
    eligible := x.eligible ++ hits.map fun i => (i, if bit (wordAt (q.pref i) 0) 16 then iter else 0)
    fired := if x.fired.contains j then x.fired else j :: x.fired }

/-- The task of the next descriptor goes in flight: boundary, record, translations of its destinations, the next
index, triggers, slip (R113, R129). -/
def State.startTask (s : State) (k waited : Nat) : State × Task :=
  let s1 := s.taskBoundary k
  let q := s1.queue k
  let d := s1.patched k q.next
  let t : Task :=
    { serial := s1.serial, index := q.next, iter := (match q.loops with | fr :: _ => fr.iter | [] => 0), desc := d,
      params := s1.paramWords k,
      xlates := (s1.destHandles q.lcore d).map fun h =>
        { handle := h, gen := (s1.home (k / 16) h).gen, mode := 1, oldHome := false
          addr := s1.homeAddr (s1.home (k / 16) h) },
      trap := s1.trapMode k d, sat := 0, flush := 0, nan := 0, waited := waited, landed := false, progress := 0,
      msg := 0,
      windowEnd := if q.cls = 0 then none else
        (match (s1.core q.lcore).rest with | some r => some r.ends | none => none)
      step := s1.reg64 .carStep0 .carStep1 0
      count := (match q.loops with | fr :: _ => (wordAt fr.desc 5).toNat | [] => 0)
      issued := s1.clock.since }
  let nx := loopNext q.next q.loops
  let s2 := s1.trigger k q.next
  let s3 := s2.modQueue k fun x => { x with tasks := x.tasks ++ [t], next := nx.1, loops := nx.2 }
  ({ s3 with serial := s3.serial + 1 }.countWrap .queSlip k waited, t)

/-- Issue the next task of queue k when it is of the wanted kind, its waits allow it and its unit accepts it; `run` is
what the task does at its issue. A VOID wait aborts it before its first action (R119); the body of a LOOP that so aborts is
skipped: the spec does not say whether it then issues (DESIGN CHOICE, log 120). -/
def State.issueTask (s0 : State) (k waited : Nat) (kind : List W32 → Bool) (accept : State → List W32 → Bool)
    (run : State → Task → State) : State :=
  let s := s0.useRegs (issueRegs k (s0.queue k).lcore)
  let q := s.queue k
  let d := s.patched k q.next
  if decide (s.qst k = 2) && !s.queueHeld k && bit (s.reg .queCtrl k) 1 then s.enter k 3
  else if !(kind d && s.issuable k && s.firstOnCore k) then s
  else
    match s.voidWait k d with
    | some code =>
      let r := s.startTask k waited
      let skip := if dType d = 0x0A then
          let nx := loopNext (r.2.index + df d 4 11 0) q.loops
          r.1.modQueue k fun x => { x with next := nx.1, loops := nx.2 }
        else r.1
      skip.abortTask k r.2.serial code
    | none =>
      if accept s d && s.unitFree k then
        let r := s.startTask k waited
        run r.1 r.2
      else s

/-- The fault of a task at its issue, or none: abort with the code, else go on. -/
def State.orAbort (s : State) (k serial code : Nat) (go : State → State) : State :=
  if code = 0 then go s else s.abortTask k serial code

end Sys2Proof.Machine
end

