-- ==== Sys2Proof/Machine/Arrays.lean ====
section
/-! DEFINITION. Array tasks: operand translation, sweeps into accumulator banks (R75, R88), edge files (R77 to R80),
MATMUL, and the landing of sweeps and drains. A sweep's values are computed when it begins, step by step in its own
order; SWEEP_END and DRAIN_END are the moments at which they become visible. -/
namespace Sys2Proof.Machine

/-! Yard operands by handle (R176, R276 to R281). -/

/-- A yard of core n by yard offset; a cold tensor reads zeros (R277). -/
def State.yard (s : State) (n : Nat) (cold : Bool) (off : Nat) : Byte :=
  if cold then 0 else s.byte (s.yardAddr n off)

/-- The fault of a range that a yard offset places in a tensor: home and extent (R176). -/
def HEntry.placeCode (e : HEntry) (n off len : Nat) : Nat :=
  if e.kind ≠ 0 ∨ e.lcore ≠ n then 0x20
  else if off < e.yoff ∨ e.yoff + e.bytes < off + len then 0x13
  else 0

/-- First nonzero of two fault codes. -/
def orCode (a b : Nat) : Nat := if a = 0 then b else a

/-- The fault of a read placed by a yard offset. -/
def State.yardReadCode (s : State) (t n h off len : Nat) : Nat :=
  if !s.handleOk t h then 0x20
  else orCode ((s.home t h).readCode (s.coldFault t n)) ((s.home t h).placeCode n off len)

/-- The fault of a write placed by a yard offset; `reads` for one that reads its destination. -/
def State.yardWriteCode (s : State) (t n h off len : Nat) (reads : Bool) : Nat :=
  if !s.handleOk t h then 0x20
  else orCode ((s.home t h).writeCode reads) ((s.home t h).placeCode n off len)

/-- The tensor reads as zeros. -/
def State.cold (s : State) (t h : Nat) : Bool := decide ((s.home t h).st = stUnwritten)

/-- A task starts to read a tensor: its translation, and the cold read that it may be. -/
def State.startRead (s : State) (k serial h : Nat) : State :=
  (s.coldRead (k / 16) h).addXlate k serial h 0

/-- Change the mode of a task's translation of a destination: 2 for one it also reads, 3 for one it names only. -/
def State.setMode (s : State) (k serial h mode : Nat) : State :=
  s.modTask k serial fun t => { t with xlates := t.xlates.map fun x =>
    if x.handle = h ∧ x.mode ≠ 0 then { x with mode := mode } else x }

/-- Linear index of element (r, c) of a tensor in its layout order (R72, R101); layouts other than tile-blocked count
rows of D0 elements. -/
def HEntry.elemIndex (e : HEntry) (r c : Nat) : Nat := if e.layout = 1 then tileOff e.d0 r c 1 else r * e.d0 + c

/-! Descriptor fields of MATMUL (Table 4-4). -/

def mTile (d : List W32) : Nat := df d 6 27 25
def mMask (d : List W32) : Nat := df d 6 31 28
def mBank (d : List W32) : Nat := df d 9 1 0
def mClear (d : List W32) : Bool := bit (wordAt d 9) 2
def mDrain (d : List W32) : Nat := df d 9 4 3
def mRelease (d : List W32) : Bool := bit (wordAt d 9) 5
def mTrans (d : List W32) : Bool := bit (wordAt d 9) 6 || decide (mTile d = 3)
def mDrainOff (d : List W32) : Nat := df d 9 31 7
def mB8 (d : List W32) : Bool := decide (df d 5 31 28 = 3)
def mBricks (d : List W32) : Bool := decide (df d 5 27 24 = 2)
def mK (d : List W32) : Nat := df d 8 20 0
def mKt (d : List W32) : Nat := df d 11 9 0

/-! Descriptor fields and quantities of FUSED2 (Tables 4-4 and 6-6). -/

def fTile (d : List W32) : Nat := df d 7 27 25
def fMask (d : List W32) : Nat := firstMask (fTile d)
def fB8 (d : List W32) : Bool := decide (df d 5 31 28 = 3)
def fK1 (d : List W32) : Nat := df d 10 20 0
def fN1 (d : List W32) : Nat := df d 11 20 0
def fFn (d : List W32) : Nat := df d 12 3 0
def fBank (d : List W32) : Nat := df d 12 9 8
def fClear (d : List W32) : Bool := bit (wordAt d 12) 10
def fOff (d : List W32) : Nat := df d 13 24 0
def fWidth (d : List W32) : Nat := tileWidth (fTile d)
def fRows (d : List W32) : Nat := if fTile d = 4 then 512 else 256
def fKt1 (d : List W32) : Nat := Nat.min (fK1 d) 512
def fU (d : List W32) : Nat := if fFn d = 3 then fWidth d / 2 else fWidth d
def fChunks (d : List W32) : Nat := fN1 d / fU d
def fKt2 (d : List W32) : Nat := Nat.min (fU d) 512
def fStreams (d : List W32) : Nat := streamsOf (fTile d) (fMask d)
def fUses (d : List W32) : List ArrUse := usesOf (fTile d) (fMask d)
/-- Bytes from one W1 chunk to the next (row 7 of Table 6-6): B8X at half the stride of B16, as the row says, though the
chunk's scale bytes then reach into the next chunk's place (DEDUCED, log 56). -/
def w1Stride (d : List W32) : Nat := if fB8 d then fK1 d * fStreams d * 256 else fK1 d * fStreams d * 512
/-- Blocks of the result (row 3 of Table 6-6). -/
def fBlocks (d : List W32) (dst : HEntry) : Nat := if fFn d = 0 then 1 else dst.d0 / fWidth d

/-! Banks. -/

/-- Banks are keyed 4 array + bank. -/
def Core.bank (c : Core) (a b : Nat) : Bank := mget Bank.init c.banks (4 * a + b)
def Core.setBank (c : Core) (a b : Nat) (x : Bank) : Core := { c with banks := mset Bank.init c.banks (4 * a + b) x }
def Core.edge (c : Core) (f : Nat) : EdgeFile := mget EdgeFile.init c.edges f
def Core.setEdge (c : Core) (f : Nat) (x : EdgeFile) : Core := { c with edges := mset EdgeFile.init c.edges f x }
def Core.landing (c : Core) (b : Nat) : Landing := mget Landing.init c.landings b
def Core.setLanding (c : Core) (b : Nat) (x : Landing) : Core :=
  { c with landings := mset Landing.init c.landings b x }
def Core.cbBank (c : Core) (port b : Nat) : CbBank := mget CbBank.init c.cb (2 * port + b)
def Core.setCb (c : Core) (port b : Nat) (x : CbBank) : Core := { c with cb := mset CbBank.init c.cb (2 * port + b) x }

/-- A sweep may begin into the banks: none is BUSY (R89). -/
def Core.banksReady (c : Core) (uses : List ArrUse) (b : Nat) : Bool :=
  uses.all fun u => !decide ((c.bank u.array b).st = .busy)

/-- An accumulate-mode sweep would begin on a VOID bank (Table 3-6). -/
def Core.voidBank (c : Core) (uses : List ArrUse) (b : Nat) (clear : Bool) : Bool :=
  !clear && uses.any fun u => decide ((c.bank u.array b).st = .void)

/-- Rows of 256 of a dense list of 65,536. -/
def rowsOf {α : Type} (l : List α) : List (List α) := (List.range 256).map fun r => (l.drop (256 * r)).take 256

/-- Starting values of a sweep (R75, R90). -/
def Bank.startRows (b : Bank) (clear : Bool) : List (List W32) :=
  rowsOf (dense 0 (if clear then [] else b.data) 0 65536)

/-- The bank contents of a sweep's cells. -/
def cellsData (rows : List (List Cell)) : SMap W32 := sparse 0 0 ((rows.flatMap id).map fun c => c.v)

/-- A sweep of task (k, serial) begins: the banks are BUSY with its results, its counts are the task's, and in trap
mode the first produced NaN aborts the task (R72, R88, R100, R101). -/
def State.sweep (s : State) (k serial b : Nat) (uses : List ArrUse) (clear : Bool) (tag : Nat) (o : Operands)
    (elem : Nat → Nat → Nat → Nat) (handle : Nat) : State :=
  let n := (s.queue k).lcore
  let c := s.core n
  let trap := match s.task? k serial with | some t => t.trap | none => false
  let w := runSweep o trap elem (uses.map fun u => (u, (c.bank u.array b).startRows clear))
  let c1 := w.banks.foldl (fun x p => x.setBank p.1.array b
    { st := .busy, use := .sweep, data := cellsData p.2, owner := (k, serial), tag := tag }) c
  let cnt := w.counts
  let issued := match w.trap with | none => w.done | some _ => Nat.min o.steps (w.done + 32)
  let s1 := ((s.setCore n c1).addCounts k serial cnt.1 cnt.2.1 cnt.2.2).countWrap .coreArrissue n issued
  match w.trap with
  | none => s1
  | some (e, a) => s1.nanTrap k serial a handle e

/-! Edge files. -/

/-- An engine's load of a tile of the given bytes is complete: programs that have ended put every chunk of it there. -/
def EdgeHalf.engineDone (h : EdgeHalf) (bytes : Nat) : Bool :=
  h.full && h.fromEngine && h.coming.isEmpty && (List.range (cdiv bytes 4096)).all h.loaded.contains

/-- The first tile of a task is in a shadow half already: programs put it there whole (R164), or the prologue loaded it for
this task (R127). No field of a descriptor names an engine's tile: the array task that next issues on the file takes it
(DESIGN CHOICE, log 117). -/
def EdgeHalf.holds (h : EdgeHalf) (k index bytes : Nat) : Bool :=
  h.full && (if h.fromEngine then h.engineDone bytes else decide (h.chosen = (k, index)))

/-- The shadow half lets an array task with a first tile of the given bytes begin: no engine's load of it is half done
(R79, R80). -/
def EdgeHalf.ready (h : EdgeHalf) (bytes : Nat) : Bool := !(h.full && h.fromEngine) || h.engineDone bytes

/-- The half holds a tile that the loader put there. -/
def EdgeHalf.ofLoader (b : SMap Byte) : EdgeHalf := { EdgeHalf.init with full := true, bytes := b }

/-- The halves after a swap: the filled half is active, the loader has filled the other with the tile after it or left it
free (R79, R80). -/
def Core.swapIn (c : Core) (f : Nat) (active : SMap Byte) (next : Option (SMap Byte)) : Core :=
  c.setEdge f
    { active := .ofLoader active
      shadow := match next with
        | some b => .ofLoader b
        | none => .init }

/-- The bytes of a shadow half at the swap that a job makes: what it holds, or the tile that the loader brings first (R80). -/
def EdgeHalf.taken (h : EdgeHalf) (load : SMap Byte) : SMap Byte := if h.full then h.bytes else load

/-- Every edge file of a task lets it begin with a first tile of the given bytes. -/
def Core.filesReady (c : Core) (files : List Nat) (bytes : Nat) : Bool := files.all fun f => (c.edge f).shadow.ready bytes

/-- The first tile of a task comes into an edge file from the shadow half where it stands ready, else from the yard. -/
def State.firstHalf (s : State) (k index n file bytes : Nat) (load : Nat → Byte) : Nat → Byte :=
  let sh := ((s.core n).edge file).shadow
  if sh.holds k index bytes then fun o => mget 0 sh.bytes o else load

/-- A half of so many bytes. -/
def halfOf (bytes : Nat) (h : Nat → Byte) : SMap Byte := sparse 0 0 ((List.range bytes).map h)

/-- The arrays and edge file that an activation tile feeds to a task. -/
def fileActs (tile mask : Nat) : List (Nat × Nat) := ((usesOf tile mask).map fun u => (fileOf tile mask u.act, u.act)).eraseDups

/-! Codebooks (R235 to R241). -/

/-- Record a failing check of Table 9-4 in CORE_BRKFAULT (R242). -/
def State.brickFault (s : State) (n array reason stream index kpos id : Nat) : State :=
  s.record n .coreBrkfault0 (BitVec.ofNat 32 (array * 2 ^ 28 + reason * 2 ^ 24 + stream * 2 ^ 16 + index))
    [(.coreBrkfault1, BitVec.ofNat 32 (kpos * 65536 + id))]

/-- A failing check of Table 9-4: array, stream, reason, KPOS and ID of the record, and the fault code. -/
structure PortFail where
  array : Nat
  stream : Nat
  reason : Nat
  kpos : Nat
  id : Nat
  code : Nat
  deriving DecidableEq, Repr

/-- Record a port's failure for the task of descriptor `index`. -/
def State.recordFail (s : State) (n index : Nat) (f : PortFail) : State :=
  s.brickFault n f.array f.reason f.stream index f.kpos f.id

/-- A chosen task that has not issued has met a failing check: it is recorded once, and the task aborts with its code when
its turn comes (R241). -/
def State.failChosen (s : State) (k index n : Nat) (f : PortFail) : State :=
  (s.recordFail n index f).modCore n fun c => { c with failed := ⟨(k, index), f.code⟩ :: c.failed }

/-- The code of a check that a task has failed before its issue. -/
def Core.failedCode (c : Core) (k index : Nat) : Option Nat :=
  (c.failed.find? fun x => decide (x.chosen = (k, index))).map fun x => x.code

/-- The outcome of a directory search and of the checks of rows 1 to 4: reason and fault code, or handle, form and yard
offset of the image. -/
inductive BookFound where
  | fails (reason code : Nat)
  | image (handle form addr : Nat)
  deriving DecidableEq, Repr

/-- Search core n's codebook directory for a CBID (R235, rows 1 to 4 of Table 9-4). -/
def State.findBook (s : State) (t n cbid : Nat) : BookFound :=
  let dir := s.applied .coreCbdir n n
  let base := fld dir 16 0 * 256
  let word (i w : Nat) : W32 := s.word (s.yardAddr n (base + 8 * i + 4 * w))
  match (List.range (fld dir 31 24)).find? fun i => bit (word i 0) 31 && decide (fld (word i 0) 15 0 = cbid) with
  | none => .fails 1 0x31
  | some i =>
    let h := fld (word i 1) 23 0
    let e := s.home t h
    if !s.handleOk t h || decide (e.st = stFree) then .fails 2 0x20
    else if e.kind ≠ 0 ∨ e.lcore ≠ n then .fails 2 (if e.kind = 0 ∧ s.cfg.coreTenant e.lcore ≠ some t then 0x21 else 0x20)
    else
      let code := e.readCode (s.coldFault t n)
      if code ≠ 0 then .fails 3 code
      else
        let rd := fun o => s.yard n (s.cold t h) (e.yoff + o)
        let w1 := rd32 rd 4
        let form := brickForm (w1 / 2 ^ 16 % 4) (w1 / 2 ^ 18 % 2)
        if rd32 rd 0 ≠ 0x42435655 ∨ w1 % 65536 ≠ cbid ∨ w1 / 2 ^ 16 % 4 = 3 ∨ w1 / 2 ^ 19 ≠ 0 ∨
          !((List.range 52).all fun i => decide (rd (8 + i) = 0)) ∨ e.bytes < 64 + entryBytes form then .fails 4 0x30
        else .image h form e.yoff

/-- Rows 5 and 6 of Table 9-4 at the end of a load of the image at a yard offset: 0 when both pass. -/
def State.bookEnd (s : State) (n form addr : Nat) : Nat :=
  let rd := fun o => s.yard n false (addr + o)
  let bytes := (List.range 60).map (fun i => rd i) ++ (List.range (entryBytes form)).map fun i => rd (64 + i)
  if (crc32c bytes).toNat ≠ rd32 rd 60 then 5
  else if !((List.range (entryBytes form / 2)).all fun i => finite16 (rd16 rd (64 + 2 * i))) then 6
  else 0

/-- The entry bytes of an image. -/
def State.bookEntries (s : State) (n form addr : Nat) : List Byte :=
  (List.range (entryBytes form)).map fun i => s.yard n false (addr + 64 + i)

/-- The codebook bank of a port that holds a CBID. -/
def Core.bookBank (c : Core) (port cbid : Nat) : Option Nat :=
  (List.range 2).find? fun b => (c.cbBank port b).valid && decide ((c.cbBank port b).cbid = cbid)

/-- The bank of a port that a load may fill: the one that is not in use. -/
def Core.freeBook (c : Core) (port : Nat) : Nat := if (c.cbBank port 0).inUse then 1 else 0

/-- A codebook load of a port is running. -/
def Core.bookLoading (c : Core) (port : Nat) : Bool := (c.cbBank port 0).loading || (c.cbBank port 1).loading

/-- The port switches to the bank that holds the stream's CBID (R238). -/
def Core.useBook (c : Core) (port b : Nat) : Core :=
  (c.setCb port b { c.cbBank port b with inUse := true }).setCb port (1 - b)
    { (c.cbBank port (1 - b)) with inUse := false }

/-- A load that ends: its bank holds the codebook, or stays empty with the failing row (R241). -/
def State.endBook (s : State) (n port b : Nat) : State × Nat :=
  let x := (s.core n).cbBank port b
  let r := s.bookEnd n x.form x.addr
  if r = 0 then
    (s.modCore n fun c => c.setCb port b { x with valid := true, loading := false,
                                                  entries := s.bookEntries n x.form x.addr }, 0)
  else (s.modCore n fun c => c.setCb port b CbBank.init, r)

/-- A port starts to load a CBID of stream j into its free bank for descriptor index `index` of queue k (R237); a failing
search leaves the bank empty and gives its reason and code (R241). -/
def State.startBook (s : State) (k index n port j cbid : Nat) : State × Nat × Nat :=
  let b := (s.core n).freeBook port
  match s.findBook (k / 16) n cbid with
  | .fails reason code => (s.modCore n fun c => c.setCb port b CbBank.init, reason, code)
  | .image h form addr =>
    ((s.coldRead (k / 16) h).modCore n fun c => c.setCb port b
      { valid := false, loading := true, inUse := false, cbid := cbid, form := form, entries := [], addr := addr,
        chosen := (k, index), stream := j }, 0, 0)

/-! Brick streams (R232 to R234). -/

/-- Yard offset of brick i of stream j. -/
def brickAddr (base s form j i : Nat) : Nat := base + (i * s + j) * brickStride form

/-- The stream buffer of a brick MATMUL: base, streams and form. -/
def State.brickPlan (s : State) (k : Nat) (d : List W32) : Nat × Nat × Nat :=
  (df d 7 24 0, streamsOf (mTile d) (mMask d), (s.home (k / 16) (df d 5 23 0)).bform)

/-- Brick buffers are keyed 2 port + the brick's number mod 2. -/
def Core.brickBuf (c : Core) (port i : Nat) : BrickBuf := mget BrickBuf.init c.ahead (2 * port + i % 2)
def Core.setBrickBuf (c : Core) (port i : Nat) (b : BrickBuf) : Core :=
  { c with ahead := mset BrickBuf.init c.ahead (2 * port + i % 2) b }

/-- A brick whole, as its port reads it from the yard into a buffer (R240). -/
def readBrick (rd : Nat → Byte) (k index i a form : Nat) : BrickBuf :=
  ⟨true, (k, index), i, (List.range (brickStride form)).map fun o => rd (a + o)⟩

/-- What a port reads of its stream: the first brick as its buffer holds it for this task since the prologue, the others
from the yard (R240). -/
def State.portRd (s : State) (k index n : Nat) (d : List W32) (rd : Nat → Byte) (u : ArrUse) : Nat → Byte :=
  let b := (s.core n).brickBuf u.array 0
  let p := s.brickPlan k d
  let a := brickAddr p.1 p.2.1 p.2.2 u.stream 0
  if b.full && decide (b.chosen = (k, index)) && decide (b.num = 0) then
    let arr := b.bytes.toArray
    fun o => if a ≤ o ∧ o < a + arr.size then (arr[o - a]?).getD 0 else rd o
  else rd

/-- The form of the codebook that a port holds, or loads, for a CBID; `other` where it has none. -/
def Core.bookForm (c : Core) (port cbid other : Nat) : Nat :=
  match (List.range 2).find? fun b => ((c.cbBank port b).valid || (c.cbBank port b).loading) &&
      decide ((c.cbBank port b).cbid = cbid) with
  | some b => (c.cbBank port b).form
  | none => other

/-- The failing check of rows 7 to 10 of brick i at a port (R234): each stream keeps its first brick's CBID and CBLK order,
and KPOS rises by 1. -/
def State.brickFail (s : State) (k index n : Nat) (d : List W32) (rd : Nat → Byte) (u : ArrUse) (i : Nat) : Option PortFail :=
  let p := s.brickPlan k d
  let uses := usesOf (mTile d) (mMask d)
  let own := s.portRd k index n d rd u
  let lead := s.portRd k index n d rd (uses.headD u)
  let a := brickAddr p.1 p.2.1 p.2.2 u.stream i
  let first := brickAddr p.1 p.2.1 p.2.2 u.stream 0
  let cbid := brickCbid own first
  let r := brickCheck own a p.2.2 ((s.core n).bookForm u.array cbid p.2.2) cbid
    ((brickCblk lead (brickAddr p.1 p.2.1 p.2.2 0 0) + u.stream) % 65536)
    (if i = 0 then none else some ((brickKpos own first + i) % 65536))
  if r = 0 then none else some ⟨u.array, u.stream, r, brickKpos own a, brickCblk own a, 0x30⟩

/-- The first failing brick of a brick MATMUL in the order of use, with its number. -/
def State.brickScan (s : State) (k index n : Nat) (d : List W32) (rd : Nat → Byte) : Option (Nat × PortFail) :=
  (List.range (mK d / 32)).findSome? fun i =>
    (usesOf (mTile d) (mMask d)).findSome? fun u => (s.brickFail k index n d rd u i).map fun f => (i, f)

/-- The ports of a task read their first bricks and start the codebook loads that they need: one that holds the CBID, or
is loading, loads nothing; the first failure stops (R237, R240, R241). -/
def State.portBooks (s : State) (k index n : Nat) (d : List W32) (rd : Nat → Byte) : State × Option PortFail :=
  let p := s.brickPlan k d
  (usesOf (mTile d) (mMask d)).foldl (fun acc u =>
    match acc.2 with
    | some _ => acc
    | none =>
      let own := acc.1.portRd k index n d rd u
      let a := brickAddr p.1 p.2.1 p.2.2 u.stream 0
      let s1 := acc.1.modCore n fun c => c.setBrickBuf u.array 0 (readBrick own k index 0 a p.2.2)
      let cbid := brickCbid own a
      let c := s1.core n
      if (c.bookBank u.array cbid).isSome || c.bookLoading u.array then (s1, none)
      else
        let r := s1.startBook k index n u.array u.stream cbid
        (r.1, if r.2.1 = 0 then none else some ⟨u.array, u.stream, r.2.1, 0, cbid, r.2.2⟩)) (s, none)

/-- The loads that the ports of an issuing task still run come to their end before its first step (R238). -/
def State.endBooks (s : State) (n : Nat) (d : List W32) : State × Option PortFail :=
  (usesOf (mTile d) (mMask d)).foldl (fun acc u =>
    match acc.2, (List.range 2).find? fun b => ((acc.1.core n).cbBank u.array b).loading with
    | none, some b =>
      let x := (acc.1.core n).cbBank u.array b
      let e := acc.1.endBook n u.array b
      (e.1, if e.2 = 0 then none else some ⟨u.array, u.stream, e.2, 0, x.cbid, 0x30⟩)
    | _, _ => acc) (s, none)

/-- The codebooks of an issuing brick MATMUL: every port has its first brick and holds its stream's CBID. -/
def State.matmulBooks (s : State) (k index n : Nat) (d : List W32) (rd : Nat → Byte) : State × Option PortFail :=
  let r := s.portBooks k index n d rd
  match r.2 with
  | some f => (r.1, some f)
  | none => r.1.endBooks n d

/-- At the task's first issue cycle every port switches to the bank that holds its stream's CBID (R238). -/
def State.switchBooks (s : State) (k index n : Nat) (d : List W32) (rd : Nat → Byte) : State :=
  let p := s.brickPlan k d
  (usesOf (mTile d) (mMask d)).foldl (fun x u =>
    let cbid := brickCbid (x.portRd k index n d rd u) (brickAddr p.1 p.2.1 p.2.2 u.stream 0)
    match (x.core n).bookBank u.array cbid with
    | some b => x.modCore n fun c => c.useBook u.array b
    | none => x) s

/-! MATMUL. -/

/-- Fault of a MATMUL's operands and drain destination at its issue, 0 for none. -/
def State.matmulCode (s : State) (k n : Nat) (d : List W32) : Nat :=
  let t := k / 16
  let tile := mTile d
  let mask := mMask d
  let len := mK d / mKt d * tileBytes (mB8 d) (mKt d)
  let two := decide (tile = 4) || isDual tile mask
  let st := streamsOf tile mask
  let wlen := if mBricks d then mK d / 32 * st * brickStride (s.home t (df d 5 23 0)).bform else wgtBytes (mB8 d) (mK d) st
  orCode (s.yardReadCode t n (df d 4 23 0) (df d 6 24 0) len)
    (orCode (if two then s.yardReadCode t n (df d 4 23 0) (df d 13 24 0) len else 0)
      (orCode (s.yardReadCode t n (df d 5 23 0) (df d 7 24 0) wlen)
        (if mDrain d = 1 ∨ mDrain d = 2 then
          s.yardWriteCode t n (dDst d) (mDrainOff d) (4 * drainRows tile mask * drainWidth tile mask) (mDrain d = 2)
        else 0)))

/-- The drains of a task cover the whole extent of DST (R278); dual T1 leaves two quarters. -/
def State.drainCovers (s : State) (k : Nat) (d : List W32) (off size : Nat) : Bool :=
  let e := s.home (k / 16) (dDst d)
  !isDual (mTile d) (mMask d) && decide (off ≤ e.yoff) && decide (e.yoff + e.bytes ≤ off + size)

/-- Yard offset of tile ti of activation x of a MATMUL. -/
def matmulTileOff (d : List W32) (x ti : Nat) : Nat :=
  (if x = 1 then df d 13 24 0 else df d 6 24 0) + ti * tileBytes (mB8 d) (mKt d)

/-- Byte o of tile ti of activation x of a MATMUL as its edge half holds it. -/
def matmulHalf (rda : Nat → Byte) (d : List W32) (x ti : Nat) : Nat → Byte :=
  halfByte rda (matmulTileOff d x ti) (mB8 d) (mTrans d) (mKt d)

/-- Operands of a MATMUL sweep, with the first tiles as the edge files hold them; each port expands bricks from its own
bank (R229, R236). -/
def State.matmulOperands (s : State) (k index n : Nat) (d : List W32) (rda rdw : Nat → Byte) (first : Nat → Nat → Byte) :
    Operands :=
  let kt := mKt d
  let st := streamsOf (mTile d) (mMask d)
  let half (x ti : Nat) : Nat → Byte := if ti = 0 then first x else matmulHalf rda d x ti
  let act16 (x i : Nat) : Side := actCol16 (half x (i / kt)) kt (i % kt)
  if mB8 d then
    { steps := mK d / 2
      act := fun x i => actCol8 (half x (2 * i / kt)) kt (2 * i % kt)
      wgt := fun u i => wgtRow8 rdw (df d 7 24 0) st (mK d) u.stream (2 * i) }
  else if mBricks d then
    let p := s.brickPlan k d
    let rd (u : ArrUse) : Nat → Byte := s.portRd k index n d rdw u
    let book (u : ArrUse) : Nat → Byte :=
      match (s.core n).bookBank u.array (brickCbid (rd u) (brickAddr p.1 p.2.1 p.2.2 u.stream 0)) with
      | some b => let arr := ((s.core n).cbBank u.array b).entries.toArray; fun i => (arr[i]?).getD 0
      | none => fun _ => 0
    { steps := mK d, act := act16
      wgt := fun u i => brickRow (rd u) (book u) (brickAddr p.1 p.2.1 p.2.2 u.stream (i / 32)) p.2.2 (i % 32) }
  else { steps := mK d, act := act16, wgt := fun u i => wgtRow16 rdw (df d 7 24 0) st u.stream i }

/-- The tile that a MATMUL's loader brings when so many tile boundaries are still ahead at a file (R80). -/
def matmulNext (rda : Nat → Byte) (d : List W32) (x left : Nat) : Option (SMap Byte) :=
  if left = 0 then none
  else some (halfOf (tileBytes (mB8 d) (mKt d)) (matmulHalf rda d x (mK d / mKt d - left)))

/-- A MATMUL's sweep begins: the edge files take the first tiles, and the job is in hand. A brick that fails its checks
after `rows` rows ends the sweep there (R241). -/
def State.beginMatmul (s : State) (k n : Nat) (t : Task) (rows : Option Nat) : State :=
  let d := t.desc
  let tile := mTile d
  let mask := mMask d
  let rda := s.yard n (s.taskCold k t.serial (df d 4 23 0))
  let rdw := s.yard n (s.taskCold k t.serial (df d 5 23 0))
  let bytes := tileBytes (mB8 d) (mKt d)
  let first (x : Nat) : Nat → Byte := s.firstHalf k t.index n (fileOf tile mask x) bytes (matmulHalf rda d x 0)
  let nt := mK d / mKt d
  let files := filesOf tile mask
  let job := { ArrJob.start (k, t.serial) d with
    left0 := if files.contains 0 then nt - 1 else 0, left1 := if files.contains 1 then nt - 1 else 0 }
  let halves := (fileActs tile mask).foldl (fun c p =>
    c.swapIn p.1 (halfOf bytes (first p.2)) (matmulNext rda d p.2 (nt - 1))) (s.core n)
  let s1 := s.setCore n { halves with arr := some job }
  let dst := s1.home (k / 16) (dDst d)
  let o := s.matmulOperands k t.index n d rda rdw first
  s1.sweep k t.serial (mBank d) (usesOf tile mask) (mClear d) 0
    { o with steps := match rows with | some r => Nat.min r o.steps | none => o.steps }
    (fun a r c => dst.elemIndex (df d 10 15 0 * 256 + (placeOf tile mask a).1 + r)
      (df d 10 31 16 * 256 + (placeOf tile mask a).2 + c)) (dDst d)

/-- A MATMUL in flight begins: translations, codebooks, bricks, banks, the sweep (R168, R230, R241). A brick that fails
aborts the task once the rows before it have run. -/
def State.runMatmul (s : State) (k : Nat) (t : Task) : State :=
  let n := (s.queue k).lcore
  let d := t.desc
  let code := s.matmulCode k n d
  if code ≠ 0 then s.abortTask k t.serial code
  else
    let s1 := (s.startRead k t.serial (df d 4 23 0)).startRead k t.serial (df d 5 23 0)
    let tile := mTile d
    let mask := mMask d
    let covers := s.drainCovers k d (mDrainOff d) (4 * drainRows tile mask * drainWidth tile mask)
    let s2 := match mDrain d with
      | 1 => s1.beginWrite (k / 16) (dDst d) (s.queue k).cls covers
      | 2 => (s1.beginWrite (k / 16) (dDst d) (s.queue k).cls false).setMode k t.serial (dDst d) 2
      | _ => s1.setMode k t.serial (dDst d) 3
    let rdw := s2.yard n (s2.taskCold k t.serial (df d 5 23 0))
    match (s2.core n).failedCode k t.index with
    | some c => s2.abortTask k t.serial c
    | none =>
      let r := if mBricks d then s2.matmulBooks k t.index n d rdw else (s2, none)
      match r.2 with
      | some f => (r.1.recordFail n t.index f).abortTask k t.serial f.code
      | none =>
        let bad := if mBricks d then r.1.brickScan k t.index n d rdw else none
        match bad with
        | some (0, f) => (r.1.recordFail n t.index f).abortTask k t.serial f.code
        | _ =>
          if (r.1.core n).voidBank (usesOf tile mask) (mBank d) (mClear d) then r.1.abortTask k t.serial 0x22
          else
            let s3 := if mBricks d then r.1.switchBooks k t.index n d rdw else r.1
            let s4 := s3.beginMatmul k n t (bad.map fun b => 32 * b.1)
            match bad, s4.task? k t.serial with
            | some (_, f), some _ => (s4.recordFail n t.index f).abortTask k t.serial f.code
            | _, _ => s4

/-- The arrays and the tensors are free for a MATMUL. -/
def State.matmulReady (s : State) (k : Nat) (d : List W32) : Bool :=
  let c := s.core (s.queue k).lcore
  let uses := usesOf (mTile d) (mMask d)
  c.arraysFree && c.banksReady uses (mBank d) && c.filesReady (filesOf (mTile d) (mMask d)) (tileBytes (mB8 d) (mKt d)) &&
    !s.filling (k / 16) (df d 4 23 0) && !s.filling (k / 16) (df d 5 23 0) &&
    (!mBricks d || uses.all fun u => !c.bookLoading u.array)

/-- MATMUL (R168): the next task of queue (t, q) issues when it is one and may. -/
def execMatmul (t : Fin 8) (q : Fin 16) (waited : Nat) (s : State) : Host.Outcome State Fault Refusal :=
  whenUp s fun x => x.issueTask (16 * t.val + q.val) waited (fun d => decide (dType d = 1))
    (fun y d => y.matmulReady (16 * t.val + q.val) d) (fun y r => y.runMatmul (16 * t.val + q.val) r)

/-- A codebook load ends (R241): a failing check empties the bank and is recorded, and the task that chose the load aborts
with it while it is still the queue's next task. -/
def State.codebookDone (s : State) (n port : Nat) : State :=
  match (List.range 2).find? fun b => ((s.core n).cbBank port b).loading with
  | none => s
  | some b =>
    let x := (s.core n).cbBank port b
    let r := s.endBook n port b
    if r.2 = 0 then r.1
    else
      let k := x.chosen.1
      let f : PortFail := ⟨port, x.stream, r.2, 0, x.cbid, 0x30⟩
      if decide ((s.queue k).next = x.chosen.2) && decide (s.qst k = 2) then r.1.failChosen k x.chosen.2 n f
      else r.1.recordFail n x.chosen.2 f

/-- CODEBOOK_LOAD_DONE (R241). -/
def execCodebookLoadDone (n : Fin 16) (port : Fin 4) (s : State) : Host.Outcome State Fault Refusal :=
  whenUp s fun x => x.codebookDone n port

/-- The expander of a port reads brick i of the running MATMUL into its other buffer and checks it before its first row
(R240, R241). The rows of a sweep are those that its first step found (log 55); a brick rewritten since is met here. -/
def State.readAhead (s : State) (n port i : Nat) : State :=
  match (s.core n).arr with
  | none => s
  | some j =>
    let d := j.desc
    let k := j.owner.1
    if !(decide (dType d = 1) && mBricks d && decide (i < mK d / 32)) then s
    else match (usesOf (mTile d) (mMask d)).find? fun u => decide (u.array = port), s.task? k j.owner.2 with
      | some u, some t =>
        let rd := s.yard n (s.taskCold k t.serial (df d 5 23 0))
        let p := s.brickPlan k d
        match s.brickFail k t.index n d rd u i with
        | none => s.modCore n fun c => c.setBrickBuf port i
            (readBrick rd k t.index i (brickAddr p.1 p.2.1 p.2.2 u.stream i) p.2.2)
        | some f => (s.recordFail n t.index f).abortTask k t.serial f.code
      | _, _ => s

/-- BRICK_READ_AHEAD (R240): brick number `offset` of the port's stream. -/
def execBrickReadAhead (n : Fin 16) (port : Fin 4) (offset : Nat) (s : State) : Host.Outcome State Fault Refusal :=
  whenUp s fun x => x.readAhead n port offset

/-! The landing of sweeps. -/

/-- Every effect of an array task has landed: no bank, landing buffer or drain program of its own is at work and all
its steps have issued (R116). -/
def State.arrayLanded (s : State) (k serial : Nat) : Bool :=
  let c := s.core (s.queue k).lcore
  let o := (k, serial)
  c.banks.all (fun p => !(decide (p.2.owner = o) && !decide (p.2.use = .none))) &&
  c.landings.all (fun p => !(decide (p.2.owner = o) && p.2.full)) &&
  !(c.drainVec.running && decide (c.drainVec.owner = o)) &&
  (match c.arr with | some j => !decide (j.owner = o) || j.idle | none => true) &&
  (match c.halo with | some h => !decide (h.owner = o) | none => true)

/-- Mark an array task landed when it is. -/
def State.checkLanded (s : State) (k serial : Nat) : State :=
  if s.arrayLanded k serial then s.landTask k serial else s

/-- The task drains its sweeps: always but for a MATMUL with DRAIN 00. -/
def drains (d : List W32) : Bool := !(decide (dType d = 1) && decide (mDrain d = 0))

/-- Another tile of the sweep that the bank holds has still to enter (R80): its last update cannot land. -/
def ArrJob.sweeping (j : ArrJob) (x : Bank) : Bool :=
  decide (j.owner = x.owner) &&
  (if dType j.desc = 3 then decide (j.chunk = x.tag) && !(decide (j.left0 = 0) && decide (j.left1 = 0))
   else !(decide (j.left0 = 0) && decide (j.left1 = 0)) ||
     (decide (dType j.desc = 2) && decide (df j.desc 12 3 0 = 0) && decide (j.phase = 1) && !j.pending.isEmpty))

/-- The last update of a sweep lands (R88): HELD without a drain, else the drain may start. -/
def State.sweepEnd (s : State) (n a b : Nat) : State :=
  let c := s.core n
  let x := c.bank a b
  match s.task? x.owner.1 x.owner.2 with
  | none => s
  | some t =>
    if !decide (x.use = .sweep) || (match c.arr with | some j => j.sweeping x | none => false) then s
    else if drains t.desc then s.setCore n (c.setBank a b { x with use := .landed })
    else (s.setCore n (c.setBank a b { x with st := .held, use := .none })).checkLanded x.owner.1 x.owner.2

/-- SWEEP_END (R88). -/
def execSweepEnd (n : Fin 16) (array bank : Fin 4) (s : State) : Host.Outcome State Fault Refusal :=
  whenUp s fun x => x.sweepEnd n array bank

end Sys2Proof.Machine
end

