-- ==== Sys2Proof/Machine/Conv.lean ====
section
/-! DEFINITION. CONV (R204 to R214): the implicit product, its layouts and modes, and the halo exchange over mortar
links (R215 to R221). -/
namespace Sys2Proof.Machine

/-! Descriptor fields and geometry (Table 4-4). -/

def cTile (d : List W32) : Nat := df d 6 27 25
def cB8 (d : List W32) : Bool := decide (df d 5 31 28 = 3)
def cGroup (d : List W32) : Nat := df d 11 24 16
def cHalo (d : List W32) : Nat := df d 11 3 0
def cPlanar (d : List W32) : Bool := bit (wordAt d 8) 26
def c3d (d : List W32) : Bool := bit (wordAt d 8) 27
/-- Filter extent, stride and dilation by axis: 0 T, 1 H, 2 W. -/
def cExt (d : List W32) (ax : Nat) : Nat := match ax with | 0 => df d 8 2 0 | 1 => df d 8 6 3 | _ => df d 8 10 7
def cStride (d : List W32) (ax : Nat) : Nat := 1 + df d 8 (12 + 2 * ax) (11 + 2 * ax)
def cDil (d : List W32) (ax : Nat) : Nat := 1 + df d 8 (19 + 3 * ax) (17 + 3 * ax)
/-- Input extent of an axis. -/
def HEntry.axis (e : HEntry) (ax : Nat) : Nat := match ax with | 0 => e.d2 | 1 => e.d1 | _ => e.d0
/-- Output extent of an axis (R205); a 2-D task uses only frame 0 (R204). -/
def convOut (d : List W32) (e : HEntry) (ax : Nat) : Nat :=
  if ax = 0 ∧ !c3d d then 1
  else (e.axis ax - (cExt d ax - 1) * cDil d ax - 1) / cStride d ax + 1
def cTaps (d : List W32) : Nat := cExt d 0 * cExt d 1 * cExt d 2
/-- P of R205. -/
def convP (d : List W32) (e : HEntry) : Nat := convOut d e 0 * convOut d e 1 * convOut d e 2
/-- K of a sweep: taps × padded channels, or × 256 in split grouping, or the taps of a depthwise one. -/
def convK (d : List W32) (e : HEntry) : Nat :=
  if cGroup d = 0 then cTaps d * roundUp e.d3 32 else if cGroup d = 1 then cTaps d else cTaps d * 256
/-- Row blocks of a column block as the task steps through them: pairs for T2X, groups of 16 when depthwise. -/
def convRows (d : List W32) (e : HEntry) : Nat :=
  let blocks := cdiv (convP d e) 256
  if cTile d = 4 then cdiv blocks 2 else if cGroup d = 1 then cdiv blocks 16 else blocks
/-- Column blocks of a task. -/
def convCols (d : List W32) (e dst : HEntry) : Nat :=
  if cGroup d = 1 then e.d3 / 64 else dst.d0 / tileWidth (cTile d)
/-- Tiles of sweep m. -/
def convTiles (d : List W32) (e : HEntry) (m : Nat) : Nat :=
  if cGroup d = 1 then Nat.min 16 (cdiv (convP d e) 256 - 16 * (m % convRows d e))
  else if cGroup d = 0 then cdiv (convK d e) 512 else cTaps d
/-- Arrays in use: split and depthwise grouping give each array its own tile (R212, R213). -/
def convUses (d : List W32) : List ArrUse :=
  if cGroup d = 0 then usesOf (cTile d) (firstMask (cTile d)) else [⟨0, 0, 0⟩, ⟨1, 1, 1⟩, ⟨2, 2, 2⟩, ⟨3, 3, 3⟩]
/-- Edge files in use. -/
def convFiles (d : List W32) : List Nat :=
  if cGroup d = 0 then filesOf (cTile d) (firstMask (cTile d)) else [0, 1]

/-! Layouts (Table 8-1). -/

/-- Byte offset of element (c, t, h, x) with n = 0, and of its B8X scale byte. -/
def convOff (e : HEntry) (planar b8 : Bool) (c t h x : Nat) : Nat :=
  if planar then (((c * e.d2 + t) * e.d1 + h) * e.d0 + x) * 2
  else
    let i := ((c / 32 * e.d2 + t) * e.d1 + h) * e.d0 + x
    if b8 then i * 32 + c % 32 else i * 64 + c % 32 * 2
def convScaleOff (e : HEntry) (c t h x : Nat) : Nat :=
  roundUp (e.d3 / 32 * 32 * e.d2 * e.d1 * e.d0) 256 + (((c / 32 * e.d2 + t) * e.d1 + h) * e.d0 + x)

/-- Yard offsets of the input element of position p, tap and channel c, and of its B8X scale byte; none past the positions
and past the channels (R204, R206). -/
def convAt (d : List W32) (e : HEntry) (p tap c : Nat) : Option (Nat × Nat) :=
  if convP d e ≤ p ∨ e.d3 ≤ c then none
  else
    let wo := convOut d e 2
    let ho := convOut d e 1
    let t := p / wo / ho * cStride d 0 + tap / (cExt d 1 * cExt d 2) * cDil d 0
    let h := p / wo % ho * cStride d 1 + tap / cExt d 2 % cExt d 1 * cDil d 1
    let x := p % wo * cStride d 2 + tap % cExt d 2 * cDil d 2
    some (df d 6 24 0 + convOff e (cPlanar d) (cB8 d) c t h x, df d 6 24 0 + convScaleOff e c t h x)

/-- Input element of position p, tap and channel c: its exact value and whether it is a flushed subnormal; +0 where there
is none. -/
def convIn (rd : Nat → Byte) (d : List W32) (e : HEntry) (p tap c : Nat) : Ext × Bool :=
  match convAt d e p tap c with
  | none => (.zero false, false)
  | some o => if cB8 d then (ext8s (rd o.1).toNat (rd o.2).toNat, false) else arrayIn16 (rd16 rd o.1)

/-- One column of an activation tile of row block i. -/
def convCol (rd : Nat → Byte) (d : List W32) (e : HEntry) (i tap c : Nat) : List (Ext × Bool) :=
  (List.range 256).map fun r => convIn rd d e (256 * i + r) tap c

/-- A side of one position from values with flush marks. -/
def sideOf (v : List (Ext × Bool)) : Side :=
  { vals := v.map fun p => [p.1], flush := (v.filter fun p => p.2).length, sat := 0 }

/-- Columns of tile ti of a dense CONV (R208). -/
def convKt (d : List W32) (e : HEntry) (ti : Nat) : Nat := Nat.min 512 (convK d e - 512 * ti)

/-- Row block of activation x of sweep m: pairs for T2X (R210). -/
def convBlk (d : List W32) (e : HEntry) (m x : Nat) : Nat :=
  let i := m % convRows d e
  if cGroup d = 0 ∧ cTile d = 4 then 2 * i + x else i

/-- Byte o of tile ti of activation x of sweep m of a dense CONV, built in the tile order of R77. -/
def convHalf (rd : Nat → Byte) (d : List W32) (e : HEntry) (m x ti o : Nat) : Byte :=
  let kt := convKt d e ti
  let cp := roundUp e.d3 32
  let b := if cB8 d then 1 else 2
  let at' (r k : Nat) : Option (Nat × Nat) := convAt d e (256 * convBlk d e m x + r) ((512 * ti + k) / cp) ((512 * ti + k) % cp)
  if o < 256 * kt * b then
    let blk := o / (1024 * b)
    let i := o % (1024 * b) / b
    match at' (blk / (kt / 32) * 32 + i / 32) (blk % (kt / 32) * 32 + i % 32) with
    | some a => rd (a.1 + o % b)
    | none => 0
  else
    let i := o - 256 * kt
    match at' (i % 256) (i / 256 * 32) with
    | some a => rd a.2
    | none => 0

/-- Byte o of the tile of array a of a split CONV: one tap, the array's 256 channels (R212). -/
def splitHalf (rd : Nat → Byte) (d : List W32) (e : HEntry) (m a ti o : Nat) : Byte :=
  let i := o % 2048 / 2
  match convAt d e (256 * convBlk d e m 0 + (o / 2048 / 8 * 32 + i / 32)) ti
      (256 * (4 * (m / convRows d e) + a) + (o / 2048 % 8 * 32 + i % 32)) with
  | some p => rd (p.1 + o % 2)
  | none => 0

/-- Channels and positions of array a in row block q of a depthwise group (R213). -/
def depthCh (d : List W32) (e : HEntry) (m a ch : Nat) : Nat := 64 * (m / convRows d e) + 16 * a + ch
def depthPos (d : List W32) (e : HEntry) (m q r : Nat) : Nat := 256 * (16 * (m % convRows d e) + q) + r

/-- The input elements that a depthwise row block reads in a tap and in no earlier one, as yard offsets: the edge file's
input window brings each element once (R214). -/
def freshAt (d : List W32) (e : HEntry) (m a q ch tap : Nat) : List Nat :=
  let at' (τ : Nat) : List Nat := (List.range 256).filterMap fun r => (convAt d e (depthPos d e m q r) τ (depthCh d e m a ch)).map (·.1)
  let before := (List.range tap).flatMap at'
  ((at' tap).eraseDups).filter fun o => !before.contains o

/-- The input window of a file's two arrays in row block q of a depthwise group: the bytes of its elements by offset from
IN_OFF (R214; the order in which the window holds them is not stated: DESIGN CHOICE, log 118). -/
def depthHalf (rd : Nat → Byte) (d : List W32) (e : HEntry) (m f q : Nat) : SMap Byte :=
  ([2 * f, 2 * f + 1].flatMap fun a => (List.range 16).flatMap fun ch => (List.range (cTaps d)).flatMap fun tap =>
    freshAt d e m a q ch tap).foldl (fun x o =>
      msetList 0 x (o - df d 6 24 0) [rd o, rd (o + 1)]) []

/-- Bytes of the first tile of a CONV in an edge half. -/
def convTileBytes (d : List W32) (e : HEntry) : Nat := if cGroup d = 0 then tileBytes (cB8 d) (convKt d e 0) else 262144

/-- Tile ti of sweep m of a CONV as the half of file f holds it. -/
def convTile (rd : Nat → Byte) (d : List W32) (e : HEntry) (m f ti : Nat) : SMap Byte :=
  if cGroup d = 0 then
    let x := ((fileActs (cTile d) (firstMask (cTile d))).find? fun p => decide (p.1 = f)).elim 0 (·.2)
    halfOf (256 * convKt d e ti * (if cB8 d then 1 else 2) + (if cB8 d then 8 * convKt d e ti else 0)) (convHalf rd d e m x ti)
  else if cGroup d = 1 then depthHalf rd d e m f ti
  else halfOf 262144 fun o => splitHalf rd d e m (2 * f + o / 131072) ti (o % 131072)

/-- The tile that a CONV's loader brings to file f after a swap: the next of sweep m, or the first of the sweep after it
(R80, R210). -/
def convNext (rd : Nat → Byte) (d : List W32) (e : HEntry) (m f left more : Nat) : Option (SMap Byte) :=
  if 0 < left then some (convTile rd d e m f (convTiles d e m - left))
  else if 0 < more then some (convTile rd d e (m + 1) f 0)
  else none

/-- Operands of sweep m of a dense or split CONV (R204, R211, R212). -/
def convOperands (rdi rdf : Nat → Byte) (d : List W32) (e : HEntry) (m : Nat) (first : Nat → Nat → Byte) : Operands :=
  let i := m % convRows d e
  let j := m / convRows d e
  let g := cGroup d
  let flt := df d 7 24 0
  if g = 0 then
    let kx := convK d e
    let st := streamsOf (cTile d) (firstMask (cTile d))
    let base := flt + j * kx * st * 512
    let half (x ti : Nat) : Nat → Byte := if ti = 0 then first x else convHalf rdi d e m x ti
    if cB8 d then
      { steps := kx / 2
        act := fun x q => actCol8 (half x (2 * q / 512)) (convKt d e (2 * q / 512)) (2 * q % 512)
        wgt := fun u q => wgtRow8 rdf base st kx u.stream (2 * q) }
    else
      { steps := kx
        act := fun x q => actCol16 (half x (q / 512)) (convKt d e (q / 512)) (q % 512)
        wgt := fun u q => wgtRow16 rdf base st u.stream q }
  else
    { steps := cTaps d * 256
      act := fun a q => sideOf (convCol rdi d e i (q / 256) (256 * (4 * j + a) + q % 256))
      wgt := fun u q =>
        let cc := q % 256
        let row := flt + j * cTaps d * 2048 * g + ((q / 256 * 4 + u.array) * 256 + cc) * (2 * g)
        sideOf ((List.range 256).map fun c =>
          if c / g = cc / g then arrayIn16 (rd16 rdf (row + 2 * (c % g))) else (.zero false, false)) }

/-- The operands of one tap at a cell of a bank: row block q of a depthwise group, channel ch of the array (R213). -/
def depthOperand (rdi rdf : Nat → Byte) (d : List W32) (e : HEntry) (m a q ch tap r : Nat) : (Ext × Bool) × (Ext × Bool) :=
  (convIn rdi d e (depthPos d e m q r) tap (depthCh d e m a ch),
    arrayIn16 (rd16 rdf (df d 7 24 0 + m / convRows d e * cTaps d * 128 + (tap * 4 + a) * 32 + 2 * ch)))

/-- A depthwise group: banks of the four arrays after its sweeps, taps in increasing order within each row block, row
blocks in increasing order; a trap stops it after the tap of the row block that made a NaN. An input element of the
window counts as flushed once, at the tap that first reads it (R45, R214). -/
def depthSweep (rdi rdf : Nat → Byte) (d : List W32) (e : HEntry) (m : Nat) (trap : Bool)
    (elem : Nat → Nat → Nat → Nat) : Sweep :=
  let start : Sweep :=
    { banks := (convUses d).map fun u => (u, List.replicate 256 (List.replicate 256 (Cell.start 0))), flush := 0,
      sat := 0, done := 0, trap := none }
  (List.range (convTiles d e m * cTaps d)).foldl (fun w i =>
    if w.trap.isSome then w
    else
      let q := i / cTaps d
      let tap := i % cTaps d
      let banks := w.banks.map fun u => (u.1, u.2.zipIdx.map fun row => row.1.zipIdx.map fun c =>
        if c.2 / 16 = q then
          let o := depthOperand rdi rdf d e m u.1.array q (c.2 % 16) tap row.2
          c.1.update [o.1.1] [o.2.1]
        else c.1)
      let ins := (convUses d).flatMap fun u => (List.range 16).flatMap fun ch =>
        (freshAt d e m u.array q ch tap).filter fun o => (arrayIn16 (rd16 rdi o)).2
      let ws := (convUses d).flatMap fun u => (List.range 16).filter fun ch =>
        (depthOperand rdi rdf d e m u.array q ch tap 0).2.2
      { banks := banks, flush := w.flush + ins.length + ws.length, sat := w.sat,
        done := w.done + 1, trap := if trap then firstNan elem banks else none }) start

/-! Running a CONV. -/

/-- Row and column of DST that element (r, c) of array a of sweep m fills (R210, R213). -/
def convPlace (d : List W32) (e : HEntry) (m a r c : Nat) : Nat × Nat :=
  let rows := convRows d e
  let i := m % rows
  let j := m / rows
  if cGroup d = 1 then (256 * (16 * i + c / 16) + r, 64 * j + 16 * a + c % 16)
  else
    let p := if cGroup d = 0 then placeOf (cTile d) (firstMask (cTile d)) a else (0, 256 * a)
    ((if cTile d = 4 then 512 * i else 256 * i) + p.1 + r, tileWidth (cTile d) * j + p.2 + c)

/-- Begin sweep m of a CONV in bank BANK + m mod 2 with the first tiles of its edge files (R210). -/
def State.convSweep (s : State) (k serial m : Nat) (d : List W32) (first : Nat → Nat → Byte) : State :=
  let n := (s.queue k).lcore
  let t := k / 16
  let e := s.home t (df d 4 23 0)
  let dst := s.home t (dDst d)
  let b := (mBank d + m % 2) % 4
  let rdi := s.yard n (s.taskCold k serial (df d 4 23 0))
  let rdf := s.yard n (s.taskCold k serial (df d 5 23 0))
  let elem (a r c : Nat) : Nat := let p := convPlace d e m a r c; dst.elemIndex p.1 p.2
  if cGroup d = 1 then
    let trap := match s.task? k serial with | some x => x.trap | none => false
    let w := depthSweep rdi rdf d e m trap elem
    let c1 := w.banks.foldl (fun x p => x.setBank p.1.array b
      { st := .busy, use := .sweep, data := cellsData p.2, owner := (k, serial), tag := m }) (s.core n)
    let cnt := w.counts
    let issued := match w.trap with | none => w.done | some _ => Nat.min (convTiles d e m * cTaps d) (w.done + 32)
    let s1 := ((s.setCore n c1).addCounts k serial cnt.1 cnt.2.1 cnt.2.2).countWrap .coreArrissue n issued
    match w.trap with
    | none => s1
    | some (el, a) => s1.nanTrap k serial a (dDst d) el
  else s.sweep k serial b (convUses d) true m (convOperands rdi rdf d e m first) elem (dDst d)

/-- A sweep of a CONV begins: `first` is the file whose swap begins it, none at the start of the task, when all files swap;
a file that swaps later holds the sweep's first tile in its shadow half (R80, R210). -/
def State.convBegin (s : State) (n : Nat) (j : ArrJob) (m index : Nat) (first : Option Nat) : State :=
  let k := j.owner.1
  let d := j.desc
  let e := s.home (k / 16) (df d 4 23 0)
  let rdi := s.yard n (s.taskCold k j.owner.2 (df d 4 23 0))
  let nt := convTiles d e m
  let swaps (f : Nat) : Bool := (convFiles d).contains f && (match first with | none => true | some g => decide (g = f))
  let left (f : Nat) : Nat := if !(convFiles d).contains f then 0 else if swaps f then nt - 1 else nt
  let more := j.more - 1
  let tile0 (f : Nat) : SMap Byte :=
    let sh := ((s.core n).edge f).shadow
    match first with
    | none => if sh.holds k index (convTileBytes d e) then sh.bytes else convTile rdi d e m f 0
    | some _ => sh.taken (convTile rdi d e m f 0)
  let s1 := s.modCore n fun c => (convFiles d).foldl (fun x f =>
      if swaps f then x.swapIn f (tile0 f) (convNext rdi d e m f (left f) more) else x)
    { c with arr := some { j with left0 := left 0, left1 := left 1, chunk := m, more := more } }
  let held := (convFiles d).map fun f => (f, tile0 f)
  s1.convSweep k j.owner.2 m d fun x o =>
    let f := ((fileActs (cTile d) (firstMask (cTile d))).find? fun p => decide (p.2 = x)).elim 0 (·.1)
    mget 0 (((held.find? fun p => decide (p.1 = f)).map (·.2)).getD []) o

/-- The first sweep of a CONV begins: its tiles may load (R206, R217). -/
def State.convStart (s : State) (k serial : Nat) (d : List W32) : State :=
  let n := (s.queue k).lcore
  let e := s.home (k / 16) (df d 4 23 0)
  let dst := s.home (k / 16) (dDst d)
  let job := { ArrJob.start (k, serial) d with more := convRows d e * convCols d e dst }
  let index := match s.task? k serial with | some t => t.index | none => 0
  s.convBegin n job 0 index none

/-- Bytes of the filter buffer of a CONV (R211, Table 8-3). -/
def filterBytes (d : List W32) (e dst : HEntry) : Nat :=
  let st := streamsOf (cTile d) (firstMask (cTile d))
  if cGroup d = 0 then (convCols d e dst - 1) * convK d e * st * 512 + wgtBytes (cB8 d) (convK d e) st
  else if cGroup d = 1 then convCols d e dst * cTaps d * 128
  else convCols d e dst * cTaps d * 2048 * cGroup d

/-- Fault of a CONV's operands and destination at its issue. -/
def State.convCode (s : State) (k n : Nat) (d : List W32) : Nat :=
  let t := k / 16
  let e := s.home t (df d 4 23 0)
  let dst := s.home t (dDst d)
  let flen := filterBytes d e dst
  orCode (s.yardReadCode t n (df d 4 23 0) (df d 6 24 0) e.extent)
    (orCode (s.yardReadCode t n (df d 5 23 0) (df d 7 24 0) flen)
      (s.yardWriteCode t n (dDst d) (mDrainOff d) (4 * dst.d0 * dst.d1) (mDrain d = 2)))

/-- A CONV in flight begins: translations, then the exchange or the first sweep (R217). -/
def State.runConv (s : State) (k : Nat) (t : Task) : State :=
  let n := (s.queue k).lcore
  let d := t.desc
  let code := s.convCode k n d
  if code ≠ 0 then s.abortTask k t.serial code
  else if (haloLinks d).any fun l => (s.core n).linkFail.contains l ||
      (match meshPartner n l with | some p => (s.core p).linkFail.contains (meshBack l) | none => true) then
    s.abortTask k t.serial 0x50
  else
    let s1 := (s.startRead k t.serial (df d 4 23 0)).startRead k t.serial (df d 5 23 0)
    let dst := s1.home (k / 16) (dDst d)
    let covers := decide (mDrainOff d ≤ dst.yoff) && decide (dst.yoff + dst.bytes ≤ mDrainOff d + 4 * dst.d0 * dst.d1)
    let s2 := if mDrain d = 2 then (s1.beginWrite (k / 16) (dDst d) (s.queue k).cls false).setMode k t.serial (dDst d) 2
      else s1.beginWrite (k / 16) (dDst d) (s.queue k).cls covers
    if cHalo d = 0 then s2.convStart k t.serial d
    else s2.modCore n fun c => { c with
      arr := some { ArrJob.start (k, t.serial) d with more := 1 }
      halo := some { owner := (k, t.serial), desc := d, issued := s2.clock.since, ready := [], tokens := [], landed := [],
                     acked := [], started := false, phase := 0, gone := false } }

/-- The arrays and the tensors are free for a CONV. -/
def State.convReady (s : State) (k : Nat) (d : List W32) : Bool :=
  let c := s.core (s.queue k).lcore
  c.arraysFree && c.banksReady (convUses d) (mBank d) && c.halo.isNone &&
    c.filesReady (convFiles d) (convTileBytes d (s.home (k / 16) (df d 4 23 0))) && !s.filling (k / 16) (df d 4 23 0) &&
    !s.filling (k / 16) (df d 5 23 0)

/-- CONV (R204). -/
def execConv (t : Fin 8) (q : Fin 16) (waited : Nat) (s : State) : Host.Outcome State Fault Refusal :=
  whenUp s fun x => x.issueTask (16 * t.val + q.val) waited (fun d => decide (dType d = 3))
    (fun y d => y.convReady (16 * t.val + q.val) d) (fun y r => y.runConv (16 * t.val + q.val) r)

/-! Edge files in use. -/

/-- Edge files of an array task. -/
def jobFiles (d : List W32) : List Nat :=
  match dType d with
  | 1 => filesOf (mTile d) (mMask d)
  | 2 => filesOf (fTile d) (fMask d)
  | 3 => convFiles d
  | _ => []

/-- The job has tiles still to bring into an edge file: of its sweep, of its later sweeps, or of its second product. -/
def ArrJob.moreTiles (j : ArrJob) (f : Nat) : Bool :=
  let left := if f = 0 then j.left0 else j.left1
  (jobFiles j.desc).contains f && (decide (0 < left) || decide (0 < j.more) ||
    (decide (dType j.desc = 2) && !decide (j.phase = 3) &&
      (!decide (j.phase = 1) || !j.pending.isEmpty || decide (j.tileNo = 0) ||
        (decide (fFn j.desc ≠ 4) && decide (j.chunk + 1 < fChunks j.desc)))))

/-- The array task in hand keeps an edge file's loads to itself (R79, R181). -/
def Core.fileBusy (c : Core) (f : Nat) : Bool := match c.arr with | some j => j.moreTiles f | none => false

/-! The halo exchange (R215 to R219). -/

/-- The axis that a link exchanges: H for north and south; T (3-D) or W (2-D) for east and west. -/
def linkAxis (d : List W32) (l : Nat) : Nat := if l < 2 then 1 else if c3d d then 0 else 2
/-- Low and high halo widths of an axis (R215). -/
def haloLow (d : List W32) (ax : Nat) : Nat := (cExt d ax - 1) * cDil d ax / 2
def haloHigh (d : List W32) (ax : Nat) : Nat :=
  (cExt d ax - 1) * cDil d ax + 1 - haloLow d ax - cStride d ax
/-- Own span along an axis. -/
def haloSpan (d : List W32) (e : HEntry) (ax : Nat) : Nat := convOut d e ax * cStride d ax
/-- Slab origin along a link's axis: SLAB_H, or SLAB_T for T and, in 2-D, W. -/
def slabOrg (d : List W32) (l : Nat) : Nat := if l < 2 then df d 10 31 16 else df d 10 15 0

/-- Links of phase 1 and of phase 2. -/
def phaseLinks (d : List W32) (phase : Nat) : List Nat :=
  (haloLinks d).filter fun l => decide ((l < 2) = (phase = 1))

/-- HALO_EXCHANGE_START: an issued HALO CONV whose earlier tasks have completed sends its tokens (R217 step 1). -/
def State.haloStart (s : State) (n : Nat) : State :=
  match (s.core n).halo with
  | none => s
  | some h =>
    let first := match (s.queue h.owner.1).tasks with
      | t :: _ => decide (t.serial = h.owner.2)
      | [] => false
    if h.started || !first then s
    else
      let h1 : Halo := { h with started := true, phase := if (phaseLinks h.desc 1).isEmpty then 2 else 1 }
      s.modCore n fun c => { c with halo := some h1 }

/-- The checks of R218 on a partner's token over link l. -/
def State.tokenOk (s : State) (h p : Halo) (l : Nat) : Bool :=
  let e := s.home (h.owner.1 / 16) (df h.desc 4 23 0)
  let f := s.home (p.owner.1 / 16) (df p.desc 4 23 0)
  let ax := linkAxis h.desc l
  let next (a b : List W32) (x : HEntry) : Bool := decide (slabOrg a l + convOut a x ax = slabOrg b l)
  decide (e.d3 = f.d3) && decide (e.d4 = f.d4) && decide (e.layout = f.layout) && decide (e.fmt = f.fmt) &&
  ([0, 1, 2].all fun a => decide (a = ax) || decide (e.axis a = f.axis a)) &&
  decide (linkAxis p.desc l = ax) && decide (haloLow h.desc ax = haloLow p.desc ax) &&
  decide (haloHigh h.desc ax = haloHigh p.desc ax) &&
  (if l = 0 ∨ l = 3 then next p.desc h.desc f else next h.desc p.desc e)

/-- HALO_TOKEN: the partner's next token arrives over link l: its ready token, which is checked and whose mismatch aborts
both CONVs with 0x10 (R217 step 1, R218), and over an east or west link the token with which it enters phase 2 (step 3). -/
def State.haloToken (s : State) (n l : Nat) : State :=
  match (s.core n).halo, meshPartner n l with
  | some h, some m =>
    match (s.core m).halo with
    | some p =>
      let sends := p.started && (haloLinks p.desc).contains (meshBack l) && (haloLinks h.desc).contains l &&
        decide ((s.queue p.owner.1).cls = (s.queue h.owner.1).cls)
      if !sends then s
      else if !h.ready.contains l then
        if s.tokenOk h p l then
          let h1 : Halo := { h with ready := l :: h.ready, tokens := if l < 2 then l :: h.tokens else h.tokens }
          s.modCore n fun c => { c with halo := some h1 }
        else (s.abortTask h.owner.1 h.owner.2 0x10).abortTask p.owner.1 p.owner.2 0x10
      else if 2 ≤ l ∧ 2 ≤ p.phase ∧ !h.tokens.contains l then
        s.modCore n fun c => { c with halo := some { h with tokens := l :: h.tokens } }
      else s
    | none => s
  | _, _ => s

/-- Coordinates (t, h, x) that an exchange over link l carries, with the partner's coordinate on the exchanged axis:
phase 1 takes the own span of the other cut axis, phase 2 its full extent (R217). -/
def haloCells (d : List W32) (e f : HEntry) (pd : List W32) (l : Nat) : List ((Nat × Nat × Nat) × (Nat × Nat × Nat)) :=
  let ax := linkAxis d l
  let low := decide (l = 0 ∨ l = 3)
  let len := if low then haloLow d ax else haloHigh d ax
  let other := linkAxis d 2
  let cut := !(phaseLinks d 2).isEmpty
  let range (a : Nat) : List (Nat × Nat) :=
    if a = ax then (List.range len).map fun y =>
      if low then (y, haloSpan pd f ax + y) else (haloLow d ax + haloSpan d e ax + y, haloLow d ax + y)
    else if decide (l < 2) && cut && decide (a = other) then
      (List.range (haloSpan d e a)).map fun y => (haloLow d a + y, haloLow d a + y)
    else (List.range (e.axis a)).map fun y => (y, y)
  (range 0).flatMap fun t => (range 1).flatMap fun h => (range 2).map fun x => ((t.1, h.1, x.1), (t.2, h.2, x.2))

/-- Copy the inbound halo of link l from the partner's slab (R216). -/
def State.haloCopy (s : State) (n m l : Nat) (h p : Halo) : State :=
  let e := s.home (h.owner.1 / 16) (df h.desc 4 23 0)
  let f := s.home (p.owner.1 / 16) (df p.desc 4 23 0)
  let planar := cPlanar h.desc
  let b8 := cB8 h.desc
  let dstAt := s.yardAddr n (df h.desc 6 24 0)
  let frm := s.yardAddr m (df p.desc 6 24 0)
  (haloCells h.desc e f p.desc l).foldl (fun a q =>
    let (t, y, x) := q.1
    let (t', y', x') := q.2
    (List.range e.d3).foldl (fun b c =>
      let w := if b8 then 1 else 2
      let b1 := b.putBytes (dstAt + convOff e planar b8 c t y x) (s.bytesAt (frm + convOff f planar b8 c t' y' x') w)
      if b8 && decide (c % 32 = 0) then
        b1.putBytes (dstAt + convScaleOff e c t y x) (s.bytesAt (frm + convScaleOff f c t' y' x') 1)
      else b1) a) s

/-- Bytes that an exchange over link l carries. -/
def State.haloBytes (s : State) (l : Nat) (h p : Halo) : Nat :=
  let e := s.home (h.owner.1 / 16) (df h.desc 4 23 0)
  let f := s.home (p.owner.1 / 16) (df p.desc 4 23 0)
  (haloCells h.desc e f p.desc l).length * (if cB8 h.desc then e.d3 + e.d3 / 32 else 2 * e.d3)

/-- One inbound link of the phase lands: data copied, counted at the sender, acknowledged to it. -/
def State.haloLand (s : State) (n l : Nat) : State :=
  match (s.core n).halo, meshPartner n l with
  | some h, some m =>
    match (s.core m).halo with
    | some p =>
      let s1 := (s.haloCopy n m l h p).countWrap .coreMtxbytes m (cdiv (s.haloBytes l h p) 256)
      let s2 := s1.modCore n fun c => { c with halo := some { h with landed := l :: h.landed } }
      let acked := meshBack l :: p.acked
      let done := decide (p.phase = 3) && (haloLinks p.desc).all acked.contains
      let s3 := s2.modCore m fun c => { c with halo := if done then none else some { p with acked := acked } }
      s3.checkLanded p.owner.1 p.owner.2
    | none => s
  | _, _ => s

/-- The inbound halos of a CONV are complete: the time since its issue counts in CORE_MHALOWAIT and as slip (R219), and the
first sweep begins. -/
def State.haloDone (s : State) (n : Nat) (h : Halo) : State :=
  let ns := s.clock.since - h.issued
  (((s.countWrap .coreMhalowait n (ns * 7 / 5)).countWrap .queSlip h.owner.1 (ns / 10)).convStart h.owner.1 h.owner.2 h.desc)

/-- HALO_INBOUND_COMPLETE: the phase's inbound data have landed; phase 2 or the first tile load follows (R217). -/
def State.haloInbound (s : State) (n : Nat) : State :=
  match (s.core n).halo with
  | none => s
  | some h =>
    let ls := phaseLinks h.desc h.phase
    let ready := h.started && !h.gone && decide (h.phase < 3) && ls.all fun l => match meshPartner n l with
      | some m => match (s.core m).halo with
        | some p => h.tokens.contains l && p.tokens.contains (meshBack l)
        | none => false
      | none => false
    if !ready then s
    else
      let s1 := ls.foldl (fun a l => a.haloLand n l) s
      match (s1.core n).halo with
      | none => s1
      | some h1 =>
        if h1.phase = 1 ∧ !(phaseLinks h1.desc 2).isEmpty then
          s1.modCore n fun c => { c with halo := some { h1 with phase := 2 } }
        else
          let done := (haloLinks h1.desc).all h1.acked.contains
          let s2 := s1.modCore n fun c => { c with halo := if done then none else some { h1 with phase := 3 } }
          s2.haloDone n h1

/-- HALO_PARTNER_ABORT: a partner's CONV has aborted before its data had landed (R219). -/
def State.haloAbort (s : State) (n : Nat) : State :=
  match (s.core n).halo with
  | none => s
  | some h => if h.gone && decide (h.phase < 3) then s.abortTask h.owner.1 h.owner.2 0x60 else s

/-- HALO_EXCHANGE_START (R217). -/
def execHaloExchangeStart (n : Fin 16) (s : State) : Host.Outcome State Fault Refusal := whenUp s fun x => x.haloStart n
/-- HALO_TOKEN (R218). -/
def execHaloToken (n : Fin 16) (link : Fin 4) (s : State) : Host.Outcome State Fault Refusal :=
  whenUp s fun x => x.haloToken n link
/-- HALO_INBOUND_COMPLETE (R217). -/
def execHaloInboundComplete (n : Fin 16) (s : State) : Host.Outcome State Fault Refusal :=
  whenUp s fun x => x.haloInbound n
/-- HALO_PARTNER_ABORT (R219). -/
def execHaloPartnerAbort (n : Fin 16) (s : State) : Host.Outcome State Fault Refusal := whenUp s fun x => x.haloAbort n
/-- MORTAR_FLIT_ERROR: the receiver asks for a replay and counts it; the data are unchanged (R221). -/
def execMortarFlitError (n : Fin 16) (link : Fin 4) (s : State) : Host.Outcome State Fault Refusal :=
  whenUp s fun x => if (meshPartner n link).isSome then x.countWrap .coreMreplay n 1 else x

end Sys2Proof.Machine
end

