-- ==== Sys2Proof/Machine/Tiers.lean ====
section
/-! DEFINITION. What the tier controllers do by themselves: reports of uncorrectable codewords (R252), maintenance
bursts (R263, R264), row retirement (R266), lane erasures (R256), background initialisation (R260) and refresh (R261). -/
namespace Sys2Proof.Machine

/-! Reports to the tensor home table. -/

/-- Tasks whose MOVE has not switched and whose tensor is POISONED (R285). -/
def State.poisonedMoves (s : State) : List (Nat × Nat) :=
  (s.moves.filter fun m => !m.switched && decide ((s.home m.tenant m.handle).st = stPoisoned)).map fun m =>
    (m.tenant * 16 + m.queue, m.task)

/-- The controllers report uncorrectable codewords: tensors that hold them become POISONED, and a MOVE whose source has
become POISONED aborts with 0x51, or 0x50 when its own read met the codeword (R252, R285). -/
def State.reportUe (s : State) (cws : List Nat) (own : Option (Nat × Nat)) : State :=
  let s1 := cws.foldl (fun x cw => x.poisonHomes cw) s
  if cws.isEmpty then s1
  else s1.poisonedMoves.foldl (fun x p => x.abortTask p.1 p.2 (if own = some p then 0x50 else 0x51)) s1

/-- A foreground read of a range with its reports: the Bool is false when a codeword was uncorrectable. -/
def State.tierRead (s : State) (errs : List CwErr) (own : Option (Nat × Nat)) (a len : Nat) : State × Bool :=
  let r := s.readRange 0 errs a len
  (r.1.reportUe r.2 own, r.2.isEmpty)

/-- Copy a range between two places of the tiers, both at multiples of 256: what reads uncorrectable leaves its copy poisoned,
and the Bool is false (R252, R364). -/
def State.copyRange (s : State) (src dst len : Nat) : State × Bool :=
  let r := s.tierRead [] none src len
  let s1 := r.1.putUnits dst (r.1.data src len)
  ((codewords src len).foldl (fun x cw => if r.1.poisoned cw then x.setPoison (dst + (cw - src)) true else x) s1, r.2)

/-- A write of part of a codeword reads, merges and writes back; onto an uncorrectable codeword it is dropped, and the
codeword is handled as a foreground read with SOURCE 2 (R253). -/
def State.partWrite (s : State) (errs : List CwErr) (cw : Nat) (bytes : List (Nat × Byte)) : State :=
  let r := s.readRange 2 errs cw 64
  let s1 := r.1.reportUe r.2 none
  if r.2.isEmpty then
    let s2 := s1.initGranule cw
    let s3 := if (s2.errorAt errs cw).isEmpty then s2 else s2.writeCorrected cw
    bytes.foldl (fun x p => x.putBytes p.1 [p.2]) s3
  else s1

/-! Maintenance bursts. -/

/-- What a maintenance read that decoded writes back: nothing where the codeword had no error. -/
def State.writeBackErr (s : State) (errs : List CwErr) (cw : Nat) : State :=
  if (s.errorAt errs cw).isEmpty then s else s.writeCorrected cw

/-- Write back a corrected codeword: its read's corrections are made permanent; a codeword that now reads uncorrectable
is handled as scrub (R251, R254). -/
def State.writeBackOne (s : State) (n : Nat) (errs : List CwErr) : State :=
  match mget [] s.mem.writeBack n with
  | [] => s
  | cw :: rest =>
    let s1 := { s with mem := { s.mem with writeBack := mset [] s.mem.writeBack n rest } }
    let r := s1.readCw 1 errs cw
    if r.2 then r.1.writeBackErr errs cw else r.1.reportUe [cw] none

/-- Codewords of the unit at unit index u of channel n. -/
def unitCodewords (n u : Nat) : List Nat := (List.range 4).map fun i => unitAddr n u + 64 * i

/-- Scrub passes of a channel so far. -/
def State.scrubPass (s : State) (n : Nat) : Nat := mget 0 s.mem.scrub n / unitsOf n

/-- A row in which scrub has corrected a symbol: three consecutive passes ask for its retirement (R266). -/
def State.scrubHit (s : State) (n cw : Nat) : State :=
  let key := bankKey cw * 2 ^ 32 + Config.rowOf cw
  let old := mget 0 s.mem.scrubRow key
  let pass := s.scrubPass n
  let run := if old = 0 then 1
    else if old / 4 = pass + 1 then old % 4
    else if old / 4 = pass then Nat.min 3 (old % 4 + 1) else 1
  let s1 := { s with mem := { s.mem with scrubRow := mset 0 s.mem.scrubRow key (4 * (pass + 1) + run) } }
  if run = 3 then s1.askRetire cw else s1

/-- The granule of a channel's unit is initialised. -/
def State.unitInited (s : State) (n u : Nat) : Bool :=
  decide (u / 256 < s.mem.initNext) || mget false s.mem.init (granuleKey n (u / 256))

/-- The position of the next unit of an initialised granule from position p on, over at most `fuel` granules. -/
def State.scrubFrom (s : State) (n : Nat) : Nat → Nat → Option Nat
  | 0, _ => none
  | fuel + 1, p => if s.unitInited n (p % unitsOf n) then some p else s.scrubFrom n fuel ((p / 256 + 1) * 256)

/-- The position that the channel's next scrub burst reads: granules not yet initialised are skipped (R264); none while no
granule of the channel is initialised. -/
def State.scrubNext (s : State) (n : Nat) : Option Nat := s.scrubFrom n (granules n + 1) (mget 0 s.mem.scrub n)

/-- Scrub reads the channel's next unit: it writes back what it corrects and handles uncorrectable codewords (R264). -/
def State.scrubUnit (s : State) (n : Nat) (errs : List CwErr) : State :=
  match s.scrubNext n with
  | none => s
  | some pos =>
    let s0 := (unitCodewords n (pos % unitsOf n)).foldl (fun x cw =>
      let r := x.readCw 1 errs cw
      let y := if r.2 then r.1.writeBackErr errs cw else r.1
      let z := if x.corrects errs cw then y.scrubHit n cw else y
      z.reportUe (if r.2 then [] else [cw]) none) s
    { s0 with mem := { s0.mem with scrub := mset 0 s0.mem.scrub n (pos + 1) } }

/-- A maintenance burst of a channel: a queued write-back before scrub (R251, R263). -/
def State.burst (s : State) (n : Nat) (errs : List CwErr) : State :=
  if (mget [] s.mem.writeBack n).isEmpty then s.scrubUnit n errs else s.writeBackOne n errs

/-- Memory training has ended well. -/
def State.trained (s : State) : Bool := bit (s.reg .memStatus 0) 31

/-- MAINTENANCE_BURST (R263). -/
def execMaintenanceBurst (chan : Fin 272) (errs : List CwErr) (s : State) : Host.Outcome State Fault Refusal :=
  whenClocked s fun x => if x.trained then x.burst chan errs else x

/-- PERIODIC_CALIBRATION: one burst of the channel, with no effect on data (R264). -/
def execPeriodicCalibration (chan : Fin 272) (s : State) : Host.Outcome State Fault Refusal :=
  whenClocked s fun x => if x.trained then
      { x with mem := { x.mem with calibrated := mmod 0 x.mem.calibrated chan (· + 1) } }
    else x

/-- The codewords of a row that are poisoned or stored in error, in address order. -/
def State.badInRow (s : State) (bank row : Nat) : List Nat :=
  (((s.mem.latent.map (·.1)) ++ (s.mem.poison.filter fun p => p.2).map (·.1)).eraseDups.filter fun c =>
    decide (bankKey (64 * c) = bank) && decide (Config.rowOf (64 * c) = row)).foldl (fun l c => laneInsert (64 * c) l) []

/-- The repair reads a row, correcting what it can, and writes it back: corrections count, and codewords that read
uncorrectable are handled with SOURCE 3 and stay poisoned (R252, R266, R269). -/
def State.readRow (s : State) (bank row : Nat) : State :=
  (s.badInRow bank row).foldl (fun x cw =>
    let r := x.readCw 3 [] cw
    if r.2 then r.1.writeBackErr [] cw else r.1.reportUe [cw] none) s

/-- A row of a bank is retired, within the bank's limit: it is read, repaired and written back (R266). -/
def State.retireRow (s0 : State) (bank row : Nat) : State :=
  let n := bank / 256
  let had0 := mget [] s0.mem.retired bank
  let out := had0.contains row || decide ((if n < 256 then 2 else 1) ≤ had0.length)
  let s := if out then s0 else s0.readRow bank row
  let had := mget [] s.mem.retired bank
  let limit : Nat := if n < 256 then 2 else 1
  let s1 : State := { s with mem := { s.mem with retireQ := s.mem.retireQ.filter fun p => !decide (p = (bank, row)) } }
  if had.contains row || decide (limit ≤ had.length) then s1
  else
    let s2 := { s1 with mem := { s1.mem with retired := mset [] s1.mem.retired bank (row :: had) } }
    let s3 := (s2.setRfld .memChstat n 27 24 (Nat.min 15 (s2.rfld .memChstat n 27 24 + 1))).log 4 [n, bank, row]
    let all : Nat := (s3.flash.repair.filter fun r => decide (r.kind = 4)).length
    if decide (limit ≤ had.length + 1) || decide (64 ≤ all) then s3.replaceReason 2 else s3

/-- Row retirement asked for is carried out in a memory rest (R266). -/
def State.retire (s : State) (bank row : Nat) : State :=
  if s.memRest && s.mem.retireQ.contains (bank, row) then s.retireRow bank row else s

/-- ROW_RETIREMENT (R266). -/
def execRowRetirement (bank row : Nat) (s : State) : Host.Outcome State Fault Refusal :=
  whenClocked s fun x => if x.trained then x.retire bank row else x

/-- Corrected codewords among the last 64 of a channel that carried a corrected symbol on a lane. -/
def State.laneHits (s : State) (n lane : Nat) : Nat :=
  ((mget [] s.mem.history n).filter fun c => c.contains lane).length

/-- LANE_ERASURE: the lane carries corrected symbols in 16 of the last 64 corrected codewords (R256). -/
def execLaneErasure (chan : Fin 272) (lane : Nat) (s : State) : Host.Outcome State Fault Refusal :=
  whenClocked s fun x => if x.trained && decide (16 ≤ x.laneHits chan lane) then x.eraseLane chan lane else x

/-- BACKGROUND_INIT: the next granule of every channel and group that has one left is initialised (R260). -/
def State.initStep (s : State) : State :=
  if s.mem.initNext < 1048576 then
    { s with mem := { s.mem with
      initNext := s.mem.initNext + 1
      init := s.mem.init.filter fun p => !decide (p.1 % 1048576 = s.mem.initNext) } }
  else s

/-- BACKGROUND_INIT (R260). -/
def execBackgroundInit (s : State) : Host.Outcome State Fault Refusal :=
  whenClocked s fun x => if x.trained then x.initStep else x

/-- REFRESH: a bank is refreshed; MEM_STATUS shows a group whose device reports a raised rate (R261). A stack's doubled
rate follows its temperature (SENSOR_SAMPLE). Banks count 256 numbers to a channel. -/
def State.refreshBank (s : State) (bank : Nat) (hot : Bool) : State :=
  let n := bank / 256 % 272
  let s1 := { s with mem := { s.mem with refreshed := mmod 0 s.mem.refreshed bank (· + 1) } }
  if n < 256 then s1 else s1.setRfld .memStatus 0 (n - 256) (n - 256) (b2n hot)

/-- REFRESH (R261). -/
def execRefresh (bank : Nat) (hot : Bool) (s : State) : Host.Outcome State Fault Refusal :=
  whenClocked s fun x => x.refreshBank bank hot

end Sys2Proof.Machine
end

