-- ==== Sys2Proof/Machine/Sequencer.lean ====
section
/-! DEFINITION. The sequencer's own tasks LOOP, FENCE and WAIT (R111, R117, R131), rest windows, prefetch (R122 to R124,
R294), completion (R116), late-manifest events (R130), and the GO and STOP of a queue (R133, R135). -/
namespace Sys2Proof.Machine

/-! LOOP. -/

/-- A LOOP in flight: its body runs from iteration 0 under a new frame, and it has no other effect to land (R111). -/
def State.runLoop (s : State) (k : Nat) (t : Task) : State :=
  (s.modQueue k fun q => { q with next := t.index + 1, loops := { index := t.index, iter := 0, desc := t.desc } :: q.loops })
    |>.landTask k t.serial

/-- LOOP (R111). -/
def execLoop (t : Fin 8) (q : Fin 16) (waited : Nat) (s : State) : Host.Outcome State Fault Refusal :=
  whenUp s fun x => x.issueTask (16 * t.val + q.val) waited (fun d => decide (dType d = 0x0A)) (fun _ _ => true)
    (fun y r => y.runLoop (16 * t.val + q.val) r)

/-! The step fence (R117, R355). -/

/-- A FENCE with the STEP scope. -/
def isStepFence (d : List W32) : Bool := decide (dType d = 0x0B) && bit (wordAt d 4) 3

/-- A queue waits at its STEP fence with every other scope holding: the fence is its only task in flight. -/
def State.atStepFence (s : State) (k : Nat) : Bool :=
  match (s.queue k).tasks with
  | [t] => isStepFence t.desc
  | _ => false

/-- Open class-0 queues of a tenant. -/
def State.class0Queues (s : State) (t : Nat) : List Nat :=
  ((List.range 16).map fun q => 16 * t + q).filter fun k => s.qOpen k && decide ((s.queue k).cls = 0)

/-- STAGE_DONE, once per step, when every open class-0 queue of the caravan tenant waits at its STEP fence (R355). -/
def State.stageCheck (s : State) : State :=
  match s.caravan.tenant with
  | none => s
  | some t =>
    let ks := s.class0Queues t
    if s.caravan.plan.isSome && decide (s.carState = 2) && !s.caravan.stageSent && !ks.isEmpty && ks.all s.atStepFence then
      let slip := (ks.map fun k => (s.reg .queSlip k).toNat).sum
      let late := (ks.filter fun k => (s.queue k).lateSent).length
      let headId := match s.headOf s.carBond with
        | some h => h :: (s.deputyOf s.carBond).toList
        | none => [s.masterId]
      ({ s with caravan := { s.caravan with stageSent := true } }).notices 0x02 headId [s.carStep, slip, late]
    else s

/-- FENCE in flight: later tasks stay back until it completes. -/
def State.runFence (s : State) (k : Nat) (t : Task) : State :=
  (s.modQueue k fun q => { q with fence := some t.serial }).stageCheck

/-- FENCE (R117). -/
def execFence (t : Fin 8) (q : Fin 16) (waited : Nat) (s : State) : Host.Outcome State Fault Refusal :=
  whenUp s fun x => x.issueTask (16 * t.val + q.val) waited (fun d => decide (dType d = 0x0B)) (fun _ _ => true)
    (fun y r => y.runFence (16 * t.val + q.val) r)

/-! WAIT and rest windows (R131, R262). -/

/-- REST of a WAIT. -/
def wRest (d : List W32) : Bool := decide (dType d = 0x0C) && bit (wordAt d 8) 0

/-- A rest window of queue k is open on its core. -/
def State.restOf (s : State) (k : Nat) : Option Rest :=
  match (s.core (s.queue k).lcore).rest with
  | some r => if r.queue = k then some r else none
  | none => none

/-- Tasks that a rest window of core n has admitted have it open to the given time at least. -/
def State.stretchRest (s : State) (n e : Nat) : State :=
  (s.queuesOn n).foldl (fun x k => x.modQueue k fun q =>
    { q with tasks := q.tasks.map fun t => { t with windowEnd := t.windowEnd.map (Nat.max e) } }) s

/-- A window opens on the core of queue k; with one of an earlier WAIT still open, both are, to the later end (R131).
MEM_STATUS.REST is computed when read. -/
def State.openRest (s : State) (k : Nat) (d : List W32) (waiting : Bool) : State :=
  let n := (s.queue k).lcore
  let new := s.clock.since + (wordAt d 9).toNat * 10
  let e := match s.restOf k with
    | some r => Nat.max r.ends new
    | none => new
  (s.modCore n fun c => { c with rest := some { queue := k, ends := e, waiting := waiting } }).stretchRest n e

/-- A satisfied WAIT with REST: its window opens now, or stops waiting and closes if its length has run out. -/
def State.waitRest (s : State) (k : Nat) (d : List W32) : State :=
  if !wRest d then s
  else match s.restOf k with
    | some r =>
      if !r.waiting then s.openRest k d false
      else if r.ends ≤ s.clock.since then
        (s.modCore (s.queue k).lcore fun c => { c with rest := none }).stretchRest (s.queue k).lcore s.clock.since
      else s.modCore (s.queue k).lcore fun c => { c with rest := some { r with waiting := false } }
    | none => s.openRest k d false

/-- WAIT in flight: nothing is left to land. -/
def State.runWait (s : State) (k : Nat) (t : Task) : State := (s.waitRest k t.desc).landTask k t.serial

/-- The next task of queue k is a WAIT with REST that its wait slots alone hold back (R131). -/
def State.waitHeld (s : State) (k : Nat) : Bool :=
  let q := s.queue k
  let d := s.patched k q.next
  wRest d && decide (s.qst k = 2) && !s.queueHeld k && decide (q.next < q.descCount) && q.fence.isNone &&
    decide (q.tasks.length < 8) && s.ringRoom k && (s.voidWait k d).isNone && !s.waitsReady k d

/-- WAIT (R131): it issues when it may; one that its wait slots hold back opens its rest window. -/
def State.wait (s : State) (k waited : Nat) : State :=
  let own := match s.restOf k with
    | some r => r.waiting
    | none => false
  if s.waitHeld k && !own then s.openRest k (s.patched k (s.queue k).next) true
  else s.issueTask k waited (fun d => decide (dType d = 0x0C)) (fun _ _ => true) (fun y r => y.runWait k r)

/-- WAIT (R131). -/
def execWait (t : Fin 8) (q : Fin 16) (waited : Nat) (s : State) : Host.Outcome State Fault Refusal :=
  whenUp s fun x => x.wait (16 * t.val + q.val) waited

/-- A rest window's length runs out: no lower-class task is admitted any more; it closes when its WAIT does not wait
(R131). -/
def State.restEnd (s : State) (n : Nat) : State :=
  match (s.core n).rest with
  | none => s
  | some r => s.modCore n fun c => { c with
      rest := if r.waiting then some { r with ends := Nat.min r.ends s.clock.since } else none }

/-- REST_WINDOW_END (R131). -/
def execRestWindowEnd (n : Fin 16) (s : State) : Host.Outcome State Fault Refusal := whenUp s fun x => x.restEnd n

/-! Completion. -/

/-- A task in flight may complete: its effects have landed; a FENCE is the oldest task, and its STEP scope ends only at
the step boundary (R116, R117). -/
def canComplete (pos : Nat) (t : Task) : Bool :=
  if dType t.desc = 0x0B then decide (pos = 0) && (!isStepFence t.desc || t.landed) else t.landed

/-- The task at a place of the queue's list completes. -/
def State.complete (s : State) (k pos : Nat) : State :=
  match (s.queue k).tasks[pos]? with
  | some t => if canComplete pos t then (s.completeTask k t.serial).stageCheck else s
  | none => s

/-- TASK_COMPLETE (R116). -/
def execTaskComplete (t : Fin 8) (q : Fin 16) (pos : Fin 8) (s : State) : Host.Outcome State Fault Refusal :=
  whenUp s fun x => x.complete (16 * t.val + q.val) pos

/-! Late manifests. -/

/-- QUE_SLIP of a class-0 queue has first exceeded SLACK in the step (R130). -/
def State.lateEvent (s : State) (k : Nat) : State :=
  let q := s.queue k
  if s.qOpen k && decide (q.cls = 0) && !q.lateSent && decide (q.slack < (s.reg .queSlip k).toNat) then
    let s1 := (s.modQueue k fun x => { x with lateSent := true }).countWrap .queLateevt k 1
    if decide (s.caravan.tenant = some (k / 16)) then s1.noticeUp 0x05 [q.lcore, k % 16, (s.reg .queSlip k).toNat] else s1
  else s

/-- LATE_MANIFEST_EVENT (R130). -/
def execLateManifestEvent (t : Fin 8) (q : Fin 16) (s : State) : Host.Outcome State Fault Refusal :=
  whenUp s fun x => x.lateEvent (16 * t.val + q.val)

/-! Prefetch (R122 to R124, R294). -/

/-- The first eligible entry of a queue in table order: its number and iteration (R123). -/
def Queue.firstPref (q : Queue) : Option (Nat × Nat) :=
  q.eligible.foldl (fun b x => match b with
    | none => some x
    | some y => if x.1 < y.1 then some x else some y) none

/-- Fields of a prefetch entry (Table 4-5). -/
def pSrc (e : List W32) : Nat := df e 1 23 0
def pBytes (e : List W32) : Nat := 256 * df e 4 17 0
def pDst (e : List W32) : Nat := df e 5 24 0
def pEntry (e : List W32) : Nat := df e 6 8 0
/-- Byte offset within the source in iteration i (R122). -/
def pOffset (e : List W32) (i : Nat) : Nat :=
  (wordAt e 2).toNat + df e 3 15 0 * 2 ^ 32 + (if bit (wordAt e 0) 16 then i * (wordAt e 7).toNat * 256 else 0)

/-- The first eligible entry of a queue may issue into a free slot (R123). -/
def State.prefReady (s : State) (k : Nat) : Bool :=
  let q := s.queue k
  match q.firstPref with
  | none => false
  | some (i, _) =>
    let e := q.pref i
    decide (s.qst k = 2) && !s.queueHeld k && decide ((s.core q.lcore).slots.length < 6) &&
      decide ((s.sbEntry k (pEntry e)).st = 0) && !((s.core q.lcore).slots.any fun x => decide (x.entry = pEntry e)) &&
      !s.filling (k / 16) (pSrc e)

/-- The queue whose entry issues: lower class first, then lower queue number (R123). -/
def State.prefQueue (s : State) (n : Nat) : Option Nat :=
  ((s.queuesOn n).filter s.prefReady).foldl (fun b k => match b with
    | none => some k
    | some j => if (s.queue k).cls < (s.queue j).cls then some k else some j) none

/-- The code with which a prefetch fails at issue, 0 for none, in the order of Table 11-7; then permission (R275)
and extent (R176). -/
def State.prefCode (s : State) (k : Nat) (e : List W32) (off : Nat) : Nat :=
  let t := k / 16
  let n := (s.queue k).lcore
  let h := pSrc e
  let x := s.home t h
  if !s.handleOk t h || decide (x.st = stFree) || decide (x.gen ≠ mget 0 (s.queue k).gens h) then 0x20
  else if x.kind = 0 ∨ x.kind = 3 then 0x20
  else if x.packed then 0x20
  else if x.st = stUnwritten ∧ s.coldFault t n then 0x23
  else if x.st = stVoid then 0x22
  else if x.st = stPoisoned then 0x51
  else if decide (x.st ≠ stUnwritten) && x.reaches off (pBytes e) then 0x20
  else if !s.homeOk t x then 0x21
  else if x.bytes < off + pBytes e then 0x13
  else 0

/-- PREFETCH_ISSUE: the first entry that may issues; a failure makes its scoreboard entry VOID (R123, R124, R294). -/
def State.prefIssue (s : State) (n : Nat) : State :=
  match s.prefQueue n with
  | none => s
  | some k =>
    let q := s.queue k
    match q.firstPref with
    | none => s
    | some (i, iter) =>
      let t := k / 16
      let e := q.pref i
      let off := pOffset e iter
      let s1 := s.modQueue k fun x => { x with eligible := x.eligible.erase (i, iter) }
      let code := s.prefCode k e off
      if code ≠ 0 then s1.setSb k (pEntry e) ⟨2, pSrc e, code⟩
      else
        let h := s.home t (pSrc e)
        (s1.coldRead t (pSrc e)).modCore n fun c => { c with slots := c.slots ++ [
          { tenant := t, queue := k % 16, index := i, handle := pSrc e, gen := h.gen, zeros := decide (h.st = stUnwritten)
            src := h.addr + off, bytes := pBytes e, dst := s.yardAddr n (pDst e), entry := pEntry e, oldHome := false }] }

/-- PREFETCH_ISSUE (R123). -/
def execPrefetchIssue (n : Fin 16) (s : State) : Host.Outcome State Fault Refusal := whenUp s fun x => x.prefIssue n

/-- The codewords of a range that read well, copied to a destination (R252: an uncorrectable one delivers nothing). -/
def State.copyGood (s : State) (bad : List Nat) (src dst len : Nat) : State :=
  (codewords src len).foldl (fun x cw =>
    if bad.contains cw then x
    else
      let lo := Nat.max cw src
      let hi := Nat.min (cw + 64) (src + len)
      x.putBytes (dst + (lo - src)) (s.data lo (hi - lo))) s

/-- The last byte of a prefetch lands (R123): its entry becomes READY, or VOID with 0x50 on an uncorrectable codeword. -/
def State.prefLand (s : State) (n slot : Nat) (errs : List CwErr) : State :=
  match (s.core n).slots[slot]? with
  | none => s
  | some p =>
    let k := 16 * p.tenant + p.queue
    let s1 := s.modCore n fun c => { c with slots := c.slots.eraseIdx slot }
    if p.zeros then (s1.putBytes p.dst (List.replicate p.bytes 0)).setSb k p.entry ⟨1, p.handle, 0⟩
    else
      let r := s1.readRange 0 errs p.src p.bytes
      let s2 := (r.1.copyGood r.2 p.src p.dst p.bytes).reportUe r.2 none
      s2.setSb k p.entry (if r.2.isEmpty then ⟨1, p.handle, 0⟩ else ⟨2, p.handle, 0x50⟩)

/-- PREFETCH_LAND (R123). -/
def execPrefetchLand (n : Fin 16) (slot : Fin 6) (errs : List CwErr) (s : State) : Host.Outcome State Fault Refusal :=
  whenUp s fun x => x.prefLand n slot errs

/-! GO and STOP. -/

/-- The effect of a landed write of QUE_CTRL: GO starts a LOADED, HALTED or DONE queue and is held by a RUNNING or
loading one; STOP halts a RUNNING queue at the task boundary (Table 4-9, R135, R177). -/
def State.afterQueCtrl (s : State) (k : Nat) : State :=
  let s0 := s.useReg .queCtrl k
  let c := s0.reg .queCtrl k
  let s1 := if bit c 0 then
      if s0.qst k = 1 ∨ s0.qst k = 3 ∨ s0.qst k = 4 then s0.startQueue k
      else if decide (s0.qst k = 2) || (s0.queue k).loading then s0.modQueue k fun q => { q with goHeld := true }
      else s0
    else s0
  if bit c 1 && decide (s1.qst k = 2) then s1.enter k 3 else s1

/-- A write of QUE_CTRL by function f. -/
def State.queCtrl (s : State) (f k : Nat) (v : W32) : State :=
  let r := s.write f .queCtrl k true v
  if r.2 then r.1.afterQueCtrl k else r.1

/-- QUEUE_GO: GO with a restart index (R135). -/
def execQueueGo (f : Fin 9) (t : Fin 8) (q : Fin 16) (restart : W16) (s : State) : Host.Outcome State Fault Refusal :=
  whenServed s fun x => x.queCtrl f (16 * t.val + q.val) (BitVec.ofNat 32 (restart.toNat * 65536 + 1))

/-- QUEUE_STOP: STOP beside the restart index in place (Table 4-9). -/
def execQueueStop (f : Fin 9) (t : Fin 8) (q : Fin 16) (s : State) : Host.Outcome State Fault Refusal :=
  whenServed s fun x =>
    x.queCtrl f (16 * t.val + q.val) (BitVec.ofNat 32 (x.rfld .queCtrl (16 * t.val + q.val) 31 16 * 65536 + 2))

end Sys2Proof.Machine
end

