-- ==== Sys2Proof/Machine/Units.lean ====
section
/-! DEFINITION. The shared units and their schedulers: queues per tenant and class, the grant order of Table 1-5,
busy completions (R35 to R39) and the boundary of SCH_CFG (R479). Unit 0 is the tier movers, 1 the Kiln, 2 the codec,
3 + g the Tunil engines of port group g. -/
namespace Sys2Proof.Machine

/-- A request waits at a unit, or holds it. -/
def SharedUnit.has (x : SharedUnit) (r : Req) : Bool :=
  let same (y : Req) : Bool := decide (y.tenant = r.tenant) && decide (y.kind = r.kind) && decide (y.key = r.key)
  x.queue.any same || (match x.holder with | some y => same y | none => false) || x.more.any fun y => same y.1

/-- A request reaches a unit: it queues, or completes with a busy status and counts when its tenant's class-1 or class-2
queue is full. A requester that has its busy status asks again once the queue has room (R38, log 63). -/
def State.request (s : State) (u : Nat) (r : Req) : State :=
  let x := s.unit u
  if x.has r then s
  else if s.unitFull u r.tenant r.cls then
    if x.busy.contains r then s
    else s.setUnit u { x with dropped := mmod 0 x.dropped r.tenant (· + 1), busy := r :: x.busy }
  else s.setUnit u { x with queue := x.queue ++ [r], busy := x.busy.erase r }

/-- Tenants with work of a class, in cyclic order after tenant `last`. -/
def SharedUnit.tenantsFrom (x : SharedUnit) (cls last : Nat) : List Nat :=
  ((List.range 8).map fun i => (last + 1 + i) % 8).filter fun t =>
    x.queue.any fun r => decide (r.cls = cls) && decide (r.tenant = t)

/-- The oldest request of a tenant in a class. -/
def SharedUnit.oldest (x : SharedUnit) (cls t : Nat) : Option Req :=
  x.queue.find? fun r => decide (r.cls = cls) && decide (r.tenant = t)

/-- The class-1 request of the earliest deadline, in arrival order among equals. -/
def SharedUnit.earliest (x : SharedUnit) : Option Req :=
  (x.queue.filter fun r => decide (r.cls = 1)).foldl (fun b r => match b with
    | none => some r
    | some y => if r.deadline < y.deadline then some r else some y) none

/-- A unit's weighted round robin: the tenant whose class-2 work is next and the credits after the grant. A round ends
when no waiting tenant has credit; weight 0 is served only alone. -/
def rrNext (weight : Nat → Nat) (waiting : List Nat) (credit : SMap Nat) : Option (Nat × SMap Nat) :=
  let some2 := waiting.filter fun t => decide (0 < weight t)
  let pool := if some2.isEmpty then waiting else some2
  match pool.find? fun t => decide (0 < mget 0 credit t) with
  | some t => some (t, mset 0 credit t (mget 0 credit t - 1))
  | none =>
    match pool with
    | [] => none
    | t :: _ =>
      let fresh := (List.range 8).foldl (fun c i => mset 0 c i (weight i)) ([] : SMap Nat)
      some (t, mset 0 fresh t (weight t - 1))

/-- The next request that a unit grants, with its scheduler state after it (Table 1-5). -/
def State.nextGrant (s : State) (u : Nat) : Option (Req × SharedUnit) :=
  let x := s.unit u
  match (x.tenantsFrom 0 x.last0).head? with
  | some t => (x.oldest 0 t).map fun r => (r, { x with last0 := t })
  | none =>
    match x.earliest with
    | some r => some (r, x)
    | none =>
      match rrNext (s.weight2 u) (x.tenantsFrom 2 x.turn2) x.credit with
      | some (t, c) => (x.oldest 2 t).map fun r => (r, { x with credit := c, turn2 := t })
      | none => none

/-- Grants that a unit runs at once: the tier movers have eight engines (R293). -/
def engines (u : Nat) : Nat := if u = 0 then 8 else 1

/-- A grant goes to a free engine of a unit. -/
def SharedUnit.give (x : SharedUnit) (r : Req) : SharedUnit :=
  if x.holder.isNone then { x with holder := some r, discard := false, queue := x.queue.erase r }
  else { x with more := x.more ++ [(r, false)], queue := x.queue.erase r }

/-- A unit with a free engine grants the next requester; a unit held by a fault of its registers grants none (R477). -/
def State.grantNext (s : State) (u : Nat) : State :=
  let x := s.unit u
  if (x.holder.isSome && decide (engines u ≤ x.more.length + 1)) || s.held (.sched u) then s
  else match s.nextGrant u with
    | none => s
    | some (r, y) => s.setUnit u (y.give r)

/-- The PACKET boundary of a unit: staged SCH_CFG and TH_CFG copies apply; a changed weight restarts the round (R479). -/
def State.unitBoundary (s : State) (u : Nat) : State :=
  let changed := (List.range 8).any fun t => s.staged.any fun e =>
    decide (e.reg = rkey .schCfg (8 * u + t)) && decide (e.unit = 64 + u)
  let s1 := (List.range 8).foldl (fun x t => (x.useReg .schCfg (8 * u + t)).boundary .schCfg (8 * u + t) (64 + u)) s
  let s2 := if u = 1 ∨ u = 2 then (List.range 8).foldl (fun x t => x.boundary .thCfg t (64 + u)) s1 else s1
  if changed then
    s2.setUnit u { s2.unit u with credit := (List.range 8).foldl (fun c i => mset 0 c i (s2.weight2 u i)) ([] : SMap Nat) }
  else s2

/-- The oldest grant in progress ends: its holder goes, and the answer is the request whose effect takes place, none when its
tenant's reset has discarded the result (R39). Of the movers' engines the one that has run longest ends first (DESIGN CHOICE,
log 126). -/
def State.endGrant (s : State) (u : Nat) : State × Option Req :=
  let x := s.unit u
  let s1 := (s.setUnit u { x with holder := x.more.head?.map (·.1), more := x.more.tail
                                  discard := match x.more with | p :: _ => p.2 | [] => false }).unitBoundary u
  (s1, if x.discard then none else x.holder)

/-- Requests of a kind of a tenant leave a unit; a holder's result is discarded (R39). -/
def State.dropRequests (s : State) (u : Nat) (p : Req → Bool) : State :=
  let x := s.unit u
  s.setUnit u { x with
    queue := x.queue.filter fun r => !p r
    busy := x.busy.filter fun r => !p r
    discard := x.discard || (match x.holder with | some r => p r | none => false)
    more := x.more.map fun y => (y.1, y.2 || p y.1) }

end Sys2Proof.Machine
end

