-- ==== Sys2Proof/Machine/Moves.lean ====
section
/-! DEFINITION. MOVE to a local home (R282 to R286), its bursts at the tier movers, course packing (R290 to R292), and
the switch and release of every MOVE. -/
namespace Sys2Proof.Machine

/-! Course packing (Table 11-6). -/

/-- Bytes of an element of a format that packs: B16 2, F32 4. -/
def packWidth (fmt : Nat) : Nat := if fmt = 2 then 4 else 2

/-- Elements of a 4 KiB block as numbers. -/
def packElems (w : Nat) (block : List Byte) : List Nat :=
  (List.range (4096 / w)).map fun i => leNat ((block.drop (w * i)).take w)

/-- Biased exponent, and the residue of sign and fraction, of an element. -/
def packExp (w v : Nat) : Nat := if w = 2 then v / 2 ^ 7 % 256 else v / 2 ^ 23 % 256
def packRes (w v : Nat) : Nat :=
  if w = 2 then v / 2 ^ 15 * 128 + v % 128 else v / 2 ^ 31 * 2 ^ 23 + v % 2 ^ 23

/-- Bits as bytes, LSB first. -/
def bitBytes : Nat → List Bool → List Byte
  | 0, _ => []
  | n + 1, bs => BitVec.ofNat 8 (((bs.take 8).zipIdx.map fun p => b2n p.1 * 2 ^ p.2).sum) :: bitBytes n (bs.drop 8)

/-- Four-bit codes as bytes, LSB first, padded to a byte. -/
def nibbleBytes : List Nat → List Byte
  | [] => []
  | [a] => [BitVec.ofNat 8 a]
  | a :: b :: t => BitVec.ofNat 8 (a + 16 * b) :: nibbleBytes t

/-- The packed body of a block that is not all +0. -/
def packBody (w : Nat) (elems : List Nat) : List Byte :=
  let kept := elems.filter fun v => !decide (v = 0)
  let exps := kept.map (packExp w)
  let emax := exps.foldl Nat.max 0
  let codes := exps.map fun e => if emax - e ≤ 14 then emax - e else 15
  let escapes := exps.filter fun e => !decide (emax - e ≤ 14)
  bitBytes (elems.length / 8) (elems.map fun v => decide (v = 0)) ++ [BitVec.ofNat 8 emax] ++ nibbleBytes codes ++
    escapes.map (BitVec.ofNat 8) ++ kept.flatMap fun v => leBytes (w - 1) (packRes w v)

/-- A block's header and body: ZERO, RAW or packed (R291). -/
def packBlock (fmt : Nat) (block : List Byte) : Nat × List Byte :=
  let w := packWidth fmt
  let elems := packElems w block
  if elems.all fun v => decide (v = 0) then (2 ^ 17, [])
  else
    let body := packBody w elems
    if 4092 < body.length then (4096 + 2 ^ 16, block) else (body.length, body)

/-- Rebuild the elements of a block from its parts. -/
def unpackElems (w emax : Nat) : List Bool → List Nat → List Byte → List Byte → List Nat
  | [], _, _, _ => []
  | true :: z, codes, esc, res => 0 :: unpackElems w emax z codes esc res
  | false :: z, codes, esc, res =>
    let c := codes.headD 0
    let e := if c = 15 then (esc.headD 0).toNat else (emax + 256 - c) % 256
    let r := leNat (res.take (w - 1))
    let v := if w = 2 then r / 128 * 2 ^ 15 + e * 2 ^ 7 + r % 128
      else r / 2 ^ 23 * 2 ^ 31 + e * 2 ^ 23 + r % 2 ^ 23
    v :: unpackElems w emax z codes.tail (if c = 15 then esc.tail else esc) (res.drop (w - 1))

/-- The 4 KiB block of a header and body. -/
def unpackBlock (fmt header : Nat) (body : List Byte) : List Byte :=
  if header / 2 ^ 17 % 2 = 1 then List.replicate 4096 0
  else if header / 2 ^ 16 % 2 = 1 then body
  else
    let w := packWidth fmt
    let n := 4096 / w
    let zero := (List.range n).map fun i => ((body.drop (i / 8)).headD 0).getLsbD (i % 8)
    let kept := (zero.filter fun b => !b).length
    let emax := ((body.drop (n / 8)).headD 0).toNat
    let cb := ((body.drop (n / 8 + 1)).take ((kept + 1) / 2))
    let codes := (List.range kept).map fun i => ((cb.drop (i / 2)).headD 0).toNat / 16 ^ (i % 2) % 16
    let rest := body.drop (n / 8 + 1 + (kept + 1) / 2)
    let escs := (codes.filter fun c => decide (c = 15)).length
    (unpackElems w emax zero codes (rest.take escs) (rest.drop escs)).flatMap (leBytes w)

/-- Address of unit u (0 to 15) of the body of block i: it starts at unit i mod 16 of its slot and wraps (R291). -/
def bodyUnit (base i u : Nat) : Nat := base + 4096 * i + (i + u) % 16 * 256

/-- Address of block i's header. -/
def headerAddr (base bytes i : Nat) : Nat := base + roundUp bytes 4096 + 4 * i

/-- Units of a body. -/
def bodyUnits (len : Nat) : Nat := cdiv len 256

/-! Reading and writing homes. -/

/-- Read a range of a home for a MOVE: a tier read is checked. -/
def State.moveRead (s : State) (errs : List CwErr) (own : Nat × Nat) (a len : Nat) : State × List Byte × Bool :=
  let r := s.tierRead errs (some own) a len
  (r.1, r.1.data a len, r.2)

/-- Read the packed block i of a tensor at a base: header, body, and whether all was read. -/
def State.readPacked (s : State) (errs : List CwErr) (own : Nat × Nat) (base bytes i : Nat) :
    State × Nat × List Byte × Bool :=
  let h := s.moveRead errs own (headerAddr base bytes i) 4
  let header := leNat h.2.1
  let len := header % 65536
  let b := (List.range (bodyUnits len)).foldl (fun acc u =>
    let r := acc.1.moveRead errs own (bodyUnit base i u) 256
    (r.1, acc.2.1 ++ r.2.1, acc.2.2 && r.2.2)) ((h.1, [], h.2.2) : State × List Byte × Bool)
  (b.1, header, b.2.1.take len, b.2.2)

/-- The header of block i is the last of a unit of the header array, which is then written whole (R253). -/
def headerEnds (bytes i : Nat) : Bool := decide (i % 64 = 63) || decide (cdiv bytes 4096 = i + 1)

/-- Packed units that block i moves: those of its body, and a unit of the header array with its last header (R296). -/
def packedUnits (bytes i len : Nat) : Nat := bodyUnits len + b2n (headerEnds bytes i)

/-- Write packed block i of a tensor of `bytes` bytes at a base; the padding of its last units is unstated. -/
def State.writePacked (s : State) (base bytes i header : Nat) (body : List Byte) : State :=
  let n := bodyUnits body.length
  let full := body ++ (List.range (256 * n - body.length)).map (Config.packPad body)
  let s1 := (List.range n).foldl (fun x u => x.putUnits (bodyUnit base i u) ((full.drop (256 * u)).take 256)) s
  let s2 := s1.putBytes (headerAddr base bytes i) (leBytes 4 header)
  if headerEnds bytes i then
    let first := headerAddr base bytes (i / 64 * 64)
    let held := 4 * (i % 64 + 1)
    s2.putUnits first (s2.bytesAt first held ++ (List.range (256 - held)).map (Config.packPad []))
  else s2

/-! The bursts of a MOVE. -/

/-- The entry that the switch of a MOVE leaves (R282, R287, R290). -/
def MoveRec.entry (m : MoveRec) (e : HEntry) : HEntry :=
  let w0 := setBit (setFld e.w0 5 4 m.dkind) 6 (m.pack && !decide (m.dkind = 3))
  match m.dkind with
  | 0 => { e with w0 := w0, w1 := BitVec.ofNat 32 (m.daddr % 2 ^ 25 + m.dcore * 2 ^ 28), w2 := 0 }
  | 3 => { e with w0 := w0, w1 := BitVec.ofNat 32 (m.node + m.route * 65536), w2 := BitVec.ofNat 32 (m.daddr % 2 ^ 24) }
  | _ => { e with w0 := w0, w1 := BitVec.ofNat 32 m.daddr, w2 := BitVec.ofNat 32 (m.daddr / 2 ^ 32 % 65536) }

/-- Store a MOVE record in the place of the one of the same task. -/
def State.setMove (s : State) (m : MoveRec) : State :=
  { s with moves := s.moves.map fun x => if x.tenant = m.tenant ∧ x.task = m.task then m else x }

/-- Unpacked units, and packed units written or read, of a MOVE that packs, unpacks or copies a packed tensor (R296). -/
def State.countPack (s : State) (m : MoveRec) (units packed : Nat) : State :=
  (s.countWrap .thPackin m.tenant units).countWrap .thPackout m.tenant packed

/-- One burst of a local MOVE: 4 KiB of the tensor from its source to its destination, packed or unpacked on the way. -/
def State.moveBurst (s : State) (errs : List CwErr) (m : MoveRec) : State :=
  let k := 16 * m.tenant + m.queue
  let own := (k, m.task)
  let e := s.home m.tenant m.handle
  let i := m.next / 4096
  let n := Nat.min 4096 (e.bytes - m.next)
  let units := cdiv n 256
  let step (x : State) : State := x.setMove { m with next := m.next + n }
  if e.packed then
    let r := s.readPacked errs own m.src e.bytes i
    if !r.2.2.2 then r.1.abortTask k m.task 0x50
    else if m.pack then
      let x := r.1.writePacked m.dst e.bytes i r.2.1 r.2.2.1
      step (x.countPack m units (packedUnits e.bytes i r.2.2.1.length))
    else step ((r.1.putUnits (m.dst + m.next) ((unpackBlock e.fmt r.2.1 r.2.2.1).take n)).countPack m units
      (packedUnits e.bytes i r.2.2.1.length))
  else
    let r := s.moveRead errs own (m.src + m.next) n
    if !r.2.2 then r.1.abortTask k m.task 0x50
    else if m.pack then
      let p := packBlock e.fmt (r.2.1 ++ List.replicate (4096 - n) 0)
      let x := r.1.writePacked m.dst e.bytes i p.1 p.2
      step (x.countPack m units (packedUnits e.bytes i p.2.length))
    else step (r.1.putUnits (m.dst + m.next) r.2.1)

/-- The copy of a MOVE is over. -/
def MoveRec.copied (m : MoveRec) : Bool := decide (m.total ≤ m.next)

/-- The requests of tier fills and of local MOVEs that are copying reach the tier movers, one burst of each at a time
(R278, R293). -/
def State.moverRequests (s : State) : State :=
  let f := s.fills.foldl (fun x y =>
    if (x.home y.tenant y.handle).kind = 0 ∨ (x.home y.tenant y.handle).bytes ≤ y.next then x
    else x.request 0 { tenant := y.tenant, cls := y.cls, deadline := 2 ^ 48, kind := 0, key := y.handle }) s
  f.moves.foldl (fun x m =>
    if m.dkind = 3 || m.copied then x
    else x.request 0 { tenant := m.tenant, cls := (x.queue (16 * m.tenant + m.queue)).cls, deadline := 2 ^ 48, kind := 1,
                       key := m.task }) f

/-- What an ended grant of the tier movers does. -/
def State.moverEffect (s : State) (errs : List CwErr) (r : Req) : State :=
  if r.kind = 0 then
    match s.fills.find? fun f => decide (f.tenant = r.tenant) && decide (f.handle = r.key) with
    | some f => s.fillBurst f
    | none => s
  else
    match s.moves.find? fun m => decide (m.tenant = r.tenant) && decide (m.task = r.key) with
    | some m => if m.copied then s else s.moveBurst errs m
    | none => s

/-! Issue. -/

/-- Fields of a MOVE (Table 4-4). -/
def vKind (d : List W32) : Nat := df d 5 1 0
def vPack (d : List W32) : Bool := bit (wordAt d 5) 8

/-- The record of a MOVE at its issue. -/
def moveRec (k serial : Nat) (d : List W32) (e : HEntry) (src dst : Nat) : MoveRec :=
  { tenant := k / 16, queue := k % 16, task := serial, handle := df d 4 23 0, gen := e.gen, dkind := vKind d
    dcore := df d 5 7 4, daddr := (wordAt d 6).toNat + df d 7 15 0 * 2 ^ 32, node := df d 8 15 0, route := df d 8 31 16
    pack := vPack d, src := src, dst := dst, next := 0, total := e.bytes, switched := false, acked := vKind d ≠ 3 }

/-- A tier home's range reaches an unpopulated address (R244). -/
def HEntry.unpopulated (e : HEntry) : Bool := e.reaches 0 e.rangeBytes

/-- Fault of a MOVE's source at its issue: missing or peer-homed, moving, VOID, POISONED (R279, R284). -/
def State.moveSource (s : State) (t h : Nat) : Nat :=
  let e := s.home t h
  if !s.handleOk t h || decide (e.st = stFree) || decide (e.kind = 3) then 0x20
  else if e.st = stMoving then 0x21
  else if e.st = stVoid then 0x22
  else if e.st = stPoisoned then 0x51
  else if decide (e.st ≠ stUnwritten) && e.unpopulated then 0x20
  else 0

/-- PACK is allowed: a B16 or F32 tensor homed or landing in a tier (R290). -/
def packOk (e : HEntry) (dkind : Nat) : Bool :=
  (decide (e.fmt = 1) || decide (e.fmt = 2)) && (decide (e.kind ≠ 0) || decide (dkind ≠ 0))

/-- A local MOVE in flight begins (R282, R284, R290). -/
def State.runMove (s : State) (k : Nat) (t : Task) : State :=
  let d := t.desc
  let ten := k / 16
  let h := df d 4 23 0
  let e := s.home ten h
  let code := s.moveSource ten h
  let m0 := moveRec k t.serial d e 0 0
  let goal1 := m0.entry e
  let own := decide (goal1.kind = e.kind) && decide (goal1.w1 = e.w1) && decide (goal1.w2 = e.w2)
  if code ≠ 0 then s.abortTask k t.serial code
  else if own then s.landTask k t.serial
  else if vPack d && !packOk e (vKind d) then s.abortTask k t.serial 0x10
  else if goal1.unpopulated then s.abortTask k t.serial 0x20
  else if !s.homeOk ten goal1 then s.abortTask k t.serial 0x21
  else if e.st = stUnwritten then (s.setHome ten h { goal1 with w0 := setBit goal1.w0 6 e.packed }).landTask k t.serial
  else
    match s.homeAddr e, s.homeAddr goal1 with
    | some a, some b =>
      let s1 := (s.setSt ten h stMoving).addXlate k t.serial h 0
      let s2 : State := { s1 with moves := s1.moves ++ [{ m0 with src := a, dst := b }] }
      s2.moverRequests.grantNext 0
    | _, _ => s.abortTask k t.serial 0x20

/-- MOVE (R282). -/
def execMove (t : Fin 8) (q : Fin 16) (waited : Nat) (s : State) : Host.Outcome State Fault Refusal :=
  whenUp s fun x => x.issueTask (16 * t.val + q.val) waited (fun d => decide (dType d = 5) && decide (vKind d ≠ 3))
    (fun y d => !y.filling t (df d 4 23 0)) (fun y r => y.runMove (16 * t.val + q.val) r)

/-! Switch and release. -/

/-- A translation of a handle held by some transfer was to the source of its MOVE. -/
def Xlate.moved (h gen : Nat) (x : Xlate) : Xlate := if x.handle = h ∧ x.gen = gen then { x with oldHome := true } else x

/-- Translations of a queue's tasks, of a prefetch slot, of Kiln samples, of an encode frame and of the messages that a
route receives to the old home. -/
def Route.markOld (r : Route) (h gen : Nat) : Route :=
  { r with msgs := r.msgs.map fun m => if m.handle = h ∧ m.gen = gen ∧ m.code = 0 then { m with oldHome := true } else m }
def Queue.markOld (q : Queue) (h gen serial : Nat) : Queue :=
  { q with tasks := q.tasks.map fun x =>
      if x.serial = serial then x else { x with xlates := x.xlates.map (Xlate.moved h gen) } }
def Core.markOld (c : Core) (t h gen : Nat) : Core :=
  { c with slots := c.slots.map fun p =>
      if p.tenant = t ∧ p.handle = h ∧ p.gen = gen then { p with oldHome := true } else p }
def KQueue.markOld (q : KQueue) (h gen : Nat) : KQueue :=
  { q with samples := q.samples.map fun x => { x with xlate := x.xlate.map (Xlate.moved h gen) } }
def EncCtx.markOld (c : EncCtx) (h gen : Nat) : EncCtx :=
  { c with frame := c.frame.map fun f => { f with input := f.input.map (Xlate.moved h gen) } }

/-- Every transfer that holds a translation of the tensor holds the old home from now on (R283). -/
def State.markOld (s : State) (t h gen serial : Nat) : State :=
  let qs := mmap Queue.init s.queues fun k q => if k / 16 = t then q.markOld h gen serial else q
  let cs := mmap Core.init s.cores fun _ c => c.markOld t h gen
  let ks := mmap KQueue.init s.kiln.queues fun k q => if k / 16 = t then q.markOld h gen else q
  let es := mmap EncCtx.init s.codec.enc fun e c => if s.rfld .cdcEstat e 28 26 = t then c.markOld h gen else c
  let rs := mmap Route.init s.tunil.routes fun key r => if key < 16384 ∧ r.tenant = t then r.markOld h gen else r
  { s with queues := qs, cores := cs, kiln := { s.kiln with queues := ks }, codec := { s.codec with enc := es }
           tunil := { s.tunil with routes := rs } }

/-- A transfer still holds the old home of a tensor. -/
def State.oldHeld (s : State) (t h gen serial : Nat) : Bool :=
  let old (x : Xlate) : Bool := decide (x.handle = h) && decide (x.gen = gen) && x.oldHome
  (s.queues.any fun p => decide (p.1 / 16 = t) && p.2.tasks.any fun x => decide (x.serial ≠ serial) && x.xlates.any old) ||
  (s.cores.any fun p => p.2.slots.any fun x =>
    decide (x.tenant = t) && decide (x.handle = h) && decide (x.gen = gen) && x.oldHome) ||
  (s.kiln.queues.any fun p => decide (p.1 / 16 = t) && p.2.samples.any fun x => x.xlate.any old) ||
  (s.codec.enc.any fun p => decide (s.rfld .cdcEstat p.1 28 26 = t) && p.2.frame.any fun f => f.input.any old) ||
  (s.tunil.routes.any fun p => decide (p.1 < 16384) && decide (p.2.tenant = t) && p.2.msgs.any fun m =>
    decide (m.handle = h) && decide (m.gen = gen) && m.oldHome && decide (m.code = 0))

/-- The running MOVE of a tensor. -/
def State.moveOf (s : State) (t h : Nat) : Option MoveRec :=
  s.moves.find? fun m => decide (m.tenant = t) && decide (m.handle = h)

/-- The switch of a MOVE: the destination is written into the entry, which stays MOVING (R282 step 2, R287 step 3). -/
def State.switchHome (s : State) (m : MoveRec) : State :=
  let e := s.home m.tenant m.handle
  ((s.genUpdate m.tenant m.handle m.gen fun x => x.setHome m.tenant m.handle (m.entry e)).markOld m.tenant m.handle m.gen
    m.task).setMove { m with switched := true }

/-- The release of a MOVE: the entry becomes VALID and the MOVE completes (R282 step 3, R287 step 5). -/
def State.moveRelease (s : State) (t h : Nat) : State :=
  match s.moveOf t h with
  | none => s
  | some m =>
    if !(m.switched && m.acked) || s.oldHeld t h m.gen m.task then s
    else
      let s1 : State := { s with moves := s.moves.filter fun x => !(decide (x.tenant = t) && decide (x.task = m.task)) }
      let s2 := s1.genUpdate t h m.gen fun x => if (x.home t h).st = stMoving then x.setSt t h stValid else x
      (s2.completeTask (16 * t + m.queue) m.task).stageCheck

/-- MOVE_RELEASE (R282, R287). -/
def execMoveRelease (t : Fin 8) (handle : BitVec 24) (s : State) : Host.Outcome State Fault Refusal :=
  whenUp s fun x => x.moveRelease t handle.toNat

end Sys2Proof.Machine
end

