-- ==== Sys2Proof/Machine/Noise.lean ====
section
/-! DEFINITION. The counter-based noise generator (R154 to R159). -/
namespace Sys2Proof.Machine

/-- One of the ten rounds of R154, on counter words and key words. -/
def noiseRound (st : (W32 × W32 × W32 × W32) × (W32 × W32)) : (W32 × W32 × W32 × W32) × (W32 × W32) :=
  let ((c0, c1, c2, c3), (k0, k1)) := st
  let p0 := 0xD2511F53 * c0.toNat
  let p1 := 0xCD9E8D57 * c2.toNat
  let hi (p : Nat) : W32 := BitVec.ofNat 32 (p / 2 ^ 32)
  let lo (p : Nat) : W32 := BitVec.ofNat 32 p
  ((hi p1 ^^^ c1 ^^^ k0, lo p1, hi p0 ^^^ c3 ^^^ k1, lo p0), (k0 + 0x9E3779B9#32, k1 + 0xBB67AE85#32))

/-- The four words of key `seed` and counter words (R154). -/
def noiseWords (seed : W64) (c : W32 × W32 × W32 × W32) : W32 × W32 × W32 × W32 :=
  ((List.range 10).foldl (fun st _ => noiseRound st)
    (c, (BitVec.ofNat 32 seed.toNat, BitVec.ofNat 32 (seed.toNat / 2 ^ 32)))).1

/-- The counter words of index i (40 bits), stream s, step t (48 bits) and handle h (Table 5-5). -/
def noiseCounter (i s t h : Nat) : W32 × W32 × W32 × W32 :=
  (BitVec.ofNat 32 i,
   BitVec.ofNat 32 (i / 2 ^ 32 % 256 + s % 16 * 256 + t % 65536 * 65536),
   BitVec.ofNat 32 (t / 65536),
   BitVec.ofNat 32 (h % 2 ^ 24))

/-- u = ((w >> 9) + 0.5) × 2^-23, exactly (R156). -/
def noiseUniform (w : W32) : W32 := (round32 (mkFin false ((2 * (w.toNat / 512) + 1 : Nat) : Int) (-24))).bits

end Sys2Proof.Machine
end

