-- ==== Sys2Proof/Machine/Frames.lean ====
section
/-! DEFINITION. Placing Tunil frames on ports: port choice (R322), priorities (R331), headers (R317), the fault-injection
draw (R314, R340), and what a port loss does to the segments last sent on it (R332). -/
namespace Sys2Proof.Machine

/-! Ports. -/

/-- PORT_STATUS.STATE: 0 OFF, 1 TRAINING, 2 UP, 3 MISCABLED, 4 RETRAINING, 5 FAILED. -/
def State.portSt (s : State) (p : Nat) : Nat := s.rfld .portStatus p 31 29
def State.portMode (s : State) (p : Nat) : Nat := s.rfld .portCfg p 3 0
/-- 0 unused, 1 bond, 2 switch. -/
def State.portRole (s : State) (p : Nat) : Nat := s.rfld .portCfg p 9 8
/-- The port carries frames other than LLDP and PTP (R301). -/
def State.portUsable (s : State) (p : Nat) : Bool :=
  decide (s.portSt p = 2) && (!decide (s.portRole p = 1) || (s.port p).matched)
/-- PFC is enabled on a priority (R305). -/
def State.pfcOn (s : State) (p pcp : Nat) : Bool := decide (s.rfld .portCfg p 31 24 / 2 ^ pcp % 2 = 1)

/-- PORT_STATUS.STATE changes: source 195, and PORT_STATE to the master for a bond port that becomes MISCABLED or FAILED
(R350). -/
def State.setPortSt (s : State) (p v : Nat) : State :=
  if s.portSt p = v then s
  else
    let s1 := (s.setRfld .portStatus p 31 29 v).raise 0 195
    if decide (s.portRole p = 1) && (decide (v = 3) || decide (v = 5)) then s1.noticeUp 0x08 [p, v] else s1

/-! Cabling. -/

/-- The slot and port that a bond port of a slot meets (R300). -/
def cabled (slot p : Nat) : Nat × Nat := ((slot + p / 2 + 1) % 9, 2 * (7 - p / 2) + p % 2)

/-- Slot of this module. -/
def State.ownSlot (s : State) : Nat := match s.cfg.caravan with | some c => c.slot | none => 0xF

/-! Frames. -/

/-- PCP of a class, and of its ACKs (Table 13-5). -/
def classPcp (cls : Nat) : Nat := if cls = 0 then 6 else if cls = 1 then 4 else 2
def ackPcp (cls : Nat) : Nat := if cls = 0 then 6 else 4

/-- Bytes of a Tunil frame at a port (Table 13-1): headers, MACsec, payload, trailer, FCS. -/
def State.frameBytes (s : State) (p : Nat) (payload : Nat) : Nat :=
  18 + (if bit (s.reg .portCfg p) 17 then 32 else 0) + (if bit (s.reg .tunCtrl 0) 29 then 40 else 20) + 8 + 48 + payload +
    4 + 4

/-- Payload bytes of a segment: an ACK carries its 32-byte bitmap. -/
def segBytes (g : Seg) : Nat := g.payload.length

/-- Key of a route in `routes`. -/
def routeKey (fw : Bool) (r : Nat) : Nat := if fw then 16384 + r else r
def keyFw (key : Nat) : Bool := decide (16384 ≤ key)
def keyNum (key : Nat) : Nat := key % 16384
/-- Key of the route that a segment on the wire names; a number past the end of its table names no route, and no entry
ever stands at that key (R318). -/
def wireKey (fw : Bool) (r : Nat) : Nat := if r < (if fw then 16384 else 8192) then routeKey fw r else 49152

/-- Epoch that a route's own end sends: the tenant's, or the boot epoch on a firmware route (R333). -/
def State.ownEpoch (s : State) (key : Nat) : Nat :=
  if keyFw key then s.tunil.bootEpoch else s.rfld .tunEpoch (s.route key).tenant 15 0

/-- A segment of a type on a route to its peer; fields that the type does not list are 0. -/
def State.segOf (s : State) (key typ : Nat) : Seg :=
  let r := s.route key
  { typ := typ, cls := r.cls, tenant := if keyFw key then 0 else r.tenant, retx := false, move := false, fw := keyFw key
    epoch := s.ownEpoch key, srcNode := s.carNode, dstNode := r.peerNode, route := r.peerRoute, segIdx := 0, segCnt := 1
    seq := 0, msgNo := 0, handle := 0, offset := 0, step := s.carStep, tstamp := s.clock.ptp % 2 ^ 32, aux := 0
    payload := [] }

/-- Ports of a route as a list. -/
def portsOf (mask : Nat) : List Nat := (List.range 32).filter fun p => decide (mask / 2 ^ p % 2 = 1)

/-- The usable port with the shortest queue of a priority, lowest number first; `avoid` only when no other is usable
(R322). -/
def State.pickPort (s : State) (mask pcp : Nat) (avoid : Option Nat) : Option Nat :=
  let up := (portsOf mask).filter s.portUsable
  let pool := match up.filter fun p => !decide (avoid = some p) with
    | [] => up
    | l => l
  let len (p : Nat) : Nat := ((s.port p).txq.filter fun f => decide (f.pcp = pcp)).length
  pool.foldl (fun b p => match b with
    | none => some p
    | some q => if len p < len q then some p else some q) none

/-- A frame joins a port's transmit queue. -/
def State.pushFrame (s : State) (p : Nat) (f : TxFrame) : State := s.modPort p fun x => { x with txq := x.txq ++ [f] }

/-! Fault injection. -/

/-- Words w0 and w1 of an injection draw (R314, R340): 32-bit seed, 40-bit frame number, handle. -/
def injDraw (seed : W32) (i h : Nat) : W32 × W32 :=
  let w := noiseWords (BitVec.ofNat 64 seed.toNat) (noiseCounter i 0 0 h)
  (w.1, w.2.1)

/-- A frame is selected: the low K bits of w0 are 0. -/
def injHit (k : Nat) (w : W32) : Bool := decide (w.toNat % 2 ^ k = 0)

/-- A frame of a tenant route joins a port, under route injection (R340, Table 13-8). -/
def State.routeFrame (s : State) (key p : Nat) (f : TxFrame) : State :=
  let c := s.reg .tunFinj 0
  if !bit c 31 || keyFw key || decide (keyNum key ≠ fld c 12 0) then s.pushFrame p f
  else
    let s1 := s.useRegs [(.tunFinj, 0), (.tunFinjseed, 0)]
    let w := injDraw (s.reg .tunFinjseed 0) s.tunil.injNo (0x800000 + keyNum key)
    let s2 : State := { s1 with tunil := { s1.tunil with injNo := (s1.tunil.injNo + 1) % 2 ^ 40 } }
    let hit := injHit (fld c 27 23) w.1
    let s3 := if hit then s2.countWrap .tunFinjcnt 0 1 else s2
    let bits := 8 * segBytes f.seg
    let free (x : State) : State := match x.tunil.held with
      | some (q, g) => { x with tunil := { x.tunil with held := none } }.pushFrame q g
      | none => x
    if !hit then free (s3.pushFrame p f)
    else match fld c 30 28 with
      | 0 => free s3
      | 1 => free (s3.pushFrame p { f with flip := some (w.2.toNat % bits, false) })
      | 2 => free (s3.pushFrame p { f with flip := some (w.2.toNat % bits, true) })
      | 3 =>
        let s4 := free s3
        { s4 with tunil := { s4.tunil with held := some (p, f) } }
      | _ => free ((s3.pushFrame p f).pushFrame p f)

/-- Place a segment of a route on a port; none when no port is usable. -/
def State.placeSeg (s : State) (key pcp : Nat) (seg : Seg) (avoid : Option Nat) : State × Option Nat :=
  match s.pickPort (s.route key).ports pcp avoid with
  | none => (s, none)
  | some p => (s.routeFrame key p { pcp := pcp, fw := keyFw key, route := keyNum key, seg := seg, flip := none }, some p)

/-- Send an unsequenced segment of a route, where a port is usable. -/
def State.sendCtl (s : State) (key pcp : Nat) (seg : Seg) : State := (s.placeSeg key pcp seg none).1

/-- Answer a segment that came in at port p without a route of ours, on the same port. -/
def State.answerAt (s : State) (p pcp : Nat) (seg : Seg) : State :=
  if s.portUsable p then s.pushFrame p { pcp := pcp, fw := seg.fw, route := 16383, seg := seg, flip := none } else s

/-- The bitmap of an ACK: SEQ + 1 to SEQ + 256, bit 0 of byte 0 first (Table 13-3). -/
def Route.ackMap (r : Route) : List Byte :=
  (List.range 32).map fun b => BitVec.ofNat 8 ((List.range 8).map fun i =>
    b2n (r.rxMarks.contains ((r.rxNext + 1 + 8 * b + i) % 2 ^ 32)) * 2 ^ i).sum

/-- Send an ACK of a route (R324). -/
def State.sendAck (s : State) (key : Nat) : State :=
  let r := s.route key
  (s.setRoute key { r with rxPending := 0 }).sendCtl key (ackPcp r.cls)
    { s.segOf key 0x2 with seq := r.rxNext, payload := r.ackMap }

/-! Retransmission. -/

/-- Send an unacknowledged segment again with RETX (R325). -/
def State.resend (s : State) (key : Nat) (x : TxSeg) : State :=
  let seg := { x.seg with retx := true }
  let r := s.placeSeg key (classPcp (s.route key).cls) seg (some x.port)
  match r.2 with
  | none => s.modRoute key fun y => { y with unacked := y.unacked.map fun z => if z.seg.seq = x.seg.seq then { z with due := true } else z }
  | some p => (r.1.countWrap .tunRetx 0 1).modRoute key fun y => { y with unacked := y.unacked.map fun z =>
      if z.seg.seq = x.seg.seq then { z with port := p, tries := z.tries + 1, due := false, seg := seg } else z }

/-- A segment that may go again: any of an open route, and after its tenant's reset the COMMIT that the route still owes
its peer (R288). -/
def Route.resends (r : Route) (x : TxSeg) : Bool :=
  decide (r.st = 2) || (decide (r.st = 3) && r.resetSent && decide (x.seg.typ = 7))

/-- Send the due segments of every open route (R332). -/
def State.sendDue (s : State) : State :=
  s.tunil.routes.foldl (fun a e =>
    if e.2.held then a
    else (e.2.unacked.filter fun x => x.due && e.2.resends x).foldl (fun b x => b.resend e.1 x) a) s

/-- A port is lost to traffic: its transmit queue and held frames go, preemption is no longer verified, and the
unacknowledged segments last sent on it are due on other ports at once (R306, R312, R332). -/
def State.portLoss (s0 : State) (p : Nat) : State :=
  let s := s0.setRfld .portStatus p 28 28 0
  let s1 := s.modPort p fun x => { x with txq := [], held := [], paused4 := false, paused2 := false, xoff4 := false,
                                          xoff2 := false, matched := false, foreign := none }
  let rs := mmap Route.init s1.tunil.routes fun _ r =>
    { r with unacked := r.unacked.map fun x => if x.port = p then { x with due := true } else x }
  let s2 : State := { s1 with tunil := { s1.tunil with routes := rs } }
  s2.sendDue

end Sys2Proof.Machine
end

