-- ==== Sys2Proof/Machine/Send.lean ====
section
/-! DEFINITION. The sending side of Tunil (R321 to R330): routes that tasks name, messages cut into segments, the
segment of one grant, acknowledgements, SEND, MOVE to a peer (R287, R288), and messages over mortar links (R220, R221). -/
namespace Sys2Proof.Machine

/-! Routes of a task. -/

/-- Node and route of the partner that a task names; none for a mortar path or no partner (R109, R379). -/
def dRoute (d : List W32) : Option (Nat × Nat) :=
  match dType d with
  | 5 => if vKind d = 3 then some (df d 8 15 0, df d 8 31 16) else none
  | 6 => if df d 6 2 0 = 0 then some (df d 7 15 0, df d 7 31 16) else none
  | 7 => if df d 6 2 0 = 0 then some (df d 7 15 0, df d 7 31 16) else none
  | 8 => if df d 4 1 0 ≠ 3 ∧ df d 8 2 0 = 0 ∧ df d 9 15 0 ≠ 0xFFFF then some (df d 9 15 0, df d 9 31 16) else none
  | _ => none

/-- Node and route of the next hop of a forwarding REDUCE stage. -/
def dNext (d : List W32) : Option (Nat × Nat) :=
  if dType d = 8 ∧ bit (wordAt d 8) 8 ∧ df d 10 15 0 ≠ 0xFFFF then some (df d 10 15 0, df d 10 31 16) else none

/-- Mortar link of the partner that a SEND, RECV or REDUCE names. -/
def dLink (d : List W32) : Option Nat :=
  let path : Nat := if dType d = 8 then df d 8 2 0 else df d 6 2 0
  if (dType d = 6 ∨ dType d = 7 ∨ (dType d = 8 ∧ df d 4 1 0 ≠ 3)) ∧ 4 ≤ path then some (pathLink path) else none

/-- Mortar link of the next hop of a forwarding REDUCE stage. -/
def dNextLink (d : List W32) : Option Nat :=
  if dType d = 8 ∧ bit (wordAt d 8) 8 ∧ df d 10 15 0 = 0xFFFF then some (pathLink (df d 10 18 16)) else none

/-- A task names a tenant route. -/
def namesRoute (d : List W32) (r : Nat) : Bool :=
  (match dRoute d with | some p => decide (p.2 = r) | none => false) ||
  (match dNext d with | some p => decide (p.2 = r) | none => false)

/-- Fault of a task that names a route: 0x10 for a route that its tenant does not own or whose peer is another node, 0x60
and 0x61 for one that is RESET, closed or timed out; 0 for a route opening or open. -/
def State.routeCode (s : State) (t : Nat) (nr : Nat × Nat) : Nat :=
  let r := s.route nr.2
  if 8192 ≤ nr.2 ∨ r.tenant ≠ t ∨ r.peerNode = 0xFFFF ∨ r.peerNode ≠ nr.1 then 0x10
  else if r.st = 3 then 0x60
  else if r.st = 0 ∨ r.st = 4 then 0x61
  else 0

/-- Fault of a task that takes a message of a route: messages delivered before a PARTICIPANT_RESET or a timeout stay
delivered (R335). -/
def State.recvCode (s : State) (t : Nat) (nr : Nat × Nat) : Nat :=
  let r := s.route nr.2
  let code := s.routeCode t nr
  if code ≠ 0x10 ∧ (r.st = 3 ∨ r.st = 4) ∧ !r.rxQueue.isEmpty then 0 else code

/-- The mortar link l of core n is failed, in either direction, or faces outside the mesh or another tenant (R20, R32,
R221): its fault, 0 for none. -/
def State.linkCode (s : State) (t n l : Nat) : Nat :=
  match meshPartner n l with
  | none => 0x10
  | some m =>
    if s.cfg.coreTenant m ≠ some t then 0x21
    else if (s.core n).linkFail.contains l || (s.core m).linkFail.contains (meshBack l) then 0x50
    else 0

/-! Landing a message in a tensor. -/

/-- End a fill at once: the rest of the extent is +0 (R278). -/
def State.fillNow (s : State) (t h : Nat) : State :=
  if s.filling t h then
    let e := s.home t h
    let next : Nat := match s.fills.find? fun f => decide (f.tenant = t) && decide (f.handle = h) with
      | some f => f.next
      | none => 0
    let s1 := match s.homeAddr e with
      | some a => s.putUnits (a + next) (List.replicate (e.bytes - next) 0)
      | none => s
    let s2 : State := { s1 with fills := s1.fills.map fun f =>
      if f.tenant = t ∧ f.handle = h then { f with next := e.bytes } else f }
    s2.fillDone t h
  else s

/-- A writer issues into a tensor, and a fill that it needs has run before its first byte (R278). -/
def State.beginFilled (s : State) (t h cls : Nat) (covers : Bool) : State := (s.beginWrite t h cls covers).fillNow t h

/-- Fault of a message's write by handle: handle and ownership, state, extent (R279, R280, R328). -/
def State.landCode (s : State) (t h off len : Nat) : Nat :=
  let e := s.home t h
  if !s.handleOk t h then 0x20
  else if e.writeCode false ≠ 0 then e.writeCode false
  else if (s.homeAddr e).isNone then 0x21
  else if e.bytes < off + len ∨ len % 256 ≠ 0 then 0x13
  else if e.reaches off len then 0x20
  else 0

/-! Sending. -/

/-- What R287 compares of the two entries of a MOVE to a peer. -/
def HEntry.shape (e : HEntry) : List Nat := [e.fmt, e.layout, e.bytes, e.d0, e.d1, e.d2, e.d3, e.d4]

/-- The message number and segments of a message of `len` bytes enter the engine (R321); segment 0 of a MOVE tells the
shape of its source (R287). -/
def State.planMessage (s : State) (key : Nat) (own : Nat × Nat) (handle roff len : Nat) (src : Option Nat) (move : Bool)
    (shape : List Nat := []) (bytes : List Byte := []) : State :=
  let r := s.route key
  let n := Nat.max 1 (cdiv len 8192)
  let base := { s.segOf key 1 with move := move, segCnt := n, msgNo := r.txMsg, handle := handle }
  let segs := (List.range n).map fun i =>
    ({ seg := { base with segIdx := i, offset := roff + 32 * i, image := if i = 0 then shape else [] }
       src := src.map (· + 8192 * i)
       len := Nat.min 8192 (len - 8192 * i), task := own, bytes := (bytes.drop (8192 * i)).take 8192 } : TxPlan)
  s.setRoute key { r with txMsg := (r.txMsg + 1) % 2 ^ 32, toSend := r.toSend ++ segs }

/-- More segments than a message may hold (R321). -/
def tooLong (len : Nat) : Bool := decide (65535 < cdiv len 8192)

/-- The route may send its next segment: open and not held, its window not full, and segments 1 onward of a MOVE only
after segment 0 is acknowledged (R323, R329, R330). -/
def Route.ready (r : Route) : Bool :=
  decide (r.st = 2) && !r.held && r.solo.isNone && decide (r.unacked.length < 256) &&
  (match r.toSend with
    | [] => false
    | p :: _ => !(p.seg.move && decide (0 < p.seg.segIdx) &&
        r.unacked.any fun x => x.seg.move && decide (x.seg.msgNo = p.seg.msgNo) && decide (x.seg.segIdx = 0)))

/-- Segments of tasks that have gone leave the routes unsent. -/
def State.dropDead (s : State) : State :=
  let live (o : Nat × Nat) : Bool := decide (o = (0, 0)) || (s.task? o.1 o.2).isSome ||
    s.moves.any fun m => m.detached && decide ((m.tenant * 16 + m.queue, m.task) = o)
  let rs := mmap Route.init s.tunil.routes fun _ r => { r with toSend := r.toSend.filter fun p => live p.task }
  { s with tunil := { s.tunil with routes := rs } }

/-- Each route with a segment to send asks the engines of the port group of its best port (R322, R331). -/
def State.tunilRequests (s : State) : State :=
  let s1 := s.dropDead
  s1.tunil.routes.foldl (fun x e =>
    if e.2.ready then
      match x.pickPort e.2.ports (classPcp e.2.cls) none with
      | some p => x.request (3 + p / 4) { tenant := e.2.tenant, cls := e.2.cls, deadline := 2 ^ 48, kind := 4, key := e.1 }
      | none => x
    else x) s1

/-- Read the payload of a segment: zeros of a cold source, unpacked blocks of a PACKED tensor that moves (R290), else the
bytes at its address. The Bool is false for an uncorrectable codeword. -/
def State.segPayload (s : State) (errs : List CwErr) (p : TxPlan) : State × List Byte × Bool :=
  match p.src with
  | none => (s, if p.bytes.isEmpty then List.replicate p.len 0 else p.bytes, true)
  | some a =>
    match if p.seg.move then s.moves.find? fun m => decide ((m.tenant * 16 + m.queue, m.task) = p.task) else none with
    | some m =>
      let e := s.home m.tenant m.handle
      if e.packed then
        let block (x : State) (i : Nat) : State × List Byte × Bool :=
          if 4096 * i < e.bytes then
            let r := x.readPacked errs p.task m.src e.bytes i
            (r.1.countPack m (cdiv (Nat.min 4096 (e.bytes - 4096 * i)) 256) (packedUnits e.bytes i r.2.2.1.length),
              unpackBlock e.fmt r.2.1 r.2.2.1, r.2.2.2)
          else (x, [], true)
        let b0 := block s (2 * p.seg.segIdx)
        let b1 := block b0.1 (2 * p.seg.segIdx + 1)
        (b1.1, (b0.2.1 ++ b1.2.1).take p.len, b0.2.2 && b1.2.2)
      else s.moveRead errs p.task a p.len
    | none =>
      let r := s.tierRead errs (some p.task) a p.len
      (r.1, r.1.data a p.len, r.2)

/-- One grant of the engines of port group g: the route's next segment takes its SEQ and joins a port (R321 to R323). -/
def State.sendNext (s : State) (errs : List CwErr) (g key : Nat) : State :=
  let r := s.route key
  let pcp := classPcp r.cls
  if !r.ready || s.held .tunil || !bit (s.reg .tunCtrl 0) 31 then s
  else
    match s.pickPort r.ports pcp none, r.toSend with
    | some p, plan :: rest =>
      if p / 4 ≠ g then s
      else
        let b := s.segPayload errs plan
        if !b.2.2 then b.1.abortTask plan.task.1 plan.task.2 0x50
        else
          let seg := { plan.seg with seq := r.txSeq, epoch := s.ownEpoch key, payload := b.2.1 }
          let x : TxSeg := { seg := seg, task := plan.task, port := p, tries := 0, due := false }
          (b.1.modRoute key fun y =>
            { y with txSeq := (r.txSeq + 1) % 2 ^ 32, toSend := rest, unacked := y.unacked ++ [x] }).routeFrame key p
              { pcp := pcp, fw := keyFw key, route := keyNum key, seg := seg, flip := none }
    | _, _ => s

/-- The COMMITs of switched MOVEs that a route still holds go ahead of its tenant's PARTICIPANT_RESET, under the old epoch
and without a grant (R288). -/
def State.flushCommits (s : State) (key : Nat) : State :=
  ((s.route key).toSend.filter fun p => decide (p.seg.typ = 7)).foldl (fun x plan =>
    let r := x.route key
    let seg := { plan.seg with seq := r.txSeq, epoch := x.ownEpoch key }
    let put (y : State) (p : Nat) (due : Bool) : State := y.modRoute key fun z =>
      { z with txSeq := (r.txSeq + 1) % 2 ^ 32, toSend := z.toSend.erase plan
               unacked := z.unacked ++ [{ seg := seg, task := plan.task, port := p, tries := 0, due := due }] }
    let sent := x.placeSeg key (classPcp r.cls) seg none
    match sent.2 with
    | some p => put sent.1 p false
    | none => put x 0 true) s

/-! Acknowledgements. -/

/-- A segment lies below the next expected SEQ of an ACK, or its bitmap marks it (R323). -/
def ackCovers (g : Seg) (seq : Nat) : Bool :=
  let below := (g.seq + 2 ^ 32 - seq) % 2 ^ 32
  let above := (seq + 2 ^ 32 - g.seq) % 2 ^ 32
  (decide (1 ≤ below) && decide (below < 2 ^ 31)) ||
  (decide (1 ≤ above) && decide (above ≤ 256) && ((g.payload.drop ((above - 1) / 8)).headD 0).getLsbD ((above - 1) % 8))

/-- The last segment of a task's message is acknowledged: a SEND or a forwarding stage has landed, the copy of a MOVE has
ended, and an acknowledged COMMIT lets it release (R116, R287). -/
def State.ackedTask (s : State) (own : Nat × Nat) (commit : Bool) : State :=
  match s.moves.find? fun m => decide ((m.tenant * 16 + m.queue, m.task) = own) with
  | some m => s.setMove (if commit then { m with acked := true } else { m with next := m.total })
  | none => s.landTask own.1 own.2

/-- MOVEs to a peer that a tenant reset holds after their switch (task 0) end with their route: VALID at the peer when
the commit was acknowledged, else VOID (R288). -/
def State.endHeld (s : State) (key : Nat) (done : MoveRec → Bool) : State :=
  let mine (m : MoveRec) : Bool := decide (m.task = 0) && decide (m.dkind = 3) && decide (m.route = key)
  let s1 : State := { s with moves := s.moves.filter fun m => !mine m }
  (s.moves.filter mine).foldl (fun x m => x.genUpdate m.tenant m.handle m.gen fun y =>
    if (y.home m.tenant m.handle).st = stMoving then y.setSt m.tenant m.handle (if done m then stValid else stVoid)
    else y) s1

/-- The COMMIT of a held MOVE is covered by an ACK. -/
def Route.commitIn (r : Route) (g : Seg) (m : MoveRec) : Bool :=
  r.unacked.any fun x => decide (x.seg.typ = 7) && decide (x.seg.handle = m.daddr % 2 ^ 24) && ackCovers g x.seg.seq

/-- An ACK on a route (R323 to R325, R334). -/
def State.ackRoute (s : State) (key : Nat) (g : Seg) : State :=
  let r := s.route key
  if r.resetSent then
    (s.endHeld key (r.commitIn g)).setRoute key
      { r with resetSent := false, st := if r.st = 1 then 1 else 0, held := false, toSend := [], unacked := [] }
  else if r.st ≠ 2 then s
  else
    let gone := r.unacked.filter fun x => ackCovers g x.seg.seq
    let left := r.unacked.filter fun x => !ackCovers g x.seg.seq
    let solo := match r.solo with
      | some q => if left.any fun x => decide (x.seg.seq = q) then some q else none
      | none => none
    let s1 := s.setRoute key { r with unacked := left, solo := solo }
    let done := (gone.map fun x => (x.task, decide (x.seg.typ = 7))).eraseDups.filter fun o =>
      decide (o.1 ≠ (0, 0)) && !(left.any fun x => decide (x.task = o.1)) && !(r.toSend.any fun p => decide (p.task = o.1))
    (done.foldl (fun x o => x.ackedTask o.1 o.2) s1).tunilRequests

/-! SEND. -/

/-- Fields of a SEND (Table 4-4). -/
def sOff (d : List W32) : Nat := 256 * (wordAt d 8).toNat
def sLen (d : List W32) : Nat := 256 * (wordAt d 9).toNat

/-- Fault of a SEND's source (R277, R280, R281, R328). -/
def State.sendSource (s : State) (t n : Nat) (d : List W32) : Nat :=
  let e := s.home t (df d 4 23 0)
  if !s.handleOk t (df d 4 23 0) then 0x20
  else if e.readCode (s.coldFault t n) ≠ 0 then e.readCode (s.coldFault t n)
  else if e.bytes < sOff d + sLen d then 0x13
  else if decide (e.st ≠ stUnwritten) && e.reaches (sOff d) (sLen d) then 0x20
  else 0

/-- A message crosses a mortar link into a tensor of the partner's core: written under the rules of a local write, and
left for the RECV or the stage that takes it (R109, R220, R328). -/
def State.mortarWrite (s : State) (t n l cls h off : Nat) (bytes : List Byte) : State × Nat :=
  match meshPartner n l with
  | none => (s, 0x10)
  | some m =>
    let len := bytes.length
    let code := s.landCode t h off len
    let put (x : State) : State :=
      match x.homeAddr (x.home t h) with
      | some a => (x.putUnits (a + off) bytes).endWrite t h (x.home t h).gen
      | none => x
    let e := s.home t h
    let s1 := if code = 0 then put (s.beginFilled t h cls (decide (off = 0) && decide (e.bytes ≤ len))) else s
    let msg : Landed := { link := meshBack l, handle := h, len := len / 256, code := code, bytes := none }
    let s2 := s1.modCore m fun c => { c with inbox := c.inbox ++ [msg] }
    (s2.countWrap .coreMtxbytes n (len / 256), code)

/-- A SEND in flight begins (R321). -/
def State.runSend (s : State) (k : Nat) (t : Task) : State :=
  let d := t.desc
  let ten := k / 16
  let n := (s.queue k).lcore
  let h := df d 4 23 0
  let e := s.home ten h
  let code := s.sendSource ten n d
  let src := if e.st = stUnwritten then none else (s.homeAddr e).map (· + sOff d)
  let go (x : State) : State := (x.coldRead ten h).addXlate k t.serial h 0
  if code ≠ 0 then s.abortTask k t.serial code
  else if e.st ≠ stUnwritten ∧ src.isNone then s.abortTask k t.serial 0x20
  else match dRoute d with
    | some nr =>
      if s.routeCode ten nr ≠ 0 then s.abortTask k t.serial (s.routeCode ten nr)
      else if tooLong (sLen d) then s.abortTask k t.serial 0x13
      else ((go s).planMessage nr.2 (k, t.serial) (df d 5 23 0) (wordAt d 10).toNat (sLen d) src false).tunilRequests
    | none =>
      let l := (dLink d).getD 0
      if s.linkCode ten n l ≠ 0 then s.abortTask k t.serial (s.linkCode ten n l)
      else
        let b := s.segPayload [] { seg := s.segOf 0 1, src := src, len := sLen d, task := (k, t.serial) }
        if !b.2.2 then b.1.abortTask k t.serial 0x50
        else
          let r := (go b.1).mortarWrite ten n l (s.queue k).cls (df d 5 23 0) (256 * (wordAt d 10).toNat) b.2.1
          if r.2 = 0 then r.1.landTask k t.serial else r.1.abortTask k t.serial r.2

/-! MOVE to a peer. -/

/-- A MOVE with DKIND 3 in flight begins (R284, R287, R290). -/
def State.runMovePeer (s : State) (k : Nat) (t : Task) : State :=
  let d := t.desc
  let ten := k / 16
  let h := df d 4 23 0
  let e := s.home ten h
  let code := s.moveSource ten h
  let nr := (df d 8 15 0, df d 8 31 16)
  let m := moveRec k t.serial d e 0 0
  if code ≠ 0 then s.abortTask k t.serial code
  else if vPack d then s.abortTask k t.serial 0x10
  else if s.routeCode ten nr ≠ 0 then s.abortTask k t.serial (s.routeCode ten nr)
  else if !s.homeOk ten (m.entry e) then s.abortTask k t.serial 0x21
  else if e.st = stUnwritten then (s.setHome ten h (m.entry e)).landTask k t.serial
  else if tooLong e.bytes then s.abortTask k t.serial 0x13
  else match s.homeAddr e with
    | none => s.abortTask k t.serial 0x20
    | some a =>
      let s1 := (s.setSt ten h stMoving).addXlate k t.serial h 0
      let s2 : State := { s1 with moves := s1.moves ++ [{ m with src := a }] }
      (s2.planMessage nr.2 (k, t.serial) (m.daddr % 2 ^ 24) 0 e.bytes (some a) true e.shape).tunilRequests

/-- MOVE_TO_PEER (R287). -/
def execMoveToPeer (t : Fin 8) (q : Fin 16) (waited : Nat) (s : State) : Host.Outcome State Fault Refusal :=
  whenUp s fun x => x.issueTask (16 * t.val + q.val) waited (fun d => decide (dType d = 5) && decide (vKind d = 3))
    (fun y d => !y.filling t (df d 4 23 0)) (fun y r => y.runMovePeer (16 * t.val + q.val) r)

/-- The switch of a MOVE once its copy has ended; to a peer the commit follows on the same route (R282, R287). -/
def State.moveSwitch (s : State) (t h : Nat) : State :=
  match s.moveOf t h with
  | none => s
  | some m =>
    if !m.copied || m.switched then s
    else
      let s1 := s.switchHome m
      if m.dkind ≠ 3 then s1
      else
        let r := s1.route m.route
        let seg := { s1.segOf m.route 7 with handle := m.daddr % 2 ^ 24 }
        (s1.setRoute m.route { r with toSend := r.toSend ++
          [{ seg := seg, src := none, len := 0, task := (t * 16 + m.queue, m.task) }] }).tunilRequests

/-- MOVE_SWITCH (R282, R287). -/
def execMoveSwitch (t : Fin 8) (handle : BitVec 24) (s : State) : Host.Outcome State Fault Refusal :=
  whenUp s fun x => x.moveSwitch t handle.toNat

end Sys2Proof.Machine
end

