-- ==== Sys2Proof/Machine/Plan.lean ====
section
/-! DEFINITION. The caravan record and the parts of a plan (R353, Table 14-4), firmware routes by the map (R348), and what
firmware transfers bring: parts of a plan and checkpoint bytes (R364, R366, R370). -/
namespace Sys2Proof.Machine

/-! The caravan record. -/

/-- Words of little-endian bytes. -/
def wordsOf : List Byte → List W32
  | a :: b :: c :: d :: t => BitVec.ofNat 32 (leNat [a, b, c, d]) :: wordsOf t
  | _ => []

/-- First word of the serials, and of the checkpoint list, of a record (Table 14-4). -/
def recSerials (w : List W32) : Nat := 16 + 2 * cdiv (df w 3 31 16) 4
def recHandles (w : List W32) : Nat := recSerials w + 2 * (df w 2 15 0 - 8 * df w 3 31 16)
/-- Words of a record. -/
def recWords (w : List W32) : Nat := recHandles w + (wordAt w 8).toNat

/-- The record keeps Table 14-4. -/
def recordOk (w : List W32) : Bool :=
  decide (wordAt w 0 = 0x52435655#32) && decide (df w 1 15 0 = 1) && decide (1 ≤ df w 2 15 0) &&
  decide (df w 2 15 0 ≤ 16384) && decide (8 * df w 3 31 16 ≤ df w 2 15 0) && decide (1000 ≤ (wordAt w 4).toNat) &&
  decide (4 ≤ df w 5 15 0) && decide (df w 5 15 0 ≤ 1000) && decide (100 ≤ df w 5 31 16) &&
  decide (df w 5 31 16 ≤ 10000) && (List.range 5).all (fun i => decide (wordAt w (11 + i) = 0)) &&
  decide (recWords w ≤ w.length)

/-- The record at the head of a part. -/
def parsePlan (w : List W32) : Option CarPlan :=
  if recordOk w then
    some
      { logicalSize := df w 2 15 0, stepReplay := bit (wordAt w 2) 16, swap := bit (wordAt w 2) 17
        ckptEvery := df w 3 15 0
        bonds := (List.range (df w 3 31 16)).map fun i => df w (16 + i / 2) (16 * (i % 2) + 15) (16 * (i % 2))
        serials := (List.range (df w 2 15 0 - 8 * df w 3 31 16)).map fun j =>
          (wordAt w (recSerials w + 2 * j)).toNat + (wordAt w (recSerials w + 2 * j + 1)).toNat * 2 ^ 32
        stepLimit := (wordAt w 4).toNat, lead := df w 5 15 0, probeWait := df w 5 31 16
        firstStep := (wordAt w 6).toNat + df w 7 15 0 * 2 ^ 32
        ckptList := (List.range (wordAt w 8).toNat).map fun i => df w (recHandles w + i) 23 0
        ckptBase := (wordAt w 9).toNat, slotGib := (wordAt w 10).toNat }
  else none

/-- The parts of a plan carry one record, the checkpoint list apart (R353). -/
def CarPlan.common (p : CarPlan) : CarPlan := { p with ckptList := [] }

/-- Device address of home slot k (0, 1) or buddy slot k − 2 (2, 3) of the checkpoint area. -/
def CarPlan.slotAddr (p : CarPlan) (k : Nat) : Nat := bulkBase + (p.ckptBase + k * p.slotGib) * 2 ^ 30

/-! Firmware routes (R348). -/

/-- The buddy of a module: the next slot of its bond in the cyclic order 0 to 8 that is not FAILED (R366). -/
def State.buddyOf (s : State) (e : MapEntry) : Option MapEntry :=
  if e.bond = 0xFFFF then none
  else ((List.range 8).filterMap fun i =>
    (s.bondOf e.bond).find? fun m => decide (m.slot = (e.slot + i + 1) % 9) && !m.isFailed).head?

/-- Modules that report to the master and the standby. -/
def reportsUp (e : MapEntry) : Bool := e.isOurs && !e.isFailed && (e.isHead || e.isDeputy || decide (e.bond = 0xFFFF))

/-- The pair of modules has a control route and a data route (R348). -/
def State.paired (s : State) (a b : MapEntry) : Bool :=
  let top (x : MapEntry) : Bool := x.isMaster || x.isStandby
  let half (x y : MapEntry) : Bool :=
    (decide (x.bond = y.bond) && decide (x.bond ≠ 0xFFFF) && (y.isHead || y.isDeputy)) || (reportsUp x && top y) ||
      (x.isMaster && y.isStandby) || (match s.buddyOf x with | some z => decide (z.node = y.node) | none => false)
  a.isOurs && b.isOurs && !a.isFailed && !b.isFailed && decide (a.node ≠ b.node) && (half a b || half b a)

/-- Modules that a module has firmware routes with, in map order. Every module holds the whole map, so both ends of a route
number it alike. -/
def State.firmwarePeers (s : State) (e : MapEntry) : List MapEntry := s.caravan.map.filter fun m => s.paired e m

/-- Number of the control route of module `e` to module `m`; the data route's is one more. -/
def State.firmwareNo (s : State) (e m : MapEntry) : Nat :=
  2 * ((s.firmwarePeers e).takeWhile fun x => decide (x.node ≠ m.node)).length

/-- Ports towards a module: the bond ports cabled to its slot, or every switch port (R300, R320). -/
def State.portsTo (s : State) (m : MapEntry) : Nat :=
  let near := decide (m.bond = s.carBond) && decide (m.bond ≠ 0xFFFF)
  ((List.range 32).filter fun p =>
    if near then decide (s.portRole p = 1) && decide ((cabled s.ownSlot p).1 = m.slot) else decide (s.portRole p = 2)).foldl
      (fun a p => a + 2 ^ p) 0

/-- Send OPEN on a route that is opening (R319). -/
def State.sendOpen (s : State) (key : Nat) : State :=
  s.sendCtl key (ackPcp (s.route key).cls) { s.segOf key 5 with aux := keyNum key }

/-- A route begins its handshake anew: its numbers start at 0 and it keeps its record (R319, R320, R344). -/
def State.reopen (s : State) (key : Nat) : State :=
  (s.modRoute key fun r => { r with st := 1, held := false, solo := none, retry := none, toSend := [], unacked := [], txMsg := 0 })
    |>.sendOpen key

/-- Open the control and the data route to a peer, unless the entry is as it was. -/
def State.openFirmware (s : State) (e m : MapEntry) (changed : Bool) : State :=
  [0, 1].foldl (fun x i =>
    let key := 16384 + s.firmwareNo e m + i
    let peer := s.firmwareNo m e + i
    let r := x.route key
    if !changed && decide (r.st ≠ 0) && decide (r.peerNode = m.node) && decide (r.peerRoute = peer) then x
    else
      let fresh : Route := { Route.init with cls := 2 * i, peerRoute := peer, peerNode := m.node, ports := s.portsTo m,
                                             hops := if m.bond = s.carBond ∧ m.bond ≠ 0xFFFF then 0 else 3 }
      (x.setRoute key fresh).reopen key) s

/-- Key of the data route to a node, if the map pairs the two modules. -/
def State.dataRoute (s : State) (node : Nat) : Option Nat :=
  match s.mapSelf, s.mapOf node with
  | some e, some m => if s.paired e m then some (16384 + s.firmwareNo e m + 1) else none
  | _, _ => none

/-- Control routes that a map asks of the master: heads, deputies and modules outside bonds (R348). -/
def controlLoad (map : List MapEntry) : Nat := (map.filter reportsUp).length

/-! Firmware transfers. A part of a plan goes with HANDLE 0 to the module that runs it, and with HANDLE 5 + i, for part i, to
the standby (R372); checkpoint bytes go with HANDLE 1 + k for slot k of Table 14-4 as the receiver shall hold them, OFFSET
counted from the slot's base (log 82). -/

/-- A firmware message to a node over its data route: a run of bytes in device memory, in messages of at most 65,535
segments (R321). -/
def State.sendBytes (s : State) (node handle roff a : Nat) (len : Nat) : State :=
  match s.dataRoute node with
  | none => s
  | some key =>
    let whole := 65535 * 8192
    ((List.range (cdiv len whole)).foldl (fun x i =>
      x.planMessage key (0, 0) handle (roff + 32 * 65535 * i) (Nat.min whole (len - whole * i)) (some (a + whole * i)) false)
      s).tunilRequests

/-- A firmware message of bytes that the firmware holds. -/
def State.sendInline (s : State) (node handle : Nat) (bytes : List Byte) : State :=
  match s.dataRoute node with
  | none => s
  | some key => (s.planMessage key (0, 0) handle 0 bytes.length none false [] bytes).tunilRequests

/-- Part i of the plan goes to a node: from memory at the master that took the plan, from its copy at a master that was
standby (R353, R372). -/
def State.sendPart (s : State) (node handle i : Nat) : State :=
  match s.caravan.master.parts[i]? with
  | some (a, len) => s.sendBytes node handle 0 a len
  | none =>
    let b := mget [] s.caravan.planCopy i
    if b.isEmpty then s else s.sendInline node handle b

/-- The whole plan goes to a standby (R372, R373). -/
def State.sendPlan (s : State) (node : Nat) : State :=
  (List.range (Nat.max s.caravan.master.parts.length
    (s.caravan.planCopy.foldl (fun n e => Nat.max n (e.1 + 1)) 0))).foldl (fun x i => x.sendPart node (5 + i) i) s

/-- The data routes of the module have nothing left to send or to have acknowledged. -/
def State.dataDrained (s : State) : Bool :=
  s.tunil.routes.all fun e => !(keyFw e.1 && decide (e.2.cls = 2)) || (e.2.toSend.isEmpty && e.2.unacked.isEmpty)

/-- The payload of a firmware DATA segment arrives. -/
def State.firmwareData (s : State) (key : Nat) (g : Seg) : State :=
  if g.handle = 0 ∨ 5 ≤ g.handle then
    { s with caravan := { s.caravan with partSegs := s.caravan.partSegs ++ [(key, g.msgNo, g.segIdx, g.payload)] } }
  else
    match s.caravan.plan with
    | none => s
    | some p =>
      let k := g.handle - 1
      let s1 := s.putUnits (p.slotAddr k + 256 * g.offset) g.payload
      if k = 2 ∨ k = 3 then
        let old := mget (0xFFFF, 0, 0) s.caravan.wards (k - 2)
        let serial := match s.mapOf g.srcNode with | some m => m.serial | none => 0
        let fin := 256 * g.offset + g.payload.length
        let len := if old.1 = g.srcNode ∧ old.2.1 = serial then Nat.max old.2.2 fin else fin
        { s1 with caravan := { s1.caravan with wards := mset (0xFFFF, 0, 0) s1.caravan.wards (k - 2) (g.srcNode, serial, len) } }
      else s1

/-- A firmware message is delivered: a part of a plan comes into force here; a spare keeps each part it gets, in order, and a
standby every part of the plan. -/
def State.firmwareMessage (s : State) (key msgNo segCnt handle : Nat) : State :=
  let mine (x : Nat × Nat × Nat × List Byte) : Bool := decide (x.1 = key) && decide (x.2.1 = msgNo)
  let segs := s.caravan.partSegs.filter mine
  let rest := s.caravan.partSegs.filter fun x => !mine x
  let bytes := (List.range segCnt).flatMap fun i => match segs.find? fun x => decide (x.2.2.1 = i) with
    | some x => x.2.2.2
    | none => []
  let s1 : State := { s with caravan := { s.caravan with partSegs := rest } }
  if segs.isEmpty then s1
  else if 5 ≤ handle then
    { s1 with caravan := { s1.caravan with planCopy := mset [] s1.caravan.planCopy (handle - 5) bytes } }
  else match parsePlan (wordsOf bytes) with
    | none => s1
    | some p =>
      let all := s1.caravan.parts ++ [p]
      let keep := if s1.carState = 1 then all.drop (all.length - 8) else [p]
      let ten := match s1.caravan.tenant with
        | some t => some t
        | none => s1.cfg.caravan.map (·.tenant)
      { s1 with caravan := { s1.caravan with plan := some p, parts := keep, tenant := ten } }

end Sys2Proof.Machine
end

