-- ==== Sys2Proof/Machine/Delivery.lean ====
section
/-! DEFINITION. Delivery of messages in MSGNO order (R327, R328, R336, R339), the stages of REDUCE (R378 to R384), and
the taking of messages by RECV and REDUCE over routes and mortar links. -/
namespace Sys2Proof.Machine

/-! Delivery. -/

/-- Bytes of a message whose last segment has come. -/
def RxMsg.bytes (m : RxMsg) : Nat := (m.segCnt - 1) * 8192 + m.lastLen

/-- All segments of a message are written. -/
def RxMsg.whole (m : RxMsg) : Bool := decide (m.segCnt ≤ m.got.length)

/-- +0 from the end of a covering message's last segment to the end of the extent (R289). -/
def State.zeroTail (s : State) (m : RxMsg) : State :=
  if m.tail && decide (m.bytes < m.extent) then
    s.putUnits (m.addr + m.bytes) (List.replicate (m.extent - m.bytes) 0)
  else s

/-- A class-0 message of up to 4 KiB that misses its bound counts at delivery (R338, R339). -/
def State.lateCount (s : State) (r : Route) (m : RxMsg) : State :=
  if m.cls = 0 ∧ m.bytes ≤ 4096 ∧ 1800 + 1000 * r.hops < (s.clock.ptp + 2 ^ 32 - m.tstamp) % 2 ^ 32 then
    s.countWrap .tunCl0late 0 1
  else s

/-- A task that waited for a partner's message adds its wait to its queue's slip, in units of 10 ns (R129, R327, R382). -/
def State.waitSlip (s : State) (k : Nat) (t : Task) : State :=
  let n := (s.clock.since - t.issued) / 10
  if n = 0 then s
  else (s.countWrap .queSlip k n).modTask k t.serial fun x => { x with waited := x.waited + n }

/-- The route's next message in MSGNO order is delivered, refused or skipped when it can be; the Bool says whether it
was. A message of a MOVE waits for its COMMIT and enters no queue (R287); a Kiln route keeps none (R396). -/
def State.deliverOne (s : State) (key : Nat) : State × Bool :=
  let r := s.route key
  match r.msgs.find? fun m => decide (m.msgNo = r.rxMsg) && !m.commit with
  | none => (s, false)
  | some m =>
    let next : Route := { r with rxMsg := (r.rxMsg + 1) % 2 ^ 32, msgs := r.msgs.erase m }
    if m.code = 256 then (s.setRoute key next, true)
    else if m.code ≠ 0 then
      if m.move || r.kiln then (s.setRoute key next, true)
      else if 64 ≤ r.rxQueue.length then (s, false)
      else (s.setRoute key { next with rxQueue := r.rxQueue ++ [⟨m.msgNo, m.handle, 0, m.code⟩] }, true)
    else if !m.whole then (s, false)
    else if m.move then ((s.lateCount r m).setRoute key { next with msgs := next.msgs ++ [{ m with commit := true }] }, true)
    else if keyFw key then (((s.lateCount r m).setRoute key next).firmwareMessage key m.msgNo m.segCnt m.handle, true)
    else if !r.kiln && decide (64 ≤ r.rxQueue.length) then (s, false)
    else
      let s1 := (((s.zeroTail m).endWrite r.tenant m.handle m.gen).lateCount r m)
      if r.kiln then (s1.setRoute key next, true)
      else (s1.setRoute key { next with rxQueue := r.rxQueue ++ [⟨m.msgNo, m.handle, m.bytes / 256, 0⟩] }, true)

/-- Deliver while the next message can be; at most `n` times. -/
def State.deliver : Nat → State → Nat → State
  | 0, s, _ => s
  | n + 1, s, key =>
    let r := s.deliverOne key
    if r.2 then State.deliver n r.1 key else r.1

/-! REDUCE. -/

/-- Fields of a REDUCE (Table 4-4). -/
def rOp (d : List W32) : Nat := df d 4 1 0
def rGuard (d : List W32) : Nat := df d 4 7 4
def rSrc (d : List W32) : Nat := df d 6 23 0
def rAcc (d : List W32) : Nat := df d 7 23 0
def rFwd (d : List W32) : Bool := bit (wordAt d 8) 8
/-- The stage has a partner (R379); OP 3 has none. -/
def rPartner (d : List W32) : Bool := (dRoute d).isSome || (dLink d).isSome

/-- Elements of a tensor. -/
def HEntry.elems (e : HEntry) : Nat :=
  if e.layout ≤ 1 then e.d0 * e.d1 else e.d0 * e.d1 * e.d2 * e.d3 * e.d4

/-- Bytes of the element region of 32-bit elements, and of the E8 region, as they lie in a tensor (R56). -/
def elemRegion (n : Nat) : Nat := roundUp (4 * n) 256
def e8Region (n : Nat) : Nat := roundUp (cdiv n 64) 256

/-- Offset and length of the region that an OP's message carries (Table 15-3, R381). -/
def rRegion (op n : Nat) : Nat × Nat := if op = 0 then (elemRegion n, e8Region n) else (0, elemRegion n)

/-- The regions that a stage reads and writes lie inside its tensors; else 0x13 (R176, Table 15-3). -/
def reduceRange (d : List W32) (src acc dst : HEntry) : Nat :=
  let n := src.elems
  let r := rRegion (rOp d) n
  let own := if src.fmt = 2 then 4 * n else if rOp d = 0 ∨ rOp d = 3 then elemRegion n + cdiv n 64 else 4 * n
  if src.bytes < own ∨ acc.bytes < r.1 + r.2 ∨ (rOp d = 1 ∧ src.fmt = 2 ∧ acc.bytes < elemRegion n + cdiv n 64) ∨
    (rPartner d ∧ dst.bytes < r.1 + r.2) then 0x13 else 0

/-- Fault of a stage before its first action (R281, R378, R379). -/
def State.reduceCode (s : State) (t n : Nat) (d : List W32) : Nat :=
  let src := s.home t (rSrc d)
  let acc := s.home t (rAcc d)
  let dst := s.home t (dDst d)
  let here (h : Nat) (e : HEntry) : Bool := s.handleOk t h && decide (e.kind = 0) && decide (e.lcore = n) && decide (e.st ≠ stFree)
  let reads := decide (rOp d = 1) && decide (src.fmt = 2)
  let part := rPartner d
  if !here (rSrc d) src || !here (rAcc d) acc || (part && !here (dDst d) dst) then 0x20
  else if src.elems ≠ acc.elems ∨ (part ∧ dst.elems ≠ acc.elems) then 0x13
  else if reduceRange d src acc dst ≠ 0 then 0x13
  else if src.readCode (s.coldFault t n) ≠ 0 then src.readCode (s.coldFault t n)
  else if acc.writeCode reads ≠ 0 then acc.writeCode reads
  else if part ∧ dst.writeCode false ≠ 0 then dst.writeCode false
  else if (match dRoute d with | some a => (s.route a.2).kiln | none => false) then 0x10
  else match dRoute d, dNext d with
    | some a, some b => if s.recvCode t a ≠ 0 then s.recvCode t a else s.routeCode t b
    | some a, none => s.recvCode t a
    | none, some b => s.routeCode t b
    | none, none => 0

/-- Fault of the mortar links that a stage names. -/
def State.reduceLinks (s : State) (t n : Nat) (d : List W32) : Nat :=
  match dLink d, if rFwd d then dNextLink d else none with
  | some a, some b => if s.linkCode t n a ≠ 0 then s.linkCode t n a else s.linkCode t n b
  | some a, none => s.linkCode t n a
  | none, some b => s.linkCode t n b
  | none, none => 0

/-- n words from a byte address. -/
def State.words (s : State) (a n : Nat) : List W32 := (List.range n).map fun i => s.word (a + 4 * i)

/-- E8 bytes that a source contributes: derived from F32 blocks, or the region of an L32 tensor (R57, R380). -/
def State.srcE8 (s : State) (e : HEntry) (a n : Nat) : List Nat :=
  (List.range (cdiv n 64)).map fun b =>
    if e.fmt = 2 then blockE8 (s.words (a + 256 * b) 64) else (s.byte (a + elemRegion n + b)).toNat

/-- What a stage writes into ACC: results for the counts of OP 2 and 3, and the bytes of its region (Table 15-3). -/
def State.reduceOut (s : State) (d : List W32) (e : HEntry) (n src dst acc : Nat) : List FRes × List Byte :=
  let part := rPartner d
  let g := rGuard d
  let e8At (a i : Nat) : Nat := (s.byte (a + elemRegion n + i / 64)).toNat
  match rOp d with
  | 0 =>
    let mine := s.srcE8 e src n
    ([], mine.zipIdx.map fun p =>
      BitVec.ofNat 8 (if part then Nat.max p.1 (s.byte (dst + elemRegion n + p.2)).toNat else p.1))
  | 1 =>
    ([], (List.range n).flatMap fun i =>
      let w := s.word (src + 4 * i)
      let q := if e.fmt = 2 then l32Quant (e8At acc i) g w else w
      leBytes 4 (q + (if part then s.word (dst + 4 * i) else 0)).toNat)
  | 2 =>
    let r := (List.range n).map fun i =>
      let w := s.word (src + 4 * i)
      if part then fadd (s.word (dst + 4 * i)) w else { bits := w }
    (r, r.flatMap fun x => leBytes 4 x.bits.toNat)
  | _ =>
    let r := (List.range n).map fun i =>
      l32ToF32 (Config.l32NanProduced s.freeCtr (i / 64)) (e8At src i) g (s.word (src + 4 * i))
    (r, r.flatMap fun x => leBytes 4 x.bits.toNat)

/-- A stage forwards its result: over a route into the tensor of ACC's handle at the next module, over a mortar link for
the DST of the stage that takes it (R381, R382). Without FWD its effects have landed. -/
def State.forward (s : State) (k : Nat) (t : Task) (n a : Nat) : State :=
  let d := t.desc
  let ten := k / 16
  let reg := rRegion (rOp d) n
  if !rFwd d then s.landTask k t.serial
  else match dNext d with
    | some nr =>
      if s.routeCode ten nr ≠ 0 then s.abortTask k t.serial (s.routeCode ten nr)
      else (s.planMessage nr.2 (k, t.serial) (rAcc d) (reg.1 / 256) reg.2 (some (a + reg.1)) false).tunilRequests
    | none =>
      let l := (dNextLink d).getD 0
      let core := (s.queue k).lcore
      let code := s.linkCode ten core l
      match meshPartner core l with
      | none => s.abortTask k t.serial 0x10
      | some m =>
        if code ≠ 0 then s.abortTask k t.serial code
        else
          let msg : Landed := { link := meshBack l, handle := rAcc d, len := reg.2 / 256, code := 0,
                                bytes := some (s.bytesAt (a + reg.1) reg.2) }
          ((s.modCore m fun c => { c with inbox := c.inbox ++ [msg] }).countWrap .coreMtxbytes core (reg.2 / 256)).landTask k
            t.serial

/-- A stage computes and writes ACC, at the homes that it translated its handles to (R276, R380, R382, R383). -/
def State.reduceRun (s : State) (k : Nat) (t : Task) : State :=
  let d := t.desc
  let ten := k / 16
  let e := s.home ten (rSrc d)
  let n := e.elems
  match s.taskAddr k t.serial (rSrc d), s.taskAddr k t.serial (rAcc d) with
  | some src, some acc =>
    let dst := (s.taskAddr k t.serial (dDst d)).getD 0
    let o := s.reduceOut d e n src dst acc
    let c := resCounts o.1
    let s1 := ({ s with freeCtr := s.freeCtr + 1 } : State).addCounts k t.serial c.1 c.2.1 c.2.2
    match if t.trap then firstRes o.1 else none with
    | some i => s1.nanTrap k t.serial (if rOp d = 2 then 4 else 5) (rAcc d) i
    | none =>
      let s2 := s1.putUnits (acc + (rRegion (rOp d) n).1) o.2
      (s2.modTask k t.serial fun x => { x with progress := 1 }).forward k t n acc
  | _, _ => s.abortTask k t.serial 0x20

/-! Taking a message. -/

/-- What a RECV or a stage makes of a delivered message (R327, R381): the message's own fault, a mismatch, or its end. -/
def State.takeMsg (s : State) (k : Nat) (t : Task) (handle len code : Nat) : State :=
  let d := t.desc
  if code ≠ 0 then s.abortTask k t.serial code
  else if dType d = 7 then
    if handle = df d 4 23 0 ∧ len = (wordAt d 9).toNat then s.landTask k t.serial else s.abortTask k t.serial 0x10
  else
    let n := (s.home (k / 16) (rSrc d)).elems
    if handle = dDst d ∧ 256 * len = (rRegion (rOp d) n).2 then s.reduceRun k t else s.abortTask k t.serial 0x10

/-- What they make of a message landed over a mortar link; a forwarded result lands in the stage's DST (R382). -/
def State.takeLanded (s : State) (k : Nat) (t : Task) (m : Landed) : State :=
  let d := t.desc
  match m.bytes with
  | none => s.takeMsg k t m.handle m.len m.code
  | some bs =>
    let n := (s.home (k / 16) (rSrc d)).elems
    let reg := rRegion (rOp d) n
    if dType d ≠ 8 ∨ bs.length ≠ reg.2 then s.abortTask k t.serial 0x10
    else
      let e := s.home (k / 16) (dDst d)
      let s1 := s.beginFilled (k / 16) (dDst d) (s.queue k).cls (decide (reg.1 = 0) && decide (e.bytes ≤ reg.2))
      match s1.taskAddr k t.serial (dDst d) with
      | some a => (s1.putUnits (a + reg.1) bs).reduceRun k t
      | none => s1.abortTask k t.serial 0x20

/-- A task waits for a message: a RECV, or a stage with a partner that has not taken its message. -/
def Task.waits (t : Task) : Bool :=
  !t.landed && decide (t.progress = 0) && (decide (dType t.desc = 7) || (decide (dType t.desc = 8) && rPartner t.desc))

/-- The oldest of some tasks of some queues that waits and satisfies p. -/
def State.oldestWait (s : State) (ks : List Nat) (p : List W32 → Bool) : Option (Nat × Task) :=
  (ks.flatMap fun k => ((s.queue k).tasks.filter fun t => t.waits && p t.desc).map fun t => (k, t)).foldl
    (fun b x => match b with
      | none => some x
      | some y => if x.2.serial < y.2.serial then some x else some y) none

/-- Queues of a tenant. -/
def queuesOf (t : Nat) : List Nat := (List.range 16).map fun q => 16 * t + q

/-- Deliveries of a route are taken by the tasks that wait on it, oldest first; at most `n` times. -/
def State.wake : Nat → State → Nat → State
  | 0, s, _ => s
  | n + 1, s0, key =>
    let s := s0.deliver 65 key
    let r := s.route key
    match r.rxQueue, s.oldestWait (queuesOf r.tenant) fun d => decide ((dRoute d).map (·.2) = some key) with
    | m :: rest, some (k, t) =>
      State.wake n (((s.setRoute key { r with rxQueue := rest }).waitSlip k t).takeMsg k t m.handle m.len m.code) key
    | _, _ => s

/-- The first landed message that a task waits for: its core, the message, the task. -/
def State.landedWait (s : State) : Option (Nat × Landed × Nat × Task) :=
  s.cores.findSome? fun c => c.2.inbox.findSome? fun m =>
    (s.oldestWait (s.queuesOn c.1) fun d => decide (dLink d = some m.link)).map fun w => (c.1, m, w.1, w.2)

/-- Messages landed over mortar links are taken by the tasks that wait on those links, oldest first; what a stage then
forwards may be taken in turn; at most `n` times. -/
def State.wakeMesh : Nat → State → State
  | 0, s => s
  | n + 1, s =>
    match s.landedWait with
    | some (c, m, k, t) =>
      State.wakeMesh n (((s.modCore c fun x => { x with inbox := x.inbox.erase m }).waitSlip k t).takeLanded k t m)
    | none => s

/-- The message of a task over its route is taken if it has come. -/
def State.wakeTask (s : State) (d : List W32) : State :=
  match dRoute d with
  | some nr => s.wake 65 nr.2
  | none => s

/-! SEND, RECV and REDUCE. -/

/-- SEND (R321, R220). -/
def execSend (t : Fin 8) (q : Fin 16) (waited : Nat) (s : State) : Host.Outcome State Fault Refusal :=
  let k := 16 * t.val + q.val
  whenUp s fun x => (x.issueTask k waited (fun d => decide (dType d = 6)) (fun y d => !y.filling t (df d 4 23 0))
    fun y r => y.runSend k r).wakeMesh 64

/-- A RECV in flight takes its message or waits (R327). -/
def State.runRecv (s : State) (k : Nat) (t : Task) : State :=
  let d := t.desc
  let ten := k / 16
  let n := (s.queue k).lcore
  let bad := [dDst d, df d 4 23 0].filterMap fun h =>
    if !s.handleOk ten h then some 0x20
    else if (s.home ten h).writeCode false ≠ 0 then some ((s.home ten h).writeCode false) else none
  let link := match dRoute d, dLink d with
    | some nr, _ => if (s.route nr.2).kiln then 0x10 else s.recvCode ten nr
    | none, some l => s.linkCode ten n l
    | none, none => 0x10
  match bad with
  | c :: _ => s.abortTask k t.serial c
  | [] => if link ≠ 0 then s.abortTask k t.serial link else s.wakeTask d

/-- RECV (R327). -/
def execRecv (t : Fin 8) (q : Fin 16) (waited : Nat) (s : State) : Host.Outcome State Fault Refusal :=
  whenUp s fun x => (x.issueTask (16 * t.val + q.val) waited (fun d => decide (dType d = 7)) (fun _ _ => true)
    fun y r => y.runRecv (16 * t.val + q.val) r).wakeMesh 64

/-- A stage in flight: its checks, then its partner's message, or its work at once (R378 to R382). -/
def State.runReduce (s : State) (k : Nat) (t : Task) : State :=
  let d := t.desc
  let ten := k / 16
  let n := (s.queue k).lcore
  let code := s.reduceCode ten n d
  let cls := (s.queue k).cls
  let acc := s.home ten (rAcc d)
  if code ≠ 0 then s.abortTask k t.serial code
  else if s.reduceLinks ten n d ≠ 0 then s.abortTask k t.serial (s.reduceLinks ten n d)
  else
    let s1 := ((s.coldRead ten (rSrc d)).addXlate k t.serial (rSrc d) 0).beginFilled ten (rAcc d) cls
      (decide (2 ≤ rOp d) && decide (acc.bytes ≤ elemRegion acc.elems))
    if rPartner d then s1.wakeTask d else s1.reduceRun k t

/-- A REDUCE of an OP issues. -/
def State.issueReduce (s : State) (k waited op : Nat) : Host.Outcome State Fault Refusal :=
  whenUp s fun x => (x.issueTask k waited (fun d => decide (dType d = 8) && decide (rOp d = op))
    (fun y d => !y.filling (k / 16) (rSrc d) && !y.filling (k / 16) (rAcc d)) fun y r => y.runReduce k r).wakeMesh 64

/-- E8_MAX_PASS: OP 0 (R380). -/
def execE8MaxPass (t : Fin 8) (q : Fin 16) (waited : Nat) (s : State) : Host.Outcome State Fault Refusal :=
  s.issueReduce (16 * t.val + q.val) waited 0
/-- L32_SUM: OP 1 (R380). -/
def execL32Sum (t : Fin 8) (q : Fin 16) (waited : Nat) (s : State) : Host.Outcome State Fault Refusal :=
  s.issueReduce (16 * t.val + q.val) waited 1
/-- ORDERED_F32_SUM: OP 2 (R380). -/
def execOrderedF32Sum (t : Fin 8) (q : Fin 16) (waited : Nat) (s : State) : Host.Outcome State Fault Refusal :=
  s.issueReduce (16 * t.val + q.val) waited 2
/-- L32_TO_F32: OP 3 (R380). -/
def execL32ToF32 (t : Fin 8) (q : Fin 16) (waited : Nat) (s : State) : Host.Outcome State Fault Refusal :=
  s.issueReduce (16 * t.val + q.val) waited 3

end Sys2Proof.Machine
end

