-- ==== Sys2Proof/Machine/Functions.lean ====
section
/-! DEFINITION. The vector engine's functions (R151, Table 5-4), with the special operands of Table 2-4 first; the
coefficient and seed tables are the firmware release's (Config). -/
namespace Sys2Proof.Machine

/-- Horner's scheme with FMA, from the highest coefficient down (Table 5-4). -/
def horner (coef : Nat → W32) (deg : Nat) (x : W32) : W32 :=
  (List.range deg).foldl (fun acc i => (ffma acc x (coef (deg - 1 - i))).bits) (coef deg)

/-- EXP2: n = x to an integer, f = x - n, p(f) × 2^n rounded once. -/
def vexp2 (x : W32) : FRes :=
  match ext32 x with
  | .nan => { bits := canonNan32 }
  | .inf n => { bits := if n then 0 else x }
  | y =>
    if extLt (.fin 300 0) y then { bits := 0x7F800000#32, sat := true }
    else if extLt y (.fin (-300) 0) then { bits := 0, flush := true }
    else
      let n := extRint y
      let f := (fsub x (ofInt32 n)).bits
      round32 (extScale (ext32 (horner Config.exp2Coef 7 f)) n)

/-- LOG2: x = m × 2^e with m in [0.75, 1.5), t = m - 1, e + t × q(t). -/
def vlog2 (x : W32) : FRes :=
  match ext32 x with
  | .nan => { bits := canonNan32 }
  | .zero _ => { bits := 0xFF800000#32 }
  | .inf n => if n then { bits := canonNan32, nan := true } else { bits := x }
  | .fin m e =>
    if m < 0 then { bits := canonNan32, nan := true }
    else
      let n := m.natAbs
      let len := Nat.log2 n
      let small := decide (2 * n < 3 * 2 ^ len)
      let k := if small then len else len + 1
      let ex := e + (k : Int)
      let t := (round32 (mkFin false ((n : Int) - 2 ^ k) (-(k : Int)))).bits
      if (n : Int) = 2 ^ k then { bits := ofInt32 ex }
      else { (ffma t (horner Config.log2Coef 10 t) (ofInt32 ex)) with nan := false }

/-- A function result whose last step rounded into F32: its overflow and flush events (Table 2-4). -/
def funRes (y : W32) : FRes :=
  { bits := y, sat := decide (y.toNat % 2 ^ 31 = 0x7F800000), flush := decide (y.toNat % 2 ^ 31 = 0) }

/-- A positive number n × 2^e as m × 2^E with m in [1, 2): the F32 word of m, and E. -/
def mantissa (n : Nat) (e : Int) : W32 × Int :=
  ((round32 (mkFin false (n : Int) (-(Nat.log2 n : Int)))).bits, e + (Nat.log2 n : Int))

/-- A Newton step of RECIP with FMA: y + y × (1 - m × y) (the spec does not write the step out: DESIGN CHOICE, log 58). -/
def recipStep (m y : W32) : W32 := (ffma y (ffma (m ^^^ 0x80000000#32) y 0x3F800000#32).bits y).bits

/-- A Newton step of RSQRT with FMA: y + y/2 × (1 - m × y × y) (DESIGN CHOICE, log 58). -/
def rsqrtStep (m y : W32) : W32 :=
  (ffma (fmul y 0x3F000000#32).bits
    (ffma ((fmul m y).bits ^^^ 0x80000000#32) y 0x3F800000#32).bits y).bits

/-- RECIP: the seed of the eight leading fraction bits, and two Newton steps on the mantissa; the power of two goes on
exactly and a subnormal result is kept, rounded once. -/
def vrecip (x : W32) : FRes :=
  match ext32 x with
  | .nan => { bits := canonNan32 }
  | .zero n => { bits := if n then 0xFF800000#32 else 0x7F800000#32, sat := true }
  | .inf n => { bits := if n then 0x80000000#32 else 0 }
  | .fin m e =>
    let p := mantissa m.natAbs e
    let y := recipStep p.1 (recipStep p.1 (Config.recipSeed (fld p.1 22 15)))
    funRes ((round32 (extScale (if m < 0 then extNegate (ext32 y) else ext32 y) (-p.2))).bits)

/-- RSQRT: the seed of the exponent's parity and the seven leading fraction bits, and two Newton steps on the mantissa,
doubled for an odd exponent; half the even exponent goes on exactly. -/
def vrsqrt (x : W32) : FRes :=
  match ext32 x with
  | .nan => { bits := canonNan32 }
  | .zero n => { bits := if n then 0xFF800000#32 else 0x7F800000#32, sat := true }
  | .inf n => if n then { bits := canonNan32, nan := true } else { bits := 0 }
  | .fin m e =>
    if m < 0 then { bits := canonNan32, nan := true }
    else
      let p := mantissa m.natAbs e
      let odd := (p.2 % 2).toNat
      let v := (round32 (extScale (ext32 p.1) odd)).bits
      let y := rsqrtStep v (rsqrtStep v (Config.rsqrtSeed (128 * odd + fld p.1 22 16)))
      funRes ((round32 (extScale (ext32 y) (-((p.2 - odd) / 2)))).bits)

/-- The odd degree-9 polynomial of SIN: Horner in r × r, times r. -/
def sinPoly (r : W32) : W32 := (fmul (horner Config.sinCoef 4 (fmul r r).bits) r).bits

/-- The even degree-8 polynomial of COS: Horner in r × r. -/
def cosPoly (r : W32) : W32 := horner Config.cosCoef 4 (fmul r r).bits

/-- SIN and COS: k = x × 2/pi to an integer, x - k × pi/2 in three parts, the quadrant's polynomial. Table 5-4 does not
say whether the three parts, and LOG2's Horner steps and its e + t × q(t), are FMAs or products and sums: the model takes
FMAs (DESIGN CHOICE, log 114). -/
def vtrig (quadOff : Nat) (x : W32) : FRes :=
  match ext32 x with
  | .nan => { bits := canonNan32 }
  | .inf _ => { bits := canonNan32, nan := true }
  | _ =>
    let k := extRint (ext32 (fmul x 0x3F22F983#32).bits)
    let nk := ofInt32 (-k)
    let step (r : W32) (i : Nat) : W32 := (ffma nk (Config.piHalfPart i) r).bits
    let r := step (step (step x 0) 1) 2
    let y :=
      match ((k + quadOff) % 4).toNat with
      | 0 => sinPoly r
      | 1 => cosPoly r
      | 2 => sinPoly r ^^^ 0x80000000#32
      | _ => cosPoly r ^^^ 0x80000000#32
    { bits := y, flush := false }

def vsin (x : W32) : FRes := vtrig 0 x
def vcos (x : W32) : FRes := vtrig 1 x

/-- Gaussian noise from the two words of a draw (R157); its internal steps are not counted. -/
def noiseGauss (w0 w1 : W32) : W32 :=
  let u1 := noiseUniform w0
  let u2 := noiseUniform w1
  let a := (fmul (vlog2 u1).bits 0xBFB17218#32).bits
  let r := (fmul a (vrsqrt a).bits).bits
  (fmul r (vcos (fmul u2 0x40C90FDB#32).bits).bits).bits

/-- GELU (R160). -/
def gelu (x : W32) : W32 :=
  let t := (ffma (fmul x x).bits 0x3D372713#32 0x3F800000#32).bits
  let v := (fmul (fmul x t).bits 0x40135761#32).bits
  let r := (vrecip (fadd (vexp2 v).bits 0x3F800000#32).bits).bits
  (fsub x (fmul x r).bits).bits

/-- SiLU (R160). -/
def silu (x : W32) : W32 :=
  (fmul x (vrecip (fadd 0x3F800000#32 (vexp2 (fmul x 0xBFB8AA3B#32).bits).bits).bits).bits).bits

/-- SwiGLU of a gate and its up value (R160). -/
def swiglu (g u : W32) : W32 := (fmul (silu g) u).bits

end Sys2Proof.Machine
end

