-- ==== Sys2Proof/Machine/Vector.lean ====
section
/-! DEFINITION. The vector engine (R137 to R167): program contexts, VEC tasks, drain programs and the 52 instructions of
Table 5-3. Each instruction command runs the next instruction of the running program when it has that opcode; a drain
program goes first (R165). -/
namespace Sys2Proof.Machine

/-! Registers of a context. -/

/-- The lanes of V register r. -/
def VecCtx.vec (c : VecCtx) (r : Nat) : List W32 := dense 0 (mslice c.v (2048 * r) 2048) (2048 * r) 2048
def VecCtx.setVec (c : VecCtx) (r : Nat) (l : List W32) : VecCtx := { c with v := mreplace 0 c.v (2048 * r) l }
/-- The bits of M register r; M0 reads all ones (Table 5-1). -/
def VecCtx.mask (c : VecCtx) (r : Nat) : List Bool :=
  if r = 0 then List.replicate 2048 true else dense false (mslice c.m (2048 * r) 2048) (2048 * r) 2048
/-- M0 cannot be written. -/
def VecCtx.setMask (c : VecCtx) (r : Nat) (l : List Bool) : VecCtx :=
  if r = 0 then c else { c with m := mreplace false c.m (2048 * r) l }
def VecCtx.sc (c : VecCtx) (r : Nat) : W32 := mget 0 c.s r
def VecCtx.setSc (c : VecCtx) (r : Nat) (w : W32) : VecCtx := { c with s := mset 0 c.s r w }

/-- An instruction word (R142). -/
structure Insn where
  op : Nat
  vd : Nat
  va : Nat
  vb : Nat
  vc : Nat
  mask : Nat
  imm : W32
  deriving DecidableEq, Repr

def insnOf (lo imm : W32) : Insn :=
  ⟨fld lo 7 0, fld lo 12 8, fld lo 17 13, fld lo 22 18, fld lo 27 23, fld lo 30 28, imm⟩

/-- What an instruction does: abort with a fault code, wait for its moment, or go on with a new context, its counts, and
the unit, handle and element of its first produced NaN. -/
inductive VecEnd where
  | abort (code : Nat)
  | waits
  | done (s : State) (c : VecCtx) (counts : Nat × Nat × Nat) (nan : Option (Nat × Nat))

/-! Programs (Table 5-2). -/

def State.insnCount (s : State) (prog : Nat) : Nat := fld (s.word (prog + 8)) 12 0

/-- Landed data wait for a row function or for a drain program that has not started (R165). -/
def Core.landedWaits (c : Core) : Bool := (List.range 2).any fun b => (c.landing b).full

/-- The context that issues next on a core: a drain program before a VEC program, which also waits while landed data have
not been taken (R165). -/
def Core.running (c : Core) : Option (Bool × VecCtx) :=
  if c.drainVec.running then some (true, c.drainVec)
  else if c.vec.running && !c.landedWaits then some (false, c.vec)
  else none

def Core.setRunning (c : Core) (drain : Bool) (x : VecCtx) : Core :=
  if drain then { c with drainVec := x } else { c with vec := x }

/-- The next program counter: bodies of REPs that end there repeat or end (R143). -/
def repNext (pc : Nat) : List (Nat × Nat × Nat) → Nat × List (Nat × Nat × Nat)
  | [] => (pc, [])
  | (first, last, left) :: t =>
    if pc = last then (if 0 < left then (first, (first, last, left - 1) :: t) else repNext pc t)
    else (pc, (first, last, left) :: t)

/-- The buffer number of a drain program whose buffer has given its last vector and is free again (R163). -/
def noBuffer : Nat := 2

/-- The chunks that a program has put into shadow halves are loaded once the program has ended (R164, log 117). -/
def Core.sealHalves (c : Core) : Core :=
  { c with edges := mmap EdgeFile.init c.edges fun _ e => { e with shadow :=
      { e.shadow with loaded := e.shadow.loaded ++ e.shadow.coming, coming := [] } } }

/-- Store the context after an instruction; a program that has run its last instruction ends: a VEC task has landed, a
drain program frees its buffer if it still holds it (the spec does not say what becomes of vectors that a program leaves
in its buffer: DESIGN CHOICE, log 59). -/
def State.vecStore (s : State) (n : Nat) (drain : Bool) (c : VecCtx) : State :=
  let nx := repNext c.pc c.reps
  let c1 := { c with pc := nx.1, reps := nx.2 }
  if c1.pc < s.insnCount c1.prog then s.modCore n fun x => x.setRunning drain c1
  else
    let s1 := s.modCore n fun x =>
      let y := x.sealHalves
      if drain then
        { (if c1.buffer = noBuffer then y else y.setLanding c1.buffer .init) with drainVec := .init }
      else { y with vec := .init }
    if drain then s1.checkLanded c1.owner.1 c1.owner.2 else s1.landTask c1.owner.1 c1.owner.2

/-- Run the next instruction of core n's engine when it has the given opcode. `unit` is that of a trap (R152). -/
def State.vecRun (s : State) (n op unit : Nat) (f : State → Bool → VecCtx → Insn → VecEnd) : State :=
  match (s.core n).running with
  | none => s
  | some (drain, c) =>
    let i := insnOf (s.word (c.prog + 0x140 + 8 * c.pc)) (s.word (c.prog + 0x144 + 8 * c.pc))
    if i.op ≠ op then s
    else match f s drain c i with
      | .waits => s
      | .abort code => (s.countWrap .coreVecissue n 1).abortTask c.owner.1 c.owner.2 code
      | .done s1 c1 cnt nan =>
        let s2 := (s1.addCounts c.owner.1 c.owner.2 cnt.1 cnt.2.1 cnt.2.2).countWrap .coreVecissue n 1
        let trap := match s2.task? c.owner.1 c.owner.2 with | some t => t.trap | none => false
        match (if trap then nan else none) with
        | some (h, e) => s2.nanTrap c.owner.1 c.owner.2 unit h e
        | none => s2.vecStore n drain { c1 with pc := c1.pc + 1 }

/-- The task's own destination handle, which a trap record names (R72). -/
def State.vecDst (s : State) (c : VecCtx) : Nat :=
  match s.task? c.owner.1 c.owner.2 with | some t => dDst t.desc | none => 0

/-- Masked results: a masked-off lane keeps its destination and counts nothing (R147). -/
def maskRes (act : List Bool) (old : List W32) (res : List FRes) : List FRes :=
  List.zipWith (fun b p => if b then p.2 else { bits := p.1 }) act (List.zip old res)

/-- An instruction that computes a result in every lane and writes VD. A trap names the lane as its element and the
descriptor's DST (of CVTSR its own handle) as its handle: Table 2-8 speaks of the index within the destination tensor, and
the spec states a lane for row reductions alone (R148) (DESIGN CHOICE, log 111). -/
def laneEnd (s : State) (c : VecCtx) (i : Insn) (handle : Nat) (res : List FRes) : VecEnd :=
  let r := maskRes (c.mask i.mask) (c.vec i.vd) res
  .done s (c.setVec i.vd (r.map fun x => x.bits)) (resCounts r) ((firstRes r).map fun l => (handle, l))

/-- Lane operations of one, two and three vector operands. -/
def lane1 (f : W32 → FRes) (s : State) (_ : Bool) (c : VecCtx) (i : Insn) : VecEnd :=
  laneEnd s c i (s.vecDst c) ((c.vec i.va).map f)
def lane2 (f : W32 → W32 → FRes) (s : State) (_ : Bool) (c : VecCtx) (i : Insn) : VecEnd :=
  laneEnd s c i (s.vecDst c) (List.zipWith f (c.vec i.va) (c.vec i.vb))
def lane3 (f : W32 → W32 → W32 → FRes) (s : State) (_ : Bool) (c : VecCtx) (i : Insn) : VecEnd :=
  laneEnd s c i (s.vecDst c)
    (List.zipWith (fun p z => f p.1 p.2 z) (List.zip (c.vec i.va) (c.vec i.vb)) (c.vec i.vc))

/-- A result without events. -/
def plain (w : W32) : FRes := { bits := w }

/-- A compare writes M[VD] in the lanes that the mask lets through. -/
def maskEnd (f : W32 → W32 → Bool) (s : State) (c : VecCtx) (i : Insn) : VecEnd :=
  let r := List.zipWith f (c.vec i.va) (c.vec i.vb)
  let l := List.zipWith (fun b p => if b then p.2 else p.1) (c.mask i.mask) (List.zip (c.mask i.vd) r)
  .done s (c.setMask i.vd l) (0, 0, 0) none

/-- CMP conditions (Table 5-3); 5 to 7 are open. -/
def cmpCond (k : Nat) (a b : W32) : Bool :=
  let un := isNan32 a || isNan32 b
  match k with
  | 0 => flt a b
  | 1 => !un && !flt b a
  | 2 => !un && !flt a b && !flt b a
  | 3 => un || flt a b || flt b a
  | 4 => un
  | j => Config.cmpOpen j a b

/-- ICMP conditions, signed; no pair of integers is unordered. -/
def icmpCond (k : Nat) (a b : W32) : Bool :=
  match k with
  | 0 => decide (a.toInt < b.toInt)
  | 1 => decide (a.toInt ≤ b.toInt)
  | 2 => decide (a = b)
  | 3 => decide (a ≠ b)
  | 4 => false
  | j => Config.cmpOpen j a b

/-- Shifts by the whole lane of VB (R63). -/
def shlLane (a b : W32) : W32 := if b.toNat < 32 then a <<< b.toNat else 0
def shrLane (a b : W32) : W32 := if b.toNat < 32 then a >>> b.toNat else 0
def sarLane (a b : W32) : W32 := a.sshiftRight (Nat.min b.toNat 31)

/-! Row reductions (R148). -/

/-- One level of a segment's tree. -/
def treeLevel (f : W32 → W32 → FRes) : List W32 → List FRes
  | a :: b :: t => f a b :: treeLevel f t
  | _ => []

/-- The levels of a tree over one segment, from the first sums on. -/
def treeLevels (f : W32 → W32 → FRes) : Nat → List W32 → List (List FRes)
  | 0, _ => []
  | n + 1, l => let r := treeLevel f l; r :: treeLevels f n (r.map fun x => x.bits)

/-- Reduce every segment of 2^(n + 5) lanes: the tree with its counts; the first produced NaN by level and then by
position names its segment's lowest lane. -/
def reduce (lead : W32 → FRes) (f : W32 → W32 → FRes) (pad : W32) (s : State) (c : VecCtx) (i : Insn) : VecEnd :=
  let w := 2 ^ (fld i.imm 2 0 + 5)
  let act := c.mask i.mask
  let level0 := List.zipWith (fun b x => if b then lead x else plain pad) act (c.vec i.va)
  let segs := (List.range (2048 / w)).map fun g =>
    let l0 := (level0.drop (g * w)).take w
    (g, l0 :: treeLevels f (fld i.imm 2 0 + 5) (l0.map fun x => x.bits))
  let all := segs.flatMap fun p => p.2.flatMap id
  let first := (List.range (fld i.imm 2 0 + 6)).findSome? fun lev =>
    segs.findSome? fun p => if ((p.2[lev]?).getD []).any fun x => x.nan then some (p.1 * w) else none
  let out := segs.flatMap fun p => List.replicate w (match (p.2.getLastD []) with | x :: _ => plain x.bits | [] => plain 0)
  let r := maskRes act (c.vec i.vd) out
  .done s (c.setVec i.vd (r.map fun x => x.bits)) (resCounts all) (first.map fun l => (s.vecDst c, l))

/-! Converts (R152, R153). -/

/-- Blocks of `w` lanes as lists of optional values: a masked-off lane takes no part. -/
def blocksOf {α : Type} (w : Nat) (l : List α) : List (List α) :=
  (List.range (2048 / w)).map fun j => (l.drop (j * w)).take w

/-- Write single lanes of a register, lane j with the j-th value, unless the lane is masked off. -/
def setLanes (act : List Bool) (old vals : List W32) : List W32 :=
  (List.zipWith (fun p v => if p.1 then v else p.2) (List.zip act old) vals) ++ old.drop vals.length

/-- CVT between format codes src and dst. Into B8X with VC equal to VD, the scale lanes are written after the elements and
stand in their place: the spec does not say which write wins (R153; DESIGN CHOICE, log 112). -/
def cvt (s : State) (c : VecCtx) (i : Insn) : VecEnd :=
  let src := fld i.imm 3 0
  let dst := fld i.imm 7 4
  let act := c.mask i.mask
  let va := c.vec i.va
  let h := s.vecDst c
  if src = 2 ∧ dst = 3 then
    let scales := (blocksOf 32 (List.zip act va)).map fun b => b8xScale ((b.filter fun p => p.1).map fun p => p.2)
    let res := va.zipIdx.map fun p => b8xElem ((scales[p.2 / 32]?).getD 0) p.1
    let r := maskRes act (c.vec i.vd) res
    let c1 := c.setVec i.vd (r.map fun x => x.bits)
    .done s (c1.setVec i.vc (setLanes act (c1.vec i.vc) (scales.map (BitVec.ofNat 32)))) (resCounts r) none
  else if src = 3 ∧ dst = 2 then
    let vb := c.vec i.vb
    laneEnd s c i h (va.zipIdx.map fun p => b8xToF32 (((vb[p.2 / 32]?).getD 0).toNat % 256) (p.1.toNat % 256))
  else if src = 2 ∧ dst = 4 then
    let vb := c.vec i.vb
    laneEnd s c i h (va.zipIdx.map fun p => plain (l32Quant (((vb[p.2 / 64]?).getD 0).toNat % 256) (fld i.imm 11 8) p.1))
  else if src = 4 ∧ dst = 2 then
    let vb := c.vec i.vb
    let made (j : Nat) : Bool := Config.l32NanProduced s.freeCtr j
    laneEnd { s with freeCtr := s.freeCtr + 1 } c i h (va.zipIdx.map fun p =>
      l32ToF32 (made (p.2 / 64)) (((vb[p.2 / 64]?).getD 0).toNat % 256) (fld i.imm 11 8) p.1)
  else laneEnd s c i h (va.map fun x => match cvtLane src dst x with
    | some r => r
    | none => plain (Config.cvtOpen src dst x))

/-! Noise (R154 to R159). -/

/-- The step number that S0 and S1 hold. -/
def VecCtx.step (c : VecCtx) : Nat := (c.sc 0).toNat + (c.sc 1).toNat % 65536 * 2 ^ 32

/-- The words of lane l. -/
def laneNoise (c : VecCtx) (base stream handle l : Nat) : W32 × W32 × W32 × W32 :=
  noiseWords c.seed (noiseCounter ((base + l) % 2 ^ 40) stream c.step handle)

def noiseBase (c : VecCtx) (va : Nat) : Nat := (c.sc va).toNat + (c.sc ((va + 1) % 32)).toNat % 256 * 2 ^ 32

/-! Regions (R140, R142). -/

/-- The fault of an access to region r, or a wait for a fill: 0 with the yard offset, length and coldness. -/
inductive RegionAt where
  | fails (code : Nat)
  | waits
  | at (yoff len : Nat) (cold : Bool)
  deriving DecidableEq, Repr

/-- Find region r of the running program for a read or a write; the first access of a task to a tensor translates it
(R276). -/
def State.regionAt (s : State) (n : Nat) (c : VecCtx) (r : Nat) (wr : Bool) : RegionAt :=
  if s.regionCount c.prog ≤ r then .fails 0x13
  else
    let g := s.region c.prog r
    let t := c.owner.1 / 16
    let e := s.home t g.1
    if !(if wr then g.2.2.1 else g.2.1) then .fails 0x21
    else if s.filling t g.1 then .waits
    else
      let known : List Xlate := match s.task? c.owner.1 c.owner.2 with
        | some x => x.xlates.filter fun (y : Xlate) => decide (y.handle = g.1) && (wr || decide (y.mode = 0) || decide (y.mode = 2))
        | none => []
      let place := if known.any fun y => y.oldHome then 0 else e.placeCode n g.2.2.2.1 g.2.2.2.2
      let code := if !known.isEmpty then place
        else if !s.handleOk t g.1 then 0x20
        else orCode (if wr then e.writeCode false else e.readCode (s.coldFault t n)) place
      if code ≠ 0 then .fails code
      else .at g.2.2.2.1 g.2.2.2.2
        (!wr && (if known.isEmpty then decide (e.st = stUnwritten) else known.any fun y => y.cold))

/-- Record the translation of a region's tensor for a read. -/
def State.regionTouch (s : State) (c : VecCtx) (r : Nat) : State :=
  let h := (s.region c.prog r).1
  let known := match s.task? c.owner.1 c.owner.2 with
    | some x => x.xlates.any fun y => decide (y.handle = h) && (decide (y.mode = 0) || decide (y.mode = 2))
    | none => true
  if known then s else s.startRead c.owner.1 c.owner.2 h

/-- The region and byte offset of an LD or ST: IMM plus S[VC], added as an unsigned number that does not wrap (Table 5-3
does not state the width of the sum: DESIGN CHOICE, log 113). -/
def memOff (c : VecCtx) (i : Insn) : Nat × Nat :=
  (fld i.imm 31 28, fld i.imm 27 0 + (if i.vc = 0 then 0 else (c.sc i.vc).toNat))

/-- An active lane reaches past the region. -/
def pastEnd (act : List Bool) (off b len : Nat) : Bool :=
  act.zipIdx.any fun p => p.1 && decide (len < off + b * p.2 + b)

/-- Loads of b-byte elements. An offset that S[VC] leaves off a multiple of 256 aborts with 0x12, the code of a
misaligned offset (Table 4-7), and lanes past the region with 0x13; the spec names no code for either at run time (DESIGN
CHOICE, log 113). -/
def load (b : Nat) (n : Nat) (s : State) (c : VecCtx) (i : Insn) : VecEnd :=
  let (r, off) := memOff c i
  if !(c.mask i.mask).contains true then .done s c (0, 0, 0) none
  else if off % 256 ≠ 0 then .abort 0x12
  else match s.regionAt n c r false with
    | .fails code => .abort code
    | .waits => .waits
    | .at yoff len cold =>
      let act := c.mask i.mask
      if pastEnd act off b len then .abort 0x13
      else
        let rd := s.yard n cold
        let vals := (List.range 2048).map fun l =>
          BitVec.ofNat 32 (leNat ((List.range b).map fun j => rd (yoff + off + b * l + j)))
        laneEnd (s.regionTouch c r) c i 0 (vals.map plain)

/-- Stores of the low b bytes of each lane of VD: Table 5-3 does not name the register that the stores and STE take their
data from (DESIGN CHOICE, log 113). -/
def store (b : Nat) (n : Nat) (s : State) (c : VecCtx) (i : Insn) : VecEnd :=
  let (r, off) := memOff c i
  if !(c.mask i.mask).contains true then .done s c (0, 0, 0) none
  else if off % 256 ≠ 0 then .abort 0x12
  else match s.regionAt n c r true with
    | .fails code => .abort code
    | .waits => .waits
    | .at yoff len _ =>
      let act := c.mask i.mask
      if pastEnd act off b len then .abort 0x13
      else
        let s1 := (List.zip act (c.vec i.vd)).zipIdx.foldl (fun x p =>
          if p.1.1 then x.putBytes (x.yardAddr n (yoff + off + b * p.2)) (leBytes b p.1.2.toNat) else x) s
        .done s1 c (0, 0, 0) none

/-- Gathers of b-byte elements by I32 index (R146). -/
def gather (b : Nat) (n : Nat) (s : State) (c : VecCtx) (i : Insn) : VecEnd :=
  let r := fld i.imm 31 28
  if !(c.mask i.mask).contains true then .done s c (0, 0, 0) none
  else match s.regionAt n c r false with
  | .fails code => .abort code
  | .waits => .waits
  | .at yoff len cold =>
    let act := c.mask i.mask
    let idx := c.vec i.va
    if (List.zip act idx).any fun p => p.1 && (decide (p.2.toInt < 0) || decide (len < b * p.2.toNat + b)) then
      .abort 0x13
    else
      let rd := s.yard n cold
      let vals := (List.zip act idx).map fun p =>
        if p.1 then BitVec.ofNat 32 (leNat ((List.range b).map fun j => rd (yoff + b * p.2.toNat + j))) else 0
      laneEnd (s.regionTouch c r) c i 0 (vals.map plain)

/-- LDL: the next 2,048 values of the landing buffer (R164); without a buffer the values are free. -/
def ldl (n : Nat) (s : State) (drain : Bool) (c : VecCtx) (i : Insn) : VecEnd :=
  let lb := (s.core n).landing c.buffer
  if drain && lb.full && decide (lb.taken < 32) then
    let vals := dense 0 (mslice lb.data (2048 * lb.taken) 2048) (2048 * lb.taken) 2048
    let last := decide (lb.taken = 31)
    let s1 := s.modCore n fun x =>
      x.setLanding c.buffer (if last then Landing.init else { lb with taken := lb.taken + 1 })
    laneEnd s1 (if last then { c with buffer := noBuffer } else c) i 0 (vals.map plain)
  else
    laneEnd { s with freeCtr := s.freeCtr + 2048 } c i 0
      ((List.range 2048).map fun l => plain (Config.freeWord (s.freeCtr + l)))

/-- STE: a chunk of B16 values into the shadow half of an edge file (R164). A load starts only after the previous swap
(R79): STE waits while a loaded tile stands there, while the array task in hand still has tiles to come through the file,
and before a chunk that an earlier program has put there. -/
def ste (n : Nat) (s : State) (c : VecCtx) (i : Insn) : VecEnd :=
  let f := fld i.imm 0 0
  let k := fld i.imm 9 4
  let core := s.core n
  let e := core.edge f
  let sh := e.shadow
  if (sh.full && !sh.fromEngine) || core.fileBusy f || (sh.fromEngine && sh.loaded.contains k) then .waits
  else
    let bs := (List.zip (c.mask i.mask) (c.vec i.vd)).zipIdx.foldl (fun m p =>
      if p.1.1 then msetList 0 m (4096 * k + 2 * p.2) (leBytes 2 p.1.2.toNat) else m) sh.bytes
    .done (s.modCore n fun x => x.setEdge f { e with shadow :=
      { sh with full := true, fromEngine := true, bytes := bs, chosen := (0, 0),
                coming := if sh.coming.contains k then sh.coming else k :: sh.coming } }) c (0, 0, 0) none

/-! Starting programs. -/

/-- The context at a program's start (R138, R139): the step of a class-1 or class-2 task is that of its issue. -/
def State.startCtx (s : State) (n : Nat) (drain : Bool) (prog : Nat) (k : Nat) (t : Task) (seed : W64) (buffer : Nat) :
    VecCtx :=
  let step := if (s.queue k).cls = 0 then s.reg64 .carStep0 .carStep1 0 else t.step
  let sc := [(0, BitVec.ofNat 32 step), (1, BitVec.ofNat 32 (step / 2 ^ 32)), (2, BitVec.ofNat 32 t.iter),
    (3, BitVec.ofNat 32 n)]
  { running := true, prog := prog, drainProg := drain, pc := 0, v := [], m := [],
    s := sc.foldl (fun m p => mset 0 m p.1 p.2) [], p := sparse 0 0 t.params, reps := [], seed := seed,
    owner := (k, t.serial), buffer := buffer }

/-- Fault of the regions that a program may write, 0 for none. -/
def State.progCode (s : State) (k n prog : Nat) : Nat :=
  (List.range (s.regionCount prog)).foldl (fun code r =>
    let g := s.region prog r
    if code = 0 ∧ g.2.2.1 then s.yardWriteCode (k / 16) n g.1 g.2.2.2.1 g.2.2.2.2 g.2.1 else code) 0

/-- The writers of a program issue (R141, R278): a region that covers its tensor's extent needs no fill; a region that
is also read reads its destination. -/
def State.progBegin (s : State) (k serial prog : Nat) : State :=
  (List.range (s.regionCount prog)).foldl (fun x r =>
    let g := x.region prog r
    if g.2.2.1 then
      let e := x.home (k / 16) g.1
      let x1 := x.beginWrite (k / 16) g.1 (s.queue k).cls (!g.2.1 && decide (g.2.2.2.1 ≤ e.yoff) &&
        decide (e.yoff + e.bytes ≤ g.2.2.2.1 + g.2.2.2.2))
      if g.2.1 then x1.setMode k serial g.1 2 else x1
    else x) s

/-- A VEC task in flight begins (R138 to R141). -/
def State.runVec (s : State) (k : Nat) (t : Task) : State :=
  let n := (s.queue k).lcore
  let prog := s.yardAddr n (df t.desc 4 24 0)
  let code := s.progCode k n prog
  if code ≠ 0 then s.abortTask k t.serial code
  else
    let s1 := s.progBegin k t.serial prog
    let s2 := if (s1.progWrites prog).contains (dDst t.desc) then s1 else s1.setMode k t.serial (dDst t.desc) 3
    let seed : W64 := BitVec.ofNat 64 ((wordAt t.desc 8).toNat + (wordAt t.desc 9).toNat * 2 ^ 32)
    s2.modCore n fun c => { c with vec := s2.startCtx n false prog k t seed 0 }

/-- VEC (R138). -/
def execVec (t : Fin 8) (q : Fin 16) (waited : Nat) (s : State) : Host.Outcome State Fault Refusal :=
  whenUp s fun x => x.issueTask (16 * t.val + q.val) waited (fun d => decide (dType d = 4))
    (fun y _ => !(y.core (y.queue (16 * t.val + q.val)).lcore).vec.running) (fun y r => y.runVec (16 * t.val + q.val) r)

/-- A program draws noise or converts stochastically. -/
def State.drawsNoise (s : State) (prog : Nat) : Bool :=
  (List.range (s.insnCount prog)).any fun i =>
    [0x21, 0x38, 0x39].contains (fld (s.word (prog + 0x140 + 8 * i)) 7 0)

/-- DRAIN_PROGRAM: the drain program of the buffer's MATMUL starts (R163, R164). Its seed record is read under the rules
of R141. -/
def State.drainProgram (s : State) (n b : Nat) : State :=
  let c := s.core n
  let lb := c.landing b
  match s.task? lb.owner.1 lb.owner.2 with
  | none => s
  | some t =>
    if !lb.full || decide (lb.taken ≠ 0) || c.drainVec.running || !decide (dType t.desc = 1) then s
    else
      let k := lb.owner.1
      let prog := s.yardAddr n (df t.desc 12 24 0)
      let reads := s.drawsNoise prog && decide (0 < s.regionCount prog)
      let g := s.region prog 0
      let code := orCode (s.progCode k n prog) (if reads then s.yardReadCode (k / 16) n g.1 g.2.2.2.1 64 else 0)
      if code ≠ 0 then s.abortTask k t.serial code
      else if reads && s.filling (k / 16) g.1 then s
      else
        let cold := s.cold (k / 16) g.1
        let s1 := (if reads then s.startRead k t.serial g.1 else s).progBegin k t.serial prog
        let seed : W64 := if reads then
            BitVec.ofNat 64 (leNat ((List.range 8).map fun i => s.yard n cold (g.2.2.2.1 + i))) else 0
        s1.modCore n fun x => { x with drainVec := s1.startCtx n true prog k t seed b }

/-- DRAIN_PROGRAM (R164). -/
def execDrainProgram (n : Fin 16) (buffer : Fin 2) (s : State) : Host.Outcome State Fault Refusal :=
  whenUp s fun x => x.drainProgram n buffer

/-! The instructions of Table 5-3. -/

/-- ADD (0x01). -/
def execVAdd (n : Fin 16) (s : State) : Host.Outcome State Fault Refusal := whenUp s fun x => x.vecRun n 0x01 4 (lane2 fadd)
/-- SUB (0x02). -/
def execVSub (n : Fin 16) (s : State) : Host.Outcome State Fault Refusal := whenUp s fun x => x.vecRun n 0x02 4 (lane2 fsub)
/-- MUL (0x03). -/
def execVMul (n : Fin 16) (s : State) : Host.Outcome State Fault Refusal := whenUp s fun x => x.vecRun n 0x03 4 (lane2 fmul)
/-- FMA (0x04): one rounding. -/
def execVFma (n : Fin 16) (s : State) : Host.Outcome State Fault Refusal := whenUp s fun x => x.vecRun n 0x04 4 (lane3 ffma)
/-- MIN (0x05, R149). -/
def execVMin (n : Fin 16) (s : State) : Host.Outcome State Fault Refusal := whenUp s fun x => x.vecRun n 0x05 4 (lane2 fmin)
/-- MAX (0x06, R149). -/
def execVMax (n : Fin 16) (s : State) : Host.Outcome State Fault Refusal := whenUp s fun x => x.vecRun n 0x06 4 (lane2 fmax)
/-- ABS (0x07, R66). -/
def execVAbs (n : Fin 16) (s : State) : Host.Outcome State Fault Refusal :=
  whenUp s fun x => x.vecRun n 0x07 4 (lane1 fun a => plain (a &&& 0x7FFFFFFF#32))
/-- NEG (0x08, R66). -/
def execVNeg (n : Fin 16) (s : State) : Host.Outcome State Fault Refusal :=
  whenUp s fun x => x.vecRun n 0x08 4 (lane1 fun a => plain (a ^^^ 0x80000000#32))
/-- CMP (0x09). -/
def execVCmp (n : Fin 16) (s : State) : Host.Outcome State Fault Refusal :=
  whenUp s fun x => x.vecRun n 0x09 4 fun y _ c i => maskEnd (cmpCond (fld i.imm 2 0)) y c i
/-- SEL (0x0A): the mask selects and no lane is masked off (R147). -/
def execVSel (n : Fin 16) (s : State) : Host.Outcome State Fault Refusal :=
  whenUp s fun x => x.vecRun n 0x0A 4 fun y _ c i =>
    .done y (c.setVec i.vd (List.zipWith (fun b p => if b then p.1 else p.2) (c.mask i.mask)
      (List.zip (c.vec i.va) (c.vec i.vb)))) (0, 0, 0) none
/-- MOVI (0x0B). -/
def execVMovi (n : Fin 16) (s : State) : Host.Outcome State Fault Refusal :=
  whenUp s fun x => x.vecRun n 0x0B 4 fun y _ c i => laneEnd y c i 0 (List.replicate 2048 (plain i.imm))
/-- MOVS (0x0C). -/
def execVMovs (n : Fin 16) (s : State) : Host.Outcome State Fault Refusal :=
  whenUp s fun x => x.vecRun n 0x0C 4 fun y _ c i => laneEnd y c i 0 (List.replicate 2048 (plain (c.sc i.va)))
/-- EXP2 (0x10, R151). -/
def execVExp2 (n : Fin 16) (s : State) : Host.Outcome State Fault Refusal := whenUp s fun x => x.vecRun n 0x10 4 (lane1 vexp2)
/-- LOG2 (0x11, R151). -/
def execVLog2 (n : Fin 16) (s : State) : Host.Outcome State Fault Refusal := whenUp s fun x => x.vecRun n 0x11 4 (lane1 vlog2)
/-- RSQRT (0x12, R151). -/
def execVRsqrt (n : Fin 16) (s : State) : Host.Outcome State Fault Refusal :=
  whenUp s fun x => x.vecRun n 0x12 4 (lane1 vrsqrt)
/-- RECIP (0x13, R151). -/
def execVRecip (n : Fin 16) (s : State) : Host.Outcome State Fault Refusal :=
  whenUp s fun x => x.vecRun n 0x13 4 (lane1 vrecip)
/-- SIN (0x14, R151). -/
def execVSin (n : Fin 16) (s : State) : Host.Outcome State Fault Refusal := whenUp s fun x => x.vecRun n 0x14 4 (lane1 vsin)
/-- COS (0x15, R151). -/
def execVCos (n : Fin 16) (s : State) : Host.Outcome State Fault Refusal := whenUp s fun x => x.vecRun n 0x15 4 (lane1 vcos)
/-- RMAX (0x18, R148, R149). -/
def execVRmax (n : Fin 16) (s : State) : Host.Outcome State Fault Refusal :=
  whenUp s fun x => x.vecRun n 0x18 4 fun y _ c i => reduce plain fmax 0xFF800000#32 y c i
/-- RSUM (0x19, R148). -/
def execVRsum (n : Fin 16) (s : State) : Host.Outcome State Fault Refusal :=
  whenUp s fun x => x.vecRun n 0x19 4 fun y _ c i => reduce plain fadd 0 y c i
/-- RSSQ (0x1A, R148). -/
def execVRssq (n : Fin 16) (s : State) : Host.Outcome State Fault Refusal :=
  whenUp s fun x => x.vecRun n 0x1A 4 fun y _ c i => reduce (fun a => fmul a a) fadd 0 y c i
/-- The unit of a CVT's trap: 5 for an L32 conversion (R152). -/
def State.cvtUnit (s : State) (n : Nat) : Nat :=
  match (s.core n).running with
  | some (_, c) =>
    let imm := s.word (c.prog + 0x144 + 8 * c.pc)
    if fld imm 3 0 = 4 ∨ fld imm 7 4 = 4 then 5 else 4
  | none => 4
/-- CVT (0x20, R152, R153). -/
def execVCvt (n : Fin 16) (s : State) : Host.Outcome State Fault Refusal :=
  whenUp s fun x => x.vecRun n 0x20 (x.cvtUnit n) fun y _ c i => cvt y c i
/-- CVTSR (0x21, R65): the draws come from stream 15. -/
def execVCvtsr (n : Fin 16) (s : State) : Host.Outcome State Fault Refusal :=
  whenUp s fun x => x.vecRun n 0x21 4 fun y _ c i =>
    let h := fld i.imm 23 0
    laneEnd y c i h ((c.vec i.va).zipIdx.map fun p =>
      cvtSr (laneNoise c (c.sc i.vb).toNat 15 h p.2).1.toNat p.1)
/-- BEXP (0x22, R57): lanes 0 to 31 take the E8 of their blocks, the other lanes keep their values. -/
def execVBexp (n : Fin 16) (s : State) : Host.Outcome State Fault Refusal :=
  whenUp s fun x => x.vecRun n 0x22 4 fun y _ c i =>
    let act := c.mask i.mask
    let e8 := (blocksOf 64 (List.zip act (c.vec i.va))).map fun b => blockE8 ((b.filter fun p => p.1).map fun p => p.2)
    .done y (c.setVec i.vd (setLanes act (c.vec i.vd) (e8.map (BitVec.ofNat 32)))) (0, 0, 0) none
/-- IADD (0x28, R63). -/
def execVIadd (n : Fin 16) (s : State) : Host.Outcome State Fault Refusal :=
  whenUp s fun x => x.vecRun n 0x28 4 (lane2 fun a b => plain (a + b))
/-- ISUB (0x29, R63). -/
def execVIsub (n : Fin 16) (s : State) : Host.Outcome State Fault Refusal :=
  whenUp s fun x => x.vecRun n 0x29 4 (lane2 fun a b => plain (a - b))
/-- IMUL (0x2A, R63). -/
def execVImul (n : Fin 16) (s : State) : Host.Outcome State Fault Refusal :=
  whenUp s fun x => x.vecRun n 0x2A 4 (lane2 fun a b => plain (a * b))
/-- SHL (0x2B, R63). -/
def execVShl (n : Fin 16) (s : State) : Host.Outcome State Fault Refusal :=
  whenUp s fun x => x.vecRun n 0x2B 4 (lane2 fun a b => plain (shlLane a b))
/-- SHR (0x2C, R63). -/
def execVShr (n : Fin 16) (s : State) : Host.Outcome State Fault Refusal :=
  whenUp s fun x => x.vecRun n 0x2C 4 (lane2 fun a b => plain (shrLane a b))
/-- SAR (0x2D, R63). -/
def execVSar (n : Fin 16) (s : State) : Host.Outcome State Fault Refusal :=
  whenUp s fun x => x.vecRun n 0x2D 4 (lane2 fun a b => plain (sarLane a b))
/-- AND (0x2E). -/
def execVAnd (n : Fin 16) (s : State) : Host.Outcome State Fault Refusal :=
  whenUp s fun x => x.vecRun n 0x2E 4 (lane2 fun a b => plain (a &&& b))
/-- OR (0x2F). -/
def execVOr (n : Fin 16) (s : State) : Host.Outcome State Fault Refusal :=
  whenUp s fun x => x.vecRun n 0x2F 4 (lane2 fun a b => plain (a ||| b))
/-- XOR (0x30). -/
def execVXor (n : Fin 16) (s : State) : Host.Outcome State Fault Refusal :=
  whenUp s fun x => x.vecRun n 0x30 4 (lane2 fun a b => plain (a ^^^ b))
/-- IMIN (0x31, R63). -/
def execVImin (n : Fin 16) (s : State) : Host.Outcome State Fault Refusal :=
  whenUp s fun x => x.vecRun n 0x31 4 (lane2 fun a b => plain (if a.toInt ≤ b.toInt then a else b))
/-- IMAX (0x32, R63). -/
def execVImax (n : Fin 16) (s : State) : Host.Outcome State Fault Refusal :=
  whenUp s fun x => x.vecRun n 0x32 4 (lane2 fun a b => plain (if a.toInt ≤ b.toInt then b else a))
/-- ICMP (0x33). -/
def execVIcmp (n : Fin 16) (s : State) : Host.Outcome State Fault Refusal :=
  whenUp s fun x => x.vecRun n 0x33 4 fun y _ c i => maskEnd (icmpCond (fld i.imm 2 0)) y c i
/-- NOISEU (0x38, R156). -/
def execVNoiseu (n : Fin 16) (s : State) : Host.Outcome State Fault Refusal :=
  whenUp s fun x => x.vecRun n 0x38 4 fun y _ c i =>
    laneEnd y c i 0 ((List.range 2048).map fun l =>
      plain (noiseUniform (laneNoise c (noiseBase c i.va) (fld i.imm 27 24) (fld i.imm 23 0) l).1))
/-- NOISEG (0x39, R157). -/
def execVNoiseg (n : Fin 16) (s : State) : Host.Outcome State Fault Refusal :=
  whenUp s fun x => x.vecRun n 0x39 4 fun y _ c i =>
    laneEnd y c i 0 ((List.range 2048).map fun l =>
      let w := laneNoise c (noiseBase c i.va) (fld i.imm 27 24) (fld i.imm 23 0) l
      plain (noiseGauss w.1 w.2.1))
/-- LD (0x40, R145). -/
def execVLd (n : Fin 16) (s : State) : Host.Outcome State Fault Refusal :=
  whenUp s fun x => x.vecRun n 0x40 4 fun y _ c i => load 4 n y c i
/-- LDH (0x41). -/
def execVLdh (n : Fin 16) (s : State) : Host.Outcome State Fault Refusal :=
  whenUp s fun x => x.vecRun n 0x41 4 fun y _ c i => load 2 n y c i
/-- LDB (0x42). -/
def execVLdb (n : Fin 16) (s : State) : Host.Outcome State Fault Refusal :=
  whenUp s fun x => x.vecRun n 0x42 4 fun y _ c i => load 1 n y c i
/-- ST (0x43). -/
def execVSt (n : Fin 16) (s : State) : Host.Outcome State Fault Refusal :=
  whenUp s fun x => x.vecRun n 0x43 4 fun y _ c i => store 4 n y c i
/-- STH (0x44). -/
def execVSth (n : Fin 16) (s : State) : Host.Outcome State Fault Refusal :=
  whenUp s fun x => x.vecRun n 0x44 4 fun y _ c i => store 2 n y c i
/-- STB (0x45). -/
def execVStb (n : Fin 16) (s : State) : Host.Outcome State Fault Refusal :=
  whenUp s fun x => x.vecRun n 0x45 4 fun y _ c i => store 1 n y c i
/-- GATHER (0x46, R146). -/
def execVGather (n : Fin 16) (s : State) : Host.Outcome State Fault Refusal :=
  whenUp s fun x => x.vecRun n 0x46 4 fun y _ c i => gather 4 n y c i
/-- GATHERH (0x47, R146). -/
def execVGatherh (n : Fin 16) (s : State) : Host.Outcome State Fault Refusal :=
  whenUp s fun x => x.vecRun n 0x47 4 fun y _ c i => gather 2 n y c i
/-- LDL (0x48, R164). -/
def execVLdl (n : Fin 16) (s : State) : Host.Outcome State Fault Refusal :=
  whenUp s fun x => x.vecRun n 0x48 4 (ldl n)
/-- STE (0x49, R164). -/
def execVSte (n : Fin 16) (s : State) : Host.Outcome State Fault Refusal :=
  whenUp s fun x => x.vecRun n 0x49 4 fun y _ c i => ste n y c i
/-- SMOV (0x50). -/
def execVSmov (n : Fin 16) (s : State) : Host.Outcome State Fault Refusal :=
  whenUp s fun x => x.vecRun n 0x50 4 fun y _ c i => .done y (c.setSc i.vd i.imm) (0, 0, 0) none
/-- SPAR (0x51). -/
def execVSpar (n : Fin 16) (s : State) : Host.Outcome State Fault Refusal :=
  whenUp s fun x => x.vecRun n 0x51 4 fun y _ c i => .done y (c.setSc i.vd (mget 0 c.p (fld i.imm 5 0))) (0, 0, 0) none
/-- SADD (0x52). -/
def execVSadd (n : Fin 16) (s : State) : Host.Outcome State Fault Refusal :=
  whenUp s fun x => x.vecRun n 0x52 4 fun y _ c i => .done y (c.setSc i.vd (c.sc i.va + i.imm)) (0, 0, 0) none
/-- REP (0x60, R143): the count is IMM[15:0], or S[VA] when that is 0; a count of 0 skips the body. -/
def execVRep (n : Fin 16) (s : State) : Host.Outcome State Fault Refusal :=
  whenUp s fun x => x.vecRun n 0x60 4 fun y _ c i =>
    let len := fld i.imm 27 16
    let cnt := if fld i.imm 15 0 = 0 then (c.sc i.va).toNat else fld i.imm 15 0
    if cnt = 0 ∨ len = 0 then .done y { c with pc := c.pc + len } (0, 0, 0) none
    else .done y { c with reps := (c.pc + 1, c.pc + 1 + len, cnt - 1) :: c.reps } (0, 0, 0) none

end Sys2Proof.Machine
end

