-- ==== Sys2Proof/Machine/Fused.lean ====
section
/-! DEFINITION. FUSED2 (R181 to R184), its row functions (R160 to R162) and attention's positions and biases (R191 to
R199). The core's job walks the chunks: first product, drains to the landing buffers, row function, second product. -/
namespace Sys2Proof.Machine

/-- The 16 words of the row-function record, read once at the start of an iteration (R160, R191, R192). -/
def State.rowRec (s : State) (k n : Nat) (d : List W32) : List W32 :=
  let h := df d 15 23 0
  let e := s.home (k / 16) h
  if e.st = stUnwritten then List.replicate 16 0
  else (List.range 16).map fun i => s.word (s.yardAddr n e.yoff + 4 * i)

/-- Word of a record at a byte offset. -/
def recWord (rc : List W32) (o : Nat) : W32 := wordAt rc (o / 4)

/-- Effective CONT and FINAL of a softmax task: AUTO derives them from the iteration of its innermost LOOP and that LOOP's
COUNT (R192). -/
def softCont (rc : List W32) (t : Task) : Bool :=
  let fl := recWord rc 4
  bit fl 2 || (bit fl 3 && decide (0 < t.count) && decide (0 < t.iter))
def softFinal (rc : List W32) (t : Task) : Bool :=
  let fl := recWord rc 4
  bit fl 0 && (!bit fl 3 || decide (t.count = 0) || decide (t.iter + 1 = t.count))

/-- Yard offset and bytes of the state region (R162, R200). -/
def softRegion (rc d : List W32) : Nat × Nat := (fld (recWord rc 0x0C) 24 0, 256 * (8 + 4 * fWidth d))

/-- The bias table of a record, 0 without BIAS. -/
def softTable (rc : List W32) : Nat := if bit (recWord rc 4) 1 then fld (recWord rc 8) 23 0 else 0

/-- The checks of Table 7-4 at the start of an iteration, in order; 0 when all pass. -/
def State.softCode (s : State) (k n : Nat) (rc : List W32) (t : Task) : Nat :=
  let d := t.desc
  let w (o : Nat) : W32 := recWord rc o
  let fl := w 4
  let bias := bit fl 1
  let bt := fld (w 8) 23 0
  let st := softRegion rc d
  let ax := fld fl 5 4
  let glog := fld (w 0x28) 18 16
  let axes := if ax = 1 then 3 else 1
  let heads := fld (w 0x2C) 15 0
  let resOk := decide (fld fl 31 6 = 0) && decide (fld (w 8) 31 24 = 0) && decide (fld (w 0x0C) 31 25 = 0) &&
    decide (fld (w 0x28) 31 19 = 0) && decide (fld (w 0x2C) 31 16 = 0) &&
    [0x34, 0x38, 0x3C].all fun o => decide (w o = 0)
  let grid := decide (ax = 0) || (!decide (fld (w 0x30) 15 0 = 0) && !decide (fld (w 0x30) 31 16 = 0))
  let e := s.home (k / 16) bt
  let qb := ((w 0x10).toNat + t.iter * (w 0x18).toNat) % 2 ^ 32
  let kb := ((w 0x14).toNat + t.iter * (w 0x1C).toNat) % 2 ^ 32
  let qTop := Nat.min (qb + 255 / 2 ^ glog) ((w 0x20).toNat - 1)
  let kTop := Nat.min (kb + fN1 d - 1) ((w 0x24).toNat - 1)
  let anyQ := decide (qb < (w 0x20).toNat)
  let anyK := decide (kb < (w 0x24).toNat)
  if !(resOk && decide (ax ≤ 1) && decide (glog ≤ 4) && grid && (bias == !decide (bt = 0))) then 0x10
  else if st.1 % 256 ≠ 0 then 0x12
  else if yardSize < st.1 + st.2 then 0x13
  else
    let b1 := if !bias then 0
      else if !s.handleOk (k / 16) bt || decide (e.st = stFree) then 0x20
      else if e.kind ≠ 0 ∨ e.lcore ≠ n then 0x20
      else orCode (e.readCode (s.coldFault (k / 16) n))
        (if e.bytes < heads * axes * 768 ∨ heads < fld (w 0x28) 15 0 + 2 ^ glog then 0x13 else 0)
    if b1 ≠ 0 then b1
    else if (anyQ && decide (2097152 ≤ qTop)) || (anyK && decide (2097152 ≤ kTop)) then 0x13
    else 0

/-! Distance bias (R194 to R198). -/

/-- Bucket of a signed distance (R196). -/
def bucket (q kk : Nat) : Nat :=
  let a := if q < kk then kk - q else q - kk
  let b := if a ≤ 64 then a else let e := Nat.log2 a; 65 + 8 * (e - 6) + a / 2 ^ (e - 3) % 8
  if q < kk then b + 192 else b

/-- The bias b[j] of query row r and key column j of a softmax task (R195, R197). -/
def State.softBias (s : State) (k n : Nat) (rc : List W32) (t : Task) (r j : Nat) : W32 :=
  let w (o : Nat) : W32 := recWord rc o
  let glog := fld (w 0x28) 18 16
  let qp := ((w 0x10).toNat + t.iter * (w 0x18).toNat) % 2 ^ 32 + r / 2 ^ glog
  let kp := ((w 0x14).toNat + t.iter * (w 0x1C).toNat) % 2 ^ 32 + j
  if (w 0x20).toNat ≤ qp ∨ (w 0x24).toNat ≤ kp then 0xFF800000#32
  else if !bit (w 4) 1 then 0
  else
    let qh := fld (w 0x28) 15 0 + r % 2 ^ glog
    let bt := softTable rc
    let e := s.home (k / 16) bt
    let rd := s.yard n (s.taskCold k t.serial bt)
    let three := decide (fld (w 4) 5 4 = 1)
    let tab (ax b : Nat) : W32 :=
      (b16ToF32 (BitVec.ofNat 32 (rd16 rd (e.yoff + ((qh * (if three then 3 else 1) + ax) * 384 + b) * 2)))).bits
    if three then
      let gh := fld (w 0x30) 15 0
      let gw := fld (w 0x30) 31 16
      let tf := tab 0 (bucket (qp / (gh * gw)) (kp / (gh * gw)))
      let ty := tab 1 (bucket (qp / gw % gh) (kp / gw % gh))
      let tx := tab 2 (bucket (qp % gw) (kp % gw))
      (fadd (fadd tf ty).bits tx).bits
    else tab 0 (bucket qp kp)

/-! Trees and values. -/

/-- The value of a fixed pairwise tree over a power of two of lanes (R148). -/
def treeValue (f : W32 → W32 → FRes) (n : Nat) (l : List W32) : W32 :=
  match (treeLevels f n l).getLast? with
  | some (x :: _) => x.bits
  | _ => l.headD 0

/-- 1 / n rounded to F32 (R160). -/
def recipNat (n : Nat) : W32 :=
  let q := 2 ^ 60 / n
  (round32 (mkFin false ((2 * q + (if 2 ^ 60 % n = 0 then 0 else 1) : Nat) : Int) (-61))).bits

def isInf32 (w : W32) : Bool := decide (w.toNat % 2 ^ 31 = 0x7F800000)

/-- A value that a row function writes as B16, with its events: produced when no input was a NaN, saturated when every
input was finite (R160). -/
def rowOut (ins : List W32) (y : W32) : FRes :=
  let r := f32ToB16 y
  { bits := r.bits, sat := decide (r.bits.toNat % 32768 = 0x7F80) && !ins.any fun x => isInf32 x || isNan32 x
    flush := r.flush, nan := isNan32 y && !ins.any isNan32 }

/-- The same for an F32 output. -/
def rowOut32 (ins : List W32) (y : W32) (flushed : Bool) : FRes :=
  { bits := y, sat := isInf32 y && !ins.any fun x => isInf32 x || isNan32 x, flush := flushed
    nan := isNan32 y && !ins.any isNan32 }

/-! The job. -/

/-- Value (r, c) of a chunk from the banks taken by array. -/
def chunkVal (d : List W32) (got : SMap (SMap W32)) (r c : Nat) : W32 :=
  match (fUses d).find? fun u =>
      let p := placeOf (fTile d) (fMask d) u.array
      decide (p.1 ≤ r) && decide (r < p.1 + 256) && decide (p.2 ≤ c) && decide (c < p.2 + 256) with
  | some u =>
    let p := placeOf (fTile d) (fMask d) u.array
    mget 0 (mget [] got u.array) (256 * (r - p.1) + (c - p.2))
  | none => 0

/-- Tiles of a matrix of B16 operands of `cols` columns (rows 512 apart). -/
def tilesOf (kt rows cols : Nat) (x : List (List FRes)) : List (SMap W32) :=
  (List.range (cols / kt)).map fun i =>
    (List.range rows).foldl (fun m r =>
      ((((x[r]?).getD []).drop (i * kt)).take kt).zipIdx.foldl (fun a p => mset 0 a (512 * r + p.2) p.1.bits) m) []

/-- The half of an edge file that holds rows 256x to 256x + 255 of an intermediate tile. -/
def tileHalf (kt x : Nat) (tile : SMap W32) : SMap Byte :=
  (List.range 256).foldl (fun m r => (List.range kt).foldl (fun a kk =>
    msetList 0 a (tileOff kt r kk 2) (leBytes 2 (mget 0 tile (512 * (256 * x + r) + kk)).toNat)) m) []

/-- Trap element of the first product and of the row functions (R184). -/
def fusedElem (d : List W32) (r j : Nat) : Nat := 2 ^ 31 + r * (if fFn d = 3 then 2 * fN1 d else fN1 d) + j

/-- The lowest element that produced a NaN. -/
def lowestNan (l : List (Nat × FRes)) : Option Nat :=
  (l.filter fun r => r.2.nan).foldl (fun b r => match b with
    | none => some r.1
    | some e => some (Nat.min e r.1)) none

/-- Byte o of tile ti of activation x of a FUSED2's first product (row 1 of Table 6-6). -/
def fusedHalf (rda : Nat → Byte) (d : List W32) (x ti : Nat) : Nat → Byte :=
  halfByte rda (df d 7 24 0 + (x * (fK1 d / fKt1 d) + ti) * tileBytes (fB8 d) (fKt1 d)) (fB8 d) false (fKt1 d)

/-- Tile ti of the first product as the half of file f holds it. -/
def fusedActTile (rda : Nat → Byte) (d : List W32) (f ti : Nat) : SMap Byte :=
  let x := ((fileActs (fTile d) (fMask d)).find? fun p => decide (p.1 = f)).elim 0 (·.2)
  halfOf (tileBytes (fB8 d) (fKt1 d)) (fusedHalf rda d x ti)

/-- The tile that comes into file f's shadow half for the job: the next of the first product, an intermediate tile, or the
first of the next chunk (R181). -/
def ArrJob.fusedNext (j : ArrJob) (rda : Nat → Byte) (f : Nat) : Option (SMap Byte) :=
  let d := j.desc
  let left := if f = 0 then j.left0 else j.left1
  let chunkTile := if j.chunk + 1 < fChunks d then some (fusedActTile rda d f 0) else none
  if j.phase = 0 then
    if 0 < left then some (fusedActTile rda d f (fK1 d / fKt1 d - left))
    else if fFn d = 4 then chunkTile else none
  else if j.phase = 1 then
    match j.pending with
    | tile :: _ => some (tileHalf (fKt2 d) f tile)
    | [] => if fFn d = 4 then none else chunkTile
  else if j.phase = 2 then chunkTile
  else none

/-- The shadow halves of a FUSED2's files that are free take what comes next. -/
def State.fusedLoad (s : State) (n : Nat) : State :=
  match (s.core n).arr with
  | none => s
  | some j =>
    let rda := s.yard n (s.taskCold j.owner.1 j.owner.2 (df j.desc 4 23 0))
    s.modCore n fun c => (filesOf (fTile j.desc) (fMask j.desc)).foldl (fun x f =>
      if (x.edge f).shadow.full then x
      else match j.fusedNext rda f with
        | some b => x.setEdge f { x.edge f with shadow := .ofLoader b }
        | none => x) c

/-- Begin the first product of chunk c (R181): `file` is the file whose swap begins it, none when all files swap at the
task's start. -/
def State.fusedFirst (s : State) (n : Nat) (j : ArrJob) (c index : Nat) (file : Option Nat) : State :=
  let k := j.owner.1
  let d := j.desc
  let nt := fK1 d / fKt1 d
  let files := filesOf (fTile d) (fMask d)
  let swaps (f : Nat) : Bool := files.contains f && (match file with | none => true | some g => decide (g = f))
  let left (f : Nat) : Nat := if !files.contains f then 0 else if swaps f then nt - 1 else nt
  let rda := s.yard n (s.taskCold k j.owner.2 (df d 4 23 0))
  let rdw := s.yard n (s.taskCold k j.owner.2 (df d 5 23 0))
  let base := df d 8 24 0 + c * w1Stride d
  let bytes := tileBytes (fB8 d) (fKt1 d)
  let tile0 (f : Nat) : SMap Byte :=
    let sh := ((s.core n).edge f).shadow
    let load := fusedActTile rda d f 0
    match file with
    | none => if sh.holds k index bytes then sh.bytes else load
    | some _ => sh.taken load
  let half (x ti : Nat) : Nat → Byte :=
    if ti = 0 then
      let m := tile0 (((fileActs (fTile d) (fMask d)).find? fun p => decide (p.2 = x)).elim 0 (·.1))
      fun o => mget 0 m o
    else fusedHalf rda d x ti
  let o : Operands :=
    if fB8 d then
      { steps := fK1 d / 2, act := fun x i => actCol8 (half x (2 * i / fKt1 d)) (fKt1 d) (2 * i % fKt1 d)
        wgt := fun u i => wgtRow8 rdw base (fStreams d) (fK1 d) u.stream (2 * i) }
    else
      { steps := fK1 d, act := fun x i => actCol16 (half x (i / fKt1 d)) (fKt1 d) (i % fKt1 d)
        wgt := fun u i => wgtRow16 rdw base (fStreams d) u.stream i }
  let job := { j with chunk := c, phase := 0, left0 := left 0, left1 := left 1, got := [], pending := [], tileNo := 0, block := 0 }
  let s1 := (s.modCore n fun x => { files.foldl (fun y f => if swaps f then y.swapIn f (tile0 f) none else y) x with
    arr := some job }).fusedLoad n
  s1.sweep k j.owner.2 (fBank d) (fUses d) true c o
    (fun a r q => let p := placeOf (fTile d) (fMask d) a; fusedElem d (p.1 + r) (c * fWidth d + p.2 + q)) (dDst d)

/-- The next blocks of the intermediate tile in the edge file sweep while their banks are free (R181). -/
def State.fusedBlock (s : State) (n : Nat) : State :=
  match (s.core n).arr with
  | none => s
  | some j =>
    let d := j.desc
    let k := j.owner.1
    let dst := s.home (k / 16) (dDst d)
    let nb := fBlocks d dst
    let soft := decide (fFn d = 0)
    let b := (fBank d + (if soft then 1 else 1 + j.block % 2)) % 4
    let free := (fUses d).all fun u =>
      let x := (s.core n).bank u.array b
      !decide (x.st = .busy) || (soft && decide (x.use = .sweep) && decide (x.owner = j.owner))
    if !(decide (dType d = 2) && decide (j.phase = 1) && decide (0 < j.tileNo) && decide (j.block < nb) && free) then s
    else
      let rdw := s.yard n (s.taskCold k j.owner.2 (df d 6 23 0))
      let base := df d 9 24 0 + j.block * fN1 d * fStreams d * 512
      let k0 := (if fFn d = 4 then 0 else j.chunk * fU d) + (j.tileNo - 1) * fKt2 d
      let o : Operands :=
        { steps := fKt2 d
          act := fun x i =>
            let v := (List.range 256).map fun r => arrayIn16 (mget 0 j.tile (512 * (256 * x + r) + i)).toNat
            { vals := v.map fun p => [p.1], flush := if j.block = 0 then (v.filter fun p => p.2).length else 0, sat := 0 }
          wgt := fun u i => wgtRow16 rdw base (fStreams d) u.stream (k0 + i) }
      let plainWrite := j.firstTile && fClear d
      let lastOne := decide (j.block + 1 = nb)
      let phase := if !lastOne || !j.pending.isEmpty || soft then 1
        else if fFn d = 4 ∨ j.chunk + 1 = fChunks d then 3 else 2
      let s1 := s.modCore n fun x => { x with
        arr := some { j with block := j.block + 1, firstTile := j.firstTile && !lastOne, phase := phase } }
      s1.sweep k j.owner.2 b (fUses d) (!soft || decide (j.tileNo = 1)) (2 * j.block + b2n plainWrite) o
        (fun a r q =>
          let p := placeOf (fTile d) (fMask d) a
          dst.elemIndex (df d 14 15 0 * 256 + p.1 + r) (df d 14 31 16 * 256 + j.block * fWidth d + p.2 + q)) (dDst d)

/-- Sweep as many blocks as can start now. -/
def State.fusedBlocks (s : State) (n : Nat) : State :=
  match (s.core n).arr with
  | none => s
  | some j => (List.range (fBlocks j.desc (s.home (j.owner.1 / 16) (dDst j.desc)))).foldl (fun x _ => x.fusedBlock n) s

/-- The next intermediate tile has swapped in at a file (R181). -/
def State.fusedTile (s : State) (n f : Nat) (j : ArrJob) : State :=
  match j.pending with
  | [] => s
  | tile :: rest =>
    let files := filesOf (fTile j.desc) (fMask j.desc)
    let left (g : Nat) : Nat := if files.contains g && !decide (g = f) then 1 else 0
    let s1 := s.modCore n fun c =>
      files.foldl (fun x g => x.swapIn g (tileHalf (fKt2 j.desc) g tile) none)
        { c with arr := some { j with pending := rest, tile := tile, tileNo := j.tileNo + 1, block := 0, left0 := left 0,
                                      left1 := left 1 } }
    (s1.fusedLoad n).fusedBlocks n

/-! The row functions. -/

/-- Take what stands in the landing buffers of the job's task (R163). -/
def State.takeLandings (s : State) (n : Nat) (j : ArrJob) : State × ArrJob :=
  (List.range 2).foldl (fun acc b =>
    let lb := (acc.1.core n).landing b
    if lb.full && decide (lb.owner = j.owner) then
      (acc.1.modCore n fun c => c.setLanding b .init, { acc.2 with got := mset [] acc.2.got lb.array lb.data })
    else acc) (s, j)

/-- Store the job. -/
def State.setJob (s : State) (n : Nat) (j : ArrJob) : State := s.modCore n fun c => { c with arr := some j }

/-- Every array in use has been taken. -/
def ArrJob.whole (j : ArrJob) : Bool := (fUses j.desc).all fun u => j.got.any fun p => decide (p.1 = u.array)

/-- The results of a row function go to the edge file tile by tile; counts and traps first, over its B16 operand and the
state that it writes with it (R160, R184). `col` is the column of the first product that a result's trap names. -/
def State.rowDone (s : State) (n : Nat) (j : ArrJob) (cols kt : Nat) (col : Nat → Nat) (x : List (List FRes))
    (state : List (Nat × FRes)) : State :=
  let k := j.owner.1
  let all := (x.zipIdx.flatMap fun r => r.1.zipIdx.map fun v => (fusedElem j.desc r.2 (col v.2), v.1)) ++ state
  let cnt := resCounts (all.map fun p => p.2)
  let s1 := s.addCounts k j.owner.2 cnt.1 cnt.2.1 cnt.2.2
  let trap := match s1.task? k j.owner.2 with | some t => t.trap | none => false
  match (if trap then lowestNan all else none) with
  | some e => s1.nanTrap k j.owner.2 4 (dDst j.desc) e
  | none => (s1.setJob n { j with pending := tilesOf kt (fRows j.desc) cols x, got := [], phase := 1, tileNo := 0
                                  block := 0 }).fusedLoad n

/-- A row function of one chunk: GELU, SiLU, SwiGLU (R160, R161). -/
def State.rowPointwise (s : State) (n fn : Nat) : State :=
  match (s.core n).arr with
  | none => s
  | some j0 =>
    if !(decide (dType j0.desc = 2) && decide (fFn j0.desc = fn) && decide (j0.phase = 0)) then s
    else
      let r := s.takeLandings n j0
      let j := r.2
      if !j.whole then r.1.setJob n j
      else
        let d := j.desc
        let out (i c : Nat) : FRes :=
          let x := chunkVal d j.got i c
          match fn with
          | 1 => rowOut [x] (gelu x)
          | 2 => rowOut [x] (silu x)
          | _ => let u := chunkVal d j.got i (c + fWidth d / 2); rowOut [x, u] (swiglu x u)
        let m := (List.range (fRows d)).map fun i => (List.range (fU d)).map (out i)
        let cyc := (if fn = 1 then 13 else if fn = 2 then 11 else 12) * (fRows d * fU d / 2048)
        (r.1.countWrap .coreVecissue n cyc).rowDone n j (fU d) (fKt2 d) (fun c => j.chunk * fWidth d + c) m []

/-- RMS scaling: keep a chunk in the scratch region, and after the last one scale every row (R160, R181). -/
def State.rowRms (s : State) (n : Nat) : State :=
  match (s.core n).arr with
  | none => s
  | some j0 =>
    if !(decide (dType j0.desc = 2) && decide (fFn j0.desc = 4) && decide (j0.phase = 0)) then s
    else
      let r := s.takeLandings n j0
      let j := r.2
      let d := j.desc
      if !j.whole then r.1.setJob n j
      else
        let scr := r.1.yardAddr n (fld (recWord j.rowRec 8) 24 0)
        let kept := (List.range 256).foldl (fun x i => (List.range (fU d)).foldl (fun y c =>
          y.putBytes (scr + 4 * (i * fN1 d + j.chunk * fU d + c)) (leBytes 4 (chunkVal d j.got i c).toNat)) x) r.1
        if j.chunk + 1 < fChunks d then (kept.setJob n { j with got := [], phase := 2 }).fusedLoad n
        else
          let eps := recWord j.rowRec 0
          let gam := kept.yardAddr n (fld (recWord j.rowRec 4) 24 0)
          let row (i : Nat) : List FRes :=
            let xs := (List.range (fN1 d)).map fun c => kept.word (scr + 4 * (i * fN1 d + c))
            let rssq (l : List W32) : W32 :=
              treeValue fadd 11 ((l.map fun x => (fmul x x).bits) ++ List.replicate (2048 - l.length) 0)
            let sum := if xs.length ≤ 2048 then rssq xs else (fadd (rssq (xs.take 2048)) (rssq (xs.drop 2048))).bits
            let kk := (vrsqrt (fadd (fmul sum (recipNat (fN1 d))).bits eps).bits).bits
            let anyNan := xs.any isNan32
            xs.zipIdx.map fun p =>
              let g := kept.word (gam + 4 * p.2)
              let y := rowOut [p.1, g] (fmul (fmul p.1 kk).bits g).bits
              { y with nan := y.nan && !anyNan }
          (kept.countWrap .coreVecissue n (6 * (256 * fN1 d / 2048))).rowDone n j (fN1 d) (fKt2 d) id
            ((List.range 256).map row) []

/-- Log2 of a chunk's width. -/
def fLog (d : List W32) : Nat := Nat.log2 (fU d)

/-- Online softmax, the scores of one chunk: operand, m, l and the rescaling of o (R162). The new m and l of a row are
state that the function writes: they count with the operand, and a trap in them names the chunk's first column of the row
(the spec gives state no index in DST: DESIGN CHOICE, log 115). -/
def State.softScores (s : State) (n : Nat) (j : ArrJob) (t : Task) : State :=
  let d := j.desc
  let k := j.owner.1
  let c := recWord j.rowRec 0
  let sm := (s.core n).softmax
  let rows := (List.range 256).map fun i =>
    let sc := (List.range (fU d)).map fun q => chunkVal d j.got i q
    let x := sc.zipIdx.map fun p => (ffma p.1 c (s.softBias k n j.rowRec t i (j.chunk * fU d + p.2))).bits
    let m := mget 0 sm.m i
    let l := mget 0 sm.l i
    let mNew := (fmax m (treeValue fmax (fLog d) x)).bits
    let masked := decide (mNew = 0xFF800000#32)
    let a := if masked then 0x3F800000#32 else (vexp2 (fsub m mNew).bits).bits
    let p := x.map fun y => if masked then 0 else (vexp2 (fsub y mNew).bits).bits
    let lNew := ffma l a (treeValue fadd (fLog d) p)
    let bad := sc.any isNan32 || isNan32 m
    let mRes : FRes := { bits := mNew, nan := isNan32 mNew && !bad }
    ((List.zip sc p).map fun q => { rowOut [q.1] q.2 with nan := isNan32 q.2 && !bad },
      [mRes, rowOut32 (m :: l :: sc) lNew.bits lNew.flush], a)
  let val (p : List FRes) (o : Nat) : W32 := ((p[o]?).map fun r => r.bits).getD 0
  let sm1 : Softmax := { sm with m := sparse 0 0 (rows.map fun r => val r.2.1 0), l := sparse 0 0 (rows.map fun r => val r.2.1 1),
                                 a := sparse 0 0 (rows.map fun r => r.2.2) }
  let state := rows.zipIdx.flatMap fun r => r.1.2.1.map fun v => (fusedElem d r.2 (j.chunk * fWidth d), v)
  ((s.modCore n fun x => { x with softmax := sm1 }).countWrap .coreVecissue n (11 * (256 * fU d / 2048))).rowDone n j
    (fU d) (fKt2 d) (fun c => j.chunk * fWidth d + c) (rows.map fun r => r.1) state

/-- Element of DST that column c of row r of the output stands for. -/
def softElem (d : List W32) (dst : HEntry) (r c : Nat) : Nat := dst.elemIndex (df d 14 15 0 * 256 + r) (df d 14 31 16 * 256 + c)

/-- Counts of results by element of DST, and the trap of the lowest; else `go` on (R160, R166). -/
def State.softCount (s : State) (j : ArrJob) (t : Task) (out : List (Nat × FRes)) (go : State → State) : State :=
  let k := j.owner.1
  let cnt := resCounts (out.map fun p => p.2)
  let s1 := s.addCounts k j.owner.2 cnt.1 cnt.2.1 cnt.2.2
  match (if t.trap then lowestNan out else none) with
  | some e => s1.nanTrap k j.owner.2 4 (dDst j.desc) e
  | none => go s1

/-- The end of a softmax task: the result with FINAL, else the state region, whose values have counted as the chunks made
them (R162, R200). -/
def State.softEnd (s : State) (n : Nat) (j : ArrJob) (t : Task) : State :=
  let d := j.desc
  let k := j.owner.1
  let sm := (s.core n).softmax
  let w := fWidth d
  let o (r c : Nat) : W32 := mget 0 sm.o (4096 * r + c)
  let dst := s.home (k / 16) (dDst d)
  let finish (x : State) : State := (x.setJob n { j with phase := 3 }).checkLanded k j.owner.2
  if softFinal j.rowRec t then
    let out := (List.range 256).flatMap fun r =>
      let l := mget 0 sm.l r
      let zero := decide (l.toNat % 2 ^ 31 = 0)
      let inv := (vrecip l).bits
      (List.range w).map fun c =>
        ((r, c), if zero then plain 0
          else let y := fmul (o r c) inv
            rowOut32 [o r c, l] y.bits y.flush)
    let s1 := out.foldl (fun x p =>
      x.putBytes (x.yardAddr n (fOff d + tileOff w p.1.1 p.1.2 4)) (leBytes 4 p.2.bits.toNat)) s
    s1.softCount j t (out.map fun p => (softElem d dst p.1.1 p.1.2, p.2)) finish
  else
    let st := s.yardAddr n (softRegion j.rowRec d).1
    finish ((List.range 256).foldl (fun x r =>
      let a := st + r * (8 + 4 * w)
      x.putBytes a (leBytes 4 (mget 0 sm.m r).toNat ++ leBytes 4 (mget 0 sm.l r).toNat ++
        (List.range w).flatMap fun c => leBytes 4 (o r c).toNat)) s)

/-- Online softmax, the second product of the chunk: o is updated, with its counts as state of the function, and after the
last chunk the task's output is written (R160, R162). -/
def State.softOutput (s : State) (n : Nat) (j : ArrJob) (t : Task) : State :=
  let d := j.desc
  let sm := (s.core n).softmax
  let dst := s.home (j.owner.1 / 16) (dDst d)
  let new := (List.range 256).flatMap fun r => (List.range (fWidth d)).map fun c =>
    let old := mget 0 sm.o (4096 * r + c)
    let a := mget 0 sm.a r
    let v := chunkVal d j.got r c
    let y := ffma old a v
    ((r, c), rowOut32 [old, a, v] y.bits y.flush)
  let o1 := new.foldl (fun m p => mset 0 m (4096 * p.1.1 + p.1.2) p.2.bits) []
  let s1 := (s.modCore n fun x => { x with softmax := { sm with o := o1 } }).countWrap .coreVecissue n
    (256 * fWidth d / 2048)
  s1.softCount j t (new.map fun p => (softElem d dst p.1.1 p.1.2, p.2)) fun x =>
    if j.chunk + 1 < fChunks d then (x.setJob n { j with got := [], phase := 2 }).fusedLoad n
    else x.softEnd n { j with got := [] } t

/-- ONLINE_SOFTMAX: the scores of a chunk, or its second product, whichever has landed (R162). -/
def State.rowSoftmax (s : State) (n : Nat) : State :=
  match (s.core n).arr with
  | none => s
  | some j0 =>
    match s.task? j0.owner.1 j0.owner.2 with
    | none => s
    | some t =>
      if !(decide (dType j0.desc = 2) && decide (fFn j0.desc = 0) && decide (j0.phase ≤ 1)) then s
      else
        let r := s.takeLandings n j0
        if !r.2.whole then r.1.setJob n r.2
        else if r.2.phase = 0 then r.1.softScores n r.2 t
        else r.1.softOutput n r.2 t

/-! FUSED2. -/

/-- Bytes of the W1 buffer: the strides before the last chunk, and that chunk whole (row 7 of Table 6-6). -/
def w1Bytes (d : List W32) : Nat := (fChunks d - 1) * w1Stride d + wgtBytes (fB8 d) (fK1 d) (fStreams d)

/-- A softmax task without an effective FINAL writes its partial state into a DST that holds the state region (R200). -/
def State.softPartial (s : State) (k n : Nat) (rc d : List W32) : Bool :=
  let dst := s.home (k / 16) (dDst d)
  let st := softRegion rc d
  s.handleOk (k / 16) (dDst d) && decide (dst.kind = 0) && decide (dst.lcore = n) && decide (dst.yoff ≤ st.1) &&
    decide (st.1 + st.2 ≤ dst.yoff + dst.bytes)

/-- Fault of a FUSED2's operands and result at its issue. -/
def State.fusedCode (s : State) (k n : Nat) (t : Task) : Nat :=
  let d := t.desc
  let ten := k / 16
  let dst := s.home ten (dDst d)
  let nb := fBlocks d dst
  let nt := fK1 d / fKt1 d
  let len := nt * tileBytes (fB8 d) (fKt1 d) * (if fTile d = 4 then 2 else 1)
  let rcOff := (s.home ten (df d 15 23 0)).yoff
  let rc := s.rowRec k n d
  orCode (s.yardReadCode ten n (df d 4 23 0) (df d 7 24 0) len)
    (orCode (s.yardReadCode ten n (df d 5 23 0) (df d 8 24 0) (w1Bytes d))
      (orCode (s.yardReadCode ten n (df d 6 23 0) (df d 9 24 0) (nb * fN1 d * fStreams d * 512))
        (orCode (s.yardReadCode ten n (df d 15 23 0) rcOff 64)
          (orCode (if fFn d ≠ 0 ∨ softFinal rc t then
              s.yardWriteCode ten n (dDst d) (fOff d) (4 * fRows d * nb * fWidth d) (decide (fFn d ≠ 0) && !fClear d)
            else if s.softPartial k n rc d then s.yardWriteCode ten n (dDst d) (softRegion rc d).1 (softRegion rc d).2 false
            else 0)
            (if fFn d = 0 then s.softCode k n rc t else 0)))))

/-- The softmax state at a task's start (R162). -/
def State.softStart (s : State) (n : Nat) (rc : List W32) (t : Task) : Softmax :=
  if softCont rc t then
    let st := s.yardAddr n (softRegion rc t.desc).1
    let w := fWidth t.desc
    let row (r o : Nat) : W32 := s.word (st + r * (8 + 4 * w) + o)
    { m := sparse 0 0 ((List.range 256).map fun r => row r 0), l := sparse 0 0 ((List.range 256).map fun r => row r 4)
      o := (List.range 256).foldl (fun m r => (List.range w).foldl (fun a c => mset 0 a (4096 * r + c) (row r (8 + 4 * c))) m) []
      a := [] }
  else { m := sparse 0 0 (List.replicate 256 0xFF800000#32), l := [], o := [], a := [] }

/-- The writers of a FUSED2 issue: its result, or the partial state of a softmax task in the DST that holds it (R110, R200);
a DST that holds neither is only named. -/
def State.fusedWrites (s : State) (k n : Nat) (rc : List W32) (t : Task) : State :=
  let d := t.desc
  let ten := k / 16
  let cls := (s.queue k).cls
  let dst := s.home ten (dDst d)
  let covers (off size : Nat) : Bool := decide (off ≤ dst.yoff) && decide (dst.yoff + dst.bytes ≤ off + size)
  if fFn d ≠ 0 ∧ !fClear d then (s.beginWrite ten (dDst d) cls false).setMode k t.serial (dDst d) 2
  else if fFn d ≠ 0 ∨ softFinal rc t then
    s.beginWrite ten (dDst d) cls (covers (fOff d) (4 * fRows d * fBlocks d dst * fWidth d))
  else if s.softPartial k n rc d then s.beginWrite ten (dDst d) cls (covers (softRegion rc d).1 (softRegion rc d).2)
  else s.setMode k t.serial (dDst d) 3

/-- A FUSED2 in flight begins with the first product of chunk 0. -/
def State.runFused (s : State) (k : Nat) (t : Task) : State :=
  let n := (s.queue k).lcore
  let d := t.desc
  let code := s.fusedCode k n t
  if code ≠ 0 then s.abortTask k t.serial code
  else
    let rc := s.rowRec k n d
    let table := if fFn d = 0 ∧ softTable rc ≠ 0 then [softTable rc] else []
    let s1 := ([df d 4 23 0, df d 5 23 0, df d 6 23 0, df d 15 23 0] ++ table).foldl (fun x h => x.startRead k t.serial h) s
    let s2 := s1.fusedWrites k n rc t
    let s3 := if fFn d = 0 then s2.modCore n fun c => { c with softmax := s2.softStart n rc t } else s2
    s3.fusedFirst n { ArrJob.start (k, t.serial) d with rowRec := rc } 0 t.index none

/-- The arrays, the banks and the tensors are free for a FUSED2. -/
def State.fusedReady (s : State) (k : Nat) (d : List W32) : Bool :=
  let n := (s.queue k).lcore
  let c := s.core n
  c.arraysFree && c.banksReady (fUses d) (fBank d) &&
    c.filesReady (filesOf (fTile d) (fMask d)) (tileBytes (fB8 d) (fKt1 d)) &&
    ([df d 4 23 0, df d 5 23 0, df d 6 23 0, df d 15 23 0] ++
      (if fFn d = 0 then [softTable (s.rowRec k n d)] else [])).all fun h => !s.filling (k / 16) h

/-- FUSED2 (R181). -/
def execFused2 (t : Fin 8) (q : Fin 16) (waited : Nat) (s : State) : Host.Outcome State Fault Refusal :=
  whenUp s fun x => x.issueTask (16 * t.val + q.val) waited (fun d => decide (dType d = 2))
    (fun y d => y.fusedReady (16 * t.val + q.val) d) (fun y r => y.runFused (16 * t.val + q.val) r)

/-- ONLINE_SOFTMAX (R162). -/
def execOnlineSoftmax (n : Fin 16) (s : State) : Host.Outcome State Fault Refusal := whenUp s fun x => x.rowSoftmax n
/-- GELU (R160). -/
def execGelu (n : Fin 16) (s : State) : Host.Outcome State Fault Refusal := whenUp s fun x => x.rowPointwise n 1
/-- SILU (R160). -/
def execSilu (n : Fin 16) (s : State) : Host.Outcome State Fault Refusal := whenUp s fun x => x.rowPointwise n 2
/-- SWIGLU (R160, R161). -/
def execSwiglu (n : Fin 16) (s : State) : Host.Outcome State Fault Refusal := whenUp s fun x => x.rowPointwise n 3
/-- RMS_SCALING (R160). -/
def execRmsScaling (n : Fin 16) (s : State) : Host.Outcome State Fault Refusal := whenUp s fun x => x.rowRms n

end Sys2Proof.Machine
end

