-- ==== Sys2Proof/Machine/Checks.lean ====
section
/-! DEFINITION. The loader's checks of one descriptor: rows 8 to 24 of Table 6-3 (R174), with the vector programs that it
names (R140 to R143, R158) and the limits of CONV (Table 8-2) and FUSED2 (Table 6-6). A check is a row with the fault
code of its failure, 0 when it passes. -/
namespace Sys2Proof.Machine

/-- The first failing check. -/
def firstFail (l : List (Nat × Nat)) : Option (Nat × Nat) := l.find? fun p => !decide (p.2 = 0)

/-- Code `c` unless `ok`. -/
def codeUnless (ok : Bool) (c : Nat) : Nat := if ok then 0 else c

/-- First nonzero code of a list. -/
def firstCodeOf (l : List Nat) : Nat := (l.find? fun c => !decide (c = 0)).getD 0

/-! Row 8: types and reserved bits (Tables 4-2 and 4-4). -/

/-- Bits of words 4 to 15 that Table 4-4 gives a type. -/
def typeMasks (typ : Nat) : List W32 :=
  match typ with
  | 1 => [0xFFFFFF, 0xFFFFFFFF, 0xFFFFFFFF, 0x1FFFFFF, 0x1FFFFF, 0xFFFFFFFF, 0xFFFFFFFF, 0x3FF, 0x1FFFFFF, 0x1FFFFFF]
  | 2 => [0xFFFFFF, 0xF0FFFFFF, 0xFFFFFF, 0x0FFFFFFF, 0x1FFFFFF, 0x1FFFFFF, 0x1FFFFF, 0x1FFFFF, 0x7F0F, 0x1FFFFFF,
          0xFFFFFFFF, 0xFFFFFF]
  | 3 => [0xFFFFFF, 0xF0FFFFFF, 0x0FFFFFFF, 0x1FFFFFF, 0x0FFFFFFF, 0xFFFFFFFF, 0xFFFFFFFF, 0x01FF000F]
  | 4 => [0x1FFFFFF, 0xFFFFFF, 0xFFFFFF, 0xFFFFFF, 0xFFFFFFFF, 0xFFFFFFFF]
  | 5 => [0xFFFFFF, 0x1F3, 0xFFFFFFFF, 0xFFFF, 0xFFFFFFFF]
  | 6 => [0xFFFFFF, 0xFFFFFF, 0x7, 0xFFFFFFFF, 0xFFFFFFFF, 0xFFFFFFFF, 0xFFFFFFFF]
  | 7 => [0xFFFFFF, 0, 0x7, 0xFFFFFFFF, 0, 0xFFFFFFFF]
  | 8 => [0xF3, 0x7FFF, 0xFFFFFF, 0xFFFFFF, 0x107, 0xFFFFFFFF, 0xFFFFFFFF]
  | 9 => [0xFFFFFFFF, 0xF, 0xFFFFFF]
  | 10 => [0xFFF, 0xFFFFFFFF, 0x1FFFFFF, 0x7F, 0xFFFFFFFF, 0xFFFFFFFF, 0xFFFFFFFF, 0xFFFFFFFF]
  | 11 => [0xF]
  | 12 => [0x07FF07FF, 0x07FF07FF, 0x07FF07FF, 0x07FF07FF, 1, 0xFFFFFFFF]
  | _ => []

/-- Words of a descriptor or entry keep to the given masks; words past the masks are 0. -/
def masksOk (d masks : List W32) : Bool := d.zipIdx.all fun p => decide (p.1 &&& ~~~(wordAt masks p.2) = 0)

/-- TYPE is one of Table 4-3 and every reserved bit is 0. -/
def typeOk (d : List W32) : Bool :=
  decide (1 ≤ dType d) && decide (dType d ≤ 12) &&
    masksOk d ([0xFFFF07FF, 0x003FFFFF, 0x3FF, 0xFFFFFF] ++ typeMasks (dType d))

/-! Rows 13 to 15: handles. -/

/-- Handle fields that must be nonzero (Table 4-11). -/
def requiredHandles (d : List W32) : List Nat :=
  match dType d with
  | 1 => [dDst d, df d 4 23 0, df d 5 23 0]
  | 2 => [dDst d, df d 4 23 0, df d 5 23 0, df d 6 23 0, df d 15 23 0]
  | 3 => [dDst d, df d 4 23 0, df d 5 23 0]
  | 5 => [df d 4 23 0]
  | 6 => [df d 4 23 0, df d 5 23 0]
  | 7 => [dDst d, df d 4 23 0]
  | 8 => [rSrc d, rAcc d] ++ (if rPartner d then [dDst d] else [])
  | 9 => [dDst d, df d 6 23 0]
  | _ => []

/-- Local handles that a descriptor names (R544). RHANDLE of a SEND over a mortar link is one of them; over a Tunil route it is
a handle of the peer's table (DEDUCED, log 124). -/
def namedHandles (d : List W32) : List Nat :=
  ([dDst d] ++
    (match dType d with
      | 1 => [df d 4 23 0, df d 5 23 0]
      | 2 => [df d 4 23 0, df d 5 23 0, df d 6 23 0, df d 15 23 0]
      | 3 => [df d 4 23 0, df d 5 23 0]
      | 4 => [df d 5 23 0, df d 6 23 0, df d 7 23 0]
      | 5 => [df d 4 23 0]
      | 6 => [df d 4 23 0] ++ (if df d 6 2 0 = 0 then [] else [df d 5 23 0])
      | 7 => [df d 4 23 0]
      | 8 => [rSrc d, rAcc d]
      | 9 => [df d 6 23 0]
      | _ => [])).filter fun h => decide (0 < h)

/-- An array task drains into DST at DRAIN_OFF. -/
def drainsToYard (d : List W32) : Bool :=
  match dType d with
  | 1 => decide (mDrain d = 1 ∨ mDrain d = 2)
  | 2 => true
  | 3 => true
  | _ => false

/-- Handles that a descriptor places by a yard offset (row 14). -/
def placedHandles (d : List W32) : List Nat :=
  (match dType d with
    | 1 => [df d 4 23 0, df d 5 23 0]
    | 2 => [df d 4 23 0, df d 5 23 0, df d 6 23 0]
    | 3 => [df d 4 23 0, df d 5 23 0]
    | _ => []) ++ (if drainsToYard d then [dDst d] else [])

/-- Mortar links that a descriptor names: SEND, RECV, REDUCE and HALO. -/
def namedLinks (d : List W32) : List Nat :=
  (dLink d).toList ++ (dNextLink d).toList ++ (if dType d = 3 then haloLinks d else [])

/-- Row 15: homes, destinations and links of the tenant. -/
def State.placesOk (s : State) (t n : Nat) (d : List W32) : Bool :=
  ((namedHandles d).all fun h => s.homeOk t (s.home t h)) &&
  (if dType d = 5 then
    let e := (moveRec (16 * t) 0 d (s.home t (df d 4 23 0)) 0 0).entry (s.home t (df d 4 23 0))
    match vKind d with
    | 0 => decide (s.cfg.coreTenant (df d 5 7 4) = some t)
    | 3 => s.homeOk t e
    | k => s.inWindows t e.addr (max 1 e.rangeBytes) && decide (isFast e.addr = decide (k = 1))
  else true) &&
  ((namedLinks d).all fun l => match meshPartner n l with
    | some m => decide (s.cfg.coreTenant m = some t)
    | none => true)

/-! Row 16: formats. -/

/-- The vector program that a VEC or a MATMUL with a drain to the engine names (R140). -/
def loadProg (d : List W32) : Option Nat := if dType d = 3 then none else dProg d

/-- Instruction i of the program at a device address. -/
def State.insnAt (s : State) (prog i : Nat) : Insn := insnOf (s.word (prog + 0x140 + 8 * i)) (s.word (prog + 0x144 + 8 * i))

/-- Instructions of a program. -/
def State.insns (s : State) (prog : Nat) : List Insn := (List.range (s.insnCount prog)).map (s.insnAt prog)

/-- CVT instructions name paths of Table 2-5 (R68). -/
def cvtsOk (l : List Insn) : Bool := l.all fun i => !decide (i.op = 0x20) || cvtPath (fld i.imm 3 0) (fld i.imm 7 4)

/-- Operand formats, FMT and WFORM (R42, R47, R60, R182, R207, R231). -/
def State.formatsOk (s : State) (t n : Nat) (d : List W32) : Bool :=
  let f (h : Nat) : Nat := (s.home t h).fmt
  let fmt := df d 5 31 28
  let legal := decide (fmt = 1) || decide (fmt = 3)
  let named := (namedHandles d).all fun h => decide (1 ≤ f h) && decide (f h ≤ 6)
  let prog := match loadProg d with
    | some p => cvtsOk (s.insns (s.yardAddr n p))
    | none => true
  named && prog &&
  (match dType d with
    | 1 => legal && decide (f (df d 4 23 0) = fmt) && decide (f (df d 5 23 0) = fmt) &&
        (match df d 5 27 24 with
          | 0 => decide ((s.home t (df d 5 23 0)).layout ≠ 5)
          | 2 => decide (fmt = 1) && decide ((s.home t (df d 5 23 0)).layout = 5)
          | _ => false)
    | 2 => legal && decide (f (df d 4 23 0) = fmt) && decide (f (df d 5 23 0) = fmt) && decide (f (df d 6 23 0) = 1)
    | 3 => legal && decide (f (df d 4 23 0) = fmt) && decide (f (df d 5 23 0) = fmt) && !(decide (fmt = 3) && cPlanar d)
    | _ => true)

/-! Row 17: tiles and banks. -/

/-- Bank b of every array of a mask is in the queue's BANKSET (R92). -/
def bankIn (bankset mask b : Nat) : Bool := (arraysOf mask).all fun a => decide (bankset / 2 ^ (4 * a + b) % 2 = 1)

/-- Rows 1 to 3 of Table 6-6. -/
def fusedFieldsOk (bankset : Nat) (d : List W32) (dst : HEntry) : Bool :=
  let tile := fTile d
  let fn := fFn d
  let b0 := fBank d
  let nb := fBlocks d dst
  decide (tile ≤ 4) && decide (tile ≠ 3) && decide (fn ≤ 4) && (decide (tile ≠ 4) || decide (fn = 1) || decide (fn = 2)) &&
  !(decide (fn = 3) && decide (tile = 0)) &&
  bit (wordAt d 12) 13 && !bit (wordAt d 12) 14 && decide (df d 12 12 11 = if fn = 0 then 3 else 2) &&
  bankIn bankset (fMask d) b0 && bankIn bankset (fMask d) ((b0 + 1) % 4) &&
  (decide (nb < 2) || bankIn bankset (fMask d) ((b0 + 2) % 4)) &&
  (decide (fn = 0) || (decide (1 ≤ nb) && decide (dst.d0 % fWidth d = 0) && decide (df d 14 31 16 = 0))) &&
  (decide (fn ≠ 4) || decide (fN1 d ≤ 4096))

/-- Row 17. -/
def State.tilesOk (s : State) (t bankset : Nat) (d : List W32) : Bool :=
  match dType d with
  | 1 => maskOk (mTile d) (mMask d) && bankIn bankset (mMask d) (mBank d) && !(mBricks d && decide (mTile d = 3))
  | 2 => fusedFieldsOk bankset d (s.home t (dDst d))
  | 3 => decide (cTile d ≤ 4) && bankIn bankset (firstMask (cTile d)) (mBank d)
  | _ => true

/-! Row 18: extents. -/

/-- K extents of B8X and innermost extents of L32 tensors that a task names (R53, R56): in the channel-blocked layouts K runs
along the channels, D3 (R207). -/
def HEntry.blocksOk (e : HEntry) : Bool :=
  (decide (e.fmt ≠ 3) || decide ((if e.layout = 2 ∨ e.layout = 3 then e.d3 else e.d0) % 32 = 0)) &&
  (decide (e.fmt ≠ 4) || decide (e.d0 % 64 = 0))

/-- The HALO extents of one cut axis (R215). -/
def haloAxisOk (d : List W32) (e : HEntry) (ax : Nat) : Bool :=
  let span := haloSpan d e ax
  decide (e.axis ax = haloLow d ax + span + haloHigh d ax) && decide (haloLow d ax ≤ span) && decide (haloHigh d ax ≤ span)

/-- Row 18 of a CONV (R205, R215). -/
def convExtentsOk (d : List W32) (e dst : HEntry) : Bool :=
  let ls := haloLinks d
  decide (e.d4 = 1) && ([0, 1, 2].all fun ax => decide ((cExt d ax - 1) * cDil d ax + 1 ≤ e.axis ax)) &&
  decide (dst.d1 = roundUp (convP d e) (if cTile d = 4 then 512 else 256)) && decide (dst.d0 % tileWidth (cTile d) = 0) &&
  ls.all fun l => haloAxisOk d e (linkAxis d l)

/-- Row 18. -/
def State.extentsOk (s : State) (t : Nat) (d : List W32) : Bool :=
  let e := s.home t (df d 4 23 0)
  let dst := s.home t (dDst d)
  let whole (x : HEntry) : Bool := decide (x.d1 % 256 = 0)
  let fits (r0 c0 rows cols : Nat) : Bool :=
    decide (256 * r0 + rows ≤ dst.d1) && decide (256 * c0 + cols ≤ dst.d0)
  ((namedHandles d).all fun h => (s.home t h).blocksOk) &&
  (match dType d with
    | 1 =>
      decide (mKt d % 32 = 0) && decide (32 ≤ mKt d) && decide (mKt d ≤ 512) && decide (mK d ≠ 0) &&
        decide (mK d % mKt d = 0) && whole e && whole dst && decide (dst.d0 % 256 = 0) &&
        fits (df d 10 15 0) (df d 10 31 16) (drainRows (mTile d) (mMask d)) (drainWidth (mTile d) (mMask d))
    | 2 =>
      let k1 := fK1 d
      decide (k1 ≠ 0) && decide (k1 % 32 = 0) && (decide (k1 ≤ 512) || decide (k1 % 512 = 0)) && decide (fN1 d ≠ 0) &&
        decide (fN1 d % fU d = 0) && (decide (fFn d ≠ 4) || decide (fN1 d % fKt2 d = 0)) && whole e && whole dst &&
        decide (dst.d0 % 256 = 0) && fits (df d 14 15 0) (df d 14 31 16) (fRows d) (fBlocks d dst * fWidth d)
    | 3 => convExtentsOk d e dst
    | _ => true)

/-! Row 19: alignments. -/

/-- Row 19 (Table 6-4, R211). -/
def alignedOk (d : List W32) : Bool :=
  let al (v m : Nat) : Bool := decide (v % m = 0)
  match dType d with
  | 1 =>
    al (df d 6 24 0) 2048 && (!(decide (mTile d = 4) || isDual (mTile d) (mMask d)) || al (df d 13 24 0) 2048) &&
      al (df d 7 24 0) (if mB8 d then 256 else 512) && (!drainsToYard d || al (mDrainOff d) 4096) &&
      (!decide (mDrain d = 3) || al (df d 12 24 0) 256)
  | 2 => al (df d 7 24 0) 2048 && al (df d 8 24 0) (if fB8 d then 256 else 512) && al (df d 9 24 0) 512 && al (fOff d) 4096
  | 3 => al (df d 6 24 0) 256 && al (df d 7 24 0) 512 && al (mDrainOff d) 4096
  | 4 => al (df d 4 24 0) 256
  | 5 => decide (vKind d = 3) || al (wordAt d 6).toNat 256
  | 10 => al (df d 6 24 0) 256
  | _ => true

/-! Row 20: ranges. -/

/-- A placed region lies in the yard and inside its tensor. -/
def HEntry.holds (e : HEntry) (off len : Nat) : Bool :=
  decide (off + len ≤ yardSize) && decide (e.yoff ≤ off) && decide (off + len ≤ e.yoff + e.bytes)

/-- Row 20. -/
def State.rangesOk (s : State) (t n : Nat) (d : List W32) : Bool :=
  let x (h : Nat) : HEntry := s.home t h
  let dst := x (dDst d)
  let prog := match loadProg d with
    | some p => decide (p + 0x140 + 8 * s.insnCount (s.yardAddr n p) ≤ yardSize)
    | none => true
  prog &&
  (match dType d with
    | 1 =>
      let act := x (df d 4 23 0)
      let wgt := x (df d 5 23 0)
      let len := mK d / mKt d * tileBytes (mB8 d) (mKt d)
      let st := streamsOf (mTile d) (mMask d)
      act.holds (df d 6 24 0) len &&
        (!(decide (mTile d = 4) || isDual (mTile d) (mMask d)) || act.holds (df d 13 24 0) len) &&
        wgt.holds (df d 7 24 0) (if mBricks d then mK d / 32 * st * brickStride wgt.bform else wgtBytes (mB8 d) (mK d) st) &&
        (!drainsToYard d || dst.holds (mDrainOff d) (4 * drainRows (mTile d) (mMask d) * drainWidth (mTile d) (mMask d)))
    | 2 =>
      let nb := fBlocks d dst
      (x (df d 4 23 0)).holds (df d 7 24 0) (fK1 d / fKt1 d * tileBytes (fB8 d) (fKt1 d) * (if fTile d = 4 then 2 else 1)) &&
        (x (df d 5 23 0)).holds (df d 8 24 0) (w1Bytes d) &&
        (x (df d 6 23 0)).holds (df d 9 24 0) (nb * fN1 d * fStreams d * 512) &&
        dst.holds (fOff d) (4 * fRows d * nb * fWidth d)
    | 3 =>
      let e := x (df d 4 23 0)
      e.holds (df d 6 24 0) e.extent && (x (df d 5 23 0)).holds (df d 7 24 0) (filterBytes d e dst) &&
        dst.holds (mDrainOff d) (4 * dst.d0 * dst.d1)
    | 5 =>
      let e := (moveRec (16 * t) 0 d (x (df d 4 23 0)) 0 0).entry (x (df d 4 23 0))
      decide (vKind d ≠ 0) || decide ((wordAt d 6).toNat + df d 7 15 0 * 2 ^ 32 + e.rangeBytes ≤ yardSize)
    | 6 => decide (sOff d + sLen d ≤ (x (df d 4 23 0)).bytes)
    | 7 => decide (sLen d ≤ (x (df d 4 23 0)).bytes)
    | 8 => decide (reduceRange d (x (rSrc d)) (x (rAcc d)) dst = 0)
    | 10 => decide (df d 6 24 0 + df d 7 6 0 * (wordAt d 5).toNat ≤ yardSize)
    | _ => true)

/-! Rows 21 to 23. -/

/-- Row 21: path codes and links inside the mesh (R20, R109, R379). -/
def pathsOk (n : Nat) (d : List W32) : Bool :=
  let code (c : Nat) : Bool := decide (c = 0) || decide (4 ≤ c)
  let link (l : Option Nat) : Bool := match l with
    | some x => (meshPartner n x).isSome
    | none => true
  (match dType d with
    | 6 => code (df d 6 2 0)
    | 7 => code (df d 6 2 0)
    | 8 => (decide (rOp d = 3) || (code (df d 8 2 0) && (decide (df d 8 2 0 = 0) || decide (wordAt d 9 = 0)))) &&
        (!(rFwd d && decide (df d 10 15 0 = 0xFFFF)) || (decide (4 ≤ df d 10 18 16) && decide (df d 10 31 19 = 0)))
    | _ => true) && link (dLink d) && link (dNextLink d)

/-- Row 22: Table 8-2; `other` says that another open queue of the class on the core holds HALO tasks. -/
def State.convOk (s : State) (t n bankset : Nat) (other : Bool) (d : List W32) : Bool :=
  if dType d ≠ 3 then true
  else
    let e := s.home t (df d 4 23 0)
    let dst := s.home t (dDst d)
    let g := cGroup d
    let tile := cTile d
    let ext := fun (ax lim : Nat) => decide (1 ≤ cExt d ax) && decide (cExt d ax ≤ lim)
    (if c3d d then ext 0 7 && ext 1 7 && ext 2 7
      else decide (cExt d 0 = 1) && decide (cStride d 0 = 1) && decide (cDil d 0 = 1) && ext 1 11 && ext 2 11) &&
    [0, 1, 32, 64, 128, 256].contains g && decide (tile ≠ 3) && decide (tile ≤ 4) &&
    (decide (g = 0) || (decide (tile = 2) && !cB8 d && !cPlanar d && decide (e.d3 = dst.d0))) &&
    mClear d && mRelease d && !bit (wordAt d 9) 6 && (decide (mDrain d = 1) || decide (mDrain d = 2)) &&
    bankIn bankset (firstMask tile) (mBank d) && bankIn bankset (firstMask tile) ((mBank d + 1) % 4) &&
    ((haloLinks d).all fun l => (meshPartner n l).isSome) && !(other && !decide (cHalo d = 0))

/-- Row 23. -/
def State.limitsOk (s : State) (t : Nat) (d : List W32) : Bool :=
  match dType d with
  | 8 => decide (rGuard d ≤ 14) && decide (df d 5 14 0 ≤ 2 ^ rGuard d)
  | 9 => (s.kq (16 * t + df d 5 3 0)).isOpen
  | _ => true

/-! Row 24: vector programs. -/

/-- Opcodes of Table 5-3. -/
def opKnown (op : Nat) : Bool :=
  let r (a b : Nat) : Bool := decide (a ≤ op) && decide (op ≤ b)
  r 0x01 0x0C || r 0x10 0x15 || r 0x18 0x1A || r 0x20 0x22 || r 0x28 0x33 || r 0x38 0x39 || r 0x40 0x49 || r 0x50 0x52 ||
    decide (op = 0x60)

/-- Loads and stores of a region: whether the instruction names one, and whether it writes. -/
def opRegion (op : Nat) : Option Bool :=
  if (0x40 ≤ op ∧ op ≤ 0x42) ∨ op = 0x46 ∨ op = 0x47 then some false
  else if 0x43 ≤ op ∧ op ≤ 0x45 then some true
  else none

/-- One instruction passes R142, R148, R153 and R158. -/
def State.insnOk (s : State) (prog : Nat) (i : Insn) (word : W32) : Bool :=
  opKnown i.op && !bit word 31 &&
  !((decide (i.op = 0x09) || decide (i.op = 0x33)) && decide (i.vd = 0)) &&
  !(decide (0x18 ≤ i.op) && decide (i.op ≤ 0x1A) && decide (fld i.imm 2 0 = 7)) &&
  !((decide (i.op = 0x38) || decide (i.op = 0x39)) && decide (fld i.imm 27 24 = 15)) &&
  !(decide (i.op = 0x20) && (decide (fld i.imm 3 0 = 4) || decide (fld i.imm 7 4 = 4)) && decide (14 < fld i.imm 11 8)) &&
  (match opRegion i.op with
    | none => true
    | some wr =>
      let r := fld i.imm 31 28
      decide (r < s.regionCount prog) && (if wr then (s.region prog r).2.2.1 else (s.region prog r).2.1) &&
        (decide (i.op = 0x46) || decide (i.op = 0x47) || decide (fld i.imm 27 0 % 256 = 0)))

/-- REP bodies lie inside the program and inside the REP around them, at most two deep (R143). -/
def repsOk (count : Nat) : Nat → List Nat → List Insn → Bool
  | _, _, [] => true
  | pc, ends, i :: t =>
    let open' := ends.filter fun e => decide (pc < e)
    if i.op = 0x60 then
      let e := pc + 1 + fld i.imm 27 16
      decide (e ≤ count) && decide (open'.length < 2) && open'.all (fun x => decide (e ≤ x)) && repsOk count (pc + 1) (e :: open') t
    else repsOk count (pc + 1) open' t

/-- Region r of a program (Table 5-2): its fault code. -/
def State.regionCode (s : State) (t n off prog r : Nat) : Nat :=
  let a := prog + 0x40 + 16 * r
  if s.regionCount prog ≤ r then codeUnless ((List.range 4).all fun i => decide (s.word (a + 4 * i) = 0)) 0x10
  else
    let g := s.region prog r
    let e := s.home t g.1
    let y := g.2.2.2.1
    let len := g.2.2.2.2
    let reserved := decide (fld (s.word a) 31 26 = 0) && decide (fld (s.word (a + 4)) 31 25 = 0) &&
      decide (fld (s.word (a + 8)) 31 26 = 0) && decide (s.word (a + 12) = 0)
    let homed := s.handleOk t g.1 && decide (e.st ≠ stFree) && decide (e.kind = 0) && decide (e.lcore = n)
    let size := 0x140 + 8 * s.insnCount prog
    let own := g.2.2.1 && decide (y < off + size) && decide (off < y + len)
    if !reserved || !homed || decide (y % 256 ≠ 0) || decide (len % 256 ≠ 0) then 0x10
    else if !e.holds y len then 0x13
    else codeUnless (!own) 0x10

/-- Row 24: the program that a descriptor names (R140 to R143, R148, R158, R164). -/
def State.loadCode (s : State) (t n : Nat) (d : List W32) : Nat :=
  match loadProg d with
  | none => 0
  | some off =>
    let prog := s.yardAddr n off
    let drain := decide (dType d ≠ 4)
    let count := s.insnCount prog
    let regions := s.regionCount prog
    let w1 := s.word (prog + 4)
    let w2 := s.word (prog + 8)
    let head := decide (s.word prog = 0x50565655#32) && decide (fld w1 15 0 = 1) && decide (fld w1 31 18 = 0) &&
      decide (fld w1 17 16 = b2n drain) && decide (1 ≤ count) && decide (count ≤ 4096) && decide (regions ≤ 16) &&
      decide (fld w2 15 13 = 0) && decide (fld w2 31 21 = 0) &&
      (List.range 13).all fun i => decide (s.word (prog + 0x0C + 4 * i) = 0)
    let code := s.insns prog
    let draws := code.any fun i => decide (i.op = 0x21) || decide (i.op = 0x38) || decide (i.op = 0x39)
    let seed := !(drain && draws) || (decide (1 ≤ regions) && decide (64 ≤ (s.region prog 0).2.2.2.2))
    firstCodeOf ([codeUnless head 0x10] ++ (List.range 16).map (s.regionCode t n off prog) ++
      [codeUnless ((code.zipIdx.all fun p => s.insnOk prog p.1 (s.word (prog + 0x140 + 8 * p.2))) && repsOk count 0 [] code &&
        seed) 0x10])

/-! A whole descriptor. -/

/-- The class and the scoreboard range of a wait slot or SIG_ENTRY. -/
def Queue.inSb (q : Queue) (e : Nat) : Bool := decide (q.sbBase ≤ e) && decide (e < q.sbBase + q.sbCount)

/-- Another open queue of the class on the core holds HALO tasks. -/
def State.otherHalo (s : State) (k : Nat) : Bool :=
  let q := s.queue k
  (s.queuesOn q.lcore).any fun j => decide (j ≠ k) && decide ((s.queue j).cls = q.cls) &&
    (List.range (s.queue j).descCount).any fun i =>
      decide (dType ((s.queue j).desc i) = 3) && !decide (cHalo ((s.queue j).desc i) = 0)

/-- Rows 8 to 24 on descriptor d of queue k (Table 6-3). -/
def State.descChecks (s : State) (k : Nat) (d : List W32) : List (Nat × Nat) :=
  let t := k / 16
  let q := s.queue k
  let n := q.lcore
  let exist (h : Nat) : Bool := s.handleOk t h && decide ((s.home t h).st ≠ stFree)
  let here (h : Nat) : Bool := decide ((s.home t h).kind = 0) && decide ((s.home t h).lcore = n)
  [(8, codeUnless (typeOk d) 0x10),
   (9, codeUnless (decide (dNummode d ≠ 3)) 0x10),
   (10, codeUnless (bit (s.applied .tenNumcfg t n) 1 || decide (dNummode d = 0)) 0x21),
   (11, codeUnless (decide ((dBudget d = 0) = (q.cls = 0)) && (decide (q.cls = 0) || !(wRest d || isStepFence d))) 0x10),
   (12, codeUnless ((waitEntries d).all q.inSb && (!dSigValid d || q.inSb (dSig d))) 0x10),
   (13, codeUnless ((requiredHandles d).all fun h => decide (h ≠ 0)) 0x10),
   (14, codeUnless ((namedHandles d).all exist && (placedHandles d).all here) 0x20),
   (15, codeUnless (s.placesOk t n d) 0x21),
   (16, codeUnless (s.formatsOk t n d) 0x10),
   (17, codeUnless (s.tilesOk t q.bankset d) 0x10),
   (18, codeUnless (s.extentsOk t d) 0x11),
   (19, codeUnless (alignedOk d) 0x12),
   (20, codeUnless (s.rangesOk t n d) 0x13),
   (21, codeUnless (pathsOk n d) 0x10),
   (22, codeUnless (s.convOk t n q.bankset (s.otherHalo k) d) 0x10),
   (23, codeUnless (s.limitsOk t d) 0x10),
   (24, s.loadCode t n d)]

end Sys2Proof.Machine
end

