-- ==== Sys2Proof/Machine/Loader.lean ====
section
/-! DEFINITION. The manifest loader: the header and the whole manifest (rows 1 to 7 and 25 to 32 of Table 6-3, R105, R112,
R115, R120, R175), and the services that open and close a queue (R104, R177, R391, Table 18-7). -/
namespace Sys2Proof.Machine

/-! Rows 1 to 7: the header. -/

/-- Bytes that the header says the image holds (R104). -/
def Queue.imageBytes (q : Queue) : Nat := 0x100 + 64 * q.descCount + 32 * q.prefCount

/-- MAGIC, VERSION, CLASS and reserved fields of the header (Table 4-1). -/
def Queue.headerOk (q : Queue) : Bool :=
  decide (q.hdr 0 = 0x464D5655#32) && decide (q.hdr 1 = 1#32) && decide (q.cls ≠ 3) &&
  masksOk (q.img.take 64) ([0xFFFFFFFF, 0xFFFFFFFF, 0x103, 0xFFFFFFFF, 0xFFFF, 0x03FF01FF, 0xFFFFFFFF, 0xFFFFFF,
    0xFFFFFFFF, 0xFFFFFFFF, 0xFFFF] ++ List.replicate 53 0)

/-- Scoreboard ranges of two queues meet. -/
def Queue.sbMeets (a b : Queue) : Bool :=
  decide (a.sbBase < b.sbBase + b.sbCount) && decide (b.sbBase < a.sbBase + a.sbCount)

/-- Depth of a tenant's class-0 queues at the tier movers, the Tunil engines and the Kiln. -/
def TenantRec.depth0 (r : TenantRec) (u : Nat) : Nat :=
  match u with
  | 0 => r.cl0Depth.1
  | 1 => r.cl0Depth.2.1
  | _ => r.cl0Depth.2.2

/-- Rows 1 to 7 for queue k. CL0_DEPTH counts here alone: nothing bounds the class-0 requests of a queue at run time by it
(Table 4-1 states both the number and the sum; DESIGN CHOICE, log 119). -/
def State.headerChecks (s : State) (k : Nat) : List (Nat × Nat) :=
  let t := k / 16
  let q := s.queue k
  let others := ((s.queuesOn q.lcore).filter fun j => decide (j ≠ k)).map s.queue
  let d := q.descCount
  let p := q.prefCount
  let cls0 := (s.class0Queues t).filter fun j => decide (j ≠ k)
  let depthOk (u : Nat) : Bool :=
    decide ((cls0.map fun j => (s.queue j).cl0Depth u).sum + q.cl0Depth u ≤ (s.cfg.tenant t).depth0 u)
  [(1, codeUnless q.headerOk 0x10),
   (2, codeUnless (decide (1 ≤ d) && decide (d ≤ 8192) && decide (p ≤ 4096) && decide (q.imageBytes ≤ q.imgLen) &&
      decide ((others.map Queue.descCount).sum + d ≤ 8192) && decide ((others.map Queue.prefCount).sum + p ≤ 4096)) 0x13),
   (3, codeUnless (decide (1 ≤ q.sbCount) && decide (q.sbCount ≤ 512) && decide (q.sbBase + q.sbCount ≤ 512) &&
      others.all (fun x => !x.sbMeets q) && !(decide (q.cls = 0) && others.any fun x => decide (x.cls = 0))) 0x10),
   (4, codeUnless (others.all fun x => decide (x.bankset &&& q.bankset = 0)) 0x10),
   (5, codeUnless (if q.cls = 0 then q.haltOnAbort else decide (q.slack = 0)) 0x10),
   (6, codeUnless (decide (q.cls ≠ 0) || (depthOk 0 && depthOk 1 && depthOk 2)) 0x13),
   (7, codeUnless (decide (q.cls ≠ 0) || (match s.caravan.plan with
      | some c => decide (q.logicalSize = c.logicalSize)
      | none => false)) 0x10)]

/-! Rows 25 and 26: LOOPs. -/

/-- LOOPs whose bodies hold descriptor j, outermost first. -/
def Queue.enclosing (q : Queue) (j : Nat) : List Nat :=
  (List.range j).filter fun i => decide (dType (q.desc i) = 0x0A) && decide (j ≤ i + df (q.desc i) 4 11 0)

/-- A valid PATCH of the LOOP descriptor d at index i targets descriptor j. -/
def patchesTo (d : List W32) (i j : Nat) : Bool :=
  [8, 9, 10, 11].any fun w =>
    let p := wordAt d w
    bit p 31 && decide (i + fld p 11 0 = j)

/-- The stored LOOP i patches descriptor j. -/
def Queue.patches (q : Queue) (i j : Nat) : Bool := patchesTo (q.desc i) i j

/-- Every PATCH of a LOOP is well formed. -/
def patchesOk (d : List W32) : Bool :=
  [8, 9, 10, 11].all fun w =>
    let p := wordAt d w
    if bit p 31 then
      decide (fld p 30 21 = 0) && decide (1 ≤ fld p 11 0) && decide (fld p 11 0 ≤ df d 4 11 0) && decide (4 ≤ fld p 15 12) &&
        decide (4 * fld p 19 16 + 4 ≤ df d 7 6 0)
    else decide (p = 0)

/-- LOOPs around a descriptor, outermost first, whose own PATCH words an enclosing LOOP may have changed: what they patch is
not what the stored words say. -/
def Queue.variable (q : Queue) (outer : List Nat) : List Nat :=
  (outer.foldl (fun (acc : List Nat × List Nat) i =>
    (acc.1 ++ [i], if (acc.1.any fun x => q.patches x i) || !acc.2.isEmpty then acc.2 ++ [i] else acc.2)) ([], [])).2

/-- Rows of the enclosing LOOPs that matter to descriptor j: LOOPs that patch it or may do so, or patch a LOOP that
matters. -/
def Queue.relevant (q : Queue) (j : Nat) : List Nat :=
  let out := q.enclosing j
  let var := q.variable out
  out.reverse.foldl (fun acc i =>
    if q.patches i j || var.contains i || acc.any fun x => q.patches i x then i :: acc else acc) []

/-- The frames of every combination of rows, in the order in which nested iterations run; LOOPs are taken outermost first,
and one that does not matter stays in iteration 0. -/
def State.frames (s : State) (k : Nat) (matter : List Nat) : List Nat → List LoopFrame → List (List LoopFrame)
  | [], acc => [acc]
  | i :: t, acc =>
    let q := s.queue k
    let d := acc.foldr (fun fr x => s.patchBy q.lcore fr i x) (q.desc i)
    (List.range (if matter.contains i then (wordAt d 5).toNat else 1)).flatMap fun r =>
      s.frames k matter t ({ index := i, iter := r, desc := d } :: acc)

/-- The working copies of descriptor j, each with the row of the innermost LOOP that patches it. -/
def State.copiesOf (s : State) (k j : Nat) : List (Nat × List W32) :=
  let q := s.queue k
  (s.frames k (q.relevant j) (q.enclosing j) []).map fun fs =>
    (match fs.find? fun fr => patchesTo fr.desc fr.index j with
      | some fr => fr.iter
      | none => 0, fs.foldr (fun fr x => s.patchBy q.lcore fr j x) (q.desc j))

/-- Tensors that a task writes or moves. -/
def State.writesOf (s : State) (n : Nat) (d : List W32) : List Nat :=
  s.destHandles n d ++ (if dType d = 5 then [df d 4 23 0] else [])

/-- Tensors that the tasks of a queue write or move, in every copy that their LOOPs form (R112). -/
def State.queueWrites (s : State) (k : Nat) : List Nat :=
  let q := s.queue k
  (List.range q.descCount).flatMap fun j => (s.copiesOf k j).flatMap fun p => s.writesOf q.lcore p.2

/-- A VALID yard tensor of the core that no task of the queue writes holds a range. -/
def State.steadyTensor (s : State) (k off len : Nat) : Bool :=
  let t := k / 16
  let n := (s.queue k).lcore
  let written := s.queueWrites k
  s.homes.any fun p => decide (p.1 / 2 ^ 24 = t) && decide (p.2.st = stValid) && decide (p.2.kind = 0) &&
    decide (p.2.lcore = n) && p.2.holds off len && !written.contains (p.1 % 2 ^ 24)

/-- Row 25 for descriptor j. -/
def State.loopOk (s : State) (k j : Nat) : Bool :=
  let q := s.queue k
  let d := q.desc j
  if dType d ≠ 0x0A then true
  else
    let body := df d 4 11 0
    let rb := df d 7 6 0
    let count := (wordAt d 5).toNat
    let out := q.enclosing j
    decide (1 ≤ body) && decide (j + body < q.descCount) &&
      (out.all fun i => decide (j + body ≤ i + df (q.desc i) 4 11 0)) && decide (out.length < 4) && decide (1 ≤ count) &&
      decide (4 ≤ rb) && decide (rb ≤ 64) && decide (rb % 4 = 0) && patchesOk d && s.steadyTensor k (df d 6 24 0) (rb * count)

/-- Row 26 for descriptor j: the first copy that fails, with the LOOP row. -/
def State.patchedFail (s : State) (k j : Nat) : Option (Nat × Nat) :=
  if ((s.queue k).relevant j).isEmpty then none
  else (s.copiesOf k j).findSome? fun p => (firstFail (s.descChecks k p.2)).map fun f => (p.1, f.2)

/-! Rows 27 to 29: prefetch entries. -/

/-- Iterations of the innermost LOOP around a trigger, over every row that patches it. -/
def State.loopIters (s : State) (k trigger : Nat) : Nat :=
  match ((s.queue k).enclosing trigger).getLast? with
  | none => 1
  | some i => ((s.copiesOf k i).map fun p => (wordAt p.2 5).toNat).foldl Nat.max 0

/-- Rows 27 to 29 for prefetch entry j of queue k. -/
def State.prefChecks (s : State) (k j : Nat) : List (Nat × Nat) :=
  let q := s.queue k
  let e := q.pref j
  let trig := df e 0 15 0
  let per := bit (wordAt e 0) 16
  let h := pSrc e
  let x := s.home (k / 16) h
  let last := pOffset e (if per then s.loopIters k trig - 1 else 0)
  [(27, codeUnless (masksOk e [0x1FFFF, 0xFFFFFF, 0xFFFFFFFF, 0xFFFF, 0x3FFFF, 0x1FFFFFF, 0x1FF, 0xFFFFFFFF] &&
      decide (trig < q.descCount) && (!per || !(q.enclosing trig).isEmpty) && s.handleOk (k / 16) h &&
      decide (x.st ≠ stFree) && (decide (x.kind = 1) || decide (x.kind = 2)) && q.inSb (pEntry e)) 0x10),
   (28, codeUnless (decide (pDst e % 256 = 0) && decide ((wordAt e 2).toNat % 256 = 0)) 0x12),
   (29, codeUnless (decide (256 ≤ pBytes e) && decide (pBytes e ≤ 131072 * 256) && decide (last + pBytes e ≤ x.bytes) &&
      decide (pDst e + pBytes e ≤ yardSize)) 0x13)]

/-! Rows 30 to 32: order over the whole manifest. -/

/-- A range of the core's yard as (0, offset, length), or of a tensor homed elsewhere as (1 + handle, offset, length). -/
def State.part (s : State) (t n h off len : Nat) : Nat × Nat × Nat :=
  let e := s.home t h
  if e.kind = 0 ∧ e.lcore = n then (0, e.yoff + off, len) else (1 + h, off, len)

/-- The whole of a tensor, nothing for handle 0. -/
def State.wholePart (s : State) (t n h : Nat) : List (Nat × Nat × Nat) :=
  if h = 0 then [] else [s.part t n h 0 (s.home t h).bytes]

/-- Two ranges overlap. -/
def partMeets (a b : Nat × Nat × Nat) : Bool :=
  decide (a.1 = b.1) && decide (a.2.1 < b.2.1 + b.2.2) && decide (b.2.1 < a.2.1 + a.2.2)
def partsMeet (a b : List (Nat × Nat × Nat)) : Bool := a.any fun x => b.any (partMeets x)

/-- Regions that the program of a task reads (`wr` false), its own image among them, or writes. -/
def State.progParts (s : State) (n : Nat) (d : List W32) (wr : Bool) : List (Nat × Nat × Nat) :=
  match loadProg d with
  | none => []
  | some off =>
    let prog := s.yardAddr n off
    (if wr then [] else [(0, off, 0x140 + 8 * s.insnCount prog)]) ++
      (((List.range (s.regionCount prog)).map (s.region prog)).filter fun g => if wr then g.2.2.1 else g.2.1).map fun g =>
        (0, g.2.2.2.1, g.2.2.2.2)

/-- The drain region or result of an array task. -/
def State.drainPart (s : State) (t : Nat) (d : List W32) : List (Nat × Nat × Nat) :=
  let dst := s.home t (dDst d)
  if !drainsToYard d then []
  else match dType d with
    | 1 => [(0, mDrainOff d, 4 * drainRows (mTile d) (mMask d) * drainWidth (mTile d) (mMask d))]
    | 2 => [(0, fOff d, 4 * fRows d * fBlocks d dst * fWidth d)]
    | _ => [(0, mDrainOff d, 4 * dst.d0 * dst.d1)]

/-- The task accumulatesOnWrite in the yard (R97). -/
def accumulatesOnWrite (d : List W32) : Bool :=
  match dType d with
  | 1 => decide (mDrain d = 2)
  | 2 => decide (fFn d ≠ 0)
  | 3 => decide (mDrain d = 2)
  | _ => false

/-- An accumulating task adds to what earlier tasks left in its region. -/
def readsResult (d : List W32) : Bool := accumulatesOnWrite d && !(decide (dType d = 2) && fClear d)

/-- What a task reads. -/
def State.taskReads (s : State) (t n : Nat) (d : List W32) : List (Nat × Nat × Nat) :=
  let whole (h : Nat) := s.wholePart t n h
  s.progParts n d false ++
  (match dType d with
    | 1 =>
      let len := mK d / mKt d * tileBytes (mB8 d) (mKt d)
      let st := streamsOf (mTile d) (mMask d)
      [(0, df d 6 24 0, len),
       (0, df d 7 24 0, if mBricks d then mK d / 32 * st * brickStride (s.home t (df d 5 23 0)).bform
         else wgtBytes (mB8 d) (mK d) st)] ++
        (if mTile d = 4 ∨ isDual (mTile d) (mMask d) then [(0, df d 13 24 0, len)] else [])
    | 2 =>
      [(0, df d 7 24 0, fK1 d / fKt1 d * tileBytes (fB8 d) (fKt1 d) * (if fTile d = 4 then 2 else 1)),
       (0, df d 8 24 0, w1Bytes d),
       (0, df d 9 24 0, fBlocks d (s.home t (dDst d)) * fN1 d * fStreams d * 512),
       s.part t n (df d 15 23 0) 0 64]
    | 3 =>
      let e := s.home t (df d 4 23 0)
      [(0, df d 6 24 0, e.extent), (0, df d 7 24 0, filterBytes d e (s.home t (dDst d)))]
    | 4 => whole (df d 5 23 0) ++ whole (df d 6 23 0) ++ whole (df d 7 23 0)
    | 5 => whole (df d 4 23 0)
    | 6 => [s.part t n (df d 4 23 0) (sOff d) (sLen d)]
    | 8 => whole (rSrc d) ++ (if rOp d = 1 ∧ (s.home t (rSrc d)).fmt = 2 then whole (rAcc d) else [])
    | _ => [])

/-- What a task writes. -/
def State.taskWrites (s : State) (t n : Nat) (d : List W32) : List (Nat × Nat × Nat) :=
  let whole (h : Nat) := s.wholePart t n h
  s.progParts n d true ++ s.drainPart t d ++
  (match dType d with
    | 5 =>
      let e := s.home t (df d 4 23 0)
      whole (df d 4 23 0) ++ (if vKind d = 0 ∧ df d 5 7 4 = n then [(0, (wordAt d 6).toNat, e.rangeBytes)] else [])
    | 7 => whole (dDst d) ++ whole (df d 4 23 0)
    | 8 => whole (rAcc d) ++ (if rPartner d then whole (dDst d) else [])
    | 9 => whole (dDst d) ++ whole (df d 6 23 0)
    | _ => [])

/-- A producer of the manifest: twice its index for a task, twice its trigger's index and one for a prefetch; the number
of a prefetch entry and one (0 for a task); its scoreboard entry; what it writes; whether it accumulatesOnWrite. -/
structure Producer where
  pos : Nat
  num : Nat
  entry : Option Nat
  parts : List (Nat × Nat × Nat)
  acc : Bool

/-- A task as the sequencer will issue it: its descriptor index and its working copy. -/
structure RunTask where
  index : Nat
  desc : List W32

/-- The tasks of a range of descriptors in the order in which they issue, every iteration of every LOOP with its working
copies (R111); `f` bounds the steps. -/
def State.unroll (s : State) (k : Nat) : Nat → Nat → Nat → List LoopFrame → List RunTask
  | 0, _, _, _ => []
  | f + 1, lo, hi, fs =>
    if hi ≤ lo then []
    else
      let q := s.queue k
      let d := fs.foldr (fun fr x => s.patchBy q.lcore fr lo x) (q.desc lo)
      if dType d = 0x0A then
        let e := lo + 1 + df d 4 11 0
        ⟨lo, d⟩ :: ((List.range (wordAt d 5).toNat).flatMap fun r =>
          s.unroll k f (lo + 1) e ({ index := lo, iter := r, desc := d } :: fs)) ++ s.unroll k f e hi fs
      else ⟨lo, d⟩ :: s.unroll k f (lo + 1) hi fs

/-- Every task of a queue in the order of issue. -/
def State.runOrder (s : State) (k : Nat) : List RunTask :=
  s.unroll k ((s.queue k).descCount + 1) 0 (s.queue k).descCount []

/-- Prefetch entries that the task at a place of the order makes eligible (Table 4-5). -/
def Queue.hitsAt (q : Queue) (run : List RunTask) (pos index : Nat) : List Nat :=
  (List.range q.prefCount).filter fun i =>
    decide (df (q.pref i) 0 15 0 = index) &&
      (bit (wordAt (q.pref i) 0) 16 || !(run.take pos).any fun x => decide (x.index = index))

/-- Producers of a queue, in the order of issue: positions are twice the task's place, and one more for a prefetch. -/
def State.producers (s : State) (k : Nat) (run : List RunTask) : List Producer :=
  let q := s.queue k
  run.zipIdx.flatMap fun p =>
    let d := p.1.desc
    { pos := 2 * p.2, num := 0, entry := if dSigValid d then some (dSig d) else none
      parts := s.taskWrites (k / 16) q.lcore d, acc := accumulatesOnWrite d } ::
      ((q.hitsAt run p.2 p.1.index).map fun i =>
        { pos := 2 * p.2 + 1, num := i + 1, entry := some (pEntry (q.pref i)), parts := [(0, pDst (q.pref i), pBytes (q.pref i))]
          acc := false })

/-- The producer that a wait of task j on entry e names: the last one before the task. -/
def setterOf (l : List Producer) (j e : Nat) : Option Producer :=
  (l.filter fun p => decide (p.pos < 2 * j) && decide (p.entry = some e)).getLast?

/-- Indexes of the tasks ordered after producer p, for descriptors waits `w` and FENCE indexes `f` (R115): directly, by a
FENCE after a task, or through a chain. -/
def orderedAfter (l : List Producer) (waits : List (List Nat)) (fences : List Nat) (p : Producer) : List Nat :=
  waits.zipIdx.foldl (fun cov w =>
    let j := w.2
    let setters := w.1.filterMap (setterOf l j)
    let fenced (i : Nat) : Bool := fences.any fun f => decide (i < f) && decide (f < j)
    if decide (p.pos < 2 * j) &&
        (setters.any (fun x => decide (x.pos = p.pos) && decide (x.num = p.num)) || (decide (p.num = 0) && fenced (p.pos / 2)) ||
          cov.any fun m => fenced m || setters.any fun x => decide (x.num = 0) && decide (x.pos = 2 * m)) then j :: cov
    else cov) []

/-- Row 30: the first task, in the order of issue over all iterations, that reads what an earlier producer wrote without
being ordered after it (R115). -/
def State.row30 (s : State) (k : Nat) : Option Nat :=
  let q := s.queue k
  let t := k / 16
  let run := s.runOrder k
  let l := s.producers k run
  let waits := run.map fun x => waitEntries x.desc
  let fences := (run.zipIdx.filter fun x => decide (dType x.1.desc = 0x0B)).map (·.2)
  let order := l.map fun p => (p, orderedAfter l waits fences p)
  (run.zipIdx.find? fun x =>
    let rd := s.taskReads t q.lcore x.1.desc
    let res := if readsResult x.1.desc then s.drainPart t x.1.desc else []
    order.any fun o => decide (o.1.pos < 2 * x.2) && !o.2.contains x.2 &&
      (partsMeet rd o.1.parts || (!o.1.acc && partsMeet res o.1.parts))).map (·.1.index)

/-- Row 31: the first task, in the order of issue over all iterations, that waits on an entry which an earlier task has
released with no producer in between, or that releases an entry twice (R120); a prefetch stands at its trigger. -/
def State.row31 (s : State) (k : Nat) : Option Nat :=
  let q := s.queue k
  let run := s.runOrder k
  (run.zipIdx.foldl (fun (acc : List Nat × Option Nat) x =>
    let d := x.1.desc
    let rel := releaseEntries d
    let fails := (waitEntries d).any acc.1.contains || rel.any fun e => decide (1 < (rel.filter fun y => decide (y = e)).length)
    let sets := (if dSigValid d then [dSig d] else []) ++ (q.hitsAt run x.2 x.1.index).map fun i => pEntry (q.pref i)
    ((acc.1 ++ rel).filter fun e => !sets.contains e, if acc.2.isNone && fails then some x.1.index else acc.2)) ([], none)).2

/-- Row 32: a later task that writes or moves a tensor which an earlier MOVE moves waits on that MOVE's SIG_ENTRY; and no
other open queue of the tenant writes or moves what this queue moves, or moves what it writes (R282). -/
def State.row32 (s : State) (k : Nat) : Option Nat :=
  let q := s.queue k
  let run := s.runOrder k
  let l := s.producers k run
  let moves (j : Nat) : List Nat := (List.range (s.queue j).descCount).flatMap fun i =>
    ((s.copiesOf j i).filter fun p => decide (dType p.2 = 5)).map fun p => df p.2 4 23 0
  let others := (queuesOf (k / 16)).filter fun j => decide (j ≠ k) && s.qOpen j
  let oMoves := others.flatMap moves
  let oWrites := others.flatMap s.queueWrites
  let mine := moves k
  (run.zipIdx.find? fun x =>
    let d := x.1.desc
    let w := s.writesOf q.lcore d
    ((run.take x.2).zipIdx.any fun m =>
      decide (dType m.1.desc = 5) && w.contains (df m.1.desc 4 23 0) &&
        !((waitEntries d).any fun e => match setterOf l x.2 e with
          | some p => decide (p.pos = 2 * m.2) && decide (p.num = 0)
          | none => false))
      || w.any fun h => oMoves.contains h || (mine.contains h && oWrites.contains h)).map (·.1.index)

/-! The whole load (R175). -/

/-- A failed load: row, code, place, and the LOOP row of a patched copy. -/
structure LoadFail where
  row : Nat
  code : Nat
  place : Nat
  loopRow : Option Nat
  deriving DecidableEq, Repr

/-- Rows 8 to 26 for descriptor j. -/
def State.descFail (s : State) (k j : Nat) : Option LoadFail :=
  match firstFail (s.descChecks k ((s.queue k).desc j) ++ [(25, codeUnless (s.loopOk k j) 0x10)]) with
  | some f => some ⟨f.1, f.2, j, none⟩
  | none => (s.patchedFail k j).map fun f => ⟨26, f.2, j, some f.1⟩

/-- The first failure of queue k's image in the order of R175; none for a manifest that loads. -/
def State.loadFail (s : State) (k : Nat) : Option LoadFail :=
  let q := s.queue k
  if q.imgBad then some ⟨1, 0x50, 0xFFFF, none⟩
  else match firstFail (s.headerChecks k) with
  | some f => some ⟨f.1, f.2, 0xFFFF, none⟩
  | none =>
    match (List.range q.descCount).findSome? (s.descFail k) with
    | some f => some f
    | none =>
      match (List.range q.prefCount).findSome? fun j => (firstFail (s.prefChecks k j)).map fun f => (j, f) with
      | some (j, f) => some ⟨f.1, f.2, 0x4000 + j, none⟩
      | none =>
        match s.row30 k with
        | some j => some ⟨30, 0x10, j, none⟩
        | none =>
          match s.row31 k with
          | some j => some ⟨31, 0x10, j, none⟩
          | none => (s.row32 k).map fun j => ⟨32, 0x10, j, none⟩

/-! The services. -/

/-- A service of code c has been taken by the receiver of mailbox m and has not yet begun or ended. -/
def State.asked (s : State) (m code : Nat) : Bool :=
  let v := s.svc m
  v.active && decide (v.code = code) && !v.begun && v.result.isNone

/-- A service for the tenant of the function that posted it; 0x0004 for a function without a tenant. -/
def State.serve (s : State) (m code : Nat) (f : Nat → List W32 → State) : State :=
  if s.asked m code then
    match s.cfg.funcTenant (s.svc m).func with
    | some t => f t (s.svc m).body
    | none => s.endSvc m 0x0004
  else s

/-- The service of mailbox m has begun and ends later. -/
def State.beginSvc (s : State) (m : Nat) : State := s.setSvc m { s.svc m with begun := true }

/-- Words of an image: nothing past the length given is read (R104). -/
def State.imageWords (s : State) (a len : Nat) : List W32 :=
  (List.range (cdiv len 4)).map fun i => BitVec.ofNat 32 (leNat (s.data (a + 4 * i) (Nat.min 4 (len - 4 * i))))

/-- Read the image of a queue: the header first, then what it says (R104). -/
def State.readImage (s : State) (a len : Nat) : List W32 :=
  let head := { Queue.init with img := s.imageWords a (Nat.min len 256) }
  s.imageWords a (Nat.min len head.imageBytes)

/-- The loader reads an image from the fast tier: its corrections count, and the Bool is false for an uncorrectable codeword
(R251, R252). -/
def State.takeImage (s : State) (a len : Nat) : State × List W32 × Bool :=
  let r := s.tierRead [] none a (4 * (s.readImage a len).length)
  (r.1, r.1.readImage a len, r.2)

/-- The code of a refused QUEUE_OPEN, 0 for none (Table 18-7, R33, R345, R346, R391, R516). -/
def State.openRefusal (s : State) (t k n : Nat) (q : Queue) : Nat :=
  let cls0 := s.class0Queues t
  let busy := (List.range 128).filter fun j => decide ((s.queue j).lcore = n) && (s.qOpen j || (s.queue j).loading)
  let other := decide (s.caravan.tenant ≠ some t) && (s.cfg.caravan.isSome || s.caravan.plan.isSome)
  if decide (s.cfg.coreTenant n ≠ some t) || (s.phys n).isNone then 0x0004
  else if q.cls = 0 ∧ (!(s.cfg.tenant t).cl0 ∨ other) then 0x0004
  else if q.cls = 0 ∧ cls0.any fun j =>
      !(decide ((s.queue j).hdr 8 = q.hdr 8) && decide ((s.queue j).hdr 9 = q.hdr 9) &&
        decide ((s.queue j).logicalSize = q.logicalSize)) then 0x0004
  else if s.qOpen k || (s.queue k).loading then 0x0002
  else if 4 ≤ busy.length then 0x0002
  else 0

/-- Firmware sets both copies of an RWB register whose unit holds no work. -/
def State.setBoth (s : State) (r : Reg) (i : Nat) (v : W32) : State :=
  { s with staged := s.staged.filter fun e => !decide (e.reg = rkey r i) }.setReg r i v

/-- QUEUE_OPEN (R104, R177): the image is read into the descriptor store, and the loader begins. -/
def State.queueOpen (s : State) (m t : Nat) (b : List W32) : State :=
  let n := fld (wordAt b 0) 3 0
  let k := 16 * t + fld (wordAt b 0) 19 16
  let a := (wordAt b 1).toNat + fld (wordAt b 2) 15 0 * 2 ^ 32
  let len := (wordAt b 3).toNat
  if !(s.inWindows t a len && isFast a) then s.endSvc m 0x0003
  else
    let x := s.takeImage a len
    let q : Queue := { Queue.init with lcore := n, img := x.2.1, imgBad := !x.2.2, imgAddr := a, imgLen := len
                                       mailbox := some m, loading := true }
    let code := x.1.openRefusal t k n q
    if code ≠ 0 then x.1.endSvc m code
    else
      let s1 := ((x.1.beginSvc m).setQueue k q).setQst k 0
      (s1.hwFld .queCtrl k 1 0 0).setBoth .queRingbase k (wordAt b 4)

/-- QUEUE_OPEN. -/
def execQueueOpen (m : Fin 64) (s : State) : Host.Outcome State Fault Refusal :=
  whenUp s fun x => x.serve m 0x0001 fun t b => x.queueOpen m t b

/-- The GEN of every prefetch source as it stands at load (R294). -/
def State.prefGens (s : State) (k : Nat) : SMap Nat :=
  let q := s.queue k
  (List.range q.prefCount).foldl (fun g j => mset 0 g (pSrc (q.pref j)) (s.home (k / 16) (pSrc (q.pref j))).gen) []

/-- The service of the queue's mailbox ends. -/
def State.endOpen (s : State) (k code : Nat) : State :=
  let s1 := match (s.queue k).mailbox with
    | some m => s.endSvc m code
    | none => s
  s1.modQueue k fun q => { q with loading := false, mailbox := none }

/-- The first class-0 queue of a tenant sets its run identity (R391). -/
def State.setRunId (s : State) (k : Nat) : State :=
  let t := k / 16
  let q := s.queue k
  if q.cls = 0 ∧ ((s.class0Queues t).all fun j => decide (j = k)) then
    ((s.setReg .tenPlanid0 t (q.hdr 8)).setReg .tenPlanid1 t (q.hdr 9)).setReg .tenRunsize t (BitVec.ofNat 32 q.logicalSize)
  else s

/-- MANIFEST_LOAD_DONE: the loader has checked the whole image (R174, R175, R177); a queue that opens has its scoreboard
entries EMPTY (R118). -/
def State.loadDone (s : State) (k : Nat) : State :=
  if !(s.queue k).loading then s
  else
    match s.loadFail k with
    | some f =>
      let s1 := s.setReg .queStatus k (BitVec.ofNat 32 (f.code * 2 ^ 24 + 5 * 2 ^ 16 + f.place))
      let s2 := s1.setReg .queLdinfo k (BitVec.ofNat 32 (b2n f.loopRow.isSome * 2 ^ 8 + f.row))
      let s3 := match f.loopRow with
        | some r => s2.setReg .queLdrow k (BitVec.ofNat 32 r)
        | none => s2
      ((s3.hwFld .queCtrl k 0 0 0).modQueue k fun q => { q with goHeld := false }).endOpen k 0x0003
    | none =>
      let go := (s.queue k).goHeld
      let s1 := (((s.setReg .queLdinfo k 0).setQst k 1).clearSb k).modQueue k fun q => { q with gens := s.prefGens k }
      let s2 := (s1.setRunId k).endOpen k 0x0000
      if go then s2.startQueue k else s2

/-- MANIFEST_LOAD_DONE. -/
def execManifestLoadDone (t : Fin 8) (q : Fin 16) (s : State) : Host.Outcome State Fault Refusal :=
  whenUp s fun x => x.loadDone (16 * t.val + q.val)

/-- QUEUE_CLOSE: refused while RUNNING or loading; it ends when the queue's last task and prefetch have ended, and the
queue is CLOSED. -/
def State.queueClose (s : State) (m t : Nat) (b : List W32) : State :=
  let k := 16 * t + fld (wordAt b 0) 3 0
  let n := (s.queue k).lcore
  let busy := !(s.queue k).tasks.isEmpty ||
    (s.core n).slots.any fun p => decide (16 * p.tenant + p.queue = k)
  if s.qst k = 2 ∨ (s.queue k).loading then s.endSvc m 0x0002
  else if busy then s
  else
    let s1 := s.modCore n fun c => { c with rest := match c.rest with
      | some r => if r.queue = k then none else some r
      | none => none }
    ((s1.setQst k 0).setQueue k Queue.init).endSvc m 0x0000

/-- QUEUE_CLOSE (Table 18-7). -/
def execQueueClose (m : Fin 64) (s : State) : Host.Outcome State Fault Refusal :=
  whenUp s fun x => x.serve m 0x0002 fun t b => x.queueClose m t b

end Sys2Proof.Machine
end

