-- ==== Sys2Proof/Machine/Sampler.lean ====
section
/-! DEFINITION. The arithmetic of the Kiln: geometry (R398), sampling (R399) and the colour, gamma and normalisation steps
(R400), in F32 operations rounded to nearest even. A descriptor is its 16 words, a parameter block its 32 words. -/
namespace Sys2Proof.Machine

/-! F32 operations. -/

def fA (a b : W32) : W32 := (fadd a b).bits
def fS (a b : W32) : W32 := (fsub a b).bits
def fM (a b : W32) : W32 := (fmul a b).bits
def fF (a b c : W32) : W32 := (ffma a b c).bits
def fInt (n : Nat) : W32 := ofInt32 n
def fHalf : W32 := 0x3F000000#32
def fOne : W32 := 0x3F800000#32
def fTwo : W32 := 0x40000000#32

/-- num / den for rounding: 100 fraction bits and a sticky bit. -/
def ratio (num den : Nat) : Ext :=
  mkFin false ((2 * (num * 2 ^ 100 / den) + (if num * 2 ^ 100 % den = 0 then 0 else 1) : Nat) : Int) (-101)

/-- 1 / w rounded to F32. -/
def fRecip (w : W32) : W32 :=
  match ext32 w with
  | .nan => canonNan32
  | .inf s => (round32 (.zero s)).bits
  | .zero s => (round32 (.inf s)).bits
  | .fin m e =>
    let r := extScale (ratio 1 m.natAbs) (-e)
    (round32 (if m < 0 then extNegate r else r)).bits

/-- bilerp(a, fx, fy) of R398. -/
def bilerp (a00 a10 a01 a11 fx fy : W32) : W32 :=
  let r0 := fF fx (fS a10 a00) a00
  let r1 := fF fx (fS a11 a01) a01
  fF fy (fS r1 r0) r0

/-! Descriptor and parameter fields (Tables 16-2, 16-3). -/

def kdBatch (d : List W32) : W32 := wordAt d 2
def kdSlot (d : List W32) : Nat := fld (wordAt d 3) 15 0
def kdKind (d : List W32) : Nat := fld (wordAt d 3) 19 16
def kdPix (d : List W32) : Nat := fld (wordAt d 3) 23 20
def kdStride (d : List W32) : Nat := fld (wordAt d 3) 31 24
def kdF0 (d : List W32) : Nat := (wordAt d 6).toNat
def kdFPitch (d : List W32) : Nat := (wordAt d 7).toNat
def kdPitch (d : List W32) : Nat := fld (wordAt d 8) 15 0
def kdRoute (d : List W32) : Nat := fld (wordAt d 8) 28 16
def kdMsg (d : List W32) : Nat := (wordAt d 9).toNat
def kdW (d : List W32) : Nat := fld (wordAt d 10) 15 0
def kdH (d : List W32) : Nat := fld (wordAt d 10) 31 16
def kdHs (d : List W32) : Nat := fld (wordAt d 11) 15 0
def kdWs (d : List W32) : Nat := fld (wordAt d 11) 31 16
def kdTs (d : List W32) : Nat := fld (wordAt d 12) 15 0
def kdDeadline (d : List W32) : Nat := fld (wordAt d 12) 31 16 + (wordAt d 13).toNat * 2 ^ 16
def kdMesh (d : List W32) : Nat := fld (wordAt d 14) 23 0
def kdMoff (d : List W32) : Nat := 256 * fld (wordAt d 15) 23 0

def kpM (p : List W32) (r c : Nat) : W32 := wordAt p (4 * r + c)
def kpMean (p : List W32) (c : Nat) : W32 := wordAt p (12 + c)
def kpInv (p : List W32) (c : Nat) : W32 := wordAt p (15 + c)
def kpFlags (p : List W32) : W32 := wordAt p 31
def kpLens (p : List W32) : Bool := bit (kpFlags p) 0
def kpMeshEn (p : List W32) : Bool := bit (kpFlags p) 1
def kpBicubic (p : List W32) : Bool := bit (kpFlags p) 2
def kpZero (p : List W32) : Bool := bit (kpFlags p) 3
def kpGamma (p : List W32) : Nat := fld (kpFlags p) 7 4

/-! Geometry (R398). -/

/-- Coordinate k (0 x, 1 y) of mesh point (i, j): `mesh` holds the points' words row by row. -/
def meshPoint (mesh : List W32) (mx i j k : Nat) : W32 := wordAt mesh (2 * (j * mx + i) + k)

/-- Crop coordinates of the output position through the mesh. -/
def meshMap (mesh : List W32) (mx my : Nat) (un vn : W32) : W32 × W32 :=
  let gx := fM un (fInt (mx - 1))
  let gy := fM vn (fInt (my - 1))
  let i := Nat.min (extFloor (ext32 gx)).toNat (mx - 2)
  let j := Nat.min (extFloor (ext32 gy)).toNat (my - 2)
  let fx := fS gx (fInt i)
  let fy := fS gy (fInt j)
  let at' (k : Nat) : W32 := bilerp (meshPoint mesh mx i j k) (meshPoint mesh mx (i + 1) j k) (meshPoint mesh mx i (j + 1) k)
    (meshPoint mesh mx (i + 1) (j + 1) k) fx fy
  (at' 0, at' 1)

/-- The lens step. -/
def lensMap (p : List W32) (xc yc : W32) : W32 × W32 :=
  let w (i : Nat) : W32 := wordAt p i
  let x := fM (fS xc (w 23)) (fRecip (w 25))
  let y := fM (fS yc (w 24)) (fRecip (w 26))
  let r2 := fF x x (fM y y)
  let k := fF r2 (fF r2 (fF r2 (w 20) (w 19)) (w 18)) fOne
  let xy2 := fM (fM x y) fTwo
  let xd := fF x k (fF (w 21) xy2 (fM (w 22) (fF (fM x x) fTwo r2)))
  let yd := fF y k (fF (w 22) xy2 (fM (w 21) (fF (fM y y) fTwo r2)))
  (fF xd (w 25) (w 23), fF yd (w 26) (w 24))

/-- The continuous source position of output pixel (u, v). -/
def geometry (d p mesh : List W32) (mx my u v : Nat) : W32 × W32 :=
  let un := fM (fA (fInt u) fHalf) (fRecip (fInt (kdWs d)))
  let vn := fM (fA (fInt v) fHalf) (fRecip (fInt (kdHs d)))
  let n := if kpMeshEn p then meshMap mesh mx my un vn else (un, vn)
  let xc := fF n.1 (wordAt p 29) (wordAt p 27)
  let yc := fF n.2 (wordAt p 30) (wordAt p 28)
  if kpLens p then lensMap p xc yc else (xc, yc)

/-! Sampling (R399). -/

/-- A position on one axis: whole part and fraction. Beyond 2^24 it lies outside, with fraction 0. -/
def axisPos (x : W32) : Int × W32 :=
  match ext32 x with
  | .inf s => (if s then -(2 ^ 25) else 2 ^ 25, 0)
  | y =>
    let n := extFloor y
    if n < -(2 ^ 24) ∨ 2 ^ 24 < n then (if n < 0 then -(2 ^ 25) else 2 ^ 25, 0) else (n, fS x (ofInt32 n))

/-- A tap index on an axis of n pixels: the edge pixel outside, or none with ZEROBORDER. -/
def tapIndex (zero : Bool) (n : Nat) (i : Int) : Option Nat :=
  if i < 0 then (if zero then none else some 0)
  else if n ≤ i.toNat then (if zero then none else some (n - 1))
  else some i.toNat

/-- Tap indices of a position on one axis: two, or four with bicubic sampling. -/
def axisTaps (cubic zero : Bool) (n : Nat) (i : Int) : List (Option Nat) :=
  (if cubic then [i - 1, i, i + 1, i + 2] else [i, i + 1]).map (tapIndex zero n)

/-- Bicubic weights of a fractional part. -/
def cubicWeights (t : W32) : List W32 :=
  let mh := 0xBF000000#32
  let w0 := fM (fS (fM (fA (fM mh t) fOne) t) fHalf) t
  let w1 := fA (fM (fM (fS (fM 0x3FC00000#32 t) 0x40200000#32) t) t) fOne
  let w2 := fM (fA (fM (fA (fM 0xBFC00000#32 t) fTwo) t) fHalf) t
  let w3 := fM (fM (fS (fM fHalf t) fHalf) t) t
  [w0, w1, w2, w3]

/-- A weighted sum by FMA in order, from +0. -/
def fmaSum (vals ws : List W32) : W32 := (vals.zip ws).foldl (fun a p => fF p.1 p.2 a) 0

/-- A sample of a plane of w × h pixels at a position; `tap` gives the value of a pixel (x, y). -/
def samplePlane (cubic zero : Bool) (w h : Nat) (tap : Nat → Nat → W32) (x y : W32) : W32 :=
  if isNan32 x || isNan32 y then Config.kilnNan x y
  else
    let px := axisPos x
    let py := axisPos y
    let value (tx ty : Option Nat) : W32 := match tx, ty with
      | some i, some j => tap i j
      | _, _ => 0
    let rows := (axisTaps cubic zero h py.1).map fun ty => (axisTaps cubic zero w px.1).map fun tx => value tx ty
    if cubic then fmaSum (rows.map fun r => fmaSum r (cubicWeights px.2)) (cubicWeights py.2)
    else
      let a (j i : Nat) : W32 := wordAt ((rows[j]?).getD []) i
      bilerp (a 0 0) (a 0 1) (a 1 0) (a 1 1) px.2 py.2

/-- The pixels that a sample of a plane reads. -/
def planeTaps (cubic zero : Bool) (w h : Nat) (x y : W32) : List (Nat × Nat) :=
  if isNan32 x || isNan32 y then []
  else
    ((axisTaps cubic zero h (axisPos y).1).filterMap id).flatMap fun j =>
      ((axisTaps cubic zero w (axisPos x).1).filterMap id).map fun i => (i, j)

/-! Pixel formats (Table 16-5). -/

/-- Formats with a 4:2:0 chroma plane. -/
def isYuv (pix : Nat) : Bool := decide (pix = 4) || decide (pix = 5)
/-- Bytes of a pixel of the first plane. -/
def pixBytes (pix : Nat) : Nat := match pix with | 0 => 1 | 1 => 3 | 2 => 4 | 3 => 6 | 4 => 1 | _ => 2
/-- Bits of a code. -/
def pixBits (pix : Nat) : Nat := match pix with | 3 => 16 | 5 => 10 | _ => 8
/-- Bytes of a code. -/
def pixCodeBytes (pix : Nat) : Nat := if pix = 3 ∨ pix = 5 then 2 else 1

/-- Bytes of a source frame: the rows of every plane. -/
def clipFrameBytes (d : List W32) : Nat :=
  if isYuv (kdPix d) then kdPitch d * (kdH d + cdiv (kdH d) 2 - 1) + 2 * cdiv (kdW d) 2 * pixCodeBytes (kdPix d)
  else kdPitch d * (kdH d - 1) + kdW d * pixBytes (kdPix d)

/-- Offset in the frame of channel c (0 to 2) of pixel (x, y) of its plane. -/
def pixOff (d : List W32) (c x y : Nat) : Nat :=
  let pix := kdPix d
  if isYuv pix ∧ 1 ≤ c then kdPitch d * (kdH d + y) + (2 * x + (c - 1)) * pixCodeBytes pix
  else kdPitch d * y + x * pixBytes pix + (if pix = 0 ∨ isYuv pix then 0 else c * pixCodeBytes pix)

/-- The value of a code: code / (2^bits - 1) rounded to F32. -/
def pixValue (pix : Nat) (bs : List Byte) : W32 :=
  let v := leNat bs
  let code := if pix = 5 then v / 64 else v
  (round32 (ratio code (2 ^ pixBits pix - 1))).bits

/-- Plane size and sample position of channel c. -/
def chanPlane (d : List W32) (c : Nat) : Nat × Nat :=
  if isYuv (kdPix d) ∧ 1 ≤ c then (cdiv (kdW d) 2, cdiv (kdH d) 2) else (kdW d, kdH d)
def chanPos (d : List W32) (c : Nat) (pos : W32 × W32) : W32 × W32 :=
  if isYuv (kdPix d) ∧ 1 ≤ c then (fS (fM pos.1 fHalf) fHalf, fS (fM pos.2 fHalf) fHalf)
  else (fS pos.1 fHalf, fS pos.2 fHalf)

/-- s0, s1, s2 at a source position: `rd` reads a byte of the frame by its offset. -/
def sampleAt (rd : Nat → Byte) (d p : List W32) (pos : W32 × W32) : List W32 :=
  [0, 1, 2].map fun c =>
    let n := pixCodeBytes (kdPix d)
    let q := chanPos d c pos
    samplePlane (kpBicubic p) (kpZero p) (chanPlane d c).1 (chanPlane d c).2
      (fun x y => pixValue (kdPix d) ((List.range n).map fun i => rd (pixOff d c x y + i))) q.1 q.2

/-- Frame offsets of the bytes that the sample at a position reads. -/
def sampleBytes (d p : List W32) (pos : W32 × W32) : List Nat :=
  [0, 1, 2].flatMap fun c =>
    let q := chanPos d c pos
    (planeTaps (kpBicubic p) (kpZero p) (chanPlane d c).1 (chanPlane d c).2 q.1 q.2).flatMap fun t =>
      (List.range (pixCodeBytes (kdPix d))).map fun i => pixOff d c t.1 t.2 + i

/-! Colour, gamma, normalisation (R400). -/

/-- The gamma step with table index `g`; `gamma` holds the tables one after another. -/
def gammaStep (gamma : List W32) (g : Nat) (a : W32) : W32 :=
  if g = 0 then a
  else
    let x := (fmin (fmax a 0).bits fOne).bits
    let q := fM x (fInt 1024)
    let i := Nat.min (extFloor (ext32 q)).toNat 1023
    let t (j : Nat) : W32 := wordAt gamma ((g - 1) * 1025 + j)
    fF (fS q (fInt i)) (fS (t (i + 1)) (t i)) (t i)

/-- Output channel c of the samples: the B16 value and whether it saturated. -/
def outChannel (gamma p s : List W32) (c : Nat) : W32 × Bool :=
  let a0 := fF (kpM p c 0) (wordAt s 0) (kpM p c 3)
  let a1 := fF (kpM p c 1) (wordAt s 1) a0
  let a := fF (kpM p c 2) (wordAt s 2) a1
  let g := gammaStep gamma (kpGamma p) a
  let y := (f32ToB16 (fM (fS g (kpMean p c)) (kpInv p c))).bits
  (y, decide (y.toNat % 32768 = 0x7F80))

end Sys2Proof.Machine
end

