-- ==== Sys2Proof/Machine/Codec.lean ====
section
/-! DEFINITION. The video codec: contexts and their services (R414, R417, R418, R424), rings (R419, R425), admission
(R435, R437), output pictures (R420 to R423), encode passes and rate control (R426 to R431), regions of interest (R432),
commits (R433) and pipe faults (R436). -/
namespace Sys2Proof.Machine

/-! Context records (Tables 17-2, 17-3). -/

/-- A 48-bit or 64-bit address in words i and i + 1. -/
def addr48 (d : List W32) (i : Nat) : Nat := (wordAt d i).toNat + fld (wordAt d (i + 1)) 15 0 * 2 ^ 32
def addr64 (d : List W32) (i : Nat) : Nat := (wordAt d i).toNat + (wordAt d (i + 1)).toNat * 2 ^ 32

def cCls (r : List W32) : Nat := df r 1 9 8
def cLive (r : List W32) : Bool := bit (wordAt r 1) 10
/-- AV1 rather than HEVC. -/
def cAv1 (r : List W32) : Bool := bit (wordAt r 1) 11
def dTensor (r : List W32) : Bool := bit (wordAt r 1) 12
def dRingLog (r : List W32) : Nat := df r 1 19 16
def dPool (r : List W32) : Nat := df r 1 29 24
def dMaxW (r : List W32) : Nat := df r 2 15 0
def dMaxH (r : List W32) : Nat := df r 2 31 16
def dMax10 (r : List W32) : Bool := bit (wordAt r 3) 0
def dSrcH (r : List W32) : Nat := df r 6 23 0
def dLatency (r : List W32) : Nat := (wordAt r 7).toNat
def cWork (r : List W32) (i : Nat) : Nat := addr48 r i
def eDlskip (r : List W32) : Bool := bit (wordAt r 1) 12
def eInfmt (r : List W32) : Nat := df r 1 14 13
def eBit10 (r : List W32) : Bool := bit (wordAt r 1) 15
def eLevel (r : List W32) : Nat := df r 1 23 16
def eRingLog (r : List W32) : Nat := df r 1 27 24
def eW (r : List W32) : Nat := df r 2 15 0
def eH (r : List W32) : Nat := df r 2 31 16
def eNum (r : List W32) : Nat := df r 3 15 0
def eDen (r : List W32) : Nat := df r 3 31 16
def eKeyint (r : List W32) : Nat := df r 4 15 0
def eOut (r : List W32) : Nat := df r 5 23 0
def eStats (r : List W32) : Nat := df r 6 23 0

/-- Pitch, slot bytes and working range of a decode context (R418). -/
def dPitch (r : List W32) : Nat := roundUp (dMaxW r * (1 + b2n (dMax10 r))) 256
def dSlotBytes (r : List W32) : Nat := roundUp (256 + dPitch r * dMaxH r * 3 / 2) 4096
def dWorkBytes (r : List W32) : Nat := (dPool r + (if cAv1 r then 9 else 17)) * dSlotBytes r + 4 * 2 ^ 20

/-- Working range of an encode context (Table 17-3). -/
def eWorkBytes (r : List W32) : Nat := roundUp (3 * (eW r * eH r * 3)) 4096 + 8 * 2 ^ 20

/-- Picture size of Table 17-1. -/
def sizeOk (w h : Nat) : Bool :=
  decide (1 ≤ w) && decide (1 ≤ h) && decide (w ≤ 8192) && decide (h ≤ 8192) && decide (w * h ≤ 35651584)

/-- A decode record keeps Tables 17-1 and 17-2, the context number apart. -/
def decRecordOk (r : List W32) : Bool :=
  decide (16 ≤ r.length) && decide (wordAt r 0 = 0x43445655#32) && decide (wordAt r 1 &&& ~~~0x3F0F1FFF#32 = 0) &&
  decide (cCls r ≠ 3) && (!cLive r || decide (cCls r = 1)) && decide (4 ≤ dRingLog r) && decide (dRingLog r ≤ 12) &&
  decide (2 ≤ dPool r) && sizeOk (dMaxW r) (dMaxH r) && decide (wordAt r 3 &&& ~~~1#32 = 0) &&
  decide (addr64 r 4 % 4096 = 0) && decide (wordAt r 6 &&& ~~~0xFFFFFF#32 = 0) &&
  (dTensor r || decide (dSrcH r = 0)) && (!decide (cCls r = 1) || decide (0 < dLatency r)) &&
  decide (fld (wordAt r 9) 31 16 = 0) && decide (cWork r 8 % 4096 = 0) &&
  [10, 11, 12, 13, 14, 15].all fun i => decide (wordAt r i = 0)

/-- An encode record keeps Tables 17-1 and 17-3, its tensors apart. -/
def encRecordOk (r : List W32) : Bool :=
  decide (16 ≤ r.length) && decide (wordAt r 0 = 0x43455655#32) && decide (wordAt r 1 &&& ~~~0x0FFFFF3F#32 = 0) &&
  decide (cCls r ≠ 3) && (!cLive r || decide (cCls r = 1)) && (!eDlskip r || cLive r) && decide (eInfmt r ≠ 3) &&
  (cAv1 r || eBit10 r) && decide (4 ≤ eRingLog r) && decide (eRingLog r ≤ 12) && sizeOk (eW r) (eH r) &&
  decide (eW r % 2 = 0) && decide (eH r % 2 = 0) && decide (0 < eNum r) && decide (0 < eDen r) &&
  decide (fld (wordAt r 4) 31 16 = 0) && decide (fld (wordAt r 5) 31 24 = 0) && decide (fld (wordAt r 6) 31 24 = 0) &&
  decide (wordAt r 7 = 0) && decide (addr64 r 8 % 4096 = 0) && decide (addr64 r 10 % 256 = 0) &&
  decide (addr64 r 12 % 256 = 0) && decide (fld (wordAt r 15) 31 16 = 0) && decide (cWork r 14 % 4096 = 0)

/-! Configuration blocks (Table 17-4). -/

def gVbr (b : List W32) : Bool := bit (wordAt b 0) 0
def gMaxrate (b : List W32) : Nat := (wordAt b 2).toNat
def gBufsize (b : List W32) : Nat := (wordAt b 3).toNat
def gInitfull (b : List W32) : Nat := (wordAt b 4).toNat
def gQpmin (b : List W32) : Nat := df b 5 7 0
def gQpmax (b : List W32) : Nat := df b 5 15 8

/-- Bits that arrive in one frame period (R424, R427). -/
def arrivals (r b : List W32) : Nat := gMaxrate b * 1000 * eDen r / eNum r

/-- The largest quantiser of the codec (R430). -/
def qpTop (r : List W32) : Nat := if cAv1 r then 255 else 51

/-- A configuration block keeps Table 17-4 and passes the checks of R424. -/
def configOk (r b : List W32) : Bool :=
  decide (32 ≤ b.length) && decide (wordAt b 0 &&& ~~~1#32 = 0) && decide (fld (wordAt b 5) 31 16 = 0) &&
  ((List.range 14).all fun i => decide (wordAt b (18 + i) = 0)) &&
  (gVbr b || decide (gMaxrate b = (wordAt b 1).toNat)) &&
  decide (eW r * eH r ≤ 16 * gInitfull b) && decide (gInitfull b ≤ gBufsize b) &&
  decide (2 * gMaxrate b * 1000 * eDen r ≤ gBufsize b * eNum r) &&
  decide (16384 * eNum r ≤ gMaxrate b * 1000 * eDen r) &&
  Config.levelOk (cAv1 r) (eLevel r) (eW r) (eH r) (gMaxrate b) &&
  decide (gQpmin b ≤ gQpmax b) && decide (gQpmax b ≤ qpTop r)

/-! Contexts. -/

/-- Context state: 0 CLOSED, 1 OPEN, 2 ENDED. -/
def State.decSt (s : State) (c : Nat) : Nat := s.rfld .cdcDstat c 31 29
def State.encSt (s : State) (e : Nat) : Nat := s.rfld .cdcEstat e 31 29
def State.decOwner (s : State) (c : Nat) : Nat := s.rfld .cdcDstat c 28 26
def State.encOwner (s : State) (e : Nat) : Nat := s.rfld .cdcEstat e 28 26

/-- Open contexts of a tenant, decode and encode. -/
def State.decsOf (s : State) (t : Nat) : List Nat :=
  (List.range 256).filter fun c => decide (s.decSt c ≠ 0) && decide (s.decOwner c = t)
def State.encsOf (s : State) (t : Nat) : List Nat :=
  (List.range 64).filter fun e => decide (s.encSt e ≠ 0) && decide (s.encOwner e = t)

/-- STATE, TENANT, CLASS and LIVE of a status register. -/
def ctxStat (t : Nat) (r : List W32) : W32 :=
  BitVec.ofNat 32 (2 ^ 29 + t * 2 ^ 26 + cCls r * 2 ^ 24 + b2n (cLive r) * 2 ^ 23)

/-- RECOV as CDC_MODE shows it (R436). -/
def State.showRecov (s : State) : State :=
  s.setRfld .cdcMode 0 8 8 (b2n (!s.codec.recover.isEmpty || !s.codec.held.isEmpty))

/-- A context no longer keeps ORDERED. -/
def State.leaveRecover (s : State) (x : Bool × Nat) : State :=
  { s with codec := { s.codec with recover := s.codec.recover.erase x } }.showRecov

/-- A context closes: its ring, pictures and frame go (R412's peer for the codec, R436). -/
def State.closeDec (s : State) (c : Nat) : State :=
  let s1 := (s.setDec c DecCtx.init).setReg .cdcDstat c 0
  { s1 with codec := { s1.codec with recover := s1.codec.recover.erase (false, c),
                                     held := s1.codec.held.erase (false, c) } }.showRecov
def State.closeEnc (s : State) (e : Nat) : State :=
  let s1 := (s.setEnc e EncCtx.init).setReg .cdcEstat e 0
  { s1 with codec := { s1.codec with recover := s1.codec.recover.erase (true, e),
                                     held := s1.codec.held.erase (true, e) } }.showRecov

/-- A layout 7 tensor of the tenant in the fast tier (Table 17-3). -/
def State.opaqueFast (s : State) (t h : Nat) : Bool :=
  let e := s.home t h
  s.handleOk t h && decide (e.st ≠ stFree) && decide (e.kind = 1) && decide (e.layout = 7)

/-- Code of a refused decode record, 0 for none (R417). -/
def State.decRefusal (s : State) (t : Nat) (r : List W32) : Nat :=
  if !decRecordOk r || s.decSt (df r 1 7 0) ≠ 0 then 0x0003
  else if cCls r = 0 ∧ !(s.cfg.tenant t).cl0 then 0x0004
  else if !(s.inWindows t (cWork r 8) (dWorkBytes r) && isFast (cWork r 8)) then 0x0004
  else if (s.cfg.tenant t).decCtx ≤ (s.decsOf t).length then 0x0002
  else 0

/-- Code of a refused encode record, 0 for none (R417, R424). -/
def State.encRefusal (s : State) (t : Nat) (r b : List W32) : Nat :=
  if !encRecordOk r || !s.opaqueFast t (eOut r) || !s.opaqueFast t (eStats r) then 0x0003
  else if cCls r = 0 ∧ !(s.cfg.tenant t).cl0 then 0x0004
  else if !(s.inWindows t (cWork r 14) (eWorkBytes r) && isFast (cWork r 14)) then 0x0004
  else if s.encSt (df r 1 5 0) ≠ 0 ∨ (s.cfg.tenant t).encCtx ≤ (s.encsOf t).length then 0x0002
  else if !configOk r b then 0x0003
  else 0

/-- A decode context opens. -/
def State.openDec (s : State) (t : Nat) (r : List W32) : State :=
  let c := df r 1 7 0
  let s1 := (s.setDec c { DecCtx.init with isOpen := true, record := r }).setReg .cdcDstat c (ctxStat t r)
  (((s1.setReg .cdcDhead c 0).hwSet .cdcDtail c 0).setReg .cdcDout c 0).hwSet .cdcDrelease c 0

/-- An encode context opens with block 0 as generation 0. -/
def State.openEnc (s : State) (t : Nat) (r b : List W32) : State :=
  let e := df r 1 5 0
  let x : EncCtx := { EncCtx.init with isOpen := true, record := r, config := b, buf0 := gBufsize b, fullness := gInitfull b }
  let s1 := (s.setEnc e x).setReg .cdcEstat e (ctxStat t r)
  ((((s1.setReg .cdcEhead e 0).hwSet .cdcEtail e 0).setReg .cdcEgen e 0).setReg .cdcEframe e 0).hwSet .cdcErel e 0

/-- Bus Master Enable of a tenant's function (R447). -/
def State.canRead (s : State) (t : Nat) : Bool := mget false s.host.busMaster (s.cfg.tenant t).func

/-- A read of host memory for a tenant leaves through its function. -/
def State.hostRead (s : State) (t addr len : Nat) : State := s.emit (.hostRead (s.cfg.tenant t).func addr len)

/-- CODEC_OPEN (R417): `cfg` holds the words of configuration block 0 as the read of it returned them. -/
def State.codecOpen (s : State) (m t : Nat) (r cfg : List W32) : State :=
  if wordAt r 0 = 0x43455655#32 then
    let code := s.encRefusal t r cfg
    if !s.canRead t then (s.countWrap .hstRderr (s.cfg.tenant t).func 1).endSvc m 0x0101
    else if code ≠ 0 then s.endSvc m code
    else ((s.hostRead t (addr64 r 10) 128).openEnc t r cfg).endSvc m 0x0000
  else
    let code := s.decRefusal t r
    if code ≠ 0 then s.endSvc m code else (s.openDec t r).endSvc m 0x0000

/-- CODEC_OPEN. -/
def execCodecOpen (m : Fin 64) (cfg : List W32) (s : State) : Host.Outcome State Fault Refusal :=
  whenUp s fun x => x.serve m 0x0007 fun t b => x.codecOpen m t b cfg

/-- CODEC_CLOSE: word 0 of the body is the kind, word 1 the context; it ends when the frame in progress has finished. -/
def State.codecClose (s : State) (m t : Nat) (b : List W32) : State :=
  let n := (wordAt b 1).toNat
  if wordAt b 0 = 0 then
    if s.decTenant n ≠ some t then s.endSvc m 0x0004
    else if (s.dec n).pipe.isSome then s
    else (s.closeDec n).endSvc m 0x0000
  else if wordAt b 0 = 1 then
    if s.encTenant n ≠ some t then s.endSvc m 0x0004
    else if (s.enc n).frame.isSome then s
    else (s.closeEnc n).endSvc m 0x0000
  else s.endSvc m 0x0003

/-- CODEC_CLOSE (Table 18-7). -/
def execCodecClose (m : Fin 64) (s : State) : Host.Outcome State Fault Refusal :=
  whenUp s fun x => x.serve m 0x0008 fun t b => x.codecClose m t b

/-! Rings (R394, R419, R425). -/

/-- Entries that a TAIL value posts. -/
def postedBy (head : Nat) (v : W32) : Nat := (fld v 15 0 + 65536 - head) % 65536

/-- Entries posted at a TAIL, as (count, beat) groups, after a write that posts n in all. -/
def repost (posts : List (Nat × Nat)) (n beat : Nat) : List (Nat × Nat) :=
  match posts with
  | [] => if n = 0 then [] else [(n, beat)]
  | (c, b) :: t => if n ≤ c then (if n = 0 then [] else [(n, b)]) else (c, b) :: repost t (n - c) beat

/-- Take n entries from the front of the groups. -/
def takePosts : List (Nat × Nat) → Nat → List (Nat × Nat)
  | [], _ => []
  | (c, b) :: t, n => if n < c then (c - n, b) :: t else takePosts t (n - c)

/-- Posted entries in all. -/
def postCount (posts : List (Nat × Nat)) : Nat := (posts.map (·.1)).sum

/-- A write of CDC_DTAIL: dropped whole when it would post more than the ring holds. -/
def State.decTail (s : State) (f c : Nat) (v : W32) : State :=
  let r := s.write f .cdcDtail c true v
  let n := postedBy (s.rfld .cdcDhead c 15 0) v
  let x := s.dec c
  if !r.2 then r.1
  else if !x.isOpen then r.1
  else if 2 ^ dRingLog x.record < n then s.countWrap .cdcDrop 0 1
  else r.1.setDec c { x with posts := repost x.posts n s.beat }

/-- A write of CDC_ETAIL. -/
def State.encTail (s : State) (f e : Nat) (v : W32) : State :=
  let r := s.write f .cdcEtail e true v
  let n := postedBy (s.rfld .cdcEhead e 15 0) v
  let x := s.enc e
  if !r.2 then r.1
  else if !x.isOpen then r.1
  else if 2 ^ eRingLog x.record < n then s.countWrap .cdcDrop 0 1
  else r.1.setEnc e { x with posts := x.posts.take n ++ List.replicate (n - x.posts.length) s.beat }

/-- DECODE_TAIL_WRITE (R419). -/
def execDecodeTailWrite (f : Fin 9) (c : Fin 256) (value : W32) (s : State) : Host.Outcome State Fault Refusal :=
  whenServed s fun x => x.decTail f c value

/-- ENCODE_TAIL_WRITE (R425). -/
def execEncodeTailWrite (f : Fin 9) (e : Fin 64) (value : W32) (s : State) : Host.Outcome State Fault Refusal :=
  whenServed s fun x => x.encTail f e value

/-- A Kiln sample in progress still has to read picture q of context c (R397, R420). -/
def KSample.reads (x : KSample) (c q : Nat) : Bool :=
  decide (df x.desc 3 19 16 = 2) && decide (df x.desc 4 7 0 = c) &&
  (List.range (df x.desc 12 15 0)).any fun t =>
    decide (x.frames ≤ t) && decide ((wordAt x.desc 6).toNat + t * df x.desc 3 31 24 = q)

/-- Pictures released and not being read are freed (R420). -/
def State.freePics (s : State) (c : Nat) : State :=
  let rel := (s.reg .cdcDrelease c).toNat
  let t := s.decOwner c
  let used (q : Nat) : Bool := s.kiln.queues.any fun p => decide (p.1 / 16 = t) && p.2.samples.any fun x => x.reads c q
  let x := s.dec c
  s.setDec c { x with pics := x.pics.filter fun p => !(decide (p.num < rel) && !used p.num) }

/-- DECODE_RELEASE_WRITE (R420). -/
def execDecodeReleaseWrite (f : Fin 9) (c : Fin 256) (value : W32) (s : State) : Host.Outcome State Fault Refusal :=
  whenServed s fun x => let r := x.write f .cdcDrelease c true value
    if r.2 then r.1.freePics c else r.1

/-- ENCODE_RELEASE_WRITE (R434). -/
def execEncodeReleaseWrite (f : Fin 9) (e : Fin 64) (value : W32) (s : State) : Host.Outcome State Fault Refusal :=
  whenServed s fun x => (x.write f .cdcErel e true value).1

/-- CODEC_MODE_REQUEST (R435, R438). -/
def execCodecModeRequest (f : Fin 9) (value : W32) (s : State) : Host.Outcome State Fault Refusal :=
  whenServed s fun x => (x.write f .cdcMode 0 true value).1

/-! Admission (R435). -/

/-- S of R434: entries of the statistics tensor. -/
def State.statSlots (s : State) (t : Nat) (r : List W32) : Nat := (s.home t (eStats r)).bytes / 64

/-- A decode context has a frame to admit. -/
def State.decReady (s : State) (c : Nat) : Bool :=
  let x := s.dec c
  decide (s.decSt c = 1) && x.pipe.isNone && !s.held (.decode c) && !s.codec.held.contains (false, c) &&
    (x.more.isSome || (!x.endSeen && !x.posts.isEmpty && s.canRead (s.decOwner c)))

/-- An encode context has a frame to admit (R434). -/
def State.encReady (s : State) (e : Nat) : Bool :=
  let x := s.enc e
  decide (s.encSt e = 1) && x.frame.isNone && !x.lastSeen && !s.held (.encode e) && !s.codec.held.contains (true, e) &&
    !x.posts.isEmpty && s.canRead (s.encOwner e) &&
    decide (x.admitted < (s.reg .cdcErel e).toNat + s.statSlots (s.encOwner e) x.record)

/-- A context that waits for admission: number, tenant, class, live, posting beat, deadline. -/
structure CodecReq where
  ctx : Nat
  tenant : Nat
  cls : Nat
  live : Bool
  posted : Nat
  deadline : Nat
  deriving DecidableEq, Repr

/-- The decode contexts that wait. -/
def State.decReqs (s : State) : List CodecReq :=
  ((List.range 256).filter s.decReady).map fun c =>
    let x := s.dec c
    let b := match x.more with
      | some b => b
      | none => ((x.posts.head?).map (·.2)).getD 0
    ⟨c, s.decOwner c, cCls x.record, cLive x.record, b, b + dLatency x.record⟩

/-- Deadline beat of a submission entry (Table 17-5). -/
def entryDeadline (r entry : List W32) (posted : Nat) : Nat :=
  let d := addr48 entry 2
  if d = 0 then posted + 1000000 * eDen r / eNum r else d

/-- The encode contexts that wait, with their HEAD entries in increasing context number. -/
def State.encReqs (s : State) (entries : List (List W32)) : List (CodecReq × List W32) :=
  ((List.range 64).filter s.encReady).zipIdx.map fun p =>
    let x := s.enc p.1
    let entry := (entries[p.2]?).getD []
    let b := x.posts.headD 0
    (⟨p.1, s.encOwner p.1, cCls x.record, cLive x.record, b, entryDeadline x.record entry b⟩, entry)

/-- A frame ready for admission is in its tenant's queue at the codec: fewer of the tenant's ready frames of its class than
the queue is deep were posted before it (R38, R437). Decode contexts come before encode contexts of the same beat. -/
def State.withinDepth (s : State) (enc : Bool) (r : CodecReq) : Bool :=
  let n (b : Bool) (x : CodecReq) : Nat := b2n b * 256 + x.ctx
  let ahead (b : Bool) (l : List CodecReq) : Nat := (l.filter fun x =>
    decide (x.tenant = r.tenant) && decide (x.cls = r.cls) &&
      (decide (x.posted < r.posted) || (decide (x.posted = r.posted) && decide (n b x < n enc r)))).length
  decide (r.cls = 0) ||
    decide (ahead false s.decReqs + ahead true ((s.encReqs []).map (·.1)) < s.unitDepth 2 r.tenant r.cls)

/-- The earliest request by a measure; equal ones in context order. -/
def firstBy (f : CodecReq → Nat) (l : List CodecReq) : Option CodecReq :=
  l.foldl (fun b r => match b with
    | none => some r
    | some y => if f r < f y then some r else some y) none

/-- The next request in STARTUP and ORDERED: by class, then increasing context number from the last admitted. -/
def nextOrdered (last : Nat) (l : List CodecReq) : Option CodecReq :=
  match firstBy (·.cls) l with
  | none => none
  | some y =>
    let same := l.filter fun r => decide (r.cls = y.cls)
    match same.find? fun r => decide (last < r.ctx) with
    | some r => some r
    | none => same.head?

/-- The next request in SERVICE, with the scheduler state of unit 2 after it (Tables 1-5, 17-9). -/
def State.nextService (s : State) (l : List CodecReq) : Option (CodecReq × SharedUnit) :=
  let x := s.unit 2
  let of (c : Nat) : List CodecReq := l.filter fun r => decide (r.cls = c)
  let tenants (c last : Nat) : List Nat := ((List.range 8).map fun i => (last + 1 + i) % 8).filter fun t =>
    (of c).any fun r => decide (r.tenant = t)
  let mine (c t : Nat) : List CodecReq := (of c).filter fun r => decide (r.tenant = t)
  match (tenants 0 x.last0).head? with
  | some t => (firstBy (·.posted) (mine 0 t)).map fun r => (r, { x with last0 := t })
  | none =>
    match firstBy (·.deadline) ((of 1).filter (·.live)) with
    | some r => some (r, x)
    | none =>
      match firstBy (·.deadline) (of 1) with
      | some r => some (r, x)
      | none =>
        match rrNext (s.weight2 2) (tenants 2 x.turn2) x.credit with
        | some (t, c) => (firstBy (·.posted) (mine 2 t)).map fun r => (r, { x with credit := c, turn2 := t })
        | none => none

/-- A pipe holds a frame. -/
def State.pipeBusy (s : State) (p : Nat) : Bool :=
  (s.codec.dec.any fun x => decide (x.2.pipe = some p)) ||
  (s.codec.enc.any fun x => x.2.frame.any fun f => decide (f.pipe = p))

/-- The mode that pipe p takes at its next admission (R435, R436). -/
def State.pipeMode (s : State) (p : Nat) : Nat :=
  if !s.codec.recover.isEmpty || !s.codec.held.isEmpty then 2
  else fld (s.applied .cdcMode 0 (96 + p)) 1 0

/-- The context that pipe p admits, and unit 2's scheduler after it. -/
def State.chooseCtx (s : State) (p last : Nat) (l : List CodecReq) : Option (CodecReq × SharedUnit) :=
  if s.pipeMode p = 1 then s.nextService l
  else if s.pipeBusy p then none
  else (nextOrdered last l).map fun r => (r, s.unit 2)

/-- A frame of decode context c enters pipe p: its ring entries are consumed, and with END the ring ends (R419, R423).
A SRC 1 read whose handle meets a stop makes the next picture BAD (R422). -/
def State.admitDec (s : State) (p c : Nat) (entries : List (List W32)) (more : Bool) : State :=
  let x := s.dec c
  let t := s.decOwner c
  let avail := entries.take (if x.endSeen then 0 else postCount x.posts)
  let upTo := match avail.zipIdx.find? fun y => bit (wordAt y.1 3) 0 with
    | some y => y.2 + 1
    | none => avail.length
  let used := avail.take upTo
  let ended := used.any fun y => bit (wordAt y 3) 0
  let beatOf := match x.more with
    | some b => b
    | none => ((x.posts.head?).map (·.2)).getD 0
  let h := s.home t (dSrcH x.record)
  let cold := s.coldFault t 66
  let stop := dTensor x.record && !used.isEmpty && (!s.handleOk t (dSrcH x.record) || decide (h.readCode cold ≠ 0) ||
    used.any fun y => decide (h.bytes < addr64 y 0 * 256 + (wordAt y 2).toNat))
  let lastBeat := if used.isEmpty then beatOf else ((takePosts x.posts (used.length - 1)).head?.map (·.2)).getD beatOf
  let s1 := s.setDec c { x with posts := takePosts x.posts used.length, more := if more then some lastBeat else none,
                                endSeen := x.endSeen || ended, pipe := some p, badNext := x.badNext || stop }
  let s2 := s1.setRfld .cdcDhead c 15 0 ((s.rfld .cdcDhead c 15 0 + used.length) % 65536)
  let s3 := if dTensor x.record then (if used.isEmpty then s2 else s2.coldRead t (dSrcH x.record))
    else used.foldl (fun a y => a.hostRead t (addr64 y 0) (wordAt y 2).toNat) s2
  { s3 with codec := { s3.codec with lastDec := c } }

/-- A commit changes RCMODE, MAXRATE or BUFSIZE (R433). -/
def paramChange (old new : List W32) : Bool :=
  decide (gVbr old ≠ gVbr new) || decide (gMaxrate old ≠ gMaxrate new) || decide (gBufsize old ≠ gBufsize new)

/-- The ROI map is ready for frame n (R432). -/
def roiReady (n : Nat) (m : List W32) : Bool :=
  decide ((wordAt m 0).toNat = n) && decide (df m 1 4 0 ≤ 16) &&
  (List.range (df m 1 4 0)).all fun i =>
    let d := df m (6 + 3 * i) 7 0
    decide (d ≤ 24) || decide (232 ≤ d)

/-- The input picture has the extent and format of its INFMT (R425). -/
def inputOk (r : List W32) (e : HEntry) : Bool :=
  let w := eW r
  let h := eH r
  match eInfmt r with
  | 2 => decide (e.layout = 4) && decide (e.fmt = 1) && decide (e.d0 = w) && decide (e.d1 = h) && decide (e.d2 = 1) &&
      decide (e.d3 = 3) && decide (e.d4 = 1)
  | f => decide (e.layout = 7) && decide (roundUp (w * (1 + f)) 256 * h * 3 / 2 ≤ e.bytes)

/-- A frame of encode context e enters pipe p (R425, R426, R432, R433). -/
def State.admitEnc (s : State) (p e : Nat) (req : CodecReq) (entry roi : List W32) : State :=
  let x := s.enc e
  let t := s.encOwner e
  let n := x.admitted
  let commit := x.nextConfig.isSome
  let cfg := x.nextConfig.getD x.config
  let change := commit && paramChange x.config cfg
  let h := df entry 0 23 0
  let en := s.home t h
  let failed := !s.handleOk t h || decide (en.kind = 3) || decide (en.readCode (s.coldFault t 66) ≠ 0) ||
    !inputOk x.record en
  let key := decide (n = 0) || (decide (0 < eKeyint x.record) && decide (n % eKeyint x.record = 0)) ||
    bit (wordAt entry 1) 0 || x.keyNext || change || x.paramNext
  let hasRoi := decide (addr64 entry 4 ≠ 0)
  let ready := hasRoi && roiReady n roi
  let stale := hasRoi && !ready
  let map := if ready then some roi else if hasRoi then x.lastRoi else none
  let gen := (s.reg .cdcEgen e).toNat + b2n commit
  let fr : EFrame :=
    { pipe := p, entry := entry, deadline := req.deadline, roi := map.getD [], roiStale := stale, key := key,
      first := decide (n = 0) || change || x.paramNext, failed := failed, start := s.clock.ptp,
      pass := if failed then 4 else 1, qp1 := 0, qp := 0, gen := gen,
      input := if failed then none else some { handle := h, gen := en.gen, mode := 0, oldHome := false
                                               cold := decide (en.st = stUnwritten), addr := s.homeAddr en } }
  let y : EncCtx :=
    { x with config := cfg, nextConfig := none, posts := x.posts.drop 1, admitted := n + 1, frame := some fr,
             keyNext := false, paramNext := false, fullness := if change then gInitfull cfg else x.fullness,
             lastRoi := if ready then some roi else x.lastRoi, lastSeen := bit (wordAt entry 1) 1 }
  let s1 := (s.setEnc e y).setRfld .cdcEhead e 15 0 ((s.rfld .cdcEhead e 15 0 + 1) % 65536)
  let s2 := (s1.setReg .cdcEgen e (BitVec.ofNat 32 gen)).countWrap .cdcEroistale e (b2n stale)
  let s3 := s2.hostRead t (addr64 x.record 8 + 32 * (s.rfld .cdcEhead e 15 0 % 2 ^ eRingLog x.record)) 32
  let s4 := if hasRoi then s3.hostRead t (addr64 entry 4) 256 else s3
  let s5 := if failed then s4 else s4.coldRead t h
  { s5 with codec := { s5.codec with lastEnc := e } }

/-- A pipe admits the next frame: pipes 0 to 3 decode, 4 to 7 encode. -/
def State.frameAdmit (s0 : State) (p : Nat) (entries : List (List W32)) (roi : List W32) (more : Bool) : State :=
  let s := ((s0.useReg .cdcMode 0).boundary .cdcMode 0 (96 + p))
  if s.held .codec || s.held (.sched 2) then s
  else
    let chosen := if p < 4 then (s.chooseCtx p s.codec.lastDec (s.decReqs.filter (s.withinDepth false))).map fun r => (r, ([] : List W32))
      else
        let l := (s.encReqs entries).filter fun y => s.withinDepth true y.1
        (s.chooseCtx p s.codec.lastEnc (l.map (·.1))).map fun r =>
          (r, ((l.find? fun y => decide (y.1.ctx = r.1.ctx)).map (·.2)).getD [])
    match chosen with
    | none => s
    | some ((r, u), entry) =>
      let s1 := ((s.setUnit 2 u).setRfld .cdcMode 0 5 4 (s.pipeMode p)).showRecov
      let s2 := if p < 4 then s1.admitDec p r.ctx entries more else s1.admitEnc p r.ctx r entry roi
      s2.unitBoundary 2

/-- CODEC_FRAME_ADMIT (R435). `entries` are the ring entries read: those that the decode frame consumes, or the HEAD
entry of every encode context that waits; `roi` is the map read for the frame; `more`: the last entry consumed holds
further frames. -/
def execCodecFrameAdmit (pipe : Fin 8) (entries : List (List W32)) (roi : List W32) (more : Bool) (s : State) :
    Host.Outcome State Fault Refusal := whenUp s fun x => x.frameAdmit pipe entries roi more

/-! Output pictures (R420 to R423). -/

/-- Bytes of one row of samples: NV12 bytes, or P010 words with the code in bits [15:6]; transfers are whole 256-byte
units (R253). -/
def rowBytes (ten : Bool) (codes : List Nat) : List Byte :=
  let b := codes.flatMap fun v => if ten then leBytes 2 (v % 1024 * 64) else [BitVec.ofNat 8 v]
  b ++ (List.range (roundUp b.length 256 - b.length)).map (Config.packPad b)

/-- Sample bytes of a picture, row by row, at their offsets from byte 256 of its slot. -/
def picRows (pitch : Nat) (p : PicHdr) (bad : Bool) : List (Nat × List Byte) :=
  let w := p.width
  let cw := 2 * cdiv w 2
  let mid := if p.ten then 512 else 128
  let luma := (List.range p.height).map fun y =>
    (pitch * y, rowBytes p.ten ((List.range w).map fun x => if bad then 0 else Config.decodedCode p.content (w * y + x)))
  let chroma := (List.range (cdiv p.height 2)).map fun y =>
    (pitch * (p.height + y), rowBytes p.ten ((List.range cw).map fun x =>
      if bad then 0 else if p.mono then mid else Config.decodedCode p.content (w * p.height + cw * y + x)))
  luma ++ chroma

/-- The picture record (R420). -/
def picRecord (num pitch : Nat) (p : PicHdr) (bad : Bool) : List Byte :=
  leBytes 4 num ++ leBytes 2 p.width ++ leBytes 2 p.height ++ leBytes 2 pitch ++ [BitVec.ofNat 8 (if p.ten then 10 else 8)] ++
    [BitVec.ofNat 8 (b2n bad)] ++ List.replicate 244 0

/-- A picture fits the slots of its context. -/
def picFits (r : List W32) (p : PicHdr) : Bool :=
  decide (p.width ≤ dMaxW r) && decide (p.height ≤ dMaxH r) && (!p.ten || dMax10 r)

/-- What the context outputs of a picture: one that does not fit its slots is BAD and cut to them (R414, R422). -/
def fitPic (r : List W32) (p : PicHdr) : PicHdr :=
  { p with width := Nat.min p.width (dMaxW r), height := Nat.min p.height (dMaxH r), ten := p.ten && dMax10 r }

/-- A picture is BAD by itself, by a stop of its reads, by its slot, or by a BAD picture that it references (R414, R422). -/
def DecCtx.badPic (x : DecCtx) (p : PicHdr) : Bool :=
  p.bad || x.badNext || !picFits x.record p || (!p.irap && p.refs.any x.bads.contains)

/-- Picture number n is output into its slot. -/
def State.outputPic (s : State) (c n : Nat) (p0 : PicHdr) : State :=
  let x := s.dec c
  let r := x.record
  let bad := x.badPic p0
  let p := fitPic r p0
  let slot := cWork r 8 + (n % dPool r) * dSlotBytes r
  let s1 := s.putUnits slot (picRecord n (dPitch r) p bad)
  let room := dSlotBytes r - 256
  let s2 := (picRows (dPitch r) p bad).foldl
    (fun a y => a.putUnits (slot + 256 + y.1) (y.2.take (room - y.1))) s1
  let pic : Pic := ⟨n, p.width, p.height, p.ten, bad⟩
  let s3 := s2.setDec c { x with badNext := false, pics := x.pics ++ [pic]
                                 bads := (if p.irap then [] else x.bads) ++ (if bad then [n] else []) }
  ((s3.countWrap .cdcDbad c (b2n bad)).setReg .cdcDout c (BitVec.ofNat 32 (n + 1))).raiseTenant (s.decOwner c) 35

/-- Output of a picture, the end of its frame in the pipe, and ENDED with the last picture of an ended ring. -/
def State.decodeOutput (s : State) (c : Nat) (pic : Option PicHdr) (frameEnds last : Bool) : State :=
  let x := s.dec c
  let n := (s.reg .cdcDout c).toNat
  let free := (s.freePics c).dec c
  let room := !(free.pics.any fun p => decide (p.num + dPool x.record = n))
  if decide (s.decSt c ≠ 1) || !(x.pipe.isSome || x.endSeen) then s
  else if pic.isSome && !room then s
  else if s.codec.held.contains (false, c) then (if frameEnds then s.closeDec c else s)
  else
    let s0 := s.freePics c
    let s1 := match pic with
      | some p => s0.outputPic c n p
      | none => s0
    let s2 := if frameEnds && x.pipe.isSome then (s1.setDec c { s1.dec c with pipe := none }).leaveRecover (false, c) else s1
    if last && x.endSeen && x.more.isNone && (s2.dec c).pipe.isNone then
      (s2.setRfld .cdcDstat c 31 29 2).raiseTenant (s.decOwner c) 35
    else s2

/-- DECODE_PICTURE_OUTPUT (R420). `pic` is what the coded stream makes of the picture, none for a frame without
output; `frameEnds`: the frame leaves its pipe; `last`: no picture of the stream remains. -/
def execDecodePictureOutput (c : Fin 256) (pic : Option PicHdr) (frameEnds last : Bool) (s : State) :
    Host.Outcome State Fault Refusal := whenUp s fun x => x.decodeOutput c pic frameEnds last

/-! Encode passes (R428 to R431). -/

/-- Quantiser of pass 2 or 3 (Table 17-6). -/
def passQp (r cfg : List W32) (qp1 pass : Nat) : Nat :=
  let add := match pass with
    | 2 => if cAv1 r then 12 else 3
    | _ => if cAv1 r then 32 else 8
  Nat.min (qp1 + add) (gQpmax cfg)

/-- The pass of Table 17-6 that follows a violation: none once pass 3 is used up. A pass that repeats the quantiser of
the one before it is not run. -/
def nextPass (r cfg : List W32) (pass qp1 : Nat) : Option Nat :=
  let q2 := passQp r cfg qp1 2
  let q3 := passQp r cfg qp1 3
  match pass with
  | 1 => if q2 ≠ qp1 then some 2 else if q3 ≠ q2 then some 3 else none
  | 2 => if q3 ≠ q2 then some 3 else none
  | _ => none

/-- How a frame ended: pass kept, quantiser, bits, KEY, KEYMOVED, DLSKIPPED. -/
structure EResult where
  pass : Nat
  qp : Nat
  bits : Nat
  key : Bool
  moved : Bool
  skipped : Bool
  deriving DecidableEq, Repr

/-- What the end of a pass leads to: the next pass (5 is the coding at the maximum quantiser) with its quantiser and
DLSKIPPED mark, or the frame's end. -/
inductive PassStep where
  | run (pass qp : Nat)
  | skip (deadline : Bool)
  | keep
  deriving DecidableEq, Repr

/-- Duration of pass 1 in ns: W × H at 1.0 Gpixel/s. -/
def passNs (r : List W32) : Nat := eW r * eH r

/-- Module time in ns on the 48-bit beat scale. -/
def State.beatNs (s : State) : Nat := s.beat * 1000 + s.clock.ptp % 1000

/-- The step after pass `f.pass` has ended with the given bits (R428, R430, R431). -/
def State.passStep (s : State) (x : EncCtx) (f : EFrame) (bits : Nat) : PassStep :=
  if 4 ≤ f.pass ∨ bits ≤ x.fullness then .keep
  else
    match nextPass x.record x.config f.pass f.qp1 with
    | some p =>
      if eDlskip x.record && !f.first && decide (f.deadline * 1000 < s.beatNs + passNs x.record) then .skip true
      else .run p (passQp x.record x.config f.qp1 p)
    | none => if f.first && f.key then .run 5 (qpTop x.record) else .skip false

/-- Statistics record (Table 17-8). -/
def statsBytes (n : Nat) (f : EFrame) (o : EResult) (filler full : Nat) (late : Bool) (ends len : Nat) : List Byte :=
  leBytes 4 n ++ leBytes 4 f.gen ++ leBytes 4 o.bits ++ leBytes 4 filler ++ leBytes 4 full ++
  leBytes 4 (o.qp % 256 + o.pass * 2 ^ 8 + b2n o.key * 2 ^ 16 + b2n o.moved * 2 ^ 17 + b2n o.skipped * 2 ^ 18 +
    b2n f.roiStale * 2 ^ 19 + b2n late * 2 ^ 20 + b2n f.failed * 2 ^ 21) ++
  leBytes 8 f.start ++ leBytes 8 ends ++ leBytes 4 len ++ List.replicate 20 0

/-- A write of the codec into a tensor of its tenant: whole bytes inside the extent, under the state rules (R278 to
R281), after which a VOID tensor is VALID; a write that these refuse is dropped. -/
def State.codecWrite (s : State) (t h off : Nat) (bs : List Byte) : State :=
  let e := s.home t h
  if s.handleOk t h && decide (e.writeCode false = 0) && decide (off + bs.length ≤ e.bytes) then
    let s1 := s.beginFilled t h 2 false
    match s1.homeAddr (s1.home t h) with
    | some a => (s1.putUnits (a + off) bs).endWrite t h e.gen
    | none => s1
  else s

/-- Filler of a frame in CBR (R429). -/
def fillerBits (r cfg : List W32) (full bits : Nat) : Nat :=
  if gVbr cfg then 0
  else
    let after := full - bits + arrivals r cfg
    if gBufsize cfg < after then roundUp (after - gBufsize cfg) 8 else 0

/-! The codes that a frame codes (R425). -/

/-- One row of the matrix from RGB to YUV: a fma chain as in step 1 of R400. -/
def matChain (cfg : List W32) (row : Nat) (v : Nat → W32) : W32 :=
  let m (j : Nat) : W32 := wordAt cfg (6 + 4 * row + j)
  fF (m 2) (v 2) (fF (m 1) (v 1) (fF (m 0) (v 0) (m 3)))

/-- A value scaled by 2^bits - 1, rounded to nearest even and clamped to the code range; none of a NaN. -/
def yuvCode (bits : Nat) (x : W32) : Option Nat :=
  match ext32 (fM x (fInt (2 ^ bits - 1))) with
  | .nan => none
  | .inf neg => some (if neg then 0 else 2 ^ bits - 1)
  | y => some (Nat.min (extRint y).toNat (2 ^ bits - 1))

/-- The codes of a planar B16 picture of w x h pixels: luma rows, then the U and V codes of each 2 x 2 pixels. -/
def rgbCodes (rd : Nat → Byte) (cfg : List W32) (bits w h : Nat) : List (Option Nat) :=
  let px (x y c : Nat) : W32 :=
    let o := 2 * (x + w * (y + h * c))
    (b16ToF32 (BitVec.ofNat 32 (leNat [rd o, rd (o + 1)]))).bits
  let at' (row x y : Nat) : W32 := matChain cfg row (px x y)
  let luma := (List.range h).flatMap fun y => (List.range w).map fun x => yuvCode bits (at' 0 x y)
  let chroma := (List.range (h / 2)).flatMap fun y => (List.range (w / 2)).flatMap fun x => [1, 2].map fun row =>
    yuvCode bits (fM (fA (fA (at' row (2 * x) (2 * y)) (at' row (2 * x + 1) (2 * y)))
      (fA (at' row (2 * x) (2 * y + 1)) (at' row (2 * x + 1) (2 * y + 1)))) 0x3E800000#32)
  luma ++ chroma

/-- The codes of an NV12 or P010 picture: luma rows, then chroma rows, in the layout of R420 without the record. -/
def nvCodes (rd : Nat → Byte) (ten : Bool) (w h : Nat) : List (Option Nat) :=
  let pitch := roundUp (w * (1 + b2n ten)) 256
  (List.range (h + h / 2)).flatMap fun y => (List.range w).map fun x =>
    if ten then some (leNat [rd (pitch * y + 2 * x), rd (pitch * y + 2 * x + 1)] / 64) else some (rd (pitch * y + x)).toNat

/-- The codes of a frame's input picture, read where its admission translated it to (R276); a FAILED frame has none. -/
def State.frameCodes (s : State) (x : EncCtx) (f : EFrame) : List (Option Nat) :=
  match f.input with
  | none => []
  | some i =>
    let rd (o : Nat) : Byte := if i.cold then 0 else (i.addr.map fun a => s.datum (a + o)).getD 0
    if eInfmt x.record = 2 then rgbCodes rd x.config (if eBit10 x.record then 10 else 8) (eW x.record) (eH x.record)
    else nvCodes rd (decide (eInfmt x.record = 1)) (eW x.record) (eH x.record)

/-- The frame of context e ends (R429, R434): output slot, statistics, buffer model, counts and interrupt. -/
def State.endFrame (s : State) (e : Nat) (f : EFrame) (o : EResult) : State :=
  let x := s.enc e
  let r := x.record
  let t := s.encOwner e
  let n := (s.reg .cdcEframe e).toNat
  let filler := fillerBits r x.config x.fullness o.bits
  let full := x.fullness - o.bits - filler
  let next := full + arrivals r x.config
  let len := cdiv o.bits 8 + filler / 8
  let late := decide (f.deadline * 1000 < s.beatNs)
  let slots := s.statSlots t r
  let slotBytes := roundUp (cdiv x.buf0 4) 256
  let key := Config.encState x.coded (s.reg .hubFwrel 0).toNat [r, x.config, f.roi] (s.frameCodes x f) [b2n o.key, o.pass, o.qp]
  let coded := (List.range (roundUp len 256)).map (Config.codedByte key)
  let s2 := s.codecWrite t (eOut r) (n % slots * slotBytes) (coded.take slotBytes)
  let s3 := s2.codecWrite t (eStats r) (n % slots * 64) (statsBytes n f o filler full late s.clock.ptp len)
  let s4 := s3.setEnc e { x with frame := none, fullness := if gVbr x.config then Nat.min next (gBufsize x.config) else next,
                                 keyNext := x.keyNext || o.moved, coded := key }
  let s5 := ((s4.setReg .cdcEframe e (BitVec.ofNat 32 (n + 1))).countWrap .cdcEskip e (b2n o.skipped)).leaveRecover (true, e)
  let s6 := if x.lastSeen then s5.setRfld .cdcEstat e 31 29 2 else s5
  s6.raiseTenant t 36

/-- The end of a pass. `qp` is the rate model's quantiser of pass 1, `bits` what the pass coded; a skip frame and the
frame at the maximum quantiser keep their bounds (R428, R430). -/
def State.passDone (s : State) (e qp bits : Nat) : State :=
  let x := s.enc e
  match x.frame with
  | none => s
  | some f0 =>
    if s.codec.held.contains (true, e) then s.closeEnc e
    else
      let q1 := Nat.max (gQpmin x.config) (Nat.min qp (gQpmax x.config))
      let f := if f0.pass = 1 then { f0 with qp1 := q1, qp := q1 } else f0
      let s0 := if f.pass = 2 ∨ f.pass = 3 then s.countWrap .cdcEreenc e 1 else s
      match s0.passStep x f bits with
      | .run p q => s0.setEnc e { x with frame := some { f with pass := p, qp := q } }
      | .skip d =>
        s0.setEnc e { x with frame := some { f with pass := if d then 6 else 4 } }
      | .keep =>
        if 4 ≤ f.pass ∧ f.pass ≠ 5 then
          let w := s0.fresh
          w.1.endFrame e f { pass := 4, qp := w.2.toNat % 256, bits := Nat.min bits 16384, key := false, moved := f.key,
                             skipped := decide (f.pass = 6) }
        else
          s0.endFrame e f { pass := Nat.min f.pass 3, qp := f.qp, bits := Nat.min bits x.fullness, key := f.key,
                            moved := false, skipped := false }

/-- ENCODE_PASS_DONE (R428). -/
def execEncodePassDone (e : Fin 64) (qp bits : Nat) (s : State) : Host.Outcome State Fault Refusal :=
  whenUp s fun x => x.passDone e qp bits

/-! Commits (R433). -/

/-- The commit that stands in CDC_ECOMMIT: the block is read, GO clears, and the block is applied from the next frame
admitted, or CFGERR is set; a read that fails counts and gives no valid block (R433, R447). -/
def State.commitBlock (s : State) (e : Nat) (block : List W32) : State :=
  let x := s.enc e
  let t := s.encOwner e
  if !(x.isOpen && bit (s.reg .cdcEcommit e) 31) || s.held (.encode e) then s
  else
    let at0 := addr64 x.record (if bit (s.reg .cdcEcommit e) 0 then 12 else 10)
    let s0 := if s.canRead t then s.hostRead t at0 128 else s.countWrap .hstRderr (s.cfg.tenant t).func 1
    let s1 := s0.hwFld .cdcEcommit e 31 31 0
    if s.canRead t && configOk x.record block && decide (gBufsize block ≤ x.buf0) then s1.setEnc e { x with nextConfig := some block }
    else (s1.setRfld .cdcEstat e 22 22 1).raiseTenant t 36

/-- ENCODE_COMMIT (R433): the write of CDC_ECOMMIT and the read of the block that it names. -/
def execEncodeCommit (f : Fin 9) (e : Fin 64) (value : W32) (block : List W32) (s : State) :
    Host.Outcome State Fault Refusal :=
  whenServed s fun x => let r := x.write f .cdcEcommit e true value
    if r.2 then r.1.commitBlock e block else r.1

/-! Pipe faults (R436). -/

/-- A pipe is reset: its frames run again from their starts, and their contexts hold ORDERED until each has completed a
frame. -/
def State.pipeReset (s : State) (p : Nat) : State :=
  let ds := (List.range 256).filter fun c => decide ((s.dec c).pipe = some p)
  let es := (List.range 64).filter fun e => (s.enc e).frame.any fun f => decide (f.pipe = p)
  let s1 := es.foldl (fun a e => a.setEnc e { a.enc e with frame := (a.enc e).frame.map fun f =>
    { f with pass := if f.failed then 4 else 1 } }) s
  let add : List (Bool × Nat) := (ds.map fun c => (false, c)) ++ es.map fun e => (true, e)
  let rec' := s1.codec.recover ++ add.filter fun x => !s1.codec.recover.contains x
  let s2 : State := { s1 with codec := { s1.codec with recover := rec' } }
  (s2.showRecov).countWrap .cdcPipeflt 0 1

/-- PIPE_FAULT (R436). -/
def execPipeFault (pipe : Fin 8) (s : State) : Host.Outcome State Fault Refusal := whenUp s fun x => x.pipeReset pipe

end Sys2Proof.Machine
end

