-- ==== Sys2Proof/Machine/Kiln.lean ====
section
/-! DEFINITION. The Kiln: queues and their geometry (R392, R393), acceptance (R403, R404), sources (R395 to R397), frames
(R398 to R401), staging (R402), closing, taking and copying of batches (R406 to R408) and failures (R409). Queue k of
tenant t has key 16 t + k. -/
namespace Sys2Proof.Machine

/-! Queue record (Table 16-1) and geometry (R393). -/

def kqCls (r : List W32) : Nat := df r 1 5 4
def kqBlocked (r : List W32) : Bool := bit (wordAt r 1) 6
def kqSlots (r : List W32) : Nat := df r 1 11 8
def kqCc (r : List W32) : Nat := if bit (wordAt r 1) 12 then 3 else 1
def kqRingLog (r : List W32) : Nat := df r 1 20 16
def kqB (r : List W32) : Nat := df r 2 12 0
def kqT (r : List W32) : Nat := df r 2 31 16
def kqH (r : List W32) : Nat := df r 3 15 0
def kqW (r : List W32) : Nat := df r 3 31 16
def kqPt (r : List W32) : Nat := df r 4 7 0
def kqPh (r : List W32) : Nat := df r 4 15 8
def kqPw (r : List W32) : Nat := df r 4 23 16
def kqGamma (r : List W32) : Nat := df r 5 23 0
def kqStage (r : List W32) : Nat := addr48 r 10
def kqFirst (r : List W32) : W32 := wordAt r 12
def kqWindow (r : List W32) : Nat := (wordAt r 13).toNat

/-- Tokens on each axis, per slot, and features. -/
def kqTt (r : List W32) : Nat := kqT r / kqPt r
def kqTh (r : List W32) : Nat := kqH r / kqPh r
def kqTw (r : List W32) : Nat := kqW r / kqPw r
def kqNt (r : List W32) : Nat := kqTt r * kqTh r * kqTw r
def kqDp (r : List W32) : Nat := roundUp (kqPt r * kqPh r * kqPw r * kqCc r) 32

/-- Token rows of the batch tensor, its bytes, the mask's bytes and the staging slot size SS. -/
def kqRows (r : List W32) : Nat := roundUp (kqB r * kqNt r) 256
def kqBatchBytes (r : List W32) : Nat :=
  if kqBlocked r then kqTw r * kqTh r * kqTt r * kqDp r * kqB r * 2 else kqRows r * kqDp r * 2
def kqMaskOff (r : List W32) : Nat := roundUp (32 * kqB r) 256
def kqMaskBytes (r : List W32) : Nat := kqMaskOff r + 2 * (kqB r * kqNt r)
def kqSS (r : List W32) : Nat := roundUp (kqBatchBytes r + kqMaskBytes r) 4096
def kqStaging (r : List W32) (batch : W32) : Nat := kqStage r + batch.toNat % kqSlots r * kqSS r

/-- Byte offset in the batch tensor of features 32 j to 32 j + 31 of token (tt, ht, wt) of slot n. -/
def kqChunk (r : List W32) (n tok j : Nat) : Nat :=
  if kqBlocked r then
    let tt := tok / (kqTh r * kqTw r)
    let ht := tok / kqTw r % kqTh r
    let wt := tok % kqTw r
    ((((n * (kqDp r / 32) + j) * kqTt r + tt) * kqTh r + ht) * kqTw r + wt) * 64
  else tileOff (kqDp r) (n * kqNt r + tok) (32 * j) 2

/-- A record keeps Table 16-1, the queue number apart. -/
def kilnRecordOk (r : List W32) : Bool :=
  let within (v lo hi : Nat) : Bool := decide (lo ≤ v) && decide (v ≤ hi)
  decide (16 ≤ r.length) && decide (wordAt r 0 = 0x514B5655#32) && decide (wordAt r 1 &&& ~~~0x001F1F7F#32 = 0) &&
  decide (kqCls r ≠ 3) && within (kqSlots r) 2 15 && within (kqRingLog r) 6 15 &&
  decide (wordAt r 2 &&& ~~~0xFFFF1FFF#32 = 0) && within (kqB r) 1 4096 && within (kqT r) 1 1024 &&
  within (kqH r) 16 8192 && within (kqW r) 16 8192 && within (kqPt r) 1 8 && within (kqPh r) 1 32 && within (kqPw r) 1 32 &&
  decide (kqT r % kqPt r = 0) && decide (kqH r % kqPh r = 0) && decide (kqW r % kqPw r = 0) &&
  decide (fld (wordAt r 4) 31 24 = 0) && decide (fld (wordAt r 5) 31 24 = 0) && decide (addr64 r 6 % 4096 = 0) &&
  decide (addr64 r 8 % 4096 = 0) && decide (fld (wordAt r 11) 31 16 = 0) && decide (kqStage r % 4096 = 0) &&
  (!decide (kqCls r = 1) || decide (0 < kqWindow r)) && decide (wordAt r 14 = 0) && decide (wordAt r 15 = 0)

/-! Services. -/

/-- Code of a refused KILN_OPEN, 0 for none (R392). The gamma tensor is one that a read by handle accepts. -/
def State.kilnRefusal (s : State) (t : Nat) (r : List W32) : Nat :=
  let g := kqGamma r
  let gammaOk := decide (g = 0) || (s.handleOk t g && decide ((s.home t g).readCode (s.coldFault t 65) = 0))
  if !kilnRecordOk r || (s.kq (16 * t + df r 1 3 0)).isOpen || !gammaOk then 0x0003
  else if kqCls r = 0 ∧ !(s.cfg.tenant t).cl0 then 0x0004
  else if !(s.inWindows t (kqStage r) (kqSlots r * kqSS r) && isFast (kqStage r)) then 0x0004
  else 0

/-- The gamma tables as the Kiln reads them at open (R400). -/
def State.gammaWords (s : State) (t h : Nat) : List W32 :=
  let e := s.home t h
  if h = 0 then []
  else
    let n := Nat.min (15 * 1025) (e.bytes / 4)
    if e.st = stUnwritten then List.replicate n 0
    else match s.homeAddr e with
      | some a => s.words a n
      | none => []

/-- KILN_OPEN. -/
def State.kilnOpen (s : State) (m t : Nat) (r : List W32) : State :=
  let code := s.kilnRefusal t r
  let k := 16 * t + df r 1 3 0
  if code ≠ 0 then s.endSvc m code
  else
    let s0 := if kqGamma r = 0 then s else s.coldRead t (kqGamma r)
    let s1 := s0.setKq k { KQueue.init with isOpen := true, record := r, gamma := s.gammaWords t (kqGamma r) }
    let s2 := (s1.setReg .klnQhead k 0).hwSet .klnQtail k 0
    ((s2.setReg .klnQoldest k (kqFirst r)).setReg .klnQstatus k (BitVec.ofNat 32 (2 ^ 30 + kqCls r * 2 ^ 28))).endSvc m 0x0000

/-- KILN_OPEN (R392). -/
def execKilnOpen (m : Fin 64) (s : State) : Host.Outcome State Fault Refusal :=
  whenUp s fun x => x.serve m 0x0005 fun t b => x.kilnOpen m t b

/-- Pictures of every decode context of a tenant that nothing holds any more are freed (R420). -/
def State.freeAll (s : State) (t : Nat) : State := (s.decsOf t).foldl (fun x c => x.freePics c) s

/-- A Kiln queue closes: its samples are abandoned and its staging contents discarded. -/
def State.closeKq (s : State) (k : Nat) : State :=
  let s1 := (s.setKq k KQueue.init).setRfld .klnQstatus k 31 28 0
  (s1.dropRequests 1 fun r => decide (r.kind = 2) && decide (r.key = k)).freeAll (k / 16)

/-- KILN_CLOSE: bits [3:0] of body word 0 are the queue; a KILN_TAKE in flight on it aborts. -/
def State.kilnClose (s : State) (m t : Nat) (b : List W32) : State :=
  let k := 16 * t + df b 0 3 0
  let q := s.kq k
  if !q.isOpen then s.endSvc m 0x0003
  else
    let s1 := (q.batches.filterMap (·.take)).foldl (fun x p => x.abortTask p.1 p.2 0x10) s
    (s1.closeKq k).endSvc m 0x0000

/-- KILN_CLOSE. -/
def execKilnClose (m : Fin 64) (s : State) : Host.Outcome State Fault Refusal :=
  whenUp s fun x => x.serve m 0x0006 fun t b => x.kilnClose m t b

/-! Batches. -/

/-- A batch that nothing has named yet. -/
def KBatch.fresh (id : W32) : KBatch :=
  { id := id.toNat, slots := [], closed := false, deadline := none, code := 0, done := false, take := none }

def KQueue.batch? (q : KQueue) (id : W32) : Option KBatch := q.batches.find? fun b => decide (b.id = id.toNat)
def KQueue.batch (q : KQueue) (id : W32) : KBatch := (q.batch? id).getD (KBatch.fresh id)

/-- Store a batch in the place of the one of its ID. -/
def KQueue.setBatch (q : KQueue) (b : KBatch) : KQueue :=
  if q.batches.any fun x => decide (x.id = b.id) then
    { q with batches := q.batches.map fun x => if x.id = b.id then b else x }
  else { q with batches := q.batches ++ [b] }

def KBatch.slot (b : KBatch) (n : Nat) : KSlot := mget KSlot.missing b.slots n
def KBatch.setSlot (b : KBatch) (n : Nat) (x : KSlot) : KBatch := { b with slots := mset KSlot.missing b.slots n x }
/-- Slots FILLED. -/
def KBatch.filled (b : KBatch) : Nat := (b.slots.filter fun p => decide (p.2.st = 1)).length

def State.setBatch (s : State) (k : Nat) (b : KBatch) : State := s.setKq k ((s.kq k).setBatch b)

/-- Distance of a batch ID from the start of the window (R403). -/
def State.batchOff (s : State) (k : Nat) (id : W32) : Nat := (id - s.reg .klnQoldest k).toNat

/-- The window moves past the batches that have left it. -/
def State.moveWindow : Nat → State → Nat → State
  | 0, s, _ => s
  | n + 1, s, k =>
    let q := s.kq k
    let old := s.reg .klnQoldest k
    if (q.batch old).done then
      let s1 := s.setKq k { q with batches := q.batches.filter fun b => !decide (b.id = old.toNat) }
      State.moveWindow n (s1.setReg .klnQoldest k (old + 1)) k
    else s

/-- A batch leaves the window. -/
def State.batchDone (s : State) (k : Nat) (id : W32) : State :=
  State.moveWindow 16 (s.setBatch k { (s.kq k).batch id with done := true }) k

/-- The wait of a KILN_TAKE from issue to closure counts as waystation time (R406); `progress` holds the issue time. -/
def State.kilnSlip (s : State) (own : Nat × Nat) : State :=
  match s.task? own.1 own.2 with
  | none => s
  | some t =>
    let w := (s.clock.since - t.progress) / 10
    (s.modTask own.1 own.2 fun x => { x with waited := x.waited + w, progress := s.clock.since }).countWrap .queSlip own.1 w

/-- A batch closes (R407): counted slots, source 16 + k, and the slip of its KILN_TAKE. -/
def State.closeBatch (s : State) (k : Nat) (id : W32) : State :=
  let b := (s.kq k).batch id
  let s1 := s.setBatch k { b with closed := true }
  let s2 := (s1.countWrap .klnQpad k (kqB (s.kq k).record - b.filled)).raiseTenant (k / 16) (16 + k % 16)
  match b.take with
  | some own => s2.kilnSlip own
  | none => s2

/-- A batch closes when every slot is FILLED. -/
def State.closeIfFull (s : State) (k : Nat) (id : W32) : State :=
  let b := (s.kq k).batch id
  if !b.closed && decide (b.code = 0) && decide (b.filled = kqB (s.kq k).record) then s.closeBatch k id else s

/-- Samples of a batch are abandoned. -/
def State.abandon (s : State) (k : Nat) (id : W32) : State :=
  let q := s.kq k
  (s.setKq k { q with samples := q.samples.filter fun x => !decide (kdBatch x.desc = id) }).freeAll (k / 16)

/-- The slot of a descriptor in the given state. -/
def slotOf (d : List W32) (st reason : Nat) (sat : Bool) : KSlot :=
  let f (v : Nat) : Nat := if st = 1 then v else 0
  { st := st, idLo := wordAt d 0, idHi := wordAt d 1, reason := reason, sat := sat, ts := f (kdTs d), hs := f (kdHs d),
    ws := f (kdWs d) }

/-- KLN_FAULT0 to KLN_FAULT3 record a class-0 failure (R409, R413). -/
def State.kilnFault (s : State) (k reason : Nat) (d : List W32) : State :=
  let t := k / 16
  let was := bit (s.reg .klnFault0 t) 31
  let s1 := s.record t .klnFault0 (BitVec.ofNat 32 (k % 16 * 2 ^ 20 + reason * 2 ^ 16 + kdSlot d))
    [(.klnFault1, kdBatch d), (.klnFault2, wordAt d 0), (.klnFault3, wordAt d 1)]
  if was then s1 else s1.raiseTenant t (16 + k % 16)

/-- A sample fails (R409). A class-0 failure fails its batch and the KILN_TAKE that names it; otherwise the slot is
FAILED, unless another descriptor has it (`own` false). -/
def State.failSample (s : State) (k : Nat) (d : List W32) (reason code : Nat) (own : Bool) : State :=
  let id := kdBatch d
  let q := s.kq k
  let b := q.batch id
  if kqCls q.record = 0 then
    let s1 := (s.setBatch k { b with code := code }).abandon k id
    let s2 := s1.kilnFault k reason d
    match b.take with
    | some p => (s2.abortTask p.1 p.2 code).batchDone k id
    | none => s2
  else if own then s.setBatch k (b.setSlot (kdSlot d) (slotOf d 2 reason false))
  else s

/-! Ring and acceptance (R394, R403, R404). -/

/-- A write of KLN_QTAIL: dropped and counted when it would post more than the ring holds. -/
def State.kilnTail (s : State) (f k : Nat) (v : W32) : State :=
  let r := s.write f .klnQtail k true v
  let q := s.kq k
  if !r.2 then r.1
  else if q.isOpen ∧ 2 ^ kqRingLog q.record < postedBy (s.rfld .klnQhead k 15 0) v then s.countWrap .klnQdrop k 1
  else r.1

/-- KILN_TAIL_WRITE (R394). -/
def execKilnTailWrite (f : Fin 9) (t : Fin 8) (k : Fin 16) (value : W32) (s : State) : Host.Outcome State Fault Refusal :=
  whenServed s fun x => x.kilnTail f (16 * t.val + k.val) value

/-- A finite F32 word. -/
def isFinite (w : W32) : Bool := decide (fld w 30 23 ≠ 255)

/-- The descriptor and parameter block pass the checks of R404, slot apart. -/
def State.sampleOk (s : State) (k : Nat) (d p : List W32) : Bool :=
  let q := s.kq k
  let r := q.record
  let part (v most step : Nat) : Bool := decide (0 < v) && decide (v ≤ most) && decide (v % step = 0)
  let route := kdRoute d
  decide (16 ≤ d.length) && decide (32 ≤ p.length) && decide (kdKind d ≤ 2) && decide (kdPix d ≤ 5) &&
  decide (1 ≤ kdStride d) && decide (fld (wordAt d 8) 31 29 = 0) && decide (1 ≤ kdW d) && decide (kdW d ≤ 8192) &&
  decide (1 ≤ kdH d) && decide (kdH d ≤ 8192) && part (kdHs d) (kqH r) (kqPh r) && part (kdWs d) (kqW r) (kqPw r) &&
  part (kdTs d) (kqT r) (kqPt r) && decide (fld (wordAt d 14) 31 24 = 0) && decide (fld (wordAt d 15) 31 24 = 0) &&
  (!decide (kdKind d = 2) || isYuv (kdPix d)) &&
  (!decide (kdKind d = 1) || decide (route = 0x1FFF) ||
    (decide ((s.route route).tenant = k / 16) && decide ((s.route route).cls = 2) && decide ((s.route route).peerNode ≠ 0xFFFF))) &&
  ((List.range 31).all fun i => isFinite (wordAt p i)) && decide (fld (kpFlags p) 31 8 = 0) &&
  (decide (kpGamma p = 0) || decide (kpGamma p * 1025 ≤ q.gamma.length))

/-- Samples in progress in the whole Kiln. -/
def State.kilnSamples (s : State) : Nat := (s.kiln.queues.map fun p => p.2.samples.length).sum

/-- The HEAD entry is accepted (R403, R404, R407): the sample is in progress, or it is LATE, FAILED or discarded. -/
def State.acceptSample (s : State) (k : Nat) (d p : List W32) : State :=
  let q := s.kq k
  let id := kdBatch d
  let b0 := q.batch id
  let cls := kqCls q.record
  let slot := kdSlot d
  let b := if b0.deadline.isNone then { b0 with deadline := some (if cls = 0 then 0 else kdDeadline d) } else b0
  let s1 := s.setBatch k b
  let claimed := decide (b.slot slot ≠ KSlot.missing)
  let inB := decide (slot < kqB q.record)
  if cls = 0 ∧ b.code ≠ 0 then s
  else if cls ≠ 0 ∧ inB ∧ claimed then s1.countWrap .klnQdrop k 1
  else if cls ≠ 0 ∧ b.closed then
    (s1.setBatch k (if inB then b.setSlot slot (slotOf d 3 0 false) else b)).countWrap .klnQlate k 1
  else if !s.sampleOk k d p then s1.failSample k d 1 0x10 inB
  else if !inB || claimed then s1.failSample k d 2 0x10 false
  else
    let x : KSample :=
      { desc := d, params := p, started := false, frames := 0, host := [], bases := [], xlate := none, cold := false,
        mesh := [], mx := 0, my := 0, sat := false, out := [] }
    let b2 := b.setSlot slot (slotOf d 0 0 false)
    let s2 := s1.setKq k { (q.setBatch b2) with samples := q.samples ++ [x] }
    if kdKind d = 1 ∧ kdRoute d ≠ 0x1FFF then s2.modRoute (kdRoute d) fun r => { r with kiln := true, rxQueue := [] }
    else s2

/-- KILN_ACCEPT: the entry at HEAD, as the reads of the rings returned it. -/
def State.kilnAccept (s0 : State) (k : Nat) (d p : List W32) : State :=
  let s := s0.useReg .klnQtail k
  let q := s.kq k
  let r := q.record
  let head := s.rfld .klnQhead k 15 0
  let off := s.batchOff k (kdBatch d)
  let stale := decide (2 ^ 31 ≤ off) || (q.batch (kdBatch d)).done
  if !q.isOpen || s.held (.kiln k) || decide (4 ≤ q.samples.length) || decide (64 ≤ s.kilnSamples) ||
    decide (head = s.rfld .klnQtail k 15 0) || !s.canRead (k / 16) then s
  else if !stale && decide (kqSlots r ≤ off) then s
  else
    let i := head % 2 ^ kqRingLog r
    let s1 := (s.hostRead (k / 16) (addr64 r 6 + 64 * i) 64).hostRead (k / 16) (addr64 r 8 + 128 * i) 128
    let s2 := s1.setRfld .klnQhead k 15 0 ((head + 1) % 65536)
    if stale then s2.countWrap .klnQdrop k 1 else s2.acceptSample k d p

/-- KILN_ACCEPT (R403). -/
def execKilnAccept (t : Fin 8) (k : Fin 16) (desc params : List W32) (s : State) : Host.Outcome State Fault Refusal :=
  whenUp s fun x => x.kilnAccept (16 * t.val + k.val) desc params

/-! Starting a sample (R395 to R397, R421). -/

/-- Frame requests of the Kiln: one of each queue whose oldest started sample has frames to make (R405). -/
def KQueue.oldestStarted (q : KQueue) : Option Nat :=
  q.samples.findIdx? fun x => x.started && decide (x.frames < kdTs x.desc)

/-- Requests of every Kiln queue reach unit 1, with their batch's deadline. -/
def State.kilnRequests (s : State) : State :=
  (s.kiln.queues.map (·.1)).foldl (fun x k =>
    let q := x.kq k
    match q.oldestStarted with
    | some i =>
      let d := ((q.samples[i]?).map (·.desc)).getD []
      let dl := match (q.batch (kdBatch d)).deadline with
        | some (n + 1) => n + 1
        | _ => 2 ^ 48
      x.request 1 { tenant := k / 16, cls := kqCls q.record, deadline := dl, kind := 2, key := k }
    | none => x) s

/-- What the start of a sample finds: it waits, it fails with a reason and code, or it goes on. -/
inductive KStart where
  | wait
  | fail (reason code : Nat)
  | ok
  deriving DecidableEq, Repr

/-- First outcome that is not `ok`. -/
def KStart.andThen (a b : KStart) : KStart := if a = .ok then b else a

/-- Row of Table 16-7 for the code of a refused read by handle. -/
def readReason (code : Nat) : Nat := if code = 0x20 ∨ code = 0x21 then 5 else 6

/-- A tier tensor that a sample reads at [off, off + len). -/
def State.kilnTensor (s : State) (t h off len : Nat) (rangeFail : KStart) : KStart :=
  let e := s.home t h
  let code := e.readCode (s.coldFault t 65)
  if !s.handleOk t h then .fail 5 0x20
  else if e.kind = 0 then .fail 5 0x20
  else if code ≠ 0 then .fail (readReason code) code
  else if e.bytes < off + len then rangeFail
  else if decide (e.st ≠ stUnwritten) && e.reaches off len then .fail 5 0x20
  else .ok

/-- First frame offset and the offset of the last frame of a KIND 0 or KIND 1 clip. -/
def frameAt (d : List W32) (t : Nat) : Nat := (kdF0 d + t * kdStride d) * kdFPitch d
def clipEnd (d : List W32) : Nat := frameAt d (kdTs d - 1) + clipFrameBytes d

/-- KIND 1: route and tensor. -/
def State.startTensor (s : State) (t : Nat) (d : List W32) : KStart :=
  let r := s.route (kdRoute d)
  let route : KStart :=
    if kdRoute d = 0x1FFF then .ok
    else if r.st = 3 then .fail 8 0x60
    else if r.st = 0 ∨ r.st = 4 then .fail 8 0x61
    else if (r.rxMsg + 2 ^ 32 - (kdMsg d + 1) % 2 ^ 32) % 2 ^ 32 < 2 ^ 31 then .ok
    else .wait
  route.andThen (s.kilnTensor t (df d 4 23 0) (256 * (wordAt d 5).toNat) (clipEnd d) (.fail 4 0x13))

/-- KIND 2: every picture is output, held, readable and of the descriptor's shape (R397, R421, R422). -/
def State.startPics (s : State) (t : Nat) (d : List W32) : KStart :=
  let c := df d 4 7 0
  let x := s.dec c
  let out := (s.reg .cdcDout c).toNat
  let nums := (List.range (kdTs d)).map fun i => kdF0 d + i * kdStride d
  let have' := nums.filterMap fun n => x.pics.find? fun p => decide (p.num = n)
  if s.decTenant c ≠ some t then .fail 4 0x13
  else if nums.any fun n => decide (n < out) && !(x.pics.any fun p => decide (p.num = n)) then .fail 4 0x13
  else if s.decSt c = 2 ∧ nums.any fun n => decide (out ≤ n) then .fail 4 0x13
  else if have'.any fun p => decide (p.width ≠ kdW d) || decide (p.height ≠ kdH d) ||
      decide (dPitch x.record ≠ kdPitch d) || decide (kdPix d ≠ (if p.ten then 5 else 4)) then .fail 1 0x10
  else if have'.any (·.bad) then .fail 9 0x10
  else if have'.length < nums.length then .wait
  else .ok

/-- Address of the mesh table of a sample. -/
def State.meshAddr (s : State) (t : Nat) (d : List W32) : Option Nat :=
  (s.homeAddr (s.home t (kdMesh d))).map fun a => a + kdMoff d

/-- MX and MY of the mesh table, as the Kiln reads it. -/
def State.meshDims (s : State) (t : Nat) (d : List W32) : Nat × Nat :=
  if (s.home t (kdMesh d)).st = stUnwritten then (0, 0)
  else match s.meshAddr t d with
    | some a => ((s.datum a).toNat, (s.datum (a + 1)).toNat)
    | none => (0, 0)

/-- Bytes of the mesh table. -/
def meshBytes (n : Nat × Nat) : Nat := 16 + 8 * (n.1 * n.2)

/-- What the source of a sample lets it do. -/
def State.startSource (s : State) (t : Nat) (d : List W32) : KStart :=
  match kdKind d with
  | 0 => if s.canRead t then .ok else .fail 5 0x20
  | 1 => s.startTensor t d
  | _ => s.startPics t d

/-- The mesh of a sample with MESHEN (R395). -/
def State.startMesh (s : State) (t : Nat) (d p : List W32) : KStart :=
  if !kpMeshEn p then .ok
  else
    let bad : KStart := .fail 3 0x10
    let n := s.meshDims t d
    let head := match s.meshAddr t d with
      | some a => s.data (a + 2) 14
      | none => []
    if kdMesh d = 0 then bad
    else (s.kilnTensor t (kdMesh d) (kdMoff d) 16 bad).andThen
      (if n.1 < 2 ∨ 65 < n.1 ∨ n.2 < 2 ∨ 65 < n.2 ∨ head.any (fun b => decide (b ≠ 0)) then bad
       else s.kilnTensor t (kdMesh d) (kdMoff d) (meshBytes n) bad)

/-- The read of an UNWRITTEN mesh counts: its header of zeros then fails the sample (R277, R395). -/
def State.coldMesh (s : State) (t : Nat) (d p : List W32) : State :=
  if kpMeshEn p && decide (kdMesh d ≠ 0) && s.handleOk t (kdMesh d) && decide ((s.home t (kdMesh d)).kind ≠ 0) &&
    decide ((s.home t (kdMesh d)).readCode (s.coldFault t 65) = 0) && decide (s.startSource t d = .ok)
  then s.coldRead t (kdMesh d) else s

/-- Outcome of a sample's start. -/
def State.startOutcome (s : State) (t : Nat) (d p : List W32) : KStart := (s.startSource t d).andThen (s.startMesh t d p)

/-- Base address of frame t's pixels. -/
def State.frameBase (s : State) (ten : Nat) (d : List W32) (t : Nat) : Nat :=
  match kdKind d with
  | 0 => addr64 d 4 + frameAt d t
  | 1 => (s.homeAddr (s.home ten (df d 4 23 0))).getD 0 + 256 * (wordAt d 5).toNat + frameAt d t
  | _ =>
    let r := (s.dec (df d 4 7 0)).record
    cWork r 8 + (kdF0 d + t * kdStride d) % dPool r * dSlotBytes r + 256

/-- Replace sample i of a queue. -/
def State.setSample (s : State) (k i : Nat) (x : KSample) : State :=
  let q := s.kq k
  s.setKq k { q with samples := setAt q.samples i x }

/-- Drop sample i of a queue. -/
def State.dropSample (s : State) (k i : Nat) : State :=
  let q := s.kq k
  (s.setKq k { q with samples := q.samples.eraseIdx i }).freeAll (k / 16)

/-- Host reads of a KIND 0 clip, one for each frame. -/
def State.readClip (s : State) (t : Nat) (d : List W32) : State :=
  (List.range (kdTs d)).foldl (fun x i => x.hostRead t (addr64 d 4 + frameAt d i) (clipFrameBytes d)) s

/-- Host bytes that the reads returned. -/
def hostMap (l : List (Nat × List Byte)) : SMap (Option Byte) :=
  l.foldl (fun m p => msetList none m p.1 (p.2.map some)) []

/-- The Kiln starts sample i of queue k: every earlier sample of the queue has started. -/
def State.sampleStart (s : State) (k i : Nat) (host : List (Nat × List Byte)) : State :=
  let q := s.kq k
  let t := k / 16
  match q.samples[i]? with
  | none => s
  | some x =>
    let d := x.desc
    if x.started || s.held (.kiln k) || (q.samples.take i).any (fun y => !y.started) then s
    else
      match s.startOutcome t d x.params with
      | .wait => s
      | .fail reason code =>
        let s1 := if kdKind d = 0 ∧ !s.canRead t then s.countWrap .hstRderr (s.cfg.tenant t).func 1 else s
        ((s1.coldMesh t d x.params).dropSample k i).failSample k d reason code true
      | .ok =>
        let n := if kpMeshEn x.params then s.meshDims t d else (0, 0)
        let mr := if kpMeshEn x.params then s.tierRead [] none ((s.meshAddr t d).getD 0) (meshBytes n) else (s, true)
        if !mr.2 then (mr.1.dropSample k i).failSample k d 7 0x50 true
        else
          let mesh := if kpMeshEn x.params then wordsOf (s.data ((s.meshAddr t d).getD 0 + 16) (8 * (n.1 * n.2))) else []
          let h := df d 4 23 0
          let xl : Option Xlate :=
            if kdKind d = 1 then some { handle := h, gen := (s.home t h).gen, mode := 0, oldHome := false } else none
          let y : KSample :=
            { x with started := true, host := hostMap host, bases := (List.range (kdTs d)).map (s.frameBase t d),
                     xlate := xl, cold := decide (kdKind d = 1) && decide ((s.home t h).st = stUnwritten),
                     mesh := mesh, mx := n.1, my := n.2 }
          let s1 := if kdKind d = 1 then mr.1.coldRead t h else if kdKind d = 0 then mr.1.readClip t d else mr.1
          ((s1.setSample k i y).kilnRequests).grantNext 1

/-- KILN_SAMPLE_START (R396, R397): `host` holds the bytes that the reads of a KIND 0 source return. -/
def execKilnSampleStart (t : Fin 8) (k : Fin 16) (pos : Fin 4) (host : List (Nat × List Byte)) (s : State) :
    Host.Outcome State Fault Refusal := whenUp s fun x => x.sampleStart (16 * t.val + k.val) pos host

/-- A failed host read fails the oldest KIND 0 sample in progress (R447, Table 16-7). -/
def State.kilnReadFail (s : State) (k : Nat) : State :=
  match (s.kq k).samples.findIdx? fun x => x.started && decide (kdKind x.desc = 0) with
  | none => s
  | some i =>
    match (s.kq k).samples[i]? with
    | some x => (s.dropSample k i).failSample k x.desc 5 0x20 true
    | none => s

/-! One frame (R398 to R401, R405). -/

/-- A byte of a sample's source at an address. -/
def State.srcByte (s : State) (x : KSample) (a : Nat) : Byte :=
  if kdKind x.desc = 0 then (match mget none x.host a with | some b => b | none => Config.hostByte a)
  else if x.cold then 0
  else s.datum a

/-- Feature index of output pixel (t, v, u) and channel 0 (R401), over the slot's token rows of Dp features. -/
def featureOf (r : List W32) (t v u : Nat) : Nat :=
  let tok := (t / kqPt r * kqTh r + v / kqPh r) * kqTw r + u / kqPw r
  tok * kqDp r + ((t % kqPt r * kqPh r + v % kqPh r) * kqPw r + u % kqPw r) * kqCc r

/-- The valid output pixels of a frame, as (v, u). -/
def framePixels (d : List W32) : List (Nat × Nat) :=
  (List.range (kdHs d)).flatMap fun v => (List.range (kdWs d)).map fun u => (v, u)

/-- Frame t of a sample: the values of its output features and the saturation. -/
def State.makeFrame (s : State) (q : KQueue) (x : KSample) (t : Nat) : SMap W32 × Bool :=
  let base := (x.bases[t]?).getD 0
  let d := x.desc
  let p := x.params
  (framePixels d).foldl (fun acc vu =>
    let sm := sampleAt (fun o => s.srcByte x (base + o)) d p (geometry d p x.mesh x.mx x.my vu.2 vu.1)
    (List.range (kqCc q.record)).foldl (fun a c =>
      let y := outChannel q.gamma p sm c
      (mset 0 a.1 (featureOf q.record t vu.1 vu.2 + c) y.1, a.2 || y.2)) acc) (x.out, x.sat)

/-- Addresses of the tier codewords that frame t reads. -/
def frameCodewords (x : KSample) (t : Nat) : List Nat :=
  if kdKind x.desc = 0 ∨ x.cold then []
  else
    let base := (x.bases[t]?).getD 0
    ((framePixels x.desc).flatMap fun vu =>
      (sampleBytes x.desc x.params (geometry x.desc x.params x.mesh x.mx x.my vu.2 vu.1)).map fun o =>
        (base + o) / 64 * 64).eraseDups

/-- A grant makes one frame of the oldest started sample of queue k; an uncorrectable read fails the sample. -/
def State.kilnFrame (s : State) (errs : List CwErr) (k : Nat) : State :=
  let q := s.kq k
  match q.oldestStarted with
  | none => s
  | some i =>
    match q.samples[i]? with
    | none => s
    | some x =>
      let r := (frameCodewords x x.frames).foldl (fun acc cw =>
        let y := acc.1.tierRead errs none cw 64
        (y.1, acc.2 && y.2)) (s, true)
      if !r.2 then (r.1.dropSample k i).failSample k x.desc 7 0x50 true
      else
        let f := s.makeFrame q x x.frames
        (r.1.setSample k i { x with frames := x.frames + 1, out := f.1, sat := f.2 }).freeAll (k / 16)

/-! End of a sample (R402). -/

/-- A slot record (Table 16-6). -/
def slotRecord (x : KSlot) : List Byte :=
  let status := match x.st with
    | 1 => 0
    | 2 => 2
    | 3 => 3
    | _ => 1
  let id (w : W32) : Nat := if status = 1 then 0 else w.toNat
  leBytes 4 (id x.idLo) ++ leBytes 4 (id x.idHi) ++
    leBytes 4 (status + (if status = 2 then x.reason * 256 else 0) + b2n x.sat * 2 ^ 16) ++
    leBytes 4 x.ts ++ leBytes 2 x.hs ++ leBytes 2 x.ws ++ List.replicate 12 0

/-- A token of a slot is valid (R401). -/
def tokenValid (r : List W32) (x : KSlot) (tok : Nat) : Bool :=
  decide (tok / (kqTh r * kqTw r) * kqPt r < x.ts) && decide (tok / kqTw r % kqTh r * kqPh r < x.hs) &&
    decide (tok % kqTw r * kqPw r < x.ws)

/-- Mask values of a slot. -/
def maskValues (r : List W32) (x : KSlot) : List Byte :=
  (List.range (kqNt r)).flatMap fun tok => leBytes 2 (if tokenValid r x tok then 0x3F80 else 0)

/-- Write the token rows of a slot at a base address: feature f of token row tok from `out`. -/
def State.putRows (s : State) (r : List W32) (base n : Nat) (out : SMap W32) : State :=
  (List.range (kqNt r * (kqDp r / 32))).foldl (fun x i =>
    let tok := i / (kqDp r / 32)
    let j := i % (kqDp r / 32)
    x.putUnits (base + kqChunk r n tok j)
      ((List.range 32).flatMap fun c => leBytes 2 (mget 0 out (tok * kqDp r + 32 * j + c)).toNat)) s

/-- Write a slot's record and mask values into a mask at a base address. -/
def State.putMask (s : State) (r : List W32) (base n : Nat) (x : KSlot) : State :=
  (s.putWhole (base + 32 * n) (slotRecord x)).putWhole (base + kqMaskOff r + 2 * (n * kqNt r)) (maskValues r x)

/-- Sample i of queue k ends: its rows and record go into staging, and its slot is FILLED. -/
def State.sampleEnd (s : State) (k i : Nat) : State :=
  let q := s.kq k
  let r := q.record
  match q.samples[i]? with
  | none => s
  | some x =>
    if !x.started || decide (x.frames < kdTs x.desc) then s
    else
      let d := x.desc
      let base := kqStaging r (kdBatch d)
      let slot := slotOf d 1 0 x.sat
      let s1 := (s.putRows r base (kdSlot d) x.out).putMask r (base + kqBatchBytes r) (kdSlot d) slot
      let s2 := s1.dropSample k i
      let s3 := (s2.setBatch k (((s2.kq k).batch (kdBatch d)).setSlot (kdSlot d) slot)).countWrap .klnQfill k 1
      s3.closeIfFull k (kdBatch d)

/-- KILN_SAMPLE_END (R402). -/
def execKilnSampleEnd (t : Fin 8) (k : Fin 16) (pos : Fin 4) (s : State) : Host.Outcome State Fault Refusal :=
  whenUp s fun x => x.sampleEnd (16 * t.val + k.val) pos

/-! Deadlines and takes (R406, R407). -/

/-- A batch's deadline beat has come: samples in progress are LATE, and the batch closes. -/
def State.kilnDeadline (s0 : State) (k : Nat) (id : W32) : State :=
  let s := match ((s0.kq k).batch? id).bind (·.deadline) with
    | some (n + 1) => s0.untilBeat (n + 1)
    | _ => s0
  match (s.kq k).batch? id with
  | none => s
  | some b =>
    match b.deadline with
    | some (_ + 1) =>
      if b.closed || decide (kqCls (s.kq k).record = 0) then s
      else
        let late := (s.kq k).samples.filter fun x => decide (kdBatch x.desc = id)
        let s1 := s.abandon k id
        let b2 := late.foldl (fun y x => y.setSlot (kdSlot x.desc) (slotOf x.desc 3 0 false)) b
        let s2 := (s1.setBatch k b2).countWrap .klnQlate k late.length
        (s2.dropRequests 1 fun r => decide (r.kind = 2) && decide (r.key = k)).kilnRequests.closeBatch k id
    | _ => s

/-- KILN_DEADLINE (R407). -/
def execKilnDeadline (t : Fin 8) (k : Fin 16) (batch : W32) (s : State) : Host.Outcome State Fault Refusal :=
  whenUp s fun x => x.kilnDeadline (16 * t.val + k.val) batch

/-- The batch tensor of a queue (R393). -/
def batchTensorOk (r : List W32) (e : HEntry) : Bool :=
  decide (e.fmt = 1) &&
  (if kqBlocked r then
    decide (e.layout = 2) && decide (e.d0 = kqTw r) && decide (e.d1 = kqTh r) && decide (e.d2 = kqTt r) &&
      decide (e.d3 = kqDp r) && decide (e.d4 = kqB r)
  else decide (e.layout = 1) && decide (e.d0 = kqDp r) && decide (e.d1 = kqRows r))

/-- Fault of a KILN_TAKE at its issue, 0 for none (R406). -/
def State.takeCode (s : State) (k cls t : Nat) (id : W32) (d : List W32) : Nat :=
  let q := s.kq k
  let r := q.record
  let dst := s.home t (dDst d)
  let mask := s.home t (df d 6 23 0)
  let b := q.batch id
  let tier (e : HEntry) : Bool := decide (e.kind ≤ 1)
  if !q.isOpen ∨ kqCls r ≠ cls then 0x10
  else if kqSlots r ≤ s.batchOff k id ∨ b.done ∨ b.take.isSome then 0x10
  else if !s.handleOk t (dDst d) || !s.handleOk t (df d 6 23 0) then 0x20
  else if !batchTensorOk r dst then 0x10
  else if mask.layout ≠ 7 then 0x10
  else if mask.bytes < kqMaskBytes r then 0x13
  else if !tier dst || !tier mask then 0x20
  else if dst.writeCode false ≠ 0 then dst.writeCode false
  else mask.writeCode false

/-- A KILN_TAKE in flight names its batch (R406 to R409). -/
def State.runTake (s : State) (own : Nat) (tk : Task) : State :=
  let d := tk.desc
  let t := own / 16
  let k := 16 * t + df d 5 3 0
  let id := wordAt d 4 + s.reg .carStep0 0
  let cls := (s.queue own).cls
  let code := s.takeCode k cls t id d
  if code ≠ 0 then s.abortTask own tk.serial code
  else
    let q := s.kq k
    let r := q.record
    let b := q.batch id
    if b.code ≠ 0 then (s.abortTask own tk.serial b.code).batchDone k id
    else
      let win := if kqWindow r = 0 then 0 else (s.beat + kqWindow r) % 2 ^ 48
      let b2 := { b with take := some (own, tk.serial)
                         deadline := match b.deadline with
                           | some x => some x
                           | none => some (if cls = 0 then 0 else win) }
      let s1 := (s.setBatch k b2).modTask own tk.serial fun x => { x with progress := s.clock.since }
      let covers (h n : Nat) : Bool := decide ((s.home t h).bytes ≤ roundUp n 256)
      (s1.beginFilled t (dDst d) cls (covers (dDst d) (kqBatchBytes r))).beginFilled t (df d 6 23 0) cls
        (covers (df d 6 23 0) (kqMaskBytes r))

/-- KILN_TAKE (R406). -/
def execKilnTake (t : Fin 8) (q : Fin 16) (waited : Nat) (s : State) : Host.Outcome State Fault Refusal :=
  let k := 16 * t.val + q.val
  whenUp s fun x => x.issueTask k waited (fun d => decide (dType d = 9))
    (fun y d => !y.filling t (dDst d) && !y.filling t (df d 6 23 0)) (fun y r => y.runTake k r)

/-! The copy (R408). -/

/-- The staged runs that a copy reads, as addresses and lengths: rows, record and mask values of FILLED slots, and the
bytes that no slot owns (R402, R408). -/
def stagedRuns (r : List W32) (b : KBatch) (base : Nat) : List (Nat × Nat) :=
  let mask := base + kqBatchBytes r
  let chunks := kqDp r / 32
  let run (c : Nat) : Nat × Nat := (base + kqChunk r 0 (c / chunks) (c % chunks), 64)
  ((List.range (kqB r)).filter fun i => decide ((b.slot i).st = 1)).flatMap (fun i =>
    (List.range (kqNt r * chunks)).map (fun c => (base + kqChunk r i (c / chunks) (c % chunks), 64)) ++
      [(mask + 32 * i, 32), (mask + kqMaskOff r + 2 * (i * kqNt r), 2 * kqNt r)]) ++
    (if kqBlocked r then [] else (List.range ((kqRows r - kqB r * kqNt r) * chunks)).map fun c =>
      run (kqB r * kqNt r * chunks + c)) ++
    (if kqMaskOff r = 32 * kqB r then [] else [(mask + 32 * kqB r, kqMaskOff r - 32 * kqB r)])

/-- The copy of a batch into DST and MASK: the staged bytes of FILLED slots; +0 rows, zero mask values and the record of
every other slot. -/
def State.copyBatch (s : State) (r : List W32) (id : W32) (b : KBatch) (dst mask : Nat) : State × Bool :=
  let base := kqStaging r id
  let n := kqBatchBytes r
  let rd := (stagedRuns r b base).foldl (fun acc x =>
    let y := acc.1.tierRead [] none x.1 x.2
    (y.1, acc.2 && y.2)) (s, true)
  let s1 := rd.1.putUnits dst (rd.1.data base n)
  let s2 := s1.putUnits mask (rd.1.data (base + n) (kqMaskBytes r))
  let s3 := (List.range (kqB r)).foldl (fun x i =>
    if (b.slot i).st = 1 then x
    else (x.putRows r dst i []).putMask r mask i (b.slot i)) s2
  (s3, rd.2)

/-- KILN_BATCH_COPY: the first closed batch of the queue whose KILN_TAKE has issued is copied and leaves the window. -/
def State.batchCopy (s : State) (k : Nat) : State :=
  let q := s.kq k
  match q.batches.find? fun b => b.closed && !b.done && decide (b.code = 0) && b.take.isSome with
  | none => s
  | some b =>
    let id : W32 := BitVec.ofNat 32 b.id
    match b.take with
    | none => s
    | some own =>
      match s.task? own.1 own.2 with
      | none => s.batchDone k id
      | some tk =>
        match s.taskAddr own.1 own.2 (dDst tk.desc), s.taskAddr own.1 own.2 (df tk.desc 6 23 0) with
        | some a, some m =>
          let r := s.copyBatch q.record id b a m
          if r.2 then (r.1.landTask own.1 own.2).batchDone k id
          else (r.1.abortTask own.1 own.2 0x50).batchDone k id
        | _, _ => (s.abortTask own.1 own.2 0x20).batchDone k id

/-- KILN_BATCH_COPY (R408). -/
def execKilnBatchCopy (t : Fin 8) (k : Fin 16) (s : State) : Host.Outcome State Fault Refusal :=
  whenUp s fun x => x.batchCopy (16 * t.val + k.val)

end Sys2Proof.Machine
end

