-- ==== Sys2Proof/Machine/Read.lean ====
section
/-! DEFINITION. What a read of a register returns (R464, R465, R473): the stored value, or what the unit whose state lives
elsewhere shows through it. -/
namespace Sys2Proof.Machine

/-- Block type and instance of a register (R482). -/
def blockOf (r : Reg) (i : Nat) : Nat × Nat := ((regPlace r i).1, (regPlace r i).2.1)

/-- BLK_STATUS of a block (R468, R477). -/
def State.blkStatus (s : State) (typ inst : Nat) : W32 :=
  let mine (k : Nat) : Bool := decide (blockOf (runkey k).1 (runkey k).2 = (typ, inst))
  let offs := (s.parity.faulted.filter mine).map fun k => (regPlace (runkey k).1 (runkey k).2).2.2.1
  let low := match offs with
    | [] => 0
    | o :: t => t.foldl Nat.min o
  BitVec.ofNat 32 (b2n (s.staged.any fun e => mine e.reg) * 2 ^ 31 + b2n (!offs.isEmpty) * 2 ^ 30 + low % 65536)

/-- Codes of bank states (Table 3-8) and codebook bank states (Table 9-5). -/
def bankCode (b : Bank) : Nat := match b.st with | .empty => 0 | .held => 1 | .busy => 2 | .void => 3
def cbCode (b : CbBank) : Nat := if b.loading then 1 else if !b.valid then 0 else if b.inUse then 3 else 2

/-- One link of CORE_MLINK (Table 8-4): 0 for a link that is not connected (R20). -/
def State.linkCodeOf (s : State) (n l : Nat) : Nat :=
  match meshPartner n l with
  | none => 0
  | some m =>
    let spare (x : Nat) : Bool := decide (s.phys x = some 8) || decide (s.phys x = some 17)
    let on := (s.phys n).isSome && (s.phys m).isSome
    b2n on * 128 + b2n (decide (n / 8 ≠ m / 8)) * 64 + b2n (spare n || spare m) * 32 + m

/-- TUN_RTSTAT: the route that TUN_RTSEL names (Table 13-9). -/
def State.routeStat (s : State) : W32 :=
  let sel := s.reg .tunRtsel 0
  let r := s.route ((if bit sel 31 then 16384 else 0) + fld sel 13 0)
  let st := if r.held then 5 else r.st
  BitVec.ofNat 32 (st * 2 ^ 29 + Nat.min 256 r.unacked.length * 2 ^ 20 + r.cls * 2 ^ 18 +
    (if r.peerNode = 0xFFFF then 0 else r.peerNode % 65536))

/-- What a read of instance i of a register returns. -/
def State.readReg (s : State) (r : Reg) (i : Nat) : W32 :=
  match r with
  | .blkId => BitVec.ofNat 32 (i / 256 * 2 ^ 24 + i % 256 * 2 ^ 16 + 0x0100)
  | .blkStatus => s.blkStatus (i / 256) (i % 256)
  | .hubStatus => setBit (s.reg .hubStatus 0) 29 (bit (s.reg .hubLock 0) 0)
  | .carStep1 => s.host.latchStep.getD (s.reg .carStep1 0)
  | .carBeat0 => BitVec.ofNat 32 s.beat
  | .carBeat1 => s.host.latchBeat.getD (BitVec.ofNat 32 (s.beat / 2 ^ 32))
  | .mbxPost | .mbxAck => 0
  | .klnQstatus => setFld (s.reg .klnQstatus i) 2 0 (s.kq i).samples.length
  | .memStatus =>
    let all (l : List Nat) : Bool := l.all s.initDone
    let w := setFld (setFld (s.reg .memStatus 0) 29 29 (b2n (all (List.range 256)))) 28 28
      (b2n (all ((List.range 16).map (256 + ·))))
    setFld w 27 27 (b2n s.memRest)
  | .memChstat => setFld (s.reg .memChstat i) 30 30 (b2n (s.initDone i))
  | .tunRtstat => s.routeStat
  | .coreVecid => (Config.coefTab (s.reg .hubFwrel 0).toNat).setWidth 32
  | .coreBankstate =>
    BitVec.ofNat 32 ((List.range 16).map fun b => bankCode (mget Bank.init (s.core i).banks b) * 4 ^ b).sum
  | .coreCbstate =>
    BitVec.ofNat 32 ((List.range 4).map fun p =>
      (cbCode (mget CbBank.init (s.core i).cb (2 * p)) + 4 * cbCode (mget CbBank.init (s.core i).cb (2 * p + 1))) * 256 ^ p).sum
  | .coreMlink =>
    BitVec.ofNat 32 (s.linkCodeOf i 0 * 2 ^ 24 + s.linkCodeOf i 1 * 2 ^ 16 + s.linkCodeOf i 2 * 2 ^ 8 + s.linkCodeOf i 3)
  | _ => s.reg r i

end Sys2Proof.Machine
end

