-- ==== Sys2Proof/Machine/Mailbox.lean ====
section
/-! DEFINITION. The host link: MSI-X masks (R449), mailboxes (R450 to R459), the header of a notice (R462), failed reads of
host memory (R447) and the aperture (R444 to R446). -/
namespace Sys2Proof.Machine

/-! Vectors. -/

/-- A vector is unmasked: a set pending bit sends one message (R449). -/
def State.unmask (s : State) (f v : Nat) : State :=
  let k := 256 * f + v
  let s1 : State := { s with host := { s.host with unmasked := mset false s.host.unmasked k true } }
  if mget false s.host.pba k then
    { s1 with host := { s1.host with pba := mset false s1.host.pba k false } }.emit (.msix f v)
  else s1

/-- MSIX_UNMASK (R449). -/
def execMsixUnmask (f : Fin 9) (v : Fin 256) (s : State) : Host.Outcome State Fault Refusal :=
  whenServed s fun x => if v.val < vectorsOf f then x.unmask f v else x

/-! Mailbox states (Table 18-6): 0 IDLE, 1 POSTED, 2 TAKEN, 3 ACKED, 4 ABORTED. -/

def State.boxSt (s : State) (m : Nat) : Nat := s.rfld .mbxStatus m 31 29
def State.setBoxSt (s : State) (m v : Nat) : State := s.setRfld .mbxStatus m 31 29 v

/-- The function that posted the notice of an H2D mailbox. -/
def State.posterOf (s : State) (m : Nat) : Nat := mget 0 s.host.poster m

/-- The function of a D2H mailbox's mask. -/
def State.boxFunc (s : State) (m : Nat) : Nat :=
  ((List.range 9).find? fun f => s.maskHas m f).getD 0

/-- A read of MBX_LOCK: a free H2D mailbox gets its holder and reads 0 (R454). -/
def State.lockRead (s : State) (f m : Nat) : State :=
  if !s.boxView f m then (s.regError 0 1 f (offsetFor f .mbxLock m) false).emit (.unsupported f)
  else
    let h := s.rfld .mbxLock m 3 0
    if s.isD2h m then s.emit (.reply f 0)
    else if h = 0 then (s.hwFld .mbxLock m 3 0 (f + 1)).emit (.reply f 0)
    else s.emit (.reply f (BitVec.ofNat 32 h))

/-- MBX_LOCK_READ (R454). -/
def execMbxLockRead (f : Fin 9) (m : Fin 64) (s : State) : Host.Outcome State Fault Refusal :=
  whenServed s fun x => x.lockRead f m

/-- A write of MBX_LOCK: the holder's 0 releases the lock; any other function's write is dropped and logged (R454). -/
def State.lockWrite (s : State) (f m : Nat) (v : W32) : State :=
  let off := offsetFor f .mbxLock m
  if !s.boxView f m then s.regError 1 1 f off true
  else if s.isD2h m then s
  else if s.rfld .mbxLock m 3 0 ≠ f + 1 then s.regError 7 1 f off false
  else if fld v 3 0 = 0 then (s.repair (rkey .mbxLock m)).setRfld .mbxLock m 3 0 0
  else s

/-- MBX_LOCK_RELEASE (R454). -/
def execMbxLockRelease (f : Fin 9) (m : Fin 64) (value : W32) (s : State) : Host.Outcome State Fault Refusal :=
  whenServed s fun x => x.lockWrite f m value

/-- A landed write of MBX_POST (R453). -/
def State.postNotice (s : State) (f m : Nat) (v : W32) : State :=
  if !bit v 31 then s
  else if s.boxSt m = 1 ∨ s.boxSt m = 2 then s.setRfld .mbxStatus m 27 27 1
  else
    let s1 := (s.setBoxSt m 1).setReg .mbxTag m (BitVec.ofNat 32 (fld v 15 0))
    { s1 with host := { s1.host with poster := mset 0 s1.host.poster m f } }

/-- MBX_POST (R453). -/
def execMbxPost (f : Fin 9) (m : Fin 64) (value : W32) (s : State) : Host.Outcome State Fault Refusal :=
  whenServed s fun x => let r := x.write f .mbxPost m true value
    if r.2 then r.1.postNotice f m value else r.1

/-- Services of Table 18-7 and LOG_READ: true for those of the secure channel. -/
def serviceChannel (code : Nat) : Option Bool :=
  if 1 ≤ code ∧ code ≤ 0x000B then some false
  else if 0x0081 ≤ code ∧ code ≤ 0x0084 then some true
  else none

/-- What the receiving processor answers to a body before any service runs: a refusal code, or 0 (R460, R462, R493,
R494). -/
def State.bodyCode (s : State) (m len : Nat) (body : List W32) : Nat :=
  let code := fld (wordAt body 0) 15 0
  let boot := decide (code = 0x0083) || decide (code = 0x0084)
  if len < 16 ∨ fld (wordAt body 0) 31 16 ≠ 1 ∨ (wordAt body 1).toNat ≠ len ∨ wordAt body 2 ≠ 0 ∨ wordAt body 3 ≠ 0 then
    0x0003
  else if s.power.phase = .recovery ∧ !boot then 0x0102
  else match serviceChannel code with
    | none => 0x0102
    | some secure =>
      if decide (56 ≤ m) ≠ secure then 0x0004
      else if s.power.phase = .failed ∧ !boot then 0x0004
      else 0

/-- The receiving processor takes the notice of an H2D mailbox: the body comes from host memory, or from device memory
with SPACE 1 (R452). -/
def State.takeNotice (s : State) (m : Nat) (host : List W32) : State :=
  if s.isD2h m || decide (s.boxSt m ≠ 1) then s
  else
    let f := s.posterOf m
    let space := bit (s.reg .mbxPtrhi m) 31
    let len := (s.reg .mbxLen m).toNat
    let a := (s.reg .mbxPtrlo m).toNat + fld (s.reg .mbxPtrhi m) 15 0 * 2 ^ 32
    let hostAddr := (s.reg .mbxPtrlo m).toNat + fld (s.reg .mbxPtrhi m) 30 0 * 2 ^ 32
    let t := s.cfg.funcTenant f
    let inside := match t with | some t => s.inWindows t a len && isFast a | none => false
    let start (x : State) (body : List W32) (r : Nat) : State :=
      (x.setBoxSt m 2).setSvc m { active := true, func := f, code := fld (wordAt body 0) 15 0, body := body.drop 4,
                                  begun := false, result := if r = 0 then none else some r }
    if space then
      if 56 ≤ m || !inside then start s [] 0x0004
      else
        let r := s.tierRead [] none a len
        let body := s.imageWords a len
        if r.2 then start r.1 body (r.1.bodyCode m len body) else start r.1 [] 0x0101
    else if !mget false s.host.busMaster f then start (s.countWrap .hstRderr f 1) [] 0x0101
    else start (s.emit (.hostRead f hostAddr len)) host (s.bodyCode m len host)

/-- MBX_TAKE (R453, R456): `body` is what the read of host memory returned. -/
def execMbxTake (m : Fin 64) (body : List W32) (s : State) : Host.Outcome State Fault Refusal :=
  whenServed s fun x => x.takeNotice m body

/-- A mailbox reaches ACKED or ABORTED with a return code. -/
def State.endNotice (s : State) (m st code : Nat) : State := (s.setBoxSt m st).setRfld .mbxStatus m 15 0 code

/-- An H2D service has ended: the receiver writes MBX_ACK. -/
def State.ackService (s : State) (m : Nat) : State :=
  match (s.svc m).result with
  | some code =>
    if (s.svc m).active && decide (s.boxSt m = 2) then
      ((s.endNotice m 3 code).setSvc m Svc.init).raise (s.posterOf m) (64 + m)
    else s
  | none => s

/-- MBX_ACK (R453): the receiving processor's on an H2D mailbox whose service has ended, or a function's write on a D2H
mailbox. -/
def execMbxAck (f : Fin 9) (m : Fin 64) (code : W16) (s : State) : Host.Outcome State Fault Refusal :=
  whenServed s fun x =>
    if x.isD2h m then
      let r := x.write f .mbxAck m true (BitVec.ofNat 32 code.toNat)
      if r.2 && decide (r.1.boxSt m = 1) then r.1.endNotice m 3 code.toNat else r.1
    else x.ackService m

/-- A write of host memory for function f; none leaves while its Bus Master Enable is 0. -/
def State.writeHost (s : State) (f addr : Nat) (bytes : List Byte) : State :=
  if mget false s.host.busMaster f then s.emit (.hostWrite f addr bytes) else s

/-! Device-to-host notices (R458). -/

/-- Bytes of a D2H body with its header. -/
def noticeBytes (n : Notice) : List Byte :=
  leBytes 4 (n.code + 2 ^ 16) ++ leBytes 4 (16 + 4 * n.body.length) ++ List.replicate 8 0 ++
    n.body.flatMap fun w => leBytes 4 w.toNat

/-- The firmware writes the next queued body into the receive buffer and posts it; its tag is the firmware's. -/
def State.postD2h (s0 : State) (m : Nat) : State :=
  let s := s0.useRegs [(.mbxRxbuf0, m), (.mbxRxbuf1, m)]
  let f := s.boxFunc m
  let buf := s.reg64 .mbxRxbuf0 .mbxRxbuf1 m
  match mget [] s.host.d2h m with
  | [] => s
  | n :: rest =>
    if !s.isD2h m || decide (s.boxSt m = 1) || decide (buf = 0) || s.faulty .mbxRxbuf0 m || s.faulty .mbxRxbuf1 m then s
    else
      let bytes := noticeBytes n
      let s1 : State := { s with host := { s.host with d2h := mset [] s.host.d2h m rest } }
      let w := (s1.writeHost f buf bytes).fresh
      let s2 := ((w.1.hwSet .mbxPtrlo m (s.reg .mbxRxbuf0 m)).hwSet .mbxPtrhi m
        (setBit (s.reg .mbxRxbuf1 m) 31 false)).hwSet .mbxLen m (BitVec.ofNat 32 bytes.length)
      ((s2.setReg .mbxTag m (BitVec.ofNat 32 (fld w.2 15 0))).setBoxSt m 1).raise f (64 + m)

/-- D2H_NOTICE_POST (R458). -/
def execD2hNoticePost (m : Fin 64) (s : State) : Host.Outcome State Fault Refusal := whenServed s fun x => x.postD2h m

/-! Aborts (R453, R455, R457). -/

/-- Work that would end the service of mailbox m no longer does. -/
def State.forgetSvc (s : State) (m : Nat) : State :=
  let s1 := s.setSvc m Svc.init
  let qs := mmap Queue.init s1.queues fun _ q => if q.mailbox = some m then { q with mailbox := none } else q
  let rs := mmap Route.init s1.tunil.routes fun _ r => if r.mailbox = some m then { r with mailbox := none } else r
  let ws := s1.mon.waiting.map fun w => if w.mailbox = some m then { w with mailbox := none } else w
  { s1 with queues := qs, tunil := { s1.tunil with routes := rs }, mon := { s1.mon with waiting := ws } }

/-- An H2D notice that is POSTED or TAKEN is aborted with RCODE 0x0001; the poster hears of it on request. -/
def State.abortNotice (s : State) (m : Nat) (tell : Bool) : State :=
  if !s.isD2h m && (decide (s.boxSt m = 1) || decide (s.boxSt m = 2)) then
    let s1 := (s.endNotice m 4 1).forgetSvc m
    if tell then s1.raise (s.posterOf m) (64 + m) else s1
  else s

/-- PROCESSOR_RESTART: H2D notices of the processor's mailboxes are aborted (R457). -/
def execProcessorRestart (security : Bool) (s : State) : Host.Outcome State Fault Refusal :=
  whenServed s fun x => ((List.range 64).filter fun m => decide (security = decide (56 ≤ m))).foldl
    (fun y m => y.abortNotice m true) x

/-- What a reset of a function does to its mailboxes: its notices abort, its locks go with PHRST, its D2H mailboxes are
IDLE and their notices are discarded (R453, R455, R457). -/
def State.resetBoxes (s : State) (f : Nat) : State :=
  (List.range 64).foldl (fun x m =>
    if x.isD2h m then
      if x.maskHas m f then
        { x.setBoxSt m 0 with host := { x.host with d2h := mset [] x.host.d2h m [] } }
      else x
    else
      let y := if x.posterOf m = f then x.abortNotice m false else x
      if y.rfld .mbxLock m 3 0 = f + 1 then (y.hwFld .mbxLock m 3 0 0).setRfld .mbxStatus m 28 28 1 else y) s

/-! Failed reads of host memory (R447). -/

/-- The failure of a read reaches its user. -/
def State.readFail (s : State) (user : HostUser) : State :=
  match user with
  | .kilnSample t k => s.kilnReadFail (16 * t.val + k.val)
  | .mailboxBody m =>
    if !s.isD2h m && decide (s.boxSt m = 1) then
      (s.setBoxSt m 2).setSvc m { active := true, func := s.posterOf m, code := 0, body := [], begun := false,
                                  result := some 0x0101 }
    else if (s.svc m).active && !(s.svc m).begun && (s.svc m).result.isNone then s.endSvc m 0x0101
    else s
  | .decodeRing c => if (s.dec c).isOpen then s.setDec c { s.dec c with badNext := true } else s
  | .encodeRing e => s.setEnc e { s.enc e with frame := (s.enc e).frame.map fun f => { f with failed := true, pass := 4 } }

/-- HOST_READ_FAIL (R447). -/
def execHostReadFail (f : Fin 9) (user : HostUser) (s : State) : Host.Outcome State Fault Refusal :=
  whenServed s fun x => (x.countWrap .hstRderr f 1).readFail user

/-! The aperture (R444 to R446). -/

/-- Device address of BAR4 offset x. -/
def State.apAddr (s : State) (f x : Nat) : Nat := s.rfld .hstApbase f 8 0 * 2 ^ 30 + x

/-- A request is out of range (R445). -/
def State.apOut (s : State) (f a len : Nat) : Bool :=
  let th := s.cfg.thBase * 2 ^ 28
  decide (0x4000000000 < a + len) || decide (len = 0) || (decide (a < th + 2 ^ 28) && decide (th < a + len)) ||
    (decide (f ≠ 0) && (match s.cfg.funcTenant f with
      | some t => !s.inWindows t a len
      | none => true))

/-- An out-of-range request is counted, logged with KIND 8 and reported. -/
def State.apError (s : State) (f x : Nat) : State := (s.countWrap .hstAperr f 1).regError 8 2 f x true

/-- An aperture read: the data, with EP set when a codeword was uncorrectable (R446). -/
def State.apRead (s0 : State) (f x len : Nat) (errs : List CwErr) : State :=
  let s := s0.useReg .hstApbase f
  let a := s.apAddr f x
  if s.faulty .hstApbase f then s
  else if s.apOut f a len then (s.apError f x).emit (.unsupported f)
  else
    let r := s.tierRead errs none a len
    let byte (i : Nat) : Byte := if r.1.poisoned ((a + i) / 64 * 64) then Config.poisonByte (a + i) else r.1.datum (a + i)
    r.1.emit (.data f ((List.range len).map byte) (!r.2))

/-- APERTURE_READ (R446). -/
def execApertureRead (f : Fin 9) (x len : Nat) (errs : List CwErr) (s : State) : Host.Outcome State Fault Refusal :=
  whenUp s fun y => y.apRead f x len errs

/-- The enabled bytes of a write that fall into a codeword. -/
def apBytes (a : Nat) (data : List (Option Byte)) (cw : Nat) : List (Nat × Byte) :=
  data.zipIdx.filterMap fun p => match p.1 with
    | some b => if (a + p.2) / 64 * 64 = cw then some (a + p.2, b) else none
    | none => none

/-- An aperture write: whole codewords are stored, others merged. -/
def State.apWrite (s0 : State) (f x : Nat) (data : List (Option Byte)) (errs : List CwErr) : State :=
  let s := s0.useReg .hstApbase f
  let a := s.apAddr f x
  if s.faulty .hstApbase f then s
  else if s.apOut f a data.length then s.apError f x
  else
    (codewords a data.length).foldl (fun y cw =>
      let bs := apBytes a data cw
      if bs.length = 64 then y.putUnits cw (bs.map (·.2))
      else if bs.isEmpty then y
      else y.partWrite errs cw bs) s

/-- APERTURE_WRITE (R444 to R446). -/
def execApertureWrite (f : Fin 9) (x : Nat) (data : List (Option Byte)) (errs : List CwErr) (s : State) :
    Host.Outcome State Fault Refusal := whenUp s fun y => y.apWrite f x data errs

end Sys2Proof.Machine
end

