-- ==== Sys2Proof/Machine/Wire.lean ====
section
/-! DEFINITION. Frames as they appear on the wire: the Tunil header and trailer (R317), UDP and IP (R316, R320), Ethernet and
802.1Q (R298), MACsec (R307), the FCS, what a receiver checks of a datagram, and port injection (R314). -/
namespace Sys2Proof.Machine

/-! Tunil. -/

/-- The 48-byte Tunil header, in network byte order (Table 13-2). -/
def tunHeader (g : Seg) : List Byte :=
  [BitVec.ofNat 8 (16 + g.typ % 16),
   BitVec.ofNat 8 (g.cls % 4 * 64 + g.tenant % 8 * 8 + b2n g.retx * 4 + b2n g.move * 2 + b2n g.fw)] ++
  beBytes 2 g.epoch ++ beBytes 2 g.srcNode ++ beBytes 2 g.dstNode ++ beBytes 2 g.route ++ beBytes 2 g.segIdx ++
  beBytes 2 g.segCnt ++ beBytes 2 g.payload.length ++ beBytes 4 g.seq ++ beBytes 4 g.msgNo ++ beBytes 3 g.handle ++ [0] ++
  beBytes 4 g.offset ++ beBytes 6 g.step ++ [0, 0] ++ beBytes 4 g.tstamp ++ beBytes 4 g.aux

/-- Header, payload and trailer: the CRC-32C of both (Table 13-1). -/
def tunBytes (g : Seg) : List Byte :=
  let b := tunHeader g ++ g.payload
  b ++ beBytes 4 (crc32c b).toNat

/-- Flip one bit of a byte string, bits counted from the lowest bit of the first byte. -/
def flipBit (bs : List Byte) (i : Nat) : List Byte := setAt bs (i / 8) ((bs[i / 8]?).getD 0 ^^^ BitVec.ofNat 8 (2 ^ (i % 8)))

/-! UDP and IP. -/

/-- Sum of 16-bit words in network byte order. -/
def onesSum : List Byte → Nat
  | a :: b :: t => a.toNat * 256 + b.toNat + onesSum t
  | [a] => a.toNat * 256
  | [] => 0

/-- The internet checksum of a byte string. -/
def checksum (bs : List Byte) : Nat :=
  let f (x : Nat) : Nat := x % 65536 + x / 65536
  65535 - f (f (onesSum bs))

/-- An IP address. -/
def ipBytes (ipv6 : Bool) (a : Nat) : List Byte := beBytes (if ipv6 then 16 else 4) a

/-- A UDP datagram with its checksum over the pseudo-header; a checksum of 0 is sent as 0xFFFF. -/
def udpBytes (src dst : List Byte) (sport dport : Nat) (body : List Byte) : List Byte :=
  let len := 8 + body.length
  let head := beBytes 2 sport ++ beBytes 2 dport ++ beBytes 2 len
  let c := checksum (src ++ dst ++ beBytes 4 len ++ [0, 0, 0, 17] ++ head ++ [0, 0] ++ body)
  head ++ beBytes 2 (if c = 0 then 65535 else c) ++ body

/-- An IP packet without fragments or extension headers: IPv4 with DF, or IPv6 (R316). -/
def ipPacket (ipv6 : Bool) (dscp : Nat) (src dst udp : List Byte) : List Byte :=
  let hop : Byte := BitVec.ofNat 8 (Config.ipField 0)
  if ipv6 then
    beBytes 4 (6 * 2 ^ 28 + dscp * 2 ^ 22 + Config.ipField 1 % 2 ^ 20) ++ beBytes 2 udp.length ++ [17, hop] ++ src ++ dst ++ udp
  else
    let a := [0x45#8, BitVec.ofNat 8 (dscp * 4)] ++ beBytes 2 (20 + udp.length) ++ beBytes 2 (Config.ipField 2) ++
      [0x40, 0] ++ [hop, 17]
    a ++ beBytes 2 (checksum (a ++ [0, 0] ++ src ++ dst)) ++ src ++ dst ++ udp

/-- DSCP of a class (Table 13-5). -/
def State.dscp (s : State) (cls : Nat) : Nat :=
  let w := s.reg .tunDscp 0
  match cls with | 0 => fld w 29 24 | 1 => fld w 21 16 | _ => fld w 13 8

/-- The IP address that a segment leaving port p for a node goes to: the node's base address plus the number of the port
that p is cabled to, or plus p on a switch port (R320, R343; the choice of port is log 127's). -/
def State.addrAt (s : State) (p node : Nat) : Nat :=
  match s.mapOf node with
  | some e => e.addr + (if s.portRole p = 1 then (cabled s.ownSlot p).2 else p)
  | none => Config.strayAddr node

/-- The IP packet of a segment at port p, with a route injection's flip of a payload bit after the trailer (R316, R340). -/
def State.packet (s : State) (p : Nat) (f : TxFrame) (flip : Option Nat) : List Byte :=
  let v6 := bit (s.reg .tunCtrl 0) 29
  let g := f.seg
  let src := ipBytes v6 (s.cfg.port p).addr
  let dst := ipBytes v6 (s.addrAt p g.dstNode)
  let body := match flip with
    | some i => flipBit (tunBytes g) (8 * 48 + i)
    | none => tunBytes g
  ipPacket v6 (s.dscp g.cls) src dst (udpBytes src dst (0xC000 + (g.route + g.seq) % 0x4000) (s.rfld .tunUdp 0 15 0) body)

/-! Ethernet and MACsec. -/

/-- MAC address of port p: the fused base plus the port number (R298). -/
def State.macAddr (s : State) (p : Nat) : Nat := s.flash.fuses.macBase + p

/-- One bit, one byte of the reflected CRC-32 of the FCS. -/
def fcsBit (c : W32) : W32 := if bit c 0 then (c >>> 1) ^^^ 0xEDB88320#32 else c >>> 1
def fcsByte (c : W32) (b : Byte) : W32 := (List.range 8).foldl (fun a _ => fcsBit a) (c ^^^ BitVec.ofNat 32 b.toNat)

/-- The FCS of a frame, as it is sent. -/
def fcsOf (bs : List Byte) : List Byte := leBytes 4 ((bs.foldl fcsByte 0xFFFFFFFF#32) ^^^ 0xFFFFFFFF#32).toNat

/-- The secure channel identifier of port p: its MAC address and port number 1. -/
def State.sci (s : State) (p : Nat) : List Byte := beBytes 6 (s.macAddr p) ++ beBytes 2 1

/-- Key material of an association (R307). -/
def State.saKey (s : State) (p dir an : Nat) : List W32 := mget [] s.host.saKeys (8 * p + 4 * dir + an)

/-- The installed associations without one: port, direction (1 transmit), AN. -/
def State.sasWithout (s : State) (a : Nat × Nat × Nat) : List (Nat × Nat × Nat × Nat) :=
  s.host.sas.filter fun x => !(decide (x.1 = a.1) && decide (x.2.1 = a.2.1) && decide (x.2.2.1 = a.2.2))

/-- An association is installed with its key material; its packet numbers begin at 1. -/
def State.putSa (s : State) (a : Nat × Nat × Nat) (key : List W32) : State :=
  { s with host := { s.host with sas := s.sasWithout a ++ [(a.1, a.2.1, a.2.2, 1)]
                                 saKeys := mset [] s.host.saKeys (8 * a.1 + 4 * a.2.1 + a.2.2) key } }

/-- An association and its key material are removed. -/
def State.dropSa (s : State) (a : Nat × Nat × Nat) : State :=
  { s with host := { s.host with sas := s.sasWithout a
                                 saKeys := mset [] s.host.saKeys (8 * a.1 + 4 * a.2.1 + a.2.2) [] } }

/-- The nonce of a packet number: with XPN the salt and the SSCI of SAK_INSTALL, or those that a key reference of the image
names; without XPN the SCI. -/
def State.secNonce (s : State) (p an pn : Nat) : List Byte :=
  if bit (s.reg .portCfg p) 18 then
    let k := s.saKey p 1 an
    let named (from1 n : Nat) : List Byte := (List.range n).map fun i => Config.sakByte k (from1 + i)
    let salt := if k.length ≤ 1 then named 32 12 else [wordAt k 1, wordAt k 2, wordAt k 3].flatMap fun w => leBytes 4 w.toNat
    let ssci := if k.length ≤ 1 then named 44 4 else beBytes 4 (wordAt k 0).toNat
    List.zipWith (· ^^^ ·) salt (ssci ++ beBytes 8 pn)
  else s.sci p ++ beBytes 4 pn

/-- MACsec of the part of a frame behind its addresses and tag: SecTAG with SCI, ciphertext, ICV (R307, Table 13-1). -/
def State.secure802 (s : State) (p an pn : Nat) (head plain : List Byte) : List Byte :=
  let tag := beBytes 2 0x88E5 ++ [BitVec.ofNat 8 (0x2C + an), 0] ++ beBytes 4 pn ++ s.sci p
  let key := (List.range 32).map (Config.sakByte (s.saKey p 1 an))
  let nonce := s.secNonce p an pn
  let text := plain.zipIdx.map fun x => x.1 ^^^ Config.gcmStream key nonce x.2
  tag ++ text ++ (List.range 16).map (Config.gcmTag key nonce (head ++ tag) text)

/-- A Tunil frame without its FCS; `sec` is the AN and packet number of a protected frame. -/
def State.frameBody (s : State) (p : Nat) (sec : Option (Nat × Nat)) (f : TxFrame) (flip : Option Nat) : List Byte :=
  let head := beBytes 6 (Config.macOf (s.addrAt p f.seg.dstNode)) ++ beBytes 6 (s.macAddr p) ++ beBytes 2 0x8100 ++
    beBytes 2 (f.pcp * 8192 + Config.vlanId % 4096)
  let plain := beBytes 2 (if bit (s.reg .tunCtrl 0) 29 then 0x86DD else 0x0800) ++ s.packet p f flip
  head ++ (match sec with
    | some x => s.secure802 p x.1 x.2 head plain
    | none => plain)

/-- A Tunil frame on the wire (Table 13-1); a route injection flips a payload bit under the FCS, or leaves the FCS wrong
(Table 13-8). -/
def State.wireBytes (s : State) (p : Nat) (sec : Option (Nat × Nat)) (f : TxFrame) : List Byte :=
  match f.flip with
  | none => let b := s.frameBody p sec f none; b ++ fcsOf b
  | some (i, covered) =>
    let b := s.frameBody p sec f (some i)
    b ++ fcsOf (if covered then b else s.frameBody p sec f none)

/-! What a receiver checks of a datagram (R316, R317). -/

/-- Header, trailer and reserved fields of a Tunil segment. -/
def tunilGood (b : List Byte) : Bool :=
  let at8 (i : Nat) : Nat := ((b[i]?).getD 0).toNat
  let body := b.take (b.length - 4)
  decide (52 ≤ b.length) && decide (at8 0 / 16 = 1) && decide (1 ≤ at8 0 % 16) && decide (at8 0 % 16 ≤ 11) &&
    decide (at8 27 = 0) && decide (at8 38 = 0) && decide (at8 39 = 0) &&
    decide (beNat (b.drop (b.length - 4)) = (crc32c body).toNat)

/-- A UDP datagram between two addresses: its checksum, then the segment. -/
def udpGood (src dst udp : List Byte) : Bool :=
  decide (checksum (src ++ dst ++ beBytes 4 udp.length ++ [0, 0, 0, 17] ++ udp) = 0) && tunilGood (udp.drop 8)

/-- A received IP packet: no fragment, no IPv6 extension header, UDP checksum, trailer, version, type, reserved fields. -/
def datagramGood (b : List Byte) : Bool :=
  let at8 (i : Nat) : Nat := ((b[i]?).getD 0).toNat
  if at8 0 / 16 = 6 then
    decide (at8 6 = 17) && udpGood ((b.drop 8).take 16) ((b.drop 24).take 16) (b.drop 40)
  else
    decide (at8 0 / 16 = 4) && decide (at8 9 = 17) && decide (at8 6 % 64 = 0) && decide (at8 7 = 0) &&
      udpGood ((b.drop 12).take 4) ((b.drop 16).take 4) (b.drop (4 * (at8 0 % 16)))

/-! Port injection (R314). -/

/-- The frame as it leaves. -/
def WireFrame.out (p : Nat) : WireFrame → Emit
  | .tunil f b => .frame p f b
  | .mac k a => .macFrame p k a

/-- Priority of a frame (Table 12-2). -/
def WireFrame.pcp : WireFrame → Nat
  | .tunil f _ => f.pcp
  | .mac _ _ => 7

/-- Bytes of a frame: LLDP untagged, PTP tagged, over 802.3 on a bond port and over UDP on a switch port (R298, R301, R309;
the lengths are those of the standards: PRESUMED, log 129). -/
def State.wireLen (s : State) (p : Nat) : WireFrame → Nat
  | .tunil _ b => b.length
  | .mac k _ => if k = 2 then 64 else if s.portRole p = 1 then 66 else if bit (s.reg .tunCtrl 0) 29 then 116 else 94

/-- A frame of a priority has gone: the frame of that priority that an injection held follows it. -/
def State.afterFrame (s : State) (p pcp : Nat) : State :=
  match (s.port p).held.find? fun w => decide (w.pcp = pcp) with
  | some w => (s.modPort p fun y => { y with held := y.held.erase w }).emit (w.out p)
  | none => s

/-- The frame goes on the wire, under port injection (R314, Table 12-3). -/
def State.wire (s : State) (p : Nat) (w : WireFrame) : State :=
  let c := s.reg .portFinj p
  if !bit c 31 || !decide (fld c 23 16 / 2 ^ w.pcp % 2 = 1) then (s.emit (w.out p)).afterFrame p w.pcp
  else
    let s1 := s.useRegs [(.portFinj, p), (.portFinjseed, p)]
    let d := injDraw (s.reg .portFinjseed p) (s.port p).injNo p
    let s2 := s1.modPort p fun x => { x with injNo := (x.injNo + 1) % 2 ^ 40 }
    if !injHit (fld c 28 24) d.1 then (s2.emit (w.out p)).afterFrame p w.pcp
    else
      let s3 := s2.countWrap .portFinjcnt p 1
      let b := d.2.toNat % (8 * s.wireLen p w)
      match fld c 30 29 with
      | 0 => s3.afterFrame p w.pcp
      | 1 => (s3.emit (.flipped p b false w)).afterFrame p w.pcp
      | 2 => (s3.emit (.flipped p b true w)).afterFrame p w.pcp
      | _ => (s3.afterFrame p w.pcp).modPort p fun x => { x with held := x.held ++ [w] }

end Sys2Proof.Machine
end

