-- ==== Sys2Proof/Machine/Ports.lean ====
section
/-! DEFINITION. The Ethernet ports: bring-up, retrain and hold (R311 to R313), LLDP and cabling (R300, R301), receive
shares and PFC (R304, R305), transmission with MACsec and injection (R303, R307, R308, R314), preemption (R306) and PTP
(R309). -/
namespace Sys2Proof.Machine

/-- Lanes and lane rate in Gb/s that a mode uses; the other lanes are powered down (R297, Table 12-1). -/
def modeLanes (mode : Nat) : Nat × Nat :=
  match mode with
  | 1 | 2 => (8, 200)
  | 3 | 4 => (4, 200)
  | 5 | 6 => (2, 200)
  | 7 | 8 => (4, 100)
  | _ => (0, 0)

/-- The lanes of a port that are powered: those of its mode, while the port is not OFF (R297, R313). -/
def State.lanesOn (s : State) (p : Nat) : List Nat :=
  if s.portSt p = 0 then [] else List.range (modeLanes (s.portMode p)).1

/-- What an LLDP frame carries: serial number, bond, slot and port number (R301). -/
def State.lldpArg (s : State) (p : Nat) : Nat :=
  s.flash.fuses.serial * 2 ^ 32 + s.carBond * 2 ^ 16 + s.ownSlot * 2 ^ 8 + p

/-- An LLDP frame leaves from the queue of PCP 7 (R301, Table 12-2). -/
def State.sendLldp (s : State) (p : Nat) : State := s.wire p (.mac 2 (s.lldpArg p))

/-- The port sends LLDP: it is UP or MISCABLED. -/
def State.portTalks (s : State) (p : Nat) : Bool := decide (s.portSt p = 2) || decide (s.portSt p = 3)

/-! Bring-up and retrain. -/

/-- The port retrains (R312): its link is lost to traffic, and the request bit clears. -/
def State.retrain (s : State) (p : Nat) : State :=
  let n := Nat.min 255 (s.rfld .portStatus p 23 16 + 1)
  let s1 := ((s.setPortSt p 4).setRfld .portStatus p 23 16 n).setRfld .portStatus p 28 28 0
  (s1.hwFld .portCtrl p 31 31 0).portLoss p

/-- PORT_LINK_UP: bring-up or retrain is complete; LLDP is sent at once, segments that waited for a port go, and a held
RETRAIN is taken (R301, R313, R332). -/
def State.linkUp (s : State) (p : Nat) : State :=
  if !(decide (s.portSt p = 1) || decide (s.portSt p = 4)) then s
  else
    let s1 := (s.modPort p fun x => { x with fails := 0, firstEnded := true, verifyFails := 0,
                                             matched := !decide (s.portRole p = 1) }).setPortSt p 2
    let s2 := (s1.sendLldp p).sendDue
    let s3 := s2.useReg .portCtrl p
    if bit (s3.reg .portCtrl p) 31 && !s3.faulty .portCtrl p then s3.retrain p else s3

/-- PORT_LINK_UP (R311). -/
def execPortLinkUp (p : Fin 32) (s : State) : Host.Outcome State Fault Refusal := whenClocked s fun x => x.linkUp p

/-- PORT_BRINGUP_FAIL: an attempt, or a retrain past its bound, has failed; the eighth in a row leaves the port FAILED
(R311, R312). -/
def State.bringupFail (s : State) (p : Nat) : State :=
  if !(decide (s.portSt p = 1) || decide (s.portSt p = 4)) then s
  else
    let n := (s.port p).fails + 1
    let s1 := s.modPort p fun x => { x with fails := n, firstEnded := true }
    if 8 ≤ n then (s1.setPortSt p 5).portLoss p else s1

/-- PORT_BRINGUP_FAIL (R311). -/
def execPortBringupFail (p : Fin 32) (s : State) : Host.Outcome State Fault Refusal :=
  whenClocked s fun x => x.bringupFail p

/-- PORT_BRINGUP_RETRY: another attempt starts (R311). -/
def execPortBringupRetry (p : Fin 32) (s : State) : Host.Outcome State Fault Refusal :=
  whenClocked s fun x =>
    if decide (0 < (x.port p).fails) && (decide (x.portSt p = 1) || decide (x.portSt p = 4)) then x.setPortSt p 1 else x

/-- PORT_RETRAIN: alignment or FEC lock is lost, or too many codewords are uncorrectable; ignored during training
(R312, R313). -/
def execPortRetrain (p : Fin 32) (s : State) : Host.Outcome State Fault Refusal :=
  whenClocked s fun x => if x.portTalks p then x.retrain p else x

/-- The image uses the port: it gives it a mode and a role other than unused (R299, Table 12-1). -/
def State.portUsed (s : State) (p : Nat) : Bool := decide (s.portMode p ≠ 0) && decide (s.portRole p ≠ 0)

/-- Bring-up starts from OFF or FAILED (R311). -/
def State.startPort (s : State) (p : Nat) : State :=
  if !s.portUsed p then s
  else (s.modPort p fun x => { x with fails := 0, firstEnded := false, matched := false }).setPortSt p 1

/-- The effect of a landed write of PORT_CTRL; `was` is HOLD before the write (R313). -/
def State.afterPortCtrl (s : State) (p : Nat) (was : Bool) : State :=
  let s0 := s.useReg .portCtrl p
  let c := s0.reg .portCtrl p
  let s1 := if bit c 30 then (if s0.portSt p = 0 then s0 else (s0.setPortSt p 0).portLoss p)
    else if was then s0.startPort p
    else s0
  if bit c 31 && s1.portTalks p then s1.retrain p else s1

/-- A function writes PORT_CTRL. -/
def State.portCtrl (s : State) (f p : Nat) (v : W32) : State :=
  let was := bit (s.reg .portCtrl p) 30
  let r := s.write f .portCtrl p true v
  if r.2 then r.1.afterPortCtrl p was else r.1

/-- PORT_RETRAIN_REQUEST: RETRAIN is written 1 beside HOLD in place (R312, R313). -/
def execPortRetrainRequest (f : Fin 9) (p : Fin 32) (s : State) : Host.Outcome State Fault Refusal :=
  whenServed s fun x => x.portCtrl f p (setBit (x.reg .portCtrl p) 31 true)

/-- PORT_HOLD: HOLD is written 1 beside RETRAIN in place (R313). -/
def execPortHold (f : Fin 9) (p : Fin 32) (s : State) : Host.Outcome State Fault Refusal :=
  whenServed s fun x => x.portCtrl f p (setBit (x.reg .portCtrl p) 30 true)

/-- PORT_HOLD_RELEASE: HOLD is written 0 beside RETRAIN in place (R313). -/
def execPortHoldRelease (f : Fin 9) (p : Fin 32) (s : State) : Host.Outcome State Fault Refusal :=
  whenServed s fun x => x.portCtrl f p (setBit (x.reg .portCtrl p) 30 false)

/-! LLDP. -/

/-- LLDP_TRANSMIT (R301). -/
def execLldpTransmit (p : Fin 32) (s : State) : Host.Outcome State Fault Refusal :=
  whenClocked s fun x => if x.portTalks p then x.sendLldp p else x

/-- LLDP_RECEIVE: the partner's TLV is recorded; a bond port compares it with R300, a switch port records the chassis ID
(R301). -/
def State.lldp (s : State) (p chassis bond slot port : Nat) : State :=
  if !s.portTalks p then s
  else
    let s1 := s.setReg .portPeer p (BitVec.ofNat 32 (bond * 65536 + slot * 4096 + port))
    if s.portRole p ≠ 1 then s1.modPort p fun x => { x with chassis := some chassis }
    else
      let good := decide (bond = s.carBond) && decide ((slot, port) = cabled s.ownSlot p)
      let s2 := (s1.modPort p fun x => { x with matched := good }).setPortSt p (if good then 2 else 3)
      if good then s2.sendDue else s2

/-- LLDP_RECEIVE (R301). -/
def execLldpReceive (p : Fin 32) (sender : LldpSender) (slot : Fin 16) (port : Fin 32) (s : State) :
    Host.Outcome State Fault Refusal :=
  whenClocked s fun x => x.lldp p sender.chassis sender.bond.toNat slot port

/-- LLDP_PARTNER_TIMEOUT: no partner TLV within 2 s makes a bond port MISCABLED (R301). -/
def execLldpPartnerTimeout (p : Fin 32) (s : State) : Host.Outcome State Fault Refusal :=
  whenClocked s fun x =>
    if decide (x.portSt p = 2) && decide (x.portRole p = 1) && !(x.port p).matched then x.setPortSt p 3 else x

/-! Receiving. -/

/-- Receive share of a priority (R302, Table 13-5). -/
def pcpShare (pcp : Nat) : Nat := if pcp = 6 ∨ pcp = 7 then 0 else if pcp = 4 then 1 else 2

/-- Occupancy and size in bytes of a port's receive share (R304). -/
def Port.used (x : Port) (c : Nat) : Nat := match c with | 0 => x.used0 | 1 => x.used1 | _ => x.used2
def Port.setUsed (x : Port) (c v : Nat) : Port :=
  match c with | 0 => { x with used0 := v } | 1 => { x with used1 := v } | _ => { x with used2 := v }
def State.shareSize (s : State) (p c : Nat) : Nat :=
  let r := s.cfg.port p
  65536 * (match c with | 0 => r.share0 | 1 => r.share1 | _ => r.share2)
/-- XOFF threshold in bytes. -/
def State.xoffAt (s : State) (p : Nat) : Nat := (s.cfg.port p).xoff * 1024

/-- XOFF stands sent for a share's priority. -/
def Port.xoff (x : Port) (c : Nat) : Bool := if c = 1 then x.xoff4 else x.xoff2
def Port.setXoff (x : Port) (c : Nat) (b : Bool) : Port := if c = 1 then { x with xoff4 := b } else { x with xoff2 := b }

/-- PCP of a pausable share. -/
def sharePcp (c : Nat) : Nat := if c = 1 then 4 else 2

/-- Bytes enter a share: XOFF goes each time an enabled priority's share passes the threshold (R305). -/
def State.fillShare (s : State) (p c len : Nat) : State :=
  let used := (s.port p).used c + len
  let s1 := s.modPort p fun x => x.setUsed c used
  if c ≠ 0 ∧ s.pfcOn p (sharePcp c) ∧ s.xoffAt p < used ∧ (s.port p).used c ≤ s.xoffAt p then
    (s1.modPort p fun x => x.setXoff c true).emit (.macFrame p 0 (sharePcp c))
  else s1

/-- Bytes leave a share: XON goes when it falls 256 KiB below the threshold (R305). -/
def State.drainShare (s : State) (p c len : Nat) : State :=
  let used := (s.port p).used c - len
  let s1 := s.modPort p fun x => x.setUsed c used
  if c ≠ 0 ∧ (s.port p).xoff c ∧ used + 262144 ≤ s.xoffAt p then
    (s1.modPort p fun x => x.setXoff c false).emit (.macFrame p 1 (sharePcp c))
  else s1

/-- Share of a Tunil frame: the class-2 share at PCP 0, 1, 3 and 5 (R302); else that of the class of the route it names
when the route exists, else by its priority (R331; DEDUCED, log 130). -/
def State.frameClass (s : State) (route : Option (Bool × Nat)) (pcp : Nat) : Nat :=
  if pcp = 0 ∨ pcp = 1 ∨ pcp = 3 ∨ pcp = 5 then 2
  else match route with
    | some (fw, r) => if (s.route (wireKey fw r)).st = 0 then pcpShare pcp else (s.route (wireKey fw r)).cls
    | none => pcpShare pcp

/-- Multicast addresses of LLDP and of PTP over 802.3 and their peer-delay address (R298; PRESUMED, log 129). -/
def groupAddr : List Nat := [0x0180C200000E, 0x011B19000000]

/-- The frame is for this port: its own address, or a group address of LLDP or PTP (R298). -/
def State.addrGood (s : State) (p : Nat) (f : RxFrame) : Bool :=
  match f.dst with
  | none => f.addrOk
  | some d => decide (d = s.macAddr p) || (f.lldpOrPtp && groupAddr.contains d)

/-- Lowest packet number that the replay window of a receive association accepts; none without the association (R308). -/
def State.replayFrom (s : State) (p an : Nat) : Option Nat :=
  (s.host.sas.find? fun a => decide (a.1 = p) && decide (a.2.1 = 0) && decide (a.2.2.1 = an)).map fun a =>
    a.2.2.2 - (s.cfg.port p).replay

/-- A protected frame passes validation: its ICV, an installed association, the replay window (R308). -/
def State.secGood (s : State) (p : Nat) (f : RxFrame) : Bool :=
  f.macsecOk && match f.sec with
    | none => true
    | some (an, pn) => match s.replayFrom p an with
      | some low => decide (low ≤ pn)
      | none => false

/-- The next packet number that a receive association expects rises past an accepted one. -/
def State.seePn (s : State) (p : Nat) (f : RxFrame) : State :=
  match (if bit (s.reg .portCfg p) 17 && !f.lldpOrPtp then f.sec else none) with
  | none => s
  | some (an, pn) =>
    { s with host := { s.host with sas := s.host.sas.map fun a =>
      if a.1 = p ∧ a.2.1 = 0 ∧ a.2.2.1 = an then (a.1, a.2.1, a.2.2.1, Nat.max a.2.2.2 (pn + 1)) else a } }

/-- The checks of R316 and R317. -/
def framePasses (f : RxFrame) : Bool := match f.datagram with
  | none => f.tunilOk
  | some b => datagramGood b

/-- FEC codewords that came with a frame (R315). -/
def State.fecSeen (s : State) (p : Nat) (f : RxFrame) : State :=
  let s1 := if f.fecCe = 0 then s else s.countWrap .portFecce p f.fecCe
  if f.fecUe = 0 then s1 else s1.countWrap .portFecue p f.fecUe

/-- A frame that names a route waits in its share until its segment is taken; any other leaves at once. -/
def State.holdFrame (s : State) (p c : Nat) (f : RxFrame) : State :=
  match f.route with
  | none => s
  | some (fw, r) => (s.modPort p fun x => { x with rx := x.rx ++ [⟨wireKey fw r, c, f.len⟩] }).fillShare p c f.len

/-- FRAME_RECEIVE: the filters of R298, R306 and R308, the Tunil checks of R316 and R317, then the receive share (R304). -/
def State.frameIn (s0 : State) (p : Nat) (f : RxFrame) : State :=
  if !s0.portTalks p then s0
  else
    let s := s0.fecSeen p f
    let drop (r : Reg) (x : State) : State := x.countWrap r p 1
    if f.pause then drop .portPauseign s
    else if !f.fcsOk || !s.addrGood p f || !f.tagOk || !f.fragmentOk || decide (f.len < 64) || decide (9216 < f.len) then
      drop .portRxdrop s
    else if bit (s.reg .portCfg p) 17 && !f.lldpOrPtp && !s.secGood p f then drop .portSecdrop s
    else
      let t := s.seePn p f
      if !t.portUsable p && !f.lldpOrPtp then drop .portRxdrop t
      else if !f.lldpOrPtp && !framePasses f then t.countWrap .tunCrcdrop 0 1
      else
        let c := if f.lldpOrPtp then 0 else t.frameClass f.route f.pcp
        if t.shareSize p c < (t.port p).used c + f.len then drop .portRxdrop t
        else if f.lldpOrPtp then t
        else t.holdFrame p c f

/-- FRAME_RECEIVE (R298). -/
def execFrameReceive (p : Fin 32) (frame : RxFrame) (s : State) : Host.Outcome State Fault Refusal :=
  whenClocked s fun x => x.frameIn p frame

/-- The oldest frame in the receive buffer of a port that names a segment's route. -/
def State.heldFrame (s : State) (p : Nat) (g : Seg) : Option RxHeld :=
  (s.port p).rx.find? fun h => decide (h.key = wireKey g.fw g.route)

/-- A received segment leaves its receive share. -/
def State.takeFrame (s : State) (p : Nat) (g : Seg) : State :=
  match s.heldFrame p g with
  | some h => (s.modPort p fun x => { x with rx := x.rx.erase h }).drainShare p h.share h.len
  | none => s

/-- PFC_RECEIVE: enabled priorities pause or go on; any other makes the frame count as ignored (R305). -/
def State.pfcIn (s : State) (p : Nat) (mask : Nat) (xoff : Bool) : State :=
  if !s.portTalks p then s
  else
    let on (pcp : Nat) : Bool := decide (mask / 2 ^ pcp % 2 = 1)
    let s1 := s.modPort p fun x =>
      { x with paused4 := if on 4 && s.pfcOn p 4 then xoff else x.paused4
               paused2 := if on 2 && s.pfcOn p 2 then xoff else x.paused2 }
    if (List.range 8).any fun pcp => on pcp && !((decide (pcp = 4) || decide (pcp = 2)) && s.pfcOn p pcp) then
      s1.countWrap .portPauseign p 1
    else s1

/-- PFC_RECEIVE (R305). -/
def execPfcReceive (p : Fin 32) (priorities : BitVec 8) (xoff : Bool) (s : State) : Host.Outcome State Fault Refusal :=
  whenClocked s fun x => x.pfcIn p priorities.toNat xoff

/-- PFC_PAUSE_EXPIRY: a received pause has run out (R305). -/
def execPfcPauseExpiry (p : Fin 32) (pcp4 : Bool) (s : State) : Host.Outcome State Fault Refusal :=
  whenClocked s fun x => x.modPort p fun y => if pcp4 then { y with paused4 := false } else { y with paused2 := false }

/-- PFC_XOFF_REPEAT: XOFF again while the share stays above the threshold (R305). -/
def State.xoffRepeat (s : State) (p c : Nat) : State :=
  if s.portTalks p && s.pfcOn p (sharePcp c) && decide (s.xoffAt p < (s.port p).used c) then
    (s.modPort p fun x => x.setXoff c true).emit (.macFrame p 0 (sharePcp c))
  else s

/-- PFC_XOFF_REPEAT (R305). -/
def execPfcXoffRepeat (p : Fin 32) (pcp4 : Bool) (s : State) : Host.Outcome State Fault Refusal :=
  whenClocked s fun x => x.xoffRepeat p (if pcp4 then 1 else 2)

/-! Transmission. -/

/-- The first queued frame of a priority. -/
def Port.first (x : Port) (pcp : Nat) : Option TxFrame := x.txq.find? fun f => decide (f.pcp = pcp)

/-- The next frame by strict priority 6, then ETS between 4 and 2 among the priorities not paused (R303, R305); the
port's ETS account after it. -/
def Port.next (x : Port) (w4 : Nat) (bytes : TxFrame → Nat) : Option (TxFrame × Port) :=
  match x.first 6 with
  | some f => some (f, x)
  | none =>
    let a := if x.paused4 then none else x.first 4
    let b := if x.paused2 then none else x.first 2
    match a, b with
    | some f, some g =>
      if x.ets4 * (100 - w4) ≤ x.ets2 * w4 then some (f, { x with ets4 := x.ets4 + bytes f })
      else some (g, { x with ets2 := x.ets2 + bytes g })
    | some f, none => some (f, { x with ets4 := 0, ets2 := 0 })
    | none, some g => some (g, { x with ets4 := 0, ets2 := 0 })
    | none, none => none

/-- Key-event and switching thresholds of the packet number (R308). -/
def pnEvent (xpn : Bool) : Nat := if xpn then 2 ^ 61 else 2 ^ 31
def pnSwitch (xpn : Bool) : Nat := if xpn then 2 ^ 62 else 2 ^ 32 - 2 ^ 20

/-- Next packet number of an installed transmit association. -/
def State.txPn (s : State) (p an : Nat) : Option Nat :=
  (s.host.sas.find? fun a => decide (a.1 = p) && decide (a.2.1 = 1) && decide (a.2.2.1 = an)).map fun a => a.2.2.2

/-- The association that the port's next protected frame uses: the one in use below its switching point, else the next
installed one in cyclic order; none stops protected frames (R308). -/
def State.txAn (s : State) (p : Nat) : Option Nat :=
  let lim := pnSwitch (bit (s.reg .portCfg p) 18)
  [0, 1, 2, 3].findSome? fun i =>
    let an := ((s.port p).an + i) % 4
    match s.txPn p an with
    | some pn => if pn < lim then some an else none
    | none => none

/-- A D2H notice to PF0's secure mailbox. -/
def State.noticeSecure (s : State) (code : Nat) (body : List W32) : State :=
  match s.d2hBox 0 true with
  | some m => s.queueNotice m { code := code, body := body }
  | none => s

/-- A protected frame takes a packet number; reaching the key-event threshold notifies the security processor (R308). -/
def State.usePn (s : State) (p an : Nat) : State :=
  let pn := (s.txPn p an).getD 0
  let sas := s.host.sas.map fun a =>
    if a.1 = p ∧ a.2.1 = 1 ∧ a.2.2.1 = an then (a.1, a.2.1, a.2.2.1, a.2.2.2 + 1) else a
  let s1 := ({ s with host := { s.host with sas := sas } } : State).modPort p fun x => { x with an := an }
  if pn + 1 = pnEvent (bit (s.reg .portCfg p) 18) then
    s1.noticeSecure 0x0281 [BitVec.ofNat 32 p, 1, BitVec.ofNat 32 an]
  else s1

/-- PORT_TXCL0 counts PCP 6 bytes in units of 256. -/
def State.countCl0 (s : State) (p n : Nat) : State :=
  let b := (s.port p).cl0Bytes + n
  (s.modPort p fun x => { x with cl0Bytes := b % 256 }).countWrap .portTxcl0 p (b / 256)

/-- FRAME_TRANSMIT: the next frame by priority and ETS is protected and sent (R303, R307, R314). -/
def State.transmit (s : State) (p : Nat) : State :=
  if !s.portUsable p || s.held (.port p) then s
  else
    let bytes (f : TxFrame) : Nat := s.frameBytes p (segBytes f.seg)
    match (s.port p).next (s.cfg.port p).ets4 bytes with
    | none => s
    | some (f, x) =>
      let sec := bit (s.reg .portCfg p) 17
      let an := s.txAn p
      if sec && an.isNone then s
      else
        let s1 := s.setPort p { x with txq := x.txq.erase f }
        let use := if sec then an else none
        let s2 := match use with | some a => s1.usePn p a | none => s1
        let s3 := if f.pcp = 6 then s2.countCl0 p (bytes f) else s2
        s3.wire p (.tunil f (s.wireBytes p (use.map fun a => (a, (s.txPn p a).getD 0)) f))

/-- FRAME_TRANSMIT (R303). -/
def execFrameTransmit (p : Fin 32) (s : State) : Host.Outcome State Fault Refusal := whenClocked s fun x => x.transmit p

/-- FINJ_HOLD_RELEASE: the oldest held frame goes after 1 µs (R314). -/
def execFinjHoldRelease (p : Fin 32) (s : State) : Host.Outcome State Fault Refusal :=
  whenClocked s fun x => match (x.port p).held with
    | w :: rest => (x.modPort p fun y => { y with held := rest }).emit (w.out p)
    | [] => x

/-- ROUTE_FINJ_HOLD_RELEASE: a frame that route injection held goes to its port after 1 µs (R340). -/
def execRouteFinjHoldRelease (s : State) : Host.Outcome State Fault Refusal :=
  whenClocked s fun x => match x.tunil.held with
    | some (p, f) => ({ x with tunil := { x.tunil with held := none } } : State).pushFrame p f
    | none => x

/-! Preemption and PTP. -/

/-- PREEMPT_VERIFY: a verify attempt ends; after three failures the port works without preemption (R306). -/
def State.verify (s : State) (p : Nat) (ok : Bool) : State :=
  if !(bit (s.reg .portCfg p) 19 && s.portTalks p && !bit (s.reg .portStatus p) 28 && decide ((s.port p).verifyFails < 3)) then s
  else if ok then s.setRfld .portStatus p 28 28 1
  else s.modPort p fun x => { x with verifyFails := x.verifyFails + 1 }

/-- PREEMPT_VERIFY (R306). -/
def execPreemptVerify (p : Fin 32) (ok : Bool) (s : State) : Host.Outcome State Fault Refusal :=
  whenClocked s fun x => x.verify p ok

/-- The clock's own data set: priority1 64 for the master of a caravan, its own among them, 65 for a candidate and 128 for
a worker (R351); class, accuracy, variance and priority2 are the defaults of IEEE 1588 (PRESUMED, log 131). -/
def State.ownDataset (s : State) : List Nat :=
  let p1 : Nat := match s.cfg.caravan with
    | some c => (match c.role with | 1 => 64 | 2 => 65 | _ => 128)
    | none => 64
  [p1, 248, 0xFE, 0xFFFF, 128, s.flash.fuses.macBase, 0, s.flash.fuses.macBase]

/-- The order of data sets under the default BMCA: the lower is better. -/
def datasetLt : List Nat → List Nat → Bool
  | a :: x, b :: y => decide (a < b) || (decide (a = b) && datasetLt x y)
  | [], _ :: _ => true
  | _, [] => false

/-- The port towards the parent clock: the one whose Announce is best and better than the clock's own data set; none makes
this clock the grandmaster (R309, R346). -/
def State.ptpParent (s : State) : Option Nat :=
  ((List.range 32).foldl (fun (b : Option Nat × List Nat) p =>
    match (if s.portTalks p && decide (s.portRole p ≠ 0) then (s.port p).foreign else none) with
    | some d => if datasetLt d b.2 then (some p, d) else b
    | none => b) (none, s.ownDataset)).1

/-- Domain number of the clock (R309). -/
def State.ptpDomain (s : State) : Nat := match s.cfg.caravan with | some c => c.domain | none => 0

/-- A time at a port, corrected by the delay asymmetry of the image, in units of 2^-16 ns, and by nothing beyond it (R310). -/
def State.asymTime (s : State) (p time : Nat) : Nat :=
  (((time * 65536 : Nat) : Int) + sint (s.cfg.port p).asym).toNat / 65536

/-- A PTP message at a port in role bond or switch (R309, R351, R352): an Announce is kept for the BMCA; a Sync of the parent
sets the time, and PTPLOCK shows the offset from the parent; a delay request is answered; a port that is not towards the
parent sends one-step Sync. Other domains and management messages are discarded. -/
def State.ptp (s : State) (p : Nat) (m : PtpMsg) (offsetOk : Bool) : State :=
  if !s.portTalks p || decide (s.portRole p = 0) then s
  else match m.kind with
    | .send => if s.ptpParent = some p then s else s.wire p (.mac 3 s.clock.ptp)
    | .management => s
    | k =>
      if m.domain ≠ s.ptpDomain then s
      else match k with
        | .announce => s.modPort p fun x => { x with foreign := some m.dataset }
        | .delayRequest => s.wire p (.mac 4 s.clock.ptp)
        | _ =>
          if s.ptpParent ≠ some p then s
          else
            let s1 : State := { s with clock := { s.clock with ptp := s.asymTime p m.time, locked := offsetOk } }
            s1.setRfld .carStatus 0 24 24 (b2n offsetOk)

/-- PTP_MESSAGE (R309). -/
def execPtpMessage (p : Fin 32) (msg : PtpMsg) (offsetOk : Bool) (s : State) : Host.Outcome State Fault Refusal :=
  whenClocked s fun x => x.ptp p msg offsetOk

end Sys2Proof.Machine
end

