-- ==== Sys2Proof/Machine/Tunil.lean ====
section
/-! DEFINITION. The Tunil segments of Table 13-3 as they arrive, and the timers of the routes (R319, R323 to R337). -/
namespace Sys2Proof.Machine

/-! Common parts. -/

/-- Key of the route that a segment names, in the table that FW names (R318). -/
def segKey (g : Seg) : Nat := wireKey g.fw g.route

/-- The module is ready: NOT_READY has ended (R337). -/
def State.tunReady (s : State) : Bool := bit (s.reg .tunCtrl 0) 30

/-- Answer a segment at its port with an unsequenced one (R317): on the route it names, else on the route that an OPEN
gives in AUX. -/
def State.answer (s : State) (p : Nat) (g : Seg) (typ aux : Nat) : State :=
  let key := segKey g
  let r := s.route key
  let known := decide (r.st ≠ 0)
  let seg : Seg :=
    { s.segOf key typ with
      cls := g.cls, fw := g.fw, tenant := if known && !g.fw then r.tenant else 0
      epoch := if known then s.ownEpoch key else s.tunil.bootEpoch
      dstNode := g.srcNode, route := if known then r.peerRoute else if g.typ = 5 then g.aux % 65536 else 0
      seq := g.seq, aux := aux }
  if !known then s.answerAt p (ackPcp g.cls) seg
  else if s.portUsable p then
    s.routeFrame key p { pcp := ackPcp g.cls, fw := keyFw key, route := keyNum key, seg := seg, flip := none }
  else s

/-- NOT_READY, at most one per source node and route in 100 µs; beyond that the segment only counts (R337). -/
def State.notReady (s : State) (p : Nat) (g : Seg) (retry : Nat) : State :=
  let nk := 65536 * segKey g + g.srcNode % 65536
  let last := mget 0 s.tunil.notReadyAt nk
  if last ≠ 0 ∧ s.clock.since + 1 < last + 100000 then s.countWrap .tunNotready 0 1
  else
    let s1 : State := { s with tunil := { s.tunil with notReadyAt := mset 0 s.tunil.notReadyAt nk (s.clock.since + 1) } }
    s1.answer p g 3 retry

/-- The retry-after of a module that is not ready: the firmware's estimate and the spread, 100 µs to 1 s (R337). -/
def State.startRetry (s : State) (g : Seg) : Nat :=
  Nat.min 1000000 (Nat.max 100 (Config.readyEstimate s.freeCtr + g.srcNode % 64 * 10))

/-- Before readiness every sequenced segment and every OPEN is answered so. -/
def State.notReadyYet (s : State) (p : Nat) (g : Seg) : State :=
  ({ s with freeCtr := s.freeCtr + 1 } : State).notReady p g (s.startRetry g)

/-- A segment for another node is stale (R320). -/
def State.strayNode (s : State) (g : Seg) : Bool := decide (g.dstNode ≠ s.carNode)
def State.stale (s : State) : State := s.countWrap .tunStale 0 1

/-- A segment of the route's record: epoch, class and tenant (R328, R333). -/
def Route.ofRecord (r : Route) (g : Seg) : Bool :=
  decide (g.epoch = r.peerEpoch) && decide (g.cls = r.cls) && decide (g.tenant = if g.fw then 0 else r.peerTenant)

/-! Routes that end. -/

/-- What an undelivered message was writing is VOID, a MOVING entry too (R288, R289). -/
def State.voidMsg (s : State) (key : Nat) (m : RxMsg) : State :=
  let t := (s.route key).tenant
  if m.code ≠ 0 then s
  else if m.move then s.genUpdate t m.handle m.gen fun y =>
    if (y.home t m.handle).st = stMoving then y.setSt t m.handle stVoid else y
  else s.voidWrite t m.handle m.gen

/-- Messages that a route had not delivered are gone. -/
def State.dropIncoming (s : State) (key : Nat) : State :=
  let s1 := if keyFw key then s else (s.route key).msgs.foldl (fun x m => x.voidMsg key m) s
  s1.modRoute key fun x => { x with msgs := [], rxPending := 0 }

/-- Abort the tasks in flight of a route's tenant that name it and have not landed (R326, R334). -/
def State.abortRoute (s : State) (key code : Nat) (p : Task → Bool) : State :=
  if keyFw key then s
  else (queuesOf (s.route key).tenant).foldl (fun x k =>
    ((x.queue k).tasks.filter fun t => !t.landed && namesRoute t.desc key && p t).foldl
      (fun y t => y.abortTask k t.serial code) x) s

/-- The ROUTE_OPEN service of mailbox m ends, and its routes no longer report to it. -/
def State.endRoutes (s : State) (m code : Nat) : State :=
  let rs := mmap Route.init s.tunil.routes fun _ r => if r.mailbox = some m then { r with mailbox := none } else r
  ({ s with tunil := { s.tunil with routes := rs } } : State).endSvc m code

/-- A ROUTE_OPEN service that waits for its routes ends: 0x0000 once all are OPEN, at the first refusal with its code. -/
def State.routeService (s : State) (m : Nat) : State :=
  if !(s.svc m).active || !(s.svc m).begun || (s.svc m).result.isSome then s
  else
    let mine := s.tunil.routes.filter fun e => decide (e.2.mailbox = some m)
    if mine.any fun e => decide (e.2.st = 4) then s.endRoutes m 0x0002
    else if mine.all fun e => decide (e.2.st ≠ 1) then s.endRoutes m 0
    else s

/-- The service of the mailbox that opened a route takes note of its state. -/
def State.routeNoted (s : State) (key : Nat) : State :=
  match (s.route key).mailbox with
  | some m => s.routeService m
  | none => s

/-- A route becomes TIMEDOUT: every task in flight on it aborts with 0x61 (R326). -/
def State.timeOut (s : State) (key : Nat) : State :=
  let s1 := (s.abortRoute key 0x61 fun _ => true).endHeld key fun _ => false
  (((s1.dropIncoming key).modRoute key fun x =>
    { x with st := 4, held := false, solo := none, retry := none, toSend := [], unacked := [] }).routeNoted key).dropDead

/-! Receiving sequenced segments. -/

/-- Advance the next expected SEQ over marked segments; at most `n` times. -/
def rxAdvance : Nat → Nat → List Nat → Nat × List Nat
  | 0, seq, marks => (seq, marks)
  | n + 1, seq, marks =>
    if marks.contains seq then rxAdvance n ((seq + 1) % 2 ^ 32) (marks.filter fun x => !decide (x = seq))
    else (seq, marks)

/-- A segment is owed an acknowledgement; 32 of them are acknowledged at once (R324). -/
def State.oweAck (s : State) (key : Nat) : State :=
  let n := (s.route key).rxPending + 1
  let s1 := s.modRoute key fun r => { r with rxPending := n }
  if 32 ≤ n then s1.sendAck key else s1

/-- Mark a segment received (R323). -/
def State.markSeq (s : State) (key seq : Nat) : State :=
  let s1 := s.modRoute key fun r =>
    let a := rxAdvance 257 r.rxNext (seq :: r.rxMarks)
    { r with rxNext := a.1, rxMarks := a.2 }
  s1.oweAck key

/-- Step floor of a tenant (R336). -/
def State.stepFloor (s : State) (t : Nat) : Nat := s.reg64 .tunStepflr0 .tunStepflr1 t

/-- Fault of the first segment of a message (R279, R280, R287, R289, R328). -/
def State.firstCode (s : State) (t : Nat) (g : Seg) : Nat :=
  let e := s.home t g.handle
  if g.move then
    if !s.handleOk t g.handle || decide (e.st = stFree) then 0x20
    else if !((decide (e.st = stUnwritten) || decide (e.st = stVoid)) && !e.packed && decide (e.kind ≠ 3) &&
      decide (g.image = e.shape)) then 0x21
    else if (s.homeAddr e).isNone then 0x21
    else if e.bytes < 256 * g.offset + g.payload.length ∨ g.payload.length % 256 ≠ 0 then 0x13
    else 0
  else s.landCode t g.handle (256 * g.offset) g.payload.length

/-- The record of a message from its first segment: the translation, and the fill or the whole coverage of R289. -/
def State.firstSeg (s : State) (key : Nat) (g : Seg) : State × RxMsg :=
  let r := s.route key
  let t := r.tenant
  let e := s.home t g.handle
  let code := if keyFw key then 0 else s.firstCode t g
  let covers := decide (g.offset = 32 * g.segIdx) && decide (e.bytes ≤ g.segCnt * 8192)
  let m : RxMsg :=
    { msgNo := g.msgNo, segCnt := g.segCnt, got := [], lastLen := 0, handle := g.handle, gen := e.gen
      start := g.offset - 32 * g.segIdx, tstamp := g.tstamp, cls := r.cls, code := code, move := g.move, commit := false
      addr := (s.homeAddr e).getD 0, extent := e.bytes
      tail := !g.move && covers && decide (e.st = stUnwritten) && decide (code = 0) && !keyFw key }
  let s1 := if code ≠ 0 || keyFw key then s
    else if g.move then s.setSt t g.handle stMoving
    else s.beginFilled t g.handle r.cls covers
  (s1, m)

/-- A message is refused: REFUSED goes back with the fault code (R328). -/
def State.refuse (s : State) (key : Nat) (m : RxMsg) : State :=
  s.sendCtl key (ackPcp m.cls) { s.segOf key 8 with msgNo := m.msgNo, aux := m.code }

/-- Put a message's record back into its route. -/
def State.putMsg (s : State) (key : Nat) (m : RxMsg) : State :=
  s.modRoute key fun r => { r with msgs := (r.msgs.filter fun x => !decide (x.msgNo = m.msgNo)) ++ [m] }

/-- A segment of a message in progress is written at its offset (R323, R328). -/
def State.writeSeg (s : State) (key : Nat) (m : RxMsg) (g : Seg) : State :=
  let t := (s.route key).tenant
  let len := g.payload.length
  let last := decide (g.segIdx + 1 = m.segCnt)
  let got := if m.got.contains g.segIdx then m.got else g.segIdx :: m.got
  let m1 := { m with got := got, lastLen := if last then len else m.lastLen }
  if m.code ≠ 0 then s.putMsg key m1
  else if keyFw key then (s.firmwareData key g).putMsg key m1
  else if m.extent < 256 * g.offset + len ∨ len % 256 ≠ 0 then
    let m2 := { m1 with code := 0x13 }
    ((s.voidWrite t m.handle m.gen).putMsg key m2).refuse key m2
  else (s.putUnits (m.addr + 256 * g.offset) g.payload).putMsg key m1

/-- A DATA segment that is neither stale nor a duplicate (R327 to R330, R336). -/
def State.dataSeg (s : State) (p key : Nat) (g : Seg) : State :=
  let r := s.route key
  let floor := if r.cls = 0 ∧ !keyFw key then s.stepFloor r.tenant else 0
  let passed := decide (2 ^ 31 ≤ (g.msgNo + 2 ^ 32 - r.rxMsg) % 2 ^ 32)
  match r.msgs.find? fun m => decide (m.msgNo = g.msgNo) with
  | some m =>
    if g.step < floor then (((s.voidMsg key m).putMsg key { m with code := 256 }).markSeq key g.seq).stale
    else (s.writeSeg key m g).markSeq key g.seq
  | none =>
    if g.step < floor then
      let s1 := (s.markSeq key g.seq).stale
      if passed then s1 else s1.putMsg key { (s.firstSeg key g).2 with code := 256 }
    else if passed then s.markSeq key g.seq
    else if 64 ≤ r.rxQueue.length ∧ !keyFw key then (s.answer p g 9 10).countWrap .tunBusy 0 1
    else
      let f := s.firstSeg key g
      let s1 := f.1.writeSeg key f.2 g
      let s2 := if f.2.code ≠ 0 then s1.refuse key f.2 else s1
      s2.markSeq key g.seq

/-- A COMMIT: the MOVE that it ends is in place, and the entry becomes VALID (R287). -/
def State.commitSeg (s : State) (key : Nat) (g : Seg) : State :=
  let r := s.route key
  if r.cls = 0 && !keyFw key && decide (g.step < s.stepFloor r.tenant) then (s.markSeq key g.seq).stale
  else
    let s1 := match r.msgs.find? fun m => m.commit && decide (m.handle = g.handle) with
      | some m =>
        (s.genUpdate r.tenant m.handle m.gen fun x =>
          if (x.home r.tenant m.handle).st = stMoving then x.setSt r.tenant m.handle stValid else x).setRoute key
            { r with msgs := r.msgs.erase m }
      | none => s
    s1.markSeq key g.seq

/-- A sequenced segment arrives (R320, R323, R328, R333, R337). -/
def State.sequenced (s0 : State) (p : Nat) (g : Seg) (f : State → Nat → State) : State :=
  let s := s0.takeFrame p g
  let key := segKey g
  let r := s.route key
  if s.strayNode g then s.stale
  else if !s.tunReady then s.notReadyYet p g
  else if r.st = 3 then s
  else if r.st ≠ 2 then s.notReady p g 100
  else if !r.ofRecord g then s.stale
  else
    let s1 := if keyFw key then s else s.useRegs [(.tunStepflr0, r.tenant), (.tunStepflr1, r.tenant)]
    let d := (g.seq + 2 ^ 32 - r.rxNext) % 2 ^ 32
    if s1.held .tunil || (!keyFw key && (s1.faulty .tunStepflr0 r.tenant || s1.faulty .tunStepflr1 r.tenant)) then s1
    else if 2 ^ 31 ≤ d ∨ r.rxMarks.contains g.seq then (s1.countWrap .tunDupdrop 0 1).oweAck key
    else if 256 < d then s1
    else ((f s1 key).wake 65 key).wakeMesh 64

/-- The port can receive. -/
def State.receives (s : State) (p : Nat) : Bool := s.portUsable p && bit (s.reg .tunCtrl 0) 31

/-- A segment reaches the engines: its port can receive, or retrains and holds the segment's complete frame (R312). -/
def State.takes (s : State) (p : Nat) (g : Seg) : Bool :=
  s.receives p || (bit (s.reg .tunCtrl 0) 31 && decide (s.portSt p = 4) && (s.heldFrame p g).isSome)

/-- DATA; a firmware transfer's bytes are the firmware's (R323). -/
def execData (p : Fin 32) (seg : Seg) (s : State) : Host.Outcome State Fault Refusal :=
  whenClocked s fun x => if x.takes p seg then x.sequenced p seg fun y k => y.dataSeg p k seg else x

/-- COMMIT (R287). -/
def execCommit (p : Fin 32) (seg : Seg) (s : State) : Host.Outcome State Fault Refusal :=
  whenClocked s fun x => if x.takes p seg then x.sequenced p seg fun y k => y.commitSeg k seg else x

/-! Unsequenced segments. -/

/-- An unsequenced segment of the route's record, for this node. -/
def State.control (s0 : State) (p : Nat) (g : Seg) (f : State → Nat → State) : State :=
  let s := s0.takeFrame p g
  let r := s.route (segKey g)
  if s.strayNode g then s.stale
  else if r.st = 0 then s
  else if !r.ofRecord g && decide (r.st ≠ 1) then s.stale
  else f s (segKey g)

/-- ACK (R323, R334). -/
def execAck (p : Fin 32) (seg : Seg) (s : State) : Host.Outcome State Fault Refusal :=
  whenClocked s fun x => if x.takes p seg then x.control p seg fun y k => y.ackRoute k seg else x

/-- NOT_READY holds the route until the retry-after ends (R337). -/
def State.notReadyIn (s : State) (key : Nat) : State :=
  s.modRoute key fun r => if r.st = 1 ∨ r.st = 2 then { r with held := true, solo := none, retry := none } else r

/-- NOT_READY (R337). -/
def execNotReady (p : Fin 32) (seg : Seg) (s : State) : Host.Outcome State Fault Refusal :=
  whenClocked s fun x => if x.takes p seg then x.control p seg fun y k => y.notReadyIn k else x

/-- BUSY holds the route; the refused segment goes first and alone afterwards (R329). -/
def State.busyIn (s : State) (key : Nat) (g : Seg) : State :=
  s.modRoute key fun r => if r.st = 2 then { r with held := true, solo := none, retry := some g.seq } else r

/-- BUSY (R329). -/
def execBusy (p : Fin 32) (seg : Seg) (s : State) : Host.Outcome State Fault Refusal :=
  whenClocked s fun x => if x.takes p seg then x.control p seg fun y k => y.busyIn k seg else x

/-- REFUSED: the task of the message aborts with the code (R328). -/
def State.refusedIn (s : State) (key : Nat) (g : Seg) : State :=
  let r := s.route key
  let sent := r.unacked.filter fun (x : TxSeg) => decide (x.seg.msgNo = g.msgNo) && decide (x.seg.typ = 1)
  let plan := r.toSend.filter fun (x : TxPlan) => decide (x.seg.msgNo = g.msgNo)
  match (sent.map (·.task) ++ plan.map (·.task)).head? with
  | some o => (s.abortTask o.1 o.2 (g.aux % 256)).tunilRequests
  | none => s

/-- REFUSED (R328). -/
def execRefused (p : Fin 32) (seg : Seg) (s : State) : Host.Outcome State Fault Refusal :=
  whenClocked s fun x => if x.takes p seg then x.control p seg fun y k => y.refusedIn k seg else x

/-- PARTICIPANT_RESET: every task in flight on the route aborts with 0x60, the route is RESET, and an ACK carries the old
next expected SEQ (R334). -/
def State.peerReset (s : State) (key : Nat) : State :=
  let r := s.route key
  let s1 := s.sendCtl key (ackPcp r.cls) { s.segOf key 2 with seq := r.rxNext, payload := r.ackMap }
  let s2 := ((s1.abortRoute key 0x60 fun _ => true).endHeld key fun _ => false).dropIncoming key
  (s2.modRoute key fun x =>
    { x with st := if x.st = 0 ∨ x.st = 4 then x.st else 3, held := false, solo := none, retry := none, toSend := []
             unacked := [] }).dropDead

/-- PARTICIPANT_RESET (R334). -/
def execParticipantReset (p : Fin 32) (seg : Seg) (s : State) : Host.Outcome State Fault Refusal :=
  whenClocked s fun x =>
    if x.takes p seg then
      let y := x.takeFrame p seg
      let r := y.route (segKey seg)
      if y.strayNode seg then y.stale
      else if r.st = 0 then y
      else if !(decide (seg.epoch = r.peerEpoch) || decide (seg.epoch = seg.aux % 65536)) then y.stale
      else y.peerReset (segKey seg)
    else x

/-- ROUTE_FAIL: the peer has timed the route out; this end is TIMEDOUT too, and the tasks in flight on it abort with 0x61,
the RECVs waiting on it among them (R326). -/
def State.peerFail (s : State) (key : Nat) : State :=
  if (s.route key).st = 2 ∨ (s.route key).st = 1 then s.timeOut key else s

/-- ROUTE_FAIL (R326). -/
def execRouteFail (p : Fin 32) (seg : Seg) (s : State) : Host.Outcome State Fault Refusal :=
  whenClocked s fun x => if x.takes p seg then x.control p seg fun y k => y.peerFail k else x

/-! Opening. -/

/-- A route is OPEN: sequences start at 0 in each direction and the peer's epoch is recorded (R319). -/
def Route.opened (r : Route) (epoch : Nat) : Route :=
  { r with st := 2, resetSent := false, held := false, solo := none, retry := none, peerEpoch := epoch, txSeq := 0, unacked := []
           rxNext := 0, rxMarks := [], rxPending := 0, msgs := [], rxMsg := 0, rxQueue := [] }

/-- An entry of the table matches an OPEN: its class, and PEER_ROUTE and PEER_NODE pointing back (R319). -/
def Route.mates (r : Route) (g : Seg) : Bool :=
  decide (r.cls = g.cls) && decide (r.peerRoute = g.aux % 65536) && decide (r.peerNode = g.srcNode)

/-- OPEN: a matching entry that is opening, or open already, answers OPEN_ACK and is OPEN; a RESET route discards it; any
other answer is NOT_READY (R319, R334, R337). A peer that opens an OPEN route anew, with another epoch, ends the messages in
progress with 0x60 (DESIGN CHOICE, log 132). -/
def State.openIn (s0 : State) (p : Nat) (g : Seg) : State :=
  let s := s0.takeFrame p g
  let key := segKey g
  let r := s.route key
  if s.strayNode g then s.stale
  else if !s.tunReady then s.notReadyYet p g
  else if r.st = 3 then s
  else if !r.mates g || !(decide (r.st = 1) || decide (r.st = 2)) then s.notReady p g 100
  else if r.st = 1 then
    ((s.setRoute key (r.opened g.epoch)).answer p g 6 (s.ownEpoch key)).routeNoted key |>.tunilRequests
  else if r.peerEpoch = g.epoch then s.answer p g 6 (s.ownEpoch key)
  else
    let s1 := ((s.abortRoute key 0x60 fun _ => true).endHeld key fun _ => false).dropIncoming key
    ((s1.modRoute key fun x => { x.opened g.epoch with toSend := [] }).answer p g 6 (s.ownEpoch key)).dropDead

/-- OPEN (R319). -/
def execOpenSeg (p : Fin 32) (seg : Seg) (s : State) : Host.Outcome State Fault Refusal :=
  whenClocked s fun x => if x.takes p seg then x.openIn p seg else x

/-- OPEN_ACK: the opening side's route is OPEN, with the responder's epoch (R319). -/
def State.openAckIn (s0 : State) (p : Nat) (g : Seg) : State :=
  let s := s0.takeFrame p g
  let key := segKey g
  let r := s.route key
  if s.strayNode g then s.stale
  else if r.st = 1 ∧ r.peerNode = g.srcNode then
    ((s.setRoute key (r.opened (g.aux % 65536))).routeNoted key).tunilRequests
  else s

/-- OPEN_ACK (R319). -/
def execOpenAck (p : Fin 32) (seg : Seg) (s : State) : Host.Outcome State Fault Refusal :=
  whenClocked s fun x => if x.takes p seg then x.openAckIn p seg else x

/-! Timers. -/

/-- ACK_SEND (R324). -/
def execAckSend (fw : Bool) (r : Fin 16384) (s : State) : Host.Outcome State Fault Refusal :=
  whenClocked s fun x =>
    let key := routeKey fw r
    if (x.route key).st = 2 ∧ 0 < (x.route key).rxPending then x.sendAck key else x

/-- The retransmission time of a segment has run out; on an opening route OPEN goes again (R325). -/
def State.retransmit (s : State) (key seq : Nat) : State :=
  let r := s.route key
  if r.held || s.held .tunil then s
  else if r.st = 1 then s.sendOpen key
  else if match r.solo with | some q => decide (q ≠ seq) | none => false then s
  else match r.unacked.find? fun x => decide (x.seg.seq = seq) with
    | some x => if r.resends x then s.resend key x else s
    | none => s

/-- RETRANSMIT (R325). -/
def execRetransmit (fw : Bool) (r : Fin 16384) (seq : W32) (s : State) : Host.Outcome State Fault Refusal :=
  whenClocked s fun x => x.retransmit (routeKey fw r) seq.toNat

/-- An open route whose limit runs: a segment is unacknowledged, or segments wait and none of its ports is UP (R326, R332). -/
def State.limitRuns (s : State) (r : Route) : Bool :=
  decide (r.st = 2) && (!r.unacked.isEmpty || (!r.toSend.isEmpty && (portsOf r.ports).all fun p => !s.portUsable p))

/-- The route limit has run out (R326): the route is TIMEDOUT and ROUTE_FAIL goes; one whose PARTICIPANT_RESET found no
answer closes (R334); an opening one ends its service. -/
def State.routeLimit (s : State) (key : Nat) : State :=
  let r := s.route key
  if r.held then s
  else if r.resetSent then (s.endHeld key fun _ => false).modRoute key fun x =>
    { x with st := if x.st = 1 then 1 else 0, resetSent := false, toSend := [], unacked := [] }
  else if r.st = 1 then s.timeOut key
  else if s.limitRuns r then (s.sendCtl key (ackPcp r.cls) { s.segOf key 10 with aux := 0x61 }).timeOut key
  else s

/-- ROUTE_TIMEOUT (R326). -/
def execRouteTimeout (fw : Bool) (r : Fin 16384) (s : State) : Host.Outcome State Fault Refusal :=
  whenClocked s fun x => x.routeLimit (routeKey fw r)

/-- A retry-after ends: OPEN again, or the refused or first unacknowledged segment alone (R329, R337). -/
def State.retryOver (s : State) (key : Nat) : State :=
  let r := s.route key
  if !r.held then s
  else if r.st = 1 then (s.setRoute key { r with held := false }).sendOpen key
  else
    let asked := match r.retry with
      | some q => r.unacked.filter fun (x : TxSeg) => decide (x.seg.seq = q)
      | none => []
    let first := (asked ++ r.unacked).head?
    match first with
    | some x => (s.setRoute key { r with held := false, retry := none, solo := some x.seg.seq }).resend key x
    | none => (s.setRoute key { r with held := false, retry := none }).tunilRequests

/-- RETRY_AFTER_EXPIRY (R329, R337). -/
def execRetryAfterExpiry (fw : Bool) (r : Fin 16384) (s : State) : Host.Outcome State Fault Refusal :=
  whenClocked s fun x => x.retryOver (routeKey fw r)

/-- Send PARTICIPANT_RESET with the new epoch on a route whose peer knows the old one (R334). -/
def State.sendReset (s : State) (key : Nat) : State :=
  let new := s.ownEpoch key
  s.sendCtl key (ackPcp (s.route key).cls) { s.segOf key 4 with aux := new }

/-- PARTICIPANT_RESET_REPEAT (R334). -/
def execParticipantResetRepeat (r : Fin 8192) (s : State) : Host.Outcome State Fault Refusal :=
  whenClocked s fun x => if (x.route r).resetSent then x.sendReset r else x

/-- A message has begun to arrive for the task that waits on the route, and its next segment has not come within the
limit: the RECV aborts with 0x61 and the route is TIMEDOUT (R326). -/
def State.midLimit (s : State) (key : Nat) : State :=
  let r := s.route key
  let begun := r.msgs.any fun m => decide (m.msgNo = r.rxMsg) && !m.whole && decide (m.code = 0) && !m.got.isEmpty
  let waiter := s.oldestWait (queuesOf r.tenant) fun d => decide ((dRoute d).map (·.2) = some key)
  if r.st = 2 && !keyFw key && begun && waiter.isSome then s.timeOut key else s

/-- MID_MESSAGE_TIMEOUT (R326). -/
def execMidMessageTimeout (fw : Bool) (r : Fin 16384) (s : State) : Host.Outcome State Fault Refusal :=
  whenClocked s fun x => x.midLimit (routeKey fw r)

/-! Mortar links. -/

/-- A task names mortar link l of its core; CONV by its HALO mask. -/
def usesLink (d : List W32) (l : Nat) : Bool :=
  decide (dLink d = some l) || decide (dNextLink d = some l) || (decide (dType d = 3) && decide (cHalo d / 2 ^ l % 2 = 1))

/-- Tasks in flight on a core that name one of its links abort. -/
def State.abortLink (s : State) (n l code : Nat) : State :=
  (s.queuesOn n).foldl (fun x k =>
    ((x.queue k).tasks.filter fun t => !t.landed && usesLink t.desc l).foldl (fun y t => y.abortTask k t.serial code) x) s

/-- MORTAR_LINK_FAILED: a flit has failed 16 replays; the transfer's tasks at both ends abort with 0x50 and the link is
held failed (R221). -/
def State.linkFailed (s : State) (n l : Nat) : State :=
  match meshPartner n l with
  | none => s
  | some m =>
    let s1 := s.modCore n fun c => { c with linkFail := if c.linkFail.contains l then c.linkFail else l :: c.linkFail }
    (s1.abortLink n l 0x50).abortLink m (meshBack l) 0x50

end Sys2Proof.Machine
end

