-- ==== Sys2Proof/Machine/Reset.lean ====
section
/-! DEFINITION. Boot records (R488) and the tenant reset with its triggers (R134, R286, R288, R333, R334, R412, R436, R441,
R455, R496 to R498). -/
namespace Sys2Proof.Machine

/-! Boot records. -/

/-- Sector 1 holds the current record: it is valid and of the higher SEQ (R488). -/
def Flash.inSecond (f : Flash) : Bool :=
  match f.rec0, f.rec1 with
  | some a, some b => decide (a.seq < b.seq)
  | none, some _ => true
  | _, none => false

/-- The current record (R488). -/
def Flash.current (f : Flash) : BootRec := ((if f.inSecond then f.rec1 else f.rec0)).getD BootRec.blank

/-- The next record goes into the sector that is not current, with SEQ + 1. -/
def Flash.putBoot (f : Flash) (r : BootRec) : Flash :=
  let n := some { r with seq := (f.current.seq + 1) % 2 ^ 32 }
  if f.inSecond then { f with rec0 := n } else { f with rec1 := n }

/-- Write a record made from the current one. -/
def State.writeBoot (s : State) (f : BootRec → BootRec) : State :=
  { s with flash := s.flash.putBoot (f s.flash.current) }

/-! Registers of a tenant. -/

/-- TEN_NUMCFG and TH_CFG of a tenant record (Tables 2-9 and 11-8). -/
def TenantRec.numcfg (r : TenantRec) : W32 := BitVec.ofNat 32 (b2n r.mode + 2 * b2n r.taskOvr)
def TenantRec.thcfg (r : TenantRec) : W32 := BitVec.ofNat 32 (b2n r.coldFault * 2 ^ 31 + r.thSize)

/-- Write a register from the applied image: both copies, and the parity holds again (R478). -/
def State.fromImage (s : State) (r : Reg) (i : Nat) (v : W32) : State := (s.repair (rkey r i)).setBoth r i v

/-- Logical cores of a tenant. -/
def State.coresOf (s : State) (t : Nat) : List Nat := (List.range 16).filter fun n => decide (s.cfg.coreTenant n = some t)

/-- Registers of a tenant's blocks that its image gives (R484 stage 8, R497 step 5). -/
def State.applyTenant (s : State) (t : Nat) : State :=
  let r := s.cfg.tenant t
  let s1 := (s.fromImage .tenNumcfg t r.numcfg).fromImage .thCfg t r.thcfg
  (s1.coresOf t).foldl (fun x n => x.fromImage .coreMemsplit n (BitVec.ofNat 32 ((x.cfg.splits[n]?).getD 0))) s1

/-- Counters and fault records of a tenant's blocks become 0 (R497 step 5); so does its run identity (R391). -/
def State.clearTenant (s : State) (t : Nat) : State :=
  let s1 := s.resetRegs [.thColdcnt, .thFillcnt, .thStaleupd, .thPackin, .thPackout, .tenPlanid0, .tenPlanid1, .tenRunsize,
    .klnFault0, .klnFault1, .klnFault2, .klnFault3] t 1
  let s2 := s1.resetRegs [.queSlip, .queLateevt, .klnQfill, .klnQpad, .klnQlate, .klnQdrop] (16 * t) 16
  (s2.coresOf t).foldl (fun x n => x.resetRegs [.coreNumsat, .coreNumflush, .coreNumnan, .coreNantrap0, .coreNantrap1,
    .coreNantrap2, .coreNantrap3, .coreArrissue, .coreStalledge, .coreStallopnd, .coreStallbank, .coreRestovr, .coreVecissue,
    .coreStallland, .coreMhalowait, .coreMreplay, .coreMtxbytes, .coreStallcb, .coreBrkfault0, .coreBrkfault1] n 1) s2

/-! The steps of R497. -/

/-- A tenant's epoch rises; when its low byte would pass 255, the boot counter advances first (R333). -/
def State.raiseEpoch (s : State) (t : Nat) : State :=
  let e := s.rfld .tunEpoch t 15 0
  if e % 256 = 255 then
    let s1 := s.writeBoot fun r => { r with bootCount := (r.bootCount + 1) % 2 ^ 32 }
    let n := s1.flash.current.bootCount
    ({ s1 with power := { s1.power with bootCount := n } }).setRfld .tunEpoch t 15 0 (n % 256 * 256)
  else s.setRfld .tunEpoch t 15 0 (e + 1)

/-- Tenant routes of a tenant, by key. -/
def State.routesOf (s : State) (t : Nat) : List Nat :=
  (s.tunil.routes.filter fun e => !keyFw e.1 && decide (e.2.tenant = t) && decide (e.2.st ≠ 0)).map (·.1)

/-- One route at its tenant's reset: an OPEN one sends PARTICIPANT_RESET and discards everything until it closes, but for
the COMMIT that it owes its peer (R288); an opening one closes (R334). -/
def State.resetRoute (s : State) (key : Nat) : State :=
  let r := s.route key
  if r.st = 2 then
    ((s.dropIncoming key).modRoute key fun x =>
      { x with st := 3, held := false, solo := none, retry := none, toSend := [], rxQueue := [], resetSent := true }).sendReset key
  else if r.st = 1 then s.setRoute key { r with st := 0, held := false, mailbox := none }
  else s

/-- A MOVE of the tenant at its reset: before the switch its task's abort ends it; after it the tensor is VALID at its
destination, and a MOVE to a peer whose commit is not acknowledged is held (R286, R288). -/
def State.resetMove (s : State) (m : MoveRec) : State :=
  if !m.switched then s
  else
    let rest := s.moves.filter fun x => !(decide (x.tenant = m.tenant) && decide (x.task = m.task))
    if m.acked then
      ({ s with moves := rest }).genUpdate m.tenant m.handle m.gen fun x =>
        if (x.home m.tenant m.handle).st = stMoving then x.setSt m.tenant m.handle stValid else x
    else { s with moves := rest ++ [{ m with task := 0 }] }

/-- A fill of the tenant at its reset: its tensor is VOID (R286). -/
def State.resetFills (s : State) (t : Nat) : State :=
  let mine := s.fills.filter fun f => decide (f.tenant = t)
  let s1 : State := { s with fills := s.fills.filter fun f => !decide (f.tenant = t) }
  mine.foldl (fun x f => x.setSt t f.handle stVoid) s1

/-- A queue of the tenant at its reset: its tasks abort with 0x7F, its scoreboard entries are EMPTY, it is CLOSED (R134). -/
def State.resetQueue (s : State) (k : Nat) : State :=
  let s1 := s.modQueue k fun q => { q with goHeld := false, loading := false }
  let s2 := (s1.abortAll k 0x7F).clearSb k
  (((s2.setQst k 0).setQueue k Queue.init).hwFld .queCtrl k 1 0 0)

/-- The tenant's requests at the shared units go, and a grant in progress is discarded (R39). -/
def State.resetUnits (s : State) (t : Nat) : State :=
  (List.range 11).foldl (fun x u => x.dropRequests u fun r =>
    decide (r.tenant = t) && !(decide (r.kind = 4) && keyFw r.key)) s

/-- A core of the tenant: banks EMPTY, codebook banks empty, prefetch slots and buffers released (R88, R134, R239). -/
def Core.tenantReset (c : Core) : Core :=
  { Core.init with stopped := c.stopped, linkFail := c.linkFail, cbdirWritten := c.cbdirWritten }

/-- Codec contexts of the tenant: closed, or closed when the frame in progress has finished (R436). -/
def State.resetCodec (s : State) (t : Nat) : State :=
  let hold (x : State) (b : Bool) (c : Nat) : State :=
    { x with codec := { x.codec with held := if x.codec.held.contains (b, c) then x.codec.held
                                               else x.codec.held ++ [(b, c)] } }.showRecov
  let s1 := (s.decsOf t).foldl (fun x c =>
    let y := x.resetReg .cdcDbad c
    if (y.dec c).pipe.isSome then hold { y with codec := { y.codec with dec := mset DecCtx.init y.codec.dec c { y.dec c with pics := [] } } } false c
    else y.closeDec c) s
  (s.encsOf t).foldl (fun x e =>
    let y := x.resetRegs [.cdcEreenc, .cdcEskip, .cdcEroistale] e 1
    if (y.enc e).frame.isSome then hold y true e else y.closeEnc e) s1

/-- A freeze or a stream of the caravan tenant is cut off: its generation is invalid on this module, and CKPT_DONE reports
the failure (R367). -/
def State.cutCheckpoint (s : State) (t : Nat) : State :=
  let ph := s.rfld .carCkptstat 0 31 30
  let g := s.rfld .carCkptstat 0 15 0
  if s.caravan.tenant ≠ some t ∨ ph = 0 then s
  else
    let s1 : State := { s with caravan := { s.caravan with lastGen := s.caravan.lastGen.filter fun x => decide (x.1 ≠ g) } }
    ((s1.setRfld .carCkptstat 0 31 30 0).setRfld .carCkptstat 0 29 29 1).noticeUp 0x0D [g, ph - 1, 1]

/-- A tenant reset (R497). -/
def State.tenantReset (s0 : State) (t : Nat) : State :=
  let s1 := ((s0.routesOf t).foldl State.flushCommits s0).raiseEpoch t
  let s2 := (s1.routesOf t).foldl State.resetRoute s1
  let s3 := (s2.moves.filter fun m => decide (m.tenant = t)).foldl State.resetMove s2
  let s4 := (queuesOf t).foldl State.resetQueue (s3.resetFills t)
  let s5 := (queuesOf t).foldl State.closeKq (s4.resetUnits t)
  let s6 := (s5.resetCodec t).resetBoxes (s5.cfg.tenant t).func
  let s7 := (s6.coresOf t).foldl (fun x n => x.modCore n Core.tenantReset) s6
  let s8 := ((s7.cutCheckpoint t).clearTenant t).applyTenant t
  s8.raiseTenant t 33

/-! Triggers (Table 20-10). -/

/-- A substitution of a core of the tenant is in progress (R517). -/
def State.substituting (s : State) (t : Nat) : Bool := s.mon.subst.any fun e => decide (s.cfg.coreTenant e.2.1 = some t)

/-- A tenant reset waits for the end of a substitution (R517). -/
def State.waitReset (s : State) (w : ResetWait) : State := { s with mon := { s.mon with waiting := s.mon.waiting ++ [w] } }

/-- A tenant reset is asked for, by the service of a mailbox or otherwise. -/
def State.askReset (s : State) (t : Nat) (m : Option Nat) : State :=
  if s.substituting t then s.waitReset ⟨t, m, none⟩
  else
    let s1 := s.tenantReset t
    match m with
    | some b => if (s1.svc b).active then s1.endSvc b 0x0000 else s1
    | none => s1

/-- A function is reset: its tenant, or its mailboxes alone when it serves none (R441, R455). -/
def State.resetFunction (s : State) (f : Nat) : State :=
  match s.cfg.funcTenant f with
  | some t => s.askReset t none
  | none => s.resetBoxes f

/-- FLR (R441). -/
def execFlr (f : Fin 9) (s : State) : Host.Outcome State Fault Refusal := whenUp s fun x => x.resetFunction f

/-- Clearing VF Enable resets the tenant of every VF (R441). -/
def State.clearVf (s : State) : State :=
  if s.power.vfEnable then
    (List.range 8).foldl (fun x i => x.resetFunction (i + 1)) { s with power := { s.power with vfEnable := false } }
  else s

/-- VF_ENABLE_CLEAR (R441). -/
def execVfEnableClear (s : State) : Host.Outcome State Fault Refusal := whenUp s State.clearVf

/-- The mailbox whose notice asks for a reset of tenant t, or of a number whose low bits are t. -/
def State.askedReset (s : State) (t : Nat) : Option Nat :=
  (List.range 64).find? fun m => s.asked m 0x000A && decide (df (s.svc m).body 0 2 0 = t)

/-- The TENANT_RESET service: PF0 alone may ask for it (Table 18-7). -/
def State.resetService (s : State) (m t : Nat) : State :=
  if (s.svc m).func ≠ 0 then s.endSvc m 0x0004
  else if wordAt (s.svc m).body 0 ≠ BitVec.ofNat 32 t ∨ (s.cfg.tenant? t).isNone then s.endSvc m 0x0003
  else s.askReset t (some m)

/-- TENANT_RESET (R497). -/
def execTenantReset (t : Fin 8) (s : State) : Host.Outcome State Fault Refusal :=
  whenUp s fun x => match x.askedReset t with
    | some m => x.resetService m t
    | none => x

end Sys2Proof.Machine
end

