-- ==== Sys2Proof/Machine/Services.lean ====
section
/-! DEFINITION. The host-to-device services of Table 18-7 that other files do not hold: routes (R318, R319), secure
associations (R307, R461), the image and the fuses (R490), and LOG_READ (R520, R523). -/
namespace Sys2Proof.Machine

/-! Routes. -/

/-- Fields of a route-image entry (Table 13-4). -/
def rtRoute (e : List W32) : Nat := df e 0 12 0
def rtPeerRoute (e : List W32) : Nat := df e 0 28 16
def rtNode (e : List W32) : Nat := df e 1 15 0
def rtTenant (e : List W32) : Nat := df e 1 18 16
def rtClass (e : List W32) : Nat := df e 1 21 20
def rtHops (e : List W32) : Nat := df e 1 23 22
def rtPorts (e : List W32) : Nat := (wordAt e 2).toNat

/-- The reserved bits of an entry are 0, its class exists. -/
def routeFormOk (e : List W32) : Bool :=
  masksOk e [0x1FFF1FFF#32, 0x00F7FFFF#32, 0xFFFFFFFF#32, 0] && decide (rtClass e ≤ 2) && decide (rtPorts e ≠ 0)

/-- The ports of an entry all have one role, bond or switch; bond ports are cabled to the peer's slot (R300), and HOPS 0
goes with bond ports alone. A bond port reaches modules of its own bond only. -/
def State.routePortsOk (s : State) (e : List W32) : Bool :=
  let ps := portsOf (rtPorts e)
  let bond := ps.all fun p => decide (s.portRole p = 1)
  let switch := ps.all fun p => decide (s.portRole p = 2)
  let slotOk := match s.mapOf (rtNode e) with
    | some x => decide (x.bond = s.carBond) && ps.all fun p => decide ((cabled s.ownSlot p).1 = x.slot)
    | none => false
  (bond && slotOk) || (switch && decide (rtHops e ≠ 0))

/-- The mailbox code of a refused entry, 0 for none. -/
def State.routeRefusal (s : State) (t : Nat) (e : List W32) : Nat :=
  let r := s.route (rtRoute e)
  if !routeFormOk e || !s.routePortsOk e then 0x0003
  else if rtClass e = 0 ∧ !(s.cfg.tenant t).cl0 then 0x0004
  else if r.st ≠ 0 ∧ r.tenant ≠ t then 0x0004
  else if r.st = 1 ∨ r.st = 2 ∨ r.resetSent then 0x0002
  else 0

/-- Begin the handshake of a route for mailbox m: OPEN leaves (R319). -/
def State.startRoute (s : State) (m t : Nat) (e : List W32) : State :=
  let old := s.route (rtRoute e)
  let r : Route :=
    { Route.init with st := 1, cls := rtClass e, tenant := t, peerRoute := rtPeerRoute e, peerNode := rtNode e,
                      peerTenant := rtTenant e, hops := rtHops e, ports := rtPorts e, mailbox := some m, kiln := old.kiln }
  (s.setRoute (rtRoute e) r).sendOpen (rtRoute e)

/-- The entries of a body: groups of four words. -/
def entriesOf : List W32 → List (List W32)
  | a :: b :: c :: d :: t => [a, b, c, d] :: entriesOf t
  | _ => []

/-- ROUTE_OPEN: every entry is checked, then each route's handshake begins; the service ends when all are OPEN. -/
def State.routeOpen (s : State) (m t : Nat) (b : List W32) : State :=
  let es := entriesOf b
  if b.length % 4 ≠ 0 ∨ es.length = 0 ∨ 255 < es.length then s.endSvc m 0x0003
  else match (es.map (s.routeRefusal t)).find? fun c => decide (c ≠ 0) with
    | some c => s.endSvc m c
    | none => es.foldl (fun x e => x.startRoute m t e) (s.beginSvc m)

/-- ROUTE_OPEN. -/
def execRouteOpen (m : Fin 64) (s : State) : Host.Outcome State Fault Refusal :=
  whenUp s fun x => x.serve m 0x0003 fun t b => x.routeOpen m t b

/-- A route closes at its tenant's request: its tasks in flight abort with 0x61, as on a route that is closed. -/
def State.shutRoute (s : State) (key : Nat) : State :=
  if (s.route key).st = 0 then s else (s.timeOut key).modRoute key fun r => { r with st := 0, mailbox := none }

/-- ROUTE_CLOSE: route numbers, one per word. -/
def State.routeClose (s : State) (m t : Nat) (b : List W32) : State :=
  if b.length = 0 ∨ 255 < b.length ∨ (b.any fun w => decide (8192 ≤ w.toNat)) then s.endSvc m 0x0003
  else if b.any fun w => decide ((s.route w.toNat).st ≠ 0) && decide ((s.route w.toNat).tenant ≠ t) then s.endSvc m 0x0004
  else (b.foldl (fun x w => x.shutRoute w.toNat) s).endSvc m 0x0000

/-- ROUTE_CLOSE. -/
def execRouteClose (m : Fin 64) (s : State) : Host.Outcome State Fault Refusal :=
  whenUp s fun x => x.serve m 0x0004 fun t b => x.routeClose m t b

/-! Secure services: PF0 alone reaches the mailboxes of the security processor (R460). -/

/-- A service of the security processor. -/
def State.secure (s : State) (m code : Nat) (f : List W32 → State) : State :=
  if s.asked m code then f (s.svc m).body else s

/-- Port, direction (1 transmit) and AN of a body. -/
def saOf (b : List W32) : Nat × Nat × Nat := ((wordAt b 0).toNat, (wordAt b 1).toNat, (wordAt b 2).toNat)
def saOk (b : List W32) : Bool := decide ((saOf b).1 < 32) && decide ((saOf b).2.1 < 2) && decide ((saOf b).2.2 < 4)

/-- The association is the one that its port transmits with. -/
def State.saInUse (s : State) (a : Nat × Nat × Nat) : Bool :=
  decide (a.2.1 = 1) && decide (s.txAn a.1 = some a.2.2)

/-- SAK_INSTALL: the key unwraps or not; packet numbers of a new association begin at 1 (R307, R461). The association keeps
its SSCI, its salt and the key material. -/
def State.sakInstall (s : State) (m : Nat) (unwraps : Bool) (b : List W32) : State :=
  let a := saOf b
  if b.length ≠ 17 || !saOk b then s.endSvc m 0x0003
  else if !unwraps then s.endSvc m 0x0103
  else if s.saInUse a then s.endSvc m 0x0002
  else
    (s.putSa a (b.drop 3)).endSvc m 0x0000

/-- SAK_INSTALL. -/
def execSakInstall (m : Fin 64) (unwraps : Bool) (s : State) : Host.Outcome State Fault Refusal :=
  whenUp s fun x => x.secure m 0x0081 fun b => x.sakInstall m unwraps b

/-- SAK_RETIRE. -/
def State.sakRetire (s : State) (m : Nat) (b : List W32) : State :=
  let a := saOf b
  if b.length ≠ 3 || !saOk b then s.endSvc m 0x0003
  else if s.saInUse a then s.endSvc m 0x0002
  else
    (s.dropSa a).endSvc m 0x0000

/-- SAK_RETIRE. -/
def execSakRetire (m : Fin 64) (s : State) : Host.Outcome State Fault Refusal :=
  whenUp s fun x => x.secure m 0x0082 fun b => x.sakRetire m b

/-- IMAGE_STAGE: the image goes into the copy not in use; only when it passes the checks of R492 does a boot record
prefer it, on trial (R490). -/
def State.imageStage (s : State) (m : Nat) (img : Image) : State :=
  let toB := !s.power.copyB
  let s1 : State := { s with flash := if toB then { s.flash with copyB := some img } else { s.flash with copyA := some img } }
  if (imageReason s.flash.fuses true false (some img)).1 ≠ 0 then s1.endSvc m 0x0003
  else (s1.writeBoot fun r => { r with pref := toB, trial := true, tries := 0 }).endSvc m 0x0000

/-- IMAGE_STAGE (R490): `img` is the parsed body. -/
def execImageStage (m : Fin 64) (img : Image) (s : State) : Host.Outcome State Fault Refusal :=
  whenServed s fun x => x.secure m 0x0083 fun _ => x.imageStage m img

/-- FUSE_READ: serial number, stepping and anti-rollback counter, in a buffer of 256 bytes. -/
def State.fuseRead (s : State) (m : Nat) (b : List W32) : State :=
  let bytes := leBytes 8 s.flash.fuses.serial ++ leBytes 4 (s.rfld .hubId 0 15 8) ++ leBytes 4 s.flash.fuses.rollback ++
    List.replicate 240 0
  if b.length ≠ 2 then s.endSvc m 0x0003 else (s.writeHost 0 (addr64 b 0) bytes).endSvc m 0x0000

/-- FUSE_READ. -/
def execFuseRead (m : Fin 64) (s : State) : Host.Outcome State Fault Refusal :=
  whenServed s fun x => x.secure m 0x0084 fun b => x.fuseRead m b

/-! LOG_READ. -/

/-- DATA of a record: the voltage of an input warn (R532), else the firmware's layout. -/
def LogRec.data (r : LogRec) : List Byte :=
  match r.kind, r.what with
  | 2, [65536, mv] => leBytes 4 mv
  | k, w => Config.logData k w
def LogRec.len (r : LogRec) : Nat :=
  match r.kind, r.what with
  | 2, [65536, _] => 4
  | k, w => Config.logLen k w % 37

/-- The 64 bytes of a record (Table 21-7). -/
def LogRec.bytes (r : LogRec) : List Byte :=
  let body := leBytes 4 0x4C505655 ++ leBytes 4 (r.kind + 256 * r.len) ++ leBytes 4 r.seq ++ leBytes 4 r.bootCount ++
    leBytes 8 r.time ++ ((r.data.take r.len) ++ List.replicate 36 0).take 36
  body ++ leBytes 4 (crc32c body).toNat

/-- The records of an area that LOG_READ returns, in SEQ order. -/
def State.logFrom (s : State) (area first count : Nat) : List LogRec :=
  let l := (if area = 0 then s.flash.ring else s.flash.repair).reverse
  (l.filter fun r => decide (first = 0) || decide (first ≤ r.seq)).take count

/-- LOG_READ (R523): AREA, FIRST, COUNT and a buffer address; PF0 alone. -/
def State.logRead (s : State) (m : Nat) (b : List W32) : State :=
  let n := (wordAt b 2).toNat
  if (s.svc m).func ≠ 0 then s.endSvc m 0x0004
  else if b.length ≠ 5 ∨ 1 < (wordAt b 0).toNat ∨ n = 0 ∨ 4096 < n then s.endSvc m 0x0003
  else
    let l := s.logFrom (wordAt b 0).toNat (wordAt b 1).toNat n
    (s.writeHost 0 (addr64 b 3) (leBytes 4 l.length ++ leBytes 4 0 ++ l.flatMap LogRec.bytes)).endSvc m 0x0000

/-- LOG_READ. -/
def execLogRead (m : Fin 64) (s : State) : Host.Outcome State Fault Refusal :=
  whenUp s fun x => x.secure m 0x000B fun b => x.logRead m b

end Sys2Proof.Machine
end

