-- ==== Sys2Proof/Machine/Master.lean ====
section
/-! DEFINITION. The caravan map as it changes (R342 to R344, R347, R369, R370) and what the acting master decides: the first
map (R354), boundaries (R355, R365, R367), halts and rollbacks (R360 to R362), substitution (R369), and what it hands to its
standby first (R368, R372). -/
namespace Sys2Proof.Machine

def State.modMaster (s : State) (f : Master → Master) : State :=
  { s with caravan := { s.caravan with master := f s.caravan.master } }

/-- This module acts as master. -/
def State.isMaster (s : State) : Bool := decide (s.carRole = 1)

/-- Relay a notice as it came (R350). -/
def State.relay (s : State) (h : NoteHdr) (code node : Nat) (body : List Nat) : State := s.noticeWith h code node body

/-- A head or deputy passes a notice on to the master. -/
def State.passUp (s : State) (h : NoteHdr) (code : Nat) (body : List Nat) : State :=
  if bit (s.reg .carStatus 0) 26 || bit (s.reg .carStatus 0) 25 then s.relay h code s.masterId body else s

/-- A head or deputy passes a notice of the master on to its members. -/
def State.passDown (s : State) (h : NoteHdr) (code : Nat) (body : List Nat) : State :=
  s.memberNodes.foldl (fun x n => x.relay h code n body) s

/-- Body of HEARTBEAT: beat, restore point, term. -/
def State.heartbeatBody (s : State) (restore : Option (Nat × Nat)) : List Nat :=
  stepWords s.beat ++ (match restore with
    | some (g, t) => [1, g] ++ stepWords t
    | none => [0, 0, 0, 0]) ++ [s.carTerm]

/-- A module hears a higher term: an acting master of a lower term is deposed and is OUT (R373). -/
def State.hearTerm (s : State) (h : NoteHdr) : State :=
  if s.carTerm < h.term then
    let s1 := s.setReg .carTerm 0 (BitVec.ofNat 32 h.term)
    if s.isMaster && decide (h.sender ≠ s.carNode) then (s1.setRfld .carStatus 0 28 27 0).setCarState 5 else s1
  else s

/-- A notice of a master or standby: below the highest term seen it is answered with HEARTBEAT and discarded (R349). -/
def State.fromAbove (s : State) (h : NoteHdr) (f : State → State) : State :=
  if h.term < s.carTerm then s.notice 0x0E h.sender (s.heartbeatBody s.caravan.restore) else f (s.hearTerm h)

/-- A notice of the master, which has thus been heard. -/
def State.fromMaster (s : State) (h : NoteHdr) (f : State → State) : State :=
  s.fromAbove h fun x => f { x with caravan := { x.caravan with masterNode := some h.sender, masterHeard := x.beat } }

/-! The map. -/

/-- Put an entry into a map in the order of node IDs. -/
def mapInsert (e : MapEntry) : List MapEntry → List MapEntry
  | [] => [e]
  | x :: t => if e.node < x.node then e :: x :: t else x :: mapInsert e t

/-- Entries replace those of the same node or the same module. -/
def mergeMap (old new : List MapEntry) : List MapEntry :=
  new.foldl (fun m e => mapInsert e (m.filter fun x => decide (x.node ≠ e.node) && decide (x.serial ≠ e.serial))) old

/-- Heads and deputies: the lowest and the next slot of a bond that hold a logical ID (R347). -/
def rehead (map : List MapEntry) : List MapEntry :=
  map.map fun e =>
    let lower := (map.filter fun x => decide (x.bond = e.bond) && x.isStage && decide (x.slot < e.slot)).length
    let mine := e.isStage && decide (e.bond ≠ 0xFFFF)
    { e with flags := e.flags % 4 + 4 * b2n (mine && decide (lower = 0)) + 8 * b2n (mine && decide (lower = 1)) +
        e.flags / 16 % 4 * 16 }

/-- The live candidate of lowest RANK, other than this module and a module to avoid (R347). -/
def State.candidate (s : State) (map : List MapEntry) (avoid : Option Nat) : Option MapEntry :=
  match s.cfg.caravan with
  | none => none
  | some c => (c.cands.filterMap fun a =>
      if a = 0 then none
      else map.find? fun e => decide (e.addr = a) && e.isOurs && !e.isFailed && decide (e.serial ≠ s.flash.fuses.serial) &&
        decide (some e.node ≠ avoid)).head?

/-- MASTER on this module's entry, STANDBY on the candidate's, heads and deputies. -/
def State.appoint (s : State) (map : List MapEntry) (avoid : Option Nat) : List MapEntry :=
  let sb := (s.candidate map avoid).map (·.serial)
  rehead (map.map fun e =>
    { e with flags := b2n (decide (e.serial = s.flash.fuses.serial)) + 2 * b2n (decide (some e.serial = sb)) + e.flags / 4 * 4 })

/-- Live standby of a map. -/
def standbyOf (map : List MapEntry) : Option Nat :=
  (map.find? fun e => e.isStandby && !e.isFailed).map (·.node)

/-- Logical nodes of a map. -/
def stageNodes (map : List MapEntry) : List Nat := (map.filter MapEntry.isStage).map (·.node)

/-- CAR_STATUS shows this module's entry. -/
def State.showEntry (s : State) (e : MapEntry) : State :=
  let role : Nat := if e.isMaster then 1 else if e.isStandby then 2 else 0
  let s1 := ((((s.setRfld .carStatus 0 15 0 e.node).setRfld .carStatus 0 28 27 role).setRfld .carStatus 0 26 26
    (b2n e.isHead)).setRfld .carStatus 0 25 25 (b2n e.isDeputy))
  if e.isFailed then s1.setCarState 5
  else if !e.isStage && decide (s1.carState = 0) then s1.setCarState 1
  else s1

/-- A tenant route to a node whose entry changed: its messages in progress end with 0x60, and it opens again (R320,
R344). -/
def State.rejoin (s : State) (key : Nat) : State :=
  let s1 := ((s.abortRoute key 0x60 fun _ => true).endHeld key fun _ => false).dropIncoming key
  (s1.reopen key).dropDead

/-- A map generation comes into force (R344). -/
def State.applyMap (s : State) (map : List MapEntry) (gen : Nat) : State :=
  let old := s.caravan.map
  let changed (n : Nat) : Bool := decide ((old.find? fun e => decide (e.node = n)) ≠ (map.find? fun e => decide (e.node = n)))
  let s1 := ({ s with caravan := { s.caravan with map := map } }).setReg .carMapgen 0 (BitVec.ofNat 32 gen)
  let open1 (e : MapEntry) (x : State) (m : MapEntry) : State := x.openFirmware e m (changed m.node || changed e.node)
  let s2 : State := match s1.mapSelf with
    | some e => (s1.firmwarePeers e).foldl (open1 e) (s1.showEntry e)
    | none => s1
  let moved (r : Nat × Route) : Bool :=
    !keyFw r.1 && (decide (r.2.st = 1) || decide (r.2.st = 2)) && changed r.2.peerNode
  (s2.tunil.routes.filter moved).foldl (fun x r => x.rejoin r.1) s2

/-! The first map (R353, R354). -/

/-- The entry of a joined module. -/
def Joined.entry (x : Joined) (node bond slot flags : Nat) : MapEntry :=
  { node := node, bond := bond, slot := slot, flags := flags, addr := x.addr, serial := x.serial }

/-- Entries of bond number k of the record, and its places that nobody can take: a stage whose module did not join goes to
the spare in slot 8. -/
def bondEntries (joined : List Joined) (k bond : Nat) : List MapEntry × List (Nat × Nat) :=
  let place (i : Nat) : Option Joined := joined.find? fun x => decide (x.bond = bond) && decide (x.slot = i)
  let gone := (List.range 8).filter fun i => (place i).isNone
  let here := (List.range 8).filterMap fun i => (place i).map fun x => x.entry (8 * k + i) bond i 0
  match place 8, gone with
  | some x, [] => (here ++ [x.entry (0x8000 + k) bond 8 16], [])
  | some x, i :: more => (here ++ [x.entry (8 * k + i) bond 8 0], more.map fun j => (bond, j))
  | none, l => (here, l.map fun j => (bond, j))

/-- The map that a record makes of the joined modules, and the missing places. -/
def firstMap (p : CarPlan) (joined : List Joined) : List MapEntry × List (Nat × Nat) :=
  let bonds := p.bonds.zipIdx.map fun x => bondEntries joined x.2 x.1
  let outs := p.serials.zipIdx.map fun x =>
    match joined.find? fun j => decide (j.serial = x.1) && decide (j.bond = 0xFFFF) with
    | some j => ([j.entry (8 * p.bonds.length + x.2) 0xFFFF 0xF 0], [])
    | none => ([], [(0xFFFF, 0xF)])
  let all := bonds ++ outs
  (mergeMap [] (all.flatMap (·.1)), all.flatMap (·.2))

/-- A JOIN has come from every place that the record names, spares included. -/
def allJoined (p : CarPlan) (joined : List Joined) : Bool :=
  (p.bonds.all fun b => (List.range 9).all fun i => joined.any fun x => decide (x.bond = b) && decide (x.slot = i)) &&
    p.serials.all fun n => joined.any fun x => decide (x.serial = n)

/-! Distribution of a map and a plan. -/

/-- Words of a map entry. -/
def MapEntry.words (e : MapEntry) : List Nat := [e.node, e.bond, e.slot, e.flags, e.addr, e.serial]

/-- MAP_UPDATE to nodes: up to seven entries in each, the last marked (Table 14-3). -/
def State.sendMap (s : State) (h : NoteHdr) (nodes : List Nat) (entries : List MapEntry) : State :=
  let n := Nat.max 1 (cdiv entries.length 7)
  nodes.foldl (fun x node => (List.range n).foldl (fun y i =>
    y.relay h 0x0C node (b2n (decide (i + 1 = n)) :: ((entries.drop (7 * i)).take 7).flatMap MapEntry.words)) x) s

/-- MAP_UPDATE of a generation by this module. -/
def State.announce (s : State) (nodes : List Nat) (gen : Nat) (entries : List MapEntry) : State :=
  s.sendMap { s.noteHdr with mapGen := gen } nodes entries

/-- Modules of a map that held no map before it: they need every entry (R343). -/
def State.freshNodes (s : State) (map : List MapEntry) : List Nat :=
  (map.filter fun e => e.isOurs && !e.isFailed && decide (e.serial ≠ s.flash.fuses.serial) &&
    !(s.caravan.map.any fun x => decide (x.serial = e.serial))).map (·.node)

/-- The master brings a new map into force and sends its changed entries to every module, the whole map to a module that
joins a running caravan (R343; log 134), and the plan to a new standby (R372, R373). -/
def State.newMap (s : State) (map : List MapEntry) : State :=
  let gen := ((s.reg .carMapgen 0).toNat + 1) % 2 ^ 32
  let delta := map.filter fun e => !s.caravan.map.contains e
  let s1 := (s.modMaster fun m => { m with mapAcks := [] }).applyMap map gen
  let s2 := if s.caravan.map.isEmpty then s1 else s1.announce (s.freshNodes map) gen map
  let s3 := s2.announce s2.downNodes gen delta
  match standbyOf map with
  | some n => if standbyOf s.caravan.map = some n then s3 else s3.sendPlan n
  | none => s3

/-- Send the parts of a plan to the nodes that need them: each stage's to its module, those of a bond's eight slots to its
spare (R353). -/
def State.sendParts (s : State) (nodes : List Nat) : State :=
  let own := s.carNode
  s.caravan.map.foldl (fun x e =>
    let mine : List Nat := if e.isStage then [e.node]
      else if e.isSpare then
        (match s.caravan.plan with
          | some p => (match p.bonds.findIdx? fun b => decide (b = e.bond) with
            | some k => (List.range 8).map (8 * k + ·)
            | none => [])
          | none => [])
      else []
    if !nodes.contains e.node || decide (e.node = own) then x
    else mine.foldl (fun y i => y.sendPart e.node 0 i) x) s

/-! Boundaries (R355, R365, R367). -/

/-- The freeze of generation g may be ordered: g − 1 is the restore point, and no snapshot keeps its slot (R367, R375). -/
def State.freezeOk (s : State) (g : Nat) : Bool :=
  (decide (g = 0) || (match s.caravan.restore with | some (r, _) => decide (r + 1 = g) | none => false)) &&
    (match s.caravan.snapshot with | some (k, _, _) => decide (k % 2 ≠ g % 2) | none => true)

/-- The STEP_GO of step t: its beat, and whether it freezes; a freeze that may not be ordered moves to the next boundary. -/
def State.nextGo (s : State) (t : Nat) : State × StepGo :=
  let m := s.caravan.master
  let (every, lead) : Nat × Nat := match s.caravan.plan with | some p => (p.ckptEvery, p.lead) | none => (0, 16)
  let due := decide (every ≠ 0) && (decide (t % every = 0) || m.freezeDue || decide (m.freezeAt = some t))
  let ok := due && s.freezeOk m.nextGen
  let s1 := s.modMaster fun x =>
    { x with stagesDone := [], bondsDone := [], reports := [], probed := [], lateLog := []
             freezeDue := due && !ok, freezeAt := if x.freezeAt = some t then none else x.freezeAt
             nextGen := if ok then m.nextGen + 1 else m.nextGen, genStep := if ok then t else m.genStep
             homeDone := if ok then [] else m.homeDone, buddyDone := if ok then [] else m.buddyDone }
  let s2 := if due && !ok then
      s1.setRfld .carCkptstat 0 28 16 (Nat.min 8191 (s1.rfld .carCkptstat 0 28 16 + 1))
    else s1
  (s2, { step := t, beat := (s.beat + lead) % 2 ^ 48, freeze := ok, gen := m.nextGen })

/-- STEP_GO to every module. -/
def State.sendGo (s : State) (g : StepGo) : State :=
  s.noticeDown 0x04 (stepWords g.step ++ stepWords g.beat ++ [b2n g.freeze, g.gen])

/-- Bring a step about. -/
def State.goStep (s : State) (t : Nat) : State := let r := s.nextGo t; r.1.sendGo r.2

/-! Halts and rollbacks (R360 to R362, R368). -/

/-- Fault codes of the first row of Table 14-6. -/
def haltCode (c : Nat) : Bool :=
  (decide (0x10 ≤ c) && decide (c ≤ 0x13)) || (decide (0x20 ≤ c) && decide (c ≤ 0x23)) || decide (c = 0x30) ||
    decide (c = 0x31) || decide (c = 0x40)

/-- CARAVAN_HALT to every module. -/
def State.haltCaravan (s : State) (reason : Nat) : State :=
  (s.modMaster fun m => { m with reports := [], failed := [], probed := [], collecting := false, collectOver := false
                                 rollback := none, pendMap := none, pendGo := false }).noticeDown 0x12
    (reason :: stepWords s.carStep)

/-- The proposed map and rollback take effect: MAP_UPDATE, ROLLBACK, and ALIVE is awaited (R361). -/
def State.launch (s : State) : State :=
  let m := s.caravan.master
  let s1 : State := match m.pendMap with
    | some map => (s.newMap map).sendParts ((map.filter fun e => e.isSpare && !s.caravan.map.contains e).map (·.node))
    | none => s
  let s2 := s1.modMaster fun x => { x with pendMap := none, pendGo := false }
  match (if m.pendGo then m.rollback else none) with
  | none => s2
  | some r =>
    let keep := match s2.caravan.restore with | some (g, _) => g + 1 | none => 0
    (s2.modMaster fun x => { x with awaiting := stageNodes s2.caravan.map, nextGen := keep, homeDone := [], buddyDone := [] }
      ).noticeDown 0x0B (stepWords r.restart ++ [b2n r.checkpoint, r.gen])

/-- The map that a pending change will leave. -/
def State.baseMap (s : State) : List MapEntry := s.caravan.master.pendMap.getD s.caravan.map

/-- The master decides on a new map, a rollback or both: the standby hears of it first; without one it takes effect at
once (R368). -/
def State.propose (s : State) (map : Option (List MapEntry)) (rb : Option Rollback) : State :=
  let s1 := s.modMaster fun m =>
    match rb with
    | none => { m with pendMap := map }
    | some _ =>
      { m with pendMap := map, pendGo := true, rollback := rb, reports := [], failed := [], probed := [], collecting := false
               collectOver := false, stagesDone := [], bondsDone := [], freezeDue := false, pendRestore := none }
  match standbyOf (map.getD s.caravan.map) with
  | none => s1.launch
  | some n =>
    let s2 := match map with
      | some x => s1.announce [n] (((s.reg .carMapgen 0).toNat + 1) % 2 ^ 32) (x.filter fun e => !s.caravan.map.contains e)
      | none => s1
    match rb with
    | some r => s2.notice 0x0B n (stepWords r.restart ++ [b2n r.checkpoint, r.gen])
    | none => s2

/-- A failure of the current step: its fourth ends the run; the first may be a step rollback; otherwise the restore point is
the restart (R361, R362). -/
def State.failStep (s : State) (ck : Bool) (map : Option (List MapEntry)) (code : Nat) : State :=
  let t := s.carStep
  let n := mget 0 s.caravan.master.fails t + 1
  let s1 := s.modMaster fun m => { m with fails := mset 0 m.fails t n }
  let replay := match s.caravan.plan with | some p => p.stepReplay | none => false
  if 4 ≤ n then s1.haltCaravan code
  else if !ck && replay && decide (n = 1) then
    s1.propose map (some ⟨t, false, match s.caravan.restore with | some (g, _) => g | none => 0⟩)
  else match s.caravan.restore with
    | some (g, r) => s1.propose map (some ⟨r, true, g⟩)
    | none => s1.haltCaravan code

/-- The map after a module's loss: the spare of its bond takes its logical ID, the failed module the freed place ID (R369);
none when there is no spare. -/
def withoutNode (map : List MapEntry) (node : Nat) : Option (List MapEntry) :=
  match map.find? fun e => decide (e.node = node) with
  | none => some map
  | some e =>
    if !e.isStage then some (map.map fun x => if x.node = node then { x with flags := 32 } else x)
    else match map.find? fun x => decide (x.bond = e.bond) && decide (e.bond ≠ 0xFFFF) && x.isSpare && !x.isFailed with
      | none => none
      | some sp => some (mergeMap [] (map.map fun x =>
          if x.node = node then { x with node := sp.node, flags := 32 }
          else if x.node = sp.node then { x with node := node, flags := x.flags % 4 }
          else x))

/-- The map without several modules. -/
def withoutNodes (map : List MapEntry) : List Nat → Option (List MapEntry)
  | [] => some map
  | n :: t => match withoutNode map n with
    | some m => withoutNodes m t
    | none => none

/-- Substitution of failed modules with checkpoint rollback; the boundary after the last replayed step freezes (R367, R369).
Without a spare the run ends. -/
def State.substitute (s : State) (nodes : List Nat) (code : Nat) : State :=
  match withoutNodes s.baseMap nodes with
  | none => s.haltCaravan code
  | some map =>
    let new := s.appoint map none
    if nodes.any fun n => decide (n < 0x4000) then
      (s.modMaster fun m => { m with freezeAt := some s.carStep }).failStep true (some new) code
    else s.propose (some new) none

/-- The most severe action that the reports and declarations of the step call for (Table 14-6). -/
def State.act (s : State) : State :=
  let m := s.caravan.master
  let codes := m.reports.map (·.1)
  match codes.find? haltCode with
  | some c => s.haltCaravan c
  | none =>
    if !m.failed.isEmpty then s.substitute m.failed (codes.headD 0x61)
    else s.failStep (codes.any fun c => decide (c = 0x50) || decide (c = 0x51)) none (codes.headD 0x61)

/-- Once the collection window is over and no probe is awaited, the master acts. -/
def State.settle (s : State) : State :=
  let m := s.caravan.master
  if m.probed.isEmpty && (m.collectOver || (!m.collecting && !m.failed.isEmpty)) then s.act else s

/-- Where a PROBE of a module goes: to a head, a deputy or a module outside any bond itself, to another through its head,
or through its deputy while the head has not answered a PROBE of its own (R358). -/
def State.probeVia (s : State) (node : Nat) : Nat :=
  match s.mapOf node with
  | none => node
  | some e =>
    if e.isHead || e.isDeputy || decide (e.bond = 0xFFFF) then node
    else
      let m := s.caravan.master
      let silent (n : Nat) : Bool := m.probed.contains n || m.failed.contains n
      match s.headOf e.bond, s.deputyOf e.bond with
      | some h, some d => if silent h then d else h
      | some h, none => if silent h then node else h
      | none, some d => d
      | none, none => node

/-- Probe modules: PROBE goes towards each (R358). -/
def State.probeNodes (s : State) (nodes : List Nat) : State :=
  (s.modMaster fun m => { m with probed := m.probed ++ nodes.filter fun n => !m.probed.contains n }).notices 0x09
    ((nodes.map s.probeVia).eraseDups) []

/-- A bond port of a member, or the port it is cabled to, is reported MISCABLED or FAILED (R350). -/
def State.linkDown (s : State) (e m : MapEntry) (p : Nat) : Bool :=
  s.caravan.master.downPorts.contains (e.serial, p) || s.caravan.master.downPorts.contains (m.serial, (cabled e.slot p).2)

/-- Members in the higher slot of a pair whose both ports are down. -/
def State.brokenPairs (s : State) : List Nat :=
  (s.caravan.map.filter fun e => decide (e.bond ≠ 0xFFFF) && !e.isFailed && (List.range 8).any fun i =>
    match (s.bondOf e.bond).find? fun m => decide (m.slot = (cabled e.slot (2 * i)).1) && !m.isFailed with
    | some m => decide (m.slot < e.slot) && s.linkDown e m (2 * i) && s.linkDown e m (2 * i + 1)
    | none => false).map (·.node)

/-- The boundary of the step, once every bond and every module outside a bond is done (R355); a pair whose ports are both
down is substituted first (R350). The loss of a module without a logical ID replays no step: STEP_GO follows, once the new map
is in force. -/
def State.tryBoundary (s : State) : State :=
  let m := s.caravan.master
  let stages := s.caravan.map.filter MapEntry.isStage
  let done := stages.all fun e => if e.bond = 0xFFFF then m.stagesDone.contains e.node else m.bondsDone.contains e.bond
  if s.isMaster && done && !stages.isEmpty && !m.collecting && m.rollback.isNone && m.pendMap.isNone then
    match s.brokenPairs with
    | [] => s.goStep ((s.carStep + 1) % 2 ^ 48)
    | l =>
      let s1 := s.substitute l 0x61
      if l.all (fun n => decide (0x4000 ≤ n)) && s1.caravan.master.pendMap.isNone then s1.goStep ((s.carStep + 1) % 2 ^ 48)
      else s1
  else s

/-! Restore points (R366 to R369). -/

/-- The master records a restore point. With SWAP, modules that asked for replacement are substituted when no step would be
replayed (R369). -/
def State.recordRestore (s : State) (g t : Nat) : State :=
  let s1 : State := (s.modMaster fun m => { m with pendRestore := none })
  let s2 : State := { s1 with caravan := { s1.caravan with restore := some (g, t) } }
  let swap := match s.caravan.plan with | some p => p.swap | none => false
  let asked := s2.caravan.master.replaceAsked.filter fun n => decide (n < 0x4000) && (withoutNode s2.caravan.map n).isSome
  if swap && decide (s2.carStep = t) && !asked.isEmpty && s2.caravan.master.rollback.isNone then
    match withoutNodes s2.caravan.map asked with
    | some map => (s2.modMaster fun m =>
        { m with freezeAt := some ((t + 1) % 2 ^ 48), replaceAsked := m.replaceAsked.filter fun n => !asked.contains n }).propose
          (some (s2.appoint map none)) (some ⟨t, true, g⟩)
    | none => s2
  else s2

/-- A generation is complete: every stage has its home copy, and every buddy its copy; the standby hears of it first. -/
def State.tryRestore (s : State) : State :=
  let m := s.caravan.master
  let stages := s.caravan.map.filter MapEntry.isStage
  let g := m.nextGen - 1
  let whole := stages.all fun e => m.homeDone.contains e.node && (m.buddyDone.contains e.node || (s.buddyOf e).isNone)
  let known := match s.caravan.restore with | some (r, _) => decide (r = g) | none => false
  if decide (1 ≤ m.nextGen) && whole && !stages.isEmpty && !known && m.pendRestore.isNone then
    match standbyOf s.caravan.map with
    | none => s.recordRestore g m.genStep
    | some n => (s.modMaster fun x => { x with pendRestore := some (g, m.genStep) }).notice 0x0E n
        (s.heartbeatBody (some (g, m.genStep)))
  else s

end Sys2Proof.Machine
end

