-- ==== Sys2Proof/Machine/Steps.lean ====
section
/-! DEFINITION. Every module's side of the caravan: the step boundary (R356), freezes and buddy copies (R364 to R367),
rollbacks and restores (R361, R364), and snapshots (R375). -/
namespace Sys2Proof.Machine

/-- This module holds a logical ID. -/
def State.isStageHere (s : State) : Bool := decide (s.carNode < 0x4000)

def State.modCaravan (s : State) (f : Caravan → Caravan) : State := { s with caravan := f s.caravan }

/-! The step boundary. -/

/-- Class-0 queues of the caravan tenant that the firmware restarts: open, or loading again after a rollback. -/
def State.stepQueues (s : State) : List Nat :=
  match s.caravan.tenant with
  | none => []
  | some t => (queuesOf t).filter fun k => decide ((s.queue k).cls = 0) && (s.qOpen k || (s.queue k).loading)

/-- The firmware writes RESTART_IDX 0 and GO on each class-0 queue (R356). -/
def State.goQueues (s : State) : State :=
  s.stepQueues.foldl (fun x k => (x.hwSet .queCtrl k 1).afterQueCtrl k) s

/-- The STEP fences of the module complete (R117, R356). -/
def State.endFences (s : State) : State :=
  s.stepQueues.foldl (fun x k =>
    match (x.queue k).tasks with
    | [t] => if isStepFence t.desc then x.completeTask k t.serial else x
    | _ => x) s

/-- CAR_RESTORE shows the restore point from a STEP boundary on (Table 14-8). -/
def State.showRestore (s : State) : State :=
  match s.caravan.restore with
  | some (g, t) => (s.setReg .carRestore0 0 (BitVec.ofNat 32 t)).setReg .carRestore1 0
      (BitVec.ofNat 32 (g % 65536 * 65536 + t / 2 ^ 32 % 65536))
  | none => s

/-- The boundary into a step: fences complete, CAR_STEP and QUE_SLIP, then GO; a freeze comes before GO (R356, R365). An
order to freeze tells that the generation before is the restore point (R367). -/
def State.passBoundary (s : State) (g : StepGo) : State :=
  let s1 := (s.endFences).setCarStep g.step
  let s2 := s1.stepQueues.foldl (fun x k =>
    (x.setReg .queSlip k 0).modQueue k fun q => { q with lateSent := false, ended := 0 }) s1
  let known := match s2.caravan.lastGen with
    | some (l, t) => if g.freeze && decide (l + 1 = g.gen) then some (l, t) else s2.caravan.restore
    | none => s2.caravan.restore
  let s3 := (s2.modCaravan fun c =>
    { c with stepGo := none, stageSent := false, slotsDone := [], rolled := none, restore := known }).showRestore
  let s4 := if s3.isStageHere then s3.setCarState 2 else s3
  if g.freeze && s4.isStageHere then
    (s4.setRfld .carCkptstat 0 31 30 1).setRfld .carCkptstat 0 15 0 g.gen
  else s4.goQueues

/-- A STEP_GO names this module's next step: the one after its own, a rollback's restart, or the first of a plan. -/
def State.awaits (s : State) (t : Nat) : Bool :=
  match s.caravan.rolled with
  | some r => decide (r.restart = t)
  | none => !decide (s.carState = 2) || decide (t = (s.carStep + 1) % 2 ^ 48) ||
      (match s.caravan.plan with | some p => decide (t = p.firstStep) && decide (t ≠ s.carStep) | none => false)

/-- STEP_GO: late, or in a module that is not locked, the boundary passes on arrival (R352, R356). -/
def State.stepGoIn (s : State) (g : StepGo) : State :=
  if !s.awaits g.step || decide (s.carState = 5) || decide (s.carState = 3) then s
  else
    let late := beatPast s.beat g.beat && decide (s.beat ≠ g.beat)
    let locked := bit (s.reg .carStatus 0) 24
    if late then (s.countWrap .carLatebnd 0 1).passBoundary g
    else if !locked then s.passBoundary g
    else s.modCaravan fun c => { c with stepGo := some g }

/-- STEP_GO (R356). -/
def execStepGo (h : NoteHdr) (nextStep beat : Nat) (freeze : Bool) (gen : Nat) (s : State) :
    Host.Outcome State Fault Refusal :=
  whenUp s fun x => x.fromMaster h fun y =>
    (y.passDown h 0x04 (stepWords nextStep ++ stepWords beat ++ [b2n freeze, gen])).stepGoIn ⟨nextStep, beat, freeze, gen⟩

/-- STEP_BOUNDARY: the boundary beat comes (R356). -/
def execStepBoundary (s : State) : Host.Outcome State Fault Refusal :=
  whenUp s fun x => match x.caravan.stepGo with
    | some g => (x.untilBeat g.beat).passBoundary g
    | none => x

/-! Freezes (R364 to R366). A copy begins with the entry images of the listed handles in list order, 32 bytes each; the
extents follow in the same order, each from a multiple of 256 bytes. -/

/-- Bytes of an entry image. -/
def HEntry.image (e : HEntry) : List Byte :=
  [e.w0, e.w1, e.w2, e.w3, e.w4, e.w5, e.w6, e.w7].flatMap fun w => leBytes 4 w.toNat

/-- Where the extents of entries lie in a copy: handle, entry, offset; and the end. -/
def copyPlaces : Nat → List (Nat × HEntry) → List (Nat × HEntry × Nat) × Nat
  | off, [] => ([], off)
  | off, (h, e) :: t =>
    let r := copyPlaces (off + roundUp e.rangeBytes 256) t
    ((h, e, off) :: r.1, r.2)

/-- The copy's places for a list of entries. -/
def copyLayout (l : List (Nat × HEntry)) : List (Nat × HEntry × Nat) × Nat := copyPlaces (roundUp (32 * l.length) 256) l

/-- Copy the listed tensors of a tenant to a device address; the Bool is false for a source that reads uncorrectable or a
slot too small. -/
def State.freezeCopy (s : State) (t : Nat) (list : List Nat) (a room : Nat) : State × Bool × Nat :=
  let es := list.map fun h => (h, s.home t h)
  let lay := copyLayout es
  let src (e : HEntry) : Option Nat := if e.st = stUnwritten ∨ e.st = stFree then none else s.homeAddr e
  if room < lay.2 then (s, false, 0)
  else
    let heads := es.flatMap fun x => x.2.image
    let r := lay.1.foldl (fun (acc : State × Bool) p =>
      match src p.2.1 with
      | some b =>
        let y := acc.1.copyRange b (a + p.2.2) p.2.1.rangeBytes
        (y.1, acc.2 && y.2)
      | none => (acc.1.putUnits (a + p.2.2) (List.replicate p.2.1.rangeBytes 0), acc.2)) (s.putUnits a heads, true)
    (r.1, r.2, if r.2 then lay.2 else 0)

/-- The freeze ends: the home copy stands, the step's GO is written, and the copy streams to the buddy (R365, R366). -/
def State.freezeDone (s : State) : State :=
  if s.rfld .carCkptstat 0 31 30 ≠ 1 then s
  else match s.caravan.plan, s.caravan.tenant with
    | some p, some t =>
      let g := s.rfld .carCkptstat 0 15 0
      let a := p.slotAddr (g % 2)
      let r := s.freezeCopy t p.ckptList a (p.slotGib * 2 ^ 30)
      if !r.2.1 then
        (((r.1.setRfld .carCkptstat 0 31 30 0).setRfld .carCkptstat 0 29 29 1).noticeUp 0x0D [g, 0, 1]).goQueues
      else
        let s1 := (r.1.modCaravan fun c => { c with lastGen := some (g, r.1.carStep) }).noticeUp 0x0D [g, 0, 0]
        match s1.mapSelf.bind s1.buddyOf with
        | some m => ((s1.setRfld .carCkptstat 0 31 30 2).sendBytes m.node (3 + g % 2) 0 a r.2.2).goQueues
        | none => (s1.setRfld .carCkptstat 0 31 30 0).goQueues
    | _, _ => s.setRfld .carCkptstat 0 31 30 0

/-- CKPT_FREEZE_DONE (R366). -/
def execCkptFreezeDone (s : State) : Host.Outcome State Fault Refusal := whenUp s State.freezeDone

/-- CKPT_STREAM_DONE: the buddy has acknowledged the copy (R366). -/
def execCkptStreamDone (s : State) : Host.Outcome State Fault Refusal :=
  whenUp s fun x =>
    if x.rfld .carCkptstat 0 31 30 = 2 ∧ x.dataDrained then
      (x.setRfld .carCkptstat 0 31 30 0).noticeUp 0x0D [x.rfld .carCkptstat 0 15 0, 1, 0]
    else x

/-! Restores (R364). -/

/-- An entry from its image in memory. -/
def State.entryAt (s : State) (a : Nat) : HEntry :=
  let w (i : Nat) : W32 := s.word (a + 4 * i)
  ⟨w 0, w 1, w 2, w 3, w 4, w 5, w 6, w 7⟩

/-- The entries of a copy at an address, for the handles of a list. -/
def State.copyEntries (s : State) (list : List Nat) (a : Nat) : List (Nat × HEntry) :=
  list.zipIdx.map fun x => (x.1, s.entryAt (a + 32 * x.2))

/-- Restore one listed tensor of generation g: CLEAR, REHOME, and the whole write that makes it VALID; a substitute first
creates the entry. A range of the home copy that reads uncorrectable is taken from the buddy's copy, whose bytes another
module holds (log 133); without a buddy the tensor is POISONED. -/
def State.restoreTensor (s : State) (t g a : Nat) (x : Nat × HEntry × Nat) : State :=
  let (h, im, off) := x
  let old := s.home t h
  let s1 : State := if old.st = stFree then s.setHome t h ((im.withSt stUnwritten).withGen (old.gen + 1))
    else ((s.cmdClear t h).1.cmdRehome t h im true).1
  match s1.homeAddr (s1.home t h) with
  | none => s1
  | some b =>
    let len := im.rangeBytes
    let r := s1.tierRead [] none (a + off) len
    let buddy := (r.1.mapSelf.bind r.1.buddyOf).isSome
    let bytes := (r.1.data (a + off) len).zipIdx.map fun y =>
      if !r.2 && r.1.poisoned ((a + off + y.2) / 64 * 64) then Config.buddyByte g (off + y.2) else y.1
    (r.1.putUnits b bytes).setSt t h (if r.2 || buddy then stValid else stPoisoned)

/-- Restore a generation from the home copy; every other entry of the tenant becomes UNWRITTEN. -/
def State.restoreAll (s : State) (p : CarPlan) (t g : Nat) : State :=
  let a := p.slotAddr (g % 2)
  let others := (s.homes.filter fun e => decide (e.1 / 2 ^ 24 = t) && decide (e.2.st ≠ stFree) &&
    !p.ckptList.contains (e.1 % 2 ^ 24)).map fun e => e.1 % 2 ^ 24
  let s1 := others.foldl (fun x h => (x.cmdClear t h).1) s
  (copyLayout (s.copyEntries p.ckptList a)).1.foldl (fun x e => x.restoreTensor t g a e) s1

/-- A module that holds the copy of a stage whose module was replaced sends it to the substitute, or moves it to its own
home slot when it is the substitute itself (R364, R371). -/
def State.serveBuddy (s : State) (g : Nat) : State :=
  let w := mget (0xFFFF, 0, 0) s.caravan.wards (g % 2)
  match s.caravan.plan, s.mapOf w.1 with
  | some p, some e =>
    let src := p.slotAddr (2 + g % 2)
    if e.serial = w.2.1 then s
    else if e.node = s.carNode then (s.copyRange src (p.slotAddr (g % 2)) w.2.2).1
    else s.sendBytes e.node (1 + g % 2) 0 src w.2.2
  | _, _ => s

/-! Rollbacks (R361). -/

/-- Body of ALIVE: tasks completed in the step, class-0 queues whose next task waits. -/
def State.aliveBody (s : State) : List Nat :=
  [(s.stepQueues.map fun k => (s.queue k).ended).sum,
   (s.stepQueues.filter fun k => decide (s.qst k = 2) && !s.waitsReady k (s.patched k (s.queue k).next)).length]

/-- The firmware loads a queue again from its image (R361 step 5). -/
def State.reloadQueue (s : State) (x : Nat × Nat × Nat × Nat) : State :=
  let (k, n, a, len) := x
  let r := s.takeImage a len
  let q : Queue := { Queue.init with lcore := n, img := r.2.1, imgBad := !r.2.2, imgAddr := a, imgLen := len, loading := true }
  (((r.1.setQueue k q).setQst k 0).hwFld .queCtrl k 1 0 0).clearSb k

/-- Steps 4 to 6: the step floor, the routes, the queues, the host driver's notice, ALIVE. -/
def State.finishRollback (s : State) (r : Rollback) : State :=
  match s.caravan.tenant with
  | none => s
  | some t =>
    let s1 := (s.hwSet .tunStepflr0 t (BitVec.ofNat 32 r.restart)).hwSet .tunStepflr1 t
      (BitVec.ofNat 32 (r.restart / 2 ^ 32 % 65536))
    let s2 := s1.caravan.reroutes.foldl State.reopen s1
    let s3 := s2.caravan.reload.foldl State.reloadQueue s2
    let s4 := (s3.modCaravan fun c => { c with restoring := none, reload := [], reroutes := [] }).noticeHost 0x0201
      (stepWords r.restart ++ [b2n r.checkpoint, r.gen, (s3.reg .carMapgen 0).toNat])
    s4.noticeUp 0x0A s4.aliveBody

/-- The plan of this module: a spare that has taken a logical ID takes its stage's part (R370). -/
def State.takePart (s : State) : State :=
  if s.isStageHere && decide (s.carState = 1) then
    match s.caravan.parts[s.carNode % 8]? with
    | some p => s.modCaravan fun c => { c with plan := some p }
    | none => s
  else s

/-- A module carries out a rollback, once (R361). -/
def State.rollbackIn (s : State) (r : Rollback) : State :=
  if decide (s.caravan.rolled = some r) || decide (s.carState = 5) then s
  else match s.caravan.tenant with
    | none => s
    | some t =>
      if s.substituting t then s.waitReset ⟨t, none, some r⟩
      else
      let s1 := s.takePart
      let ks := s1.stepQueues.filter fun k => decide ((s1.queue k).imgLen ≠ 0)
      let s2 := (if s1.isStageHere then s1.setCarState 4 else s1).countWrap .carRollbacks 0 1
      let s3 := s2.modCaravan fun c =>
        { c with rolled := some r, stepGo := none, slotsDone := [], stageSent := false
                 restoring := if r.checkpoint && s2.isStageHere then some r else none
                 restore := if r.checkpoint then some (r.gen, r.restart) else c.restore
                 reroutes := s2.routesOf t
                 reload := ks.map fun k => (k, (s2.queue k).lcore, (s2.queue k).imgAddr, (s2.queue k).imgLen) }
      let s4 := s3.tenantReset t
      let s5 := if r.checkpoint then s4.serveBuddy r.gen else s4
      if s5.caravan.restoring.isSome then s5 else s5.finishRollback r

/-- ROLLBACK (R361). -/
def execRollback (h : NoteHdr) (restart : Nat) (checkpoint : Bool) (gen : Nat) (s : State) :
    Host.Outcome State Fault Refusal :=
  whenUp s fun x => x.fromMaster h fun y =>
    (y.passDown h 0x0B (stepWords restart ++ [b2n checkpoint, gen])).rollbackIn ⟨restart, checkpoint, gen⟩

/-- CKPT_RESTORE_DONE (R364). -/
def execCkptRestoreDone (s : State) : Host.Outcome State Fault Refusal :=
  whenUp s fun x => match x.caravan.restoring, x.caravan.plan, x.caravan.tenant with
    | some r, some p, some t => (x.restoreAll p t r.gen).finishRollback r
    | _, _, _ => x

/-! Snapshots (R375). -/

/-- Words of a snapshot's target. -/
def snapWords : SnapTarget → List Nat
  | .here t hs => 0 :: t :: hs
  | .foreign n hs => 1 :: n :: hs

/-- A tensor of a copy goes into a local tensor, whole; the Bool tells success. -/
def State.snapLocal (s : State) (t h a : Nat) (im : HEntry) : State × Bool :=
  let e := s.home t h
  if !s.handleOk t h || decide (e.writeCode false ≠ 0) || im.packed || decide (e.bytes ≠ im.bytes) then (s, false)
  else match s.homeAddr e with
    | none => (s, false)
    | some b =>
      let r := (s.beginFilled t h 2 true).copyRange a b im.bytes
      if r.2 then (r.1.endWrite t h e.gen, true) else (r.1.voidWrite t h e.gen, false)

/-- The open class-2 route of a tenant to a foreign node. -/
def State.shipRoute (s : State) (t node : Nat) : Option Nat :=
  (s.tunil.routes.find? fun r => !keyFw r.1 && decide (r.2.tenant = t) && decide (r.2.cls = 2) && decide (r.2.st = 2) &&
    decide (r.2.peerNode = node)).map (·.1)

/-- The tensors of a generation and the receiver's handles for them. -/
def State.snapList (s : State) (p : CarPlan) (gen : Nat) (hs : List Nat) : List ((Nat × HEntry × Nat) × Nat) :=
  (copyLayout (s.copyEntries p.ckptList (p.slotAddr (gen % 2)))).1.zip hs

/-- A snapshot can be shipped: a route is open, no tensor is too long for a message, and every one has a handle. -/
def State.shipOk (s : State) (p : CarPlan) (t gen n : Nat) (hs : List Nat) : Bool :=
  (s.shipRoute t n).isSome && !((s.snapList p gen hs).any fun e => tooLong e.1.2.1.rangeBytes) &&
    decide (p.ckptList.length = hs.length)

/-- A shipped snapshot leaves as messages of class 2 (R375). -/
def State.snapShip (s : State) (gen : Nat) (target : SnapTarget) : State :=
  match target, s.caravan.plan, s.caravan.tenant with
  | .foreign n hs, some p, some t =>
    (match s.shipRoute t n with
      | some key =>
        if s.shipOk p t gen n hs then ((s.snapList p gen hs).foldl (fun x e =>
          x.planMessage key (0, 0) e.2 0 e.1.2.1.rangeBytes (some (p.slotAddr (gen % 2) + e.1.2.2)) false) s).tunilRequests
        else s
      | none => s)
  | _, _, _ => s

/-- A shipped snapshot has been acknowledged whole, or cannot go any more. -/
def State.snapSent (s : State) (t : Nat) : SnapTarget → Bool
  | .here _ _ => true
  | .foreign n _ => match s.shipRoute t n with
    | some key => (s.route key).toSend.isEmpty && (s.route key).unacked.isEmpty
    | none => true

/-- The end of the copy of a generation: into local tensors, or at the foreign node; the Bool tells success. -/
def State.snapWrite (s : State) (p : CarPlan) (t gen : Nat) (target : SnapTarget) : State × Bool :=
  match target with
  | .here u hs =>
    (s.snapList p gen hs).foldl (fun acc x =>
      let r := acc.1.snapLocal u x.2 (p.slotAddr (gen % 2) + x.1.2.2) x.1.2.1
      (r.1, acc.2 && r.2)) (s, decide (p.ckptList.length = hs.length))
  | .foreign n hs => (s, s.shipOk p t gen n hs)

/-- SNAPSHOT: the master notes who reports; a stage that holds the generation starts to copy it,
and a shipped copy leaves at once. -/
def State.snapshotIn (s : State) (gen id : Nat) (target : SnapTarget) : State :=
  let s1 : State := if s.isMaster then s.modCaravan fun c => { c with snapshot := some (gen, id, stageNodes c.map) } else s
  let holds := match s1.caravan.lastGen with
    | some (l, _) => decide (gen = l) || decide (gen + 1 = l)
    | none => false
  if !s1.isStageHere then s1
  else if holds then (s1.modCaravan fun c => { c with snapCopy := some (gen, id, target) }).snapShip gen target
  else s1.noticeUp 0x11 [id, 1]

/-- SNAPSHOT (R375). -/
def execSnapshot (h : NoteHdr) (gen id : Nat) (target : SnapTarget) (s : State) : Host.Outcome State Fault Refusal :=
  whenUp s fun x => x.fromMaster h fun y => (y.passDown h 0x10 (gen :: id :: snapWords target)).snapshotIn gen id target

/-- SNAPSHOT_COPY_DONE (R375): a shipped copy has ended when its messages are acknowledged. -/
def execSnapshotCopyDone (s : State) : Host.Outcome State Fault Refusal :=
  whenUp s fun x => match x.caravan.snapCopy, x.caravan.plan, x.caravan.tenant with
    | some (gen, id, target), some p, some t =>
      if !x.snapSent t target then x
      else
        let r := x.snapWrite p t gen target
        (r.1.modCaravan fun c => { c with snapCopy := none }).noticeUp 0x11 [id, b2n !r.2]
    | _, _, _ => x

end Sys2Proof.Machine
end

