-- ==== Sys2Proof/Machine/Caravan.lean ====
section
/-! DEFINITION. PLAN_SUBMIT (R346, R348, R353) and the caravan notices and timers of Table 14-3 that heads, the master and
the standby act on (R350, R354 to R360, R366 to R375). -/
namespace Sys2Proof.Machine

/-! PLAN_SUBMIT. Its body holds 16-byte entries, 48-bit address and 32-bit length: the caravan record, then each stage's
part. A part is a record followed, from the next multiple of 16 bytes, by entries of the same form that name the stage's
manifest images. -/

/-- Address and length of an entry. -/
def planEntry (e : List W32) : Nat × Nat := ((wordAt e 0).toNat + df e 1 15 0 * 2 ^ 32, (wordAt e 2).toNat)
def planEntryOk (e : List W32) : Bool := decide (df e 1 31 16 = 0) && decide (wordAt e 3 = 0)

/-- A class-0 manifest image ends with exactly one STEP fence as its last descriptor, outside every LOOP (R353). -/
def fenceOk (q : Queue) : Bool :=
  let n := q.descCount
  let steps := (List.range n).filter fun j => isStepFence (q.desc j)
  decide (1 ≤ n) && decide (q.imageBytes ≤ 4 * q.img.length) && decide (steps = [n - 1]) &&
    !((List.range n).any fun j => decide (dType (q.desc j) = 0x0A) && decide (n - 1 ≤ j + df (q.desc j) 4 11 0))

/-- Manifest images that a part names. -/
def partImages (w : List W32) : List (Nat × Nat) :=
  (entriesOf (w.drop (4 * cdiv (recWords w) 4))).map planEntry

/-- A range that the firmware reads for a tenant. -/
def State.planReadable (s : State) (t : Nat) (x : Nat × Nat) : Bool := s.inWindows t x.1 x.2 && isFast x.1

/-- The mailbox code of one part, 0 for none. -/
def State.partCode (s : State) (t : Nat) (rec : CarPlan) (x : Nat × Nat) : Nat :=
  let w := s.imageWords x.1 x.2
  match parsePlan w with
  | none => 0x0003
  | some p =>
    if p.common ≠ rec.common then 0x0003
    else if (p.ckptEvery ≠ 0 ∨ p.slotGib ≠ 0) ∧ [0, 1].any (fun k => !s.inWindows t (p.slotAddr k) (p.slotGib * 2 ^ 30)) then 0x0003
    else if !(partImages w).all (s.planReadable t) then 0x0004
    else if (partImages w).all fun i =>
        let q : Queue := { Queue.init with img := s.imageWords i.1 i.2 }
        decide (q.cls ≠ 0) || fenceOk q then 0
    else 0x0003

/-- Control routes that a plan asks of its master: two reporters a bond and every module outside bonds (R348). -/
def CarPlan.controlRoutes (p : CarPlan) : Nat := 2 * p.bonds.length + p.serials.length

/-- The mailbox code of a plan, 0 for none (R346, R348, R353). -/
def State.planCode (s : State) (t : Nat) (b : List W32) : Nat :=
  let es := entriesOf b
  let single := s.cfg.caravan.isNone
  let mine := match s.cfg.caravan with
    | some c => decide (c.tenant = t) && s.isMaster
    | none => s.caravan.plan.isNone || decide (s.caravan.tenant = some t)
  if !mine || !(s.cfg.tenant t).cl0 then 0x0004
  else if !(s.class0Queues t).isEmpty then 0x0002
  else if b.length % 4 ≠ 0 ∨ es.length < 2 ∨ !es.all planEntryOk then 0x0003
  else if !(es.map planEntry).all (s.planReadable t) then 0x0004
  else match es with
    | [] => 0x0003
    | e :: parts =>
      match parsePlan (s.imageWords (planEntry e).1 (planEntry e).2) with
      | none => 0x0003
      | some p =>
        let stages := if s.caravan.map.isEmpty then p.logicalSize else (stageNodes s.caravan.map).length
        if p.logicalSize ≠ parts.length ∨ p.logicalSize ≠ stages ∨ 4096 < p.controlRoutes ∨
            (single ∧ (p.logicalSize ≠ 1 ∨ p.bonds ≠ [] ∨ p.serials ≠ [s.flash.fuses.serial])) then 0x0003
        else ((parts.map fun x => s.partCode t p (planEntry x)).find? fun c => decide (c ≠ 0)).getD 0

/-- The parts of a submitted plan, by address and length. -/
def planParts (b : List W32) : List (Nat × Nat) := ((entriesOf b).drop 1).map planEntry

/-- A caravan of one: its plan is in force at once, in a map of one entry (R346). -/
def State.planAlone (s : State) (t : Nat) (p : CarPlan) : State :=
  let e : MapEntry := { node := 0, bond := 0xFFFF, slot := 0xF, flags := 1, addr := (s.cfg.port 0).addr, serial := s.flash.fuses.serial }
  let s1 := s.modCaravan fun c => { c with tenant := some t, plan := some p, masterNode := some 0, restore := none
                                           lastGen := none, master := { Master.init with started := true } }
  let s2 := s1.applyMap [e] 1
  let g := s2.nextGo p.firstStep
  g.1.passBoundary g.2

/-- The first map is made when every place has joined, or the wait is over; then the plan goes out (R353, R354). -/
def State.startPlan (s : State) (p : CarPlan) : State :=
  let f := firstMap p s.caravan.master.joined
  if !f.2.isEmpty then s
  else
    let s1 := (s.modMaster fun m => { m with started := true }).newMap (s.appoint f.1 none)
    let s2 := if (standbyOf s1.caravan.map).isNone then s1.noticeHost 0x0205 [0] else s1
    s2.sendParts (s2.caravan.map.map (·.node))

/-- This module's own part of a submitted plan. -/
def State.ownPart (s : State) (p : CarPlan) (parts : List (Nat × Nat)) : CarPlan :=
  match parts[s.carNode]? with
  | some x => (parsePlan (s.imageWords x.1 x.2)).getD p
  | none => p

/-- A plan is accepted. -/
def State.planTake (s : State) (m t : Nat) (b : List W32) : State :=
  match parsePlan (match entriesOf b with
    | e :: _ => s.imageWords (planEntry e).1 (planEntry e).2
    | [] => []) with
  | none => s.endSvc m 0x0003
  | some p =>
    if s.cfg.caravan.isNone then
      match planParts b with
      | x :: _ => (s.planAlone t ((parsePlan (s.imageWords x.1 x.2)).getD p)).endSvc m 0x0000
      | [] => s.endSvc m 0x0003
    else
      let s1 := ((s.beginSvc m).modCaravan fun c => { c with tenant := some t, plan := some p }).modMaster fun x =>
        { x with parts := planParts b }
      if s1.caravan.master.started then
        let s2 := s1.sendParts (s1.caravan.map.map (·.node))
        match standbyOf s2.caravan.map with
        | some n => s2.sendPlan n
        | none => s2
      else if allJoined p s1.caravan.master.joined then s1.startPlan p
      else s1

/-- A plan whose parts have all been acknowledged: the service ends, and STEP_GO for the first step goes out (R353,
R354). -/
def State.planAcked (s : State) (m : Nat) : State :=
  match s.caravan.plan with
  | some p =>
    if s.caravan.master.started && s.dataDrained then
      let own := s.ownPart p s.caravan.master.parts
      ((s.modCaravan fun c => { c with plan := some own }).endSvc m 0x0000).goStep p.firstStep
    else s
  | none => s

/-- PLAN_SUBMIT: the plan is checked and distributed; taken up again once its parts are acknowledged, it ends (R353). -/
def execPlanSubmit (m : Fin 64) (s : State) : Host.Outcome State Fault Refusal :=
  whenUp s fun x =>
    let v := x.svc m
    if v.active && decide (v.code = 0x0009) && v.begun && v.result.isNone then x.planAcked m
    else x.serve m 0x0009 fun t b =>
      let c := x.planCode t b
      if c = 0 then x.planTake m t b else x.endSvc m c

/-! JOIN (R354, R370). -/

/-- A place ID that no entry holds. -/
def freePlace (map : List MapEntry) : Nat :=
  (map.filter fun e => decide (0x8000 ≤ e.node) && decide (e.node < 0xC000)).foldl (fun n e => Nat.max n (e.node + 1)) 0x8000

/-- A module joins a running caravan: at a place without a logical ID it becomes its bond's spare when the bond has none. -/
def State.lateJoin (s : State) (x : Joined) : State :=
  let map := s.baseMap
  let mates := map.filter fun e => decide (e.bond = x.bond) && decide (x.bond ≠ 0xFFFF)
  let here := mates.find? fun e => decide (e.slot = x.slot)
  let open1 := match here with
    | some e => !e.isStage
    | none => !mates.isEmpty && decide (x.slot = 8)
  if open1 && !(mates.any fun e => e.isSpare && !e.isFailed) then
    let node := match here with | some e => e.node | none => freePlace map
    s.propose (some (mergeMap map [x.entry node x.bond x.slot 16])) none
  else s

/-- The master receives a JOIN. -/
def State.joinIn (s : State) (x : Joined) : State :=
  let s1 := s.modMaster fun m => { m with joined := (m.joined.filter fun y => decide (y.serial ≠ x.serial)) ++ [x] }
  if s1.caravan.master.started then s1.lateJoin x
  else match s1.caravan.plan with
    | some p => if allJoined p s1.caravan.master.joined then s1.startPlan p else s1
    | none => s1

/-- JOIN (R354). -/
def execJoin (h : NoteHdr) (serial : Nat) (bond slot role ports addr : Nat) (s : State) : Host.Outcome State Fault Refusal :=
  whenUp s fun x =>
    if x.isMaster then x.joinIn ⟨serial, bond, slot, role, addr⟩
    else x.passUp h 0x01 [serial, bond, slot, role, ports]

/-- The mailbox whose PLAN_SUBMIT waits. -/
def State.planBox (s : State) : Option Nat :=
  (List.range 64).find? fun m => (s.svc m).active && decide ((s.svc m).code = 0x0009) && (s.svc m).begun

/-- The wait for JOINs is over: missing stages go to spares, or the places are reported and the master does not start. -/
def State.joinOver (s : State) : State :=
  match s.caravan.plan with
  | none => s
  | some p =>
    let gone := (firstMap p s.caravan.master.joined).2
    if s.caravan.master.started || !s.isMaster then s
    else if gone.isEmpty then s.startPlan p
    else
      let s1 := s.noticeHost 0x0204 (gone.length :: gone.flatMap fun x => [x.1, x.2])
      let s2 := s1.modCaravan fun c => { c with plan := none }
      match s2.planBox with
      | some m => s2.endSvc m 0x0002
      | none => s2

/-- JOIN_WAIT_EXPIRY (R354). -/
def execJoinWaitExpiry (s : State) : Host.Outcome State Fault Refusal := whenUp s State.joinOver

/-! Boundaries (R355). -/

/-- A head or deputy notes a stage that is done; the head reports its bond when every slot with a logical ID has. -/
def State.slotDone (s : State) (node : Nat) : State :=
  match s.mapOf node, s.mapSelf with
  | some e, some me =>
    if (me.isHead || me.isDeputy) && decide (e.bond = me.bond) && decide (e.bond ≠ 0xFFFF) &&
        !s.caravan.slotsDone.contains e.slot then
      let s1 := s.modCaravan fun c => { c with slotsDone := e.slot :: c.slotsDone }
      let stages := (s1.bondOf me.bond).filter MapEntry.isStage
      if me.isHead && stages.all fun m => s1.caravan.slotsDone.contains m.slot then
        s1.notice 0x03 s1.masterId (stepWords s1.carStep ++ [(s1.caravan.slotsDone.map fun i => 2 ^ i).sum])
      else s1
    else s
  | _, _ => s

/-- The master notes a module outside any bond that is done. -/
def State.outDone (s : State) (node : Nat) : State :=
  match s.mapOf node with
  | some e =>
    if s.isMaster && decide (e.bond = 0xFFFF) then
      (s.modMaster fun m => { m with stagesDone := if m.stagesDone.contains node then m.stagesDone else node :: m.stagesDone
                            }).tryBoundary
    else s
  | none => s

/-- STAGE_DONE (R355). -/
def execStageDone (h : NoteHdr) (s : State) : Host.Outcome State Fault Refusal :=
  whenUp s fun x => if h.step = x.carStep then (x.slotDone h.sender).outDone h.sender else x

/-- BOND_DONE (R355). -/
def execBondDone (h : NoteHdr) (bond : Nat) (slots : Nat) (s : State) : Host.Outcome State Fault Refusal :=
  whenUp s fun x =>
    if !x.isMaster then x.passUp h 0x03 (stepWords h.step ++ [slots])
    else if h.step = x.carStep then
      (x.modMaster fun m => { m with bondsDone := if m.bondsDone.contains bond then m.bondsDone else bond :: m.bondsDone
                            }).tryBoundary
    else x

/-! Late and silent stages (R357, R358). -/

/-- LATE_MANIFEST: the master logs it and tells its host driver (R357). -/
def execLateManifest (h : NoteHdr) (core queue slip : Nat) (s : State) : Host.Outcome State Fault Refusal :=
  whenUp s fun x =>
    if !x.isMaster then x.passUp h 0x05 [core, queue, slip]
    else (x.modMaster fun m => { m with lateLog := m.lateLog ++ [(h.sender, core, queue, slip)] }).noticeHost 0x0202
      (stepWords h.step ++ [h.sender, core, queue, slip])

/-- Stages whose STAGE_DONE the master lacks. -/
def State.silent (s : State) : List Nat :=
  ((s.caravan.map.filter MapEntry.isStage).filter fun e =>
    !(if e.bond = 0xFFFF then s.caravan.master.stagesDone.contains e.node else s.caravan.master.bondsDone.contains e.bond)).map
      (·.node)

/-- PROBE_TIMER: silent stages are probed; a stall, once every missing module is known to be alive, is treated as fault code
0x61 (R358). -/
def State.probeTime (s : State) (stalled : Bool) : State :=
  if !s.isMaster || !s.caravan.master.started || s.caravan.master.rollback.isSome || s.silent.isEmpty then s
  else if stalled && s.caravan.master.probed.isEmpty then (s.modMaster fun m => { m with reports := m.reports ++ [(0x61, s.carNode)] }).act
  else s.probeNodes s.silent

/-- PROBE_TIMER (R358). -/
def execProbeTimer (stalled : Bool) (s : State) : Host.Outcome State Fault Refusal := whenUp s fun x => x.probeTime stalled

/-- PROBE: a head or deputy passes it on, and the module answers ALIVE (R350, R358). -/
def execProbe (h : NoteHdr) (s : State) : Host.Outcome State Fault Refusal :=
  whenUp s fun x => x.fromMaster h fun y => (y.passDown h 0x09 []).noticeUp 0x0A y.aliveBody

/-- After the last ALIVE of a rollback the restart step begins (R361 step 6). -/
def State.restart (s : State) : State :=
  let m := s.caravan.master
  match m.rollback with
  | some r =>
    if m.awaiting.isEmpty && !m.pendGo then
      let lead : Nat := match s.caravan.plan with | some p => p.lead | none => 16
      (s.modMaster fun x => { x with rollback := none }).sendGo ⟨r.restart, (s.beat + lead) % 2 ^ 48, false, 0⟩
    else s
  | none => s.settle

/-- ALIVE (R358, R361). -/
def execAlive (h : NoteHdr) (done waiting : Nat) (s : State) : Host.Outcome State Fault Refusal :=
  whenUp s fun x =>
    if !x.isMaster then x.passUp h 0x0A [done, waiting]
    else (x.modMaster fun m => { m with probed := m.probed.filter fun n => decide (n ≠ h.sender)
                                        awaiting := if m.pendGo then m.awaiting else m.awaiting.filter fun n => decide (n ≠ h.sender)
                               }).restart

/-- PROBE_WAIT_EXPIRY: a probed module that has not answered is declared failed (R358). -/
def execProbeWaitExpiry (node : Nat) (s : State) : Host.Outcome State Fault Refusal :=
  whenUp s fun x =>
    if x.isMaster && x.caravan.master.probed.contains node then
      (x.modMaster fun m => { m with probed := m.probed.filter fun n => decide (n ≠ node), failed := m.failed ++ [node] }).settle
    else x

/-! Halts (R359, R360). -/

/-- HALT_REPORT: the first one opens the collection window; 0x60 and 0x61 probe the peer (R359, R360). -/
def execHaltReport (h : NoteHdr) (code core queue task peer : Nat) (s : State) : Host.Outcome State Fault Refusal :=
  whenUp s fun x =>
    if !x.isMaster then x.passUp h 0x06 [code, core, queue, task, peer]
    else if x.caravan.master.rollback.isSome then x
    else
      let y := x.modMaster fun m => { m with reports := m.reports ++ [(code, h.sender)], collecting := true }
      let known := match y.mapOf peer with | some e => e.isOurs && !e.isFailed | none => false
      if (decide (code = 0x60) || decide (code = 0x61)) && known then y.probeNodes [peer] else y

/-- HALT_COLLECT_EXPIRY: the master acts when its probes have ended too (R360). -/
def execHaltCollectExpiry (s : State) : Host.Outcome State Fault Refusal :=
  whenUp s fun x =>
    if x.isMaster && x.caravan.master.collecting then (x.modMaster fun m => { m with collectOver := true }).settle else x

/-- REPLACE: a core left unmapped calls for substitution; any reason does under SWAP (R360, R369). -/
def execReplace (h : NoteHdr) (reason : Nat) (s : State) : Host.Outcome State Fault Refusal :=
  whenUp s fun x =>
    if !x.isMaster then x.passUp h 0x07 [reason]
    else
      let y := x.modMaster fun m =>
        { m with replaceAsked := if m.replaceAsked.contains h.sender then m.replaceAsked else m.replaceAsked ++ [h.sender] }
      if reason = 3 then
        y.modMaster fun m => { m with failed := if m.failed.contains h.sender then m.failed else m.failed ++ [h.sender]
                                      collecting := true }
      else y

/-- PORT_STATE: MISCABLED and FAILED ports are kept until another state is reported (R350). -/
def execPortState (h : NoteHdr) (port state : Nat) (s : State) : Host.Outcome State Fault Refusal :=
  whenUp s fun x =>
    if !x.isMaster then x.passUp h 0x08 [port, state]
    else match x.mapOf h.sender with
      | none => x
      | some e => x.modMaster fun m =>
        let rest := m.downPorts.filter fun y => decide (y ≠ (e.serial, port))
        { m with downPorts := if state = 3 ∨ state = 5 then rest ++ [(e.serial, port)] else rest }

/-- CARAVAN_HALT: the class-0 queues halt, and the host driver hears of it (R360). -/
def State.haltIn (s : State) (reason : Nat) : State :=
  let s1 := s.stepQueues.foldl (fun x k =>
    let y := x.modQueue k fun q => { q with goHeld := false }
    if y.qst k = 2 then y.setQst k 3 else y) s
  ((s1.modCaravan fun c => { c with stepGo := none }).setCarState 3).noticeHost 0x0203 (reason :: stepWords s.carStep)

/-- CARAVAN_HALT (R360). -/
def execCaravanHalt (h : NoteHdr) (reason : Nat) (s : State) : Host.Outcome State Fault Refusal :=
  whenUp s fun x => x.fromMaster h fun y =>
    let z := y.passDown h 0x12 (reason :: stepWords h.step)
    if z.carState = 3 ∨ z.carState = 5 then z else z.haltIn reason

/-! The map (R344). -/

/-- The restore point that a HEARTBEAT carries: the one that waits for the standby, or the one recorded. -/
def State.beatRestore (s : State) : Option (Nat × Nat) :=
  match s.caravan.master.pendRestore with
  | some r => some r
  | none => s.caravan.restore

/-- A module holds every changed entry of a generation: those of the one after its own, or in a module without a map
entries that name the master and the module itself (log 134). -/
def State.holdsGen (s : State) (gen : Nat) (entries : List MapEntry) : Bool :=
  if s.caravan.map.isEmpty then entries.any MapEntry.isMaster && entries.any fun e => decide (e.serial = s.flash.fuses.serial)
  else decide (gen = (s.reg .carMapgen 0).toNat + 1)

/-- Entries of a generation arrive; once the last ones complete it, it comes into force and is acknowledged to the master by
a HEARTBEAT, whose header names it (the kind is not stated: DESIGN CHOICE, log 135). -/
def State.mapIn (s : State) (gen : Nat) (entries : List MapEntry) (final : Bool) : State :=
  let all := (if s.caravan.incomingGen = gen then s.caravan.incoming else []) ++ entries
  if gen ≤ (s.reg .carMapgen 0).toNat then s
  else if final && s.holdsGen gen all then
    let s1 := (s.modCaravan fun c => { c with incoming := [], incomingGen := 0 }).applyMap (mergeMap s.caravan.map all) gen
    s1.noticeUp 0x0E (s1.heartbeatBody s1.beatRestore)
  else s.modCaravan fun c => { c with incoming := all, incomingGen := gen }

/-- A head or deputy passes map entries on to its members; with its first map it learns who they are, and sends them the
whole map (R350). -/
def State.mapOn (s : State) (h : NoteHdr) (entries : List MapEntry) (final : Bool) : State :=
  let t := s.mapIn h.mapGen entries final
  if s.caravan.map.isEmpty then (if t.caravan.map.isEmpty then t else t.sendMap h t.memberNodes t.caravan.map)
  else t.passDown h 0x0C (b2n final :: entries.flatMap MapEntry.words)

/-- MAP_UPDATE (R344). -/
def execMapUpdate (h : NoteHdr) (entries : List MapEntry) (final : Bool) (s : State) : Host.Outcome State Fault Refusal :=
  whenUp s fun x => x.fromMaster h fun y => y.mapOn h entries final

/-! Checkpoints (R366, R367). -/

/-- CKPT_DONE at the master: parts of the generation being written; a failure frees its number (R367). -/
def State.ckptIn (s : State) (node gen : Nat) (buddy ok : Bool) : State :=
  let m := s.caravan.master
  let pending := match s.caravan.restore with | some (g, _) => decide (g < gen) | none => true
  if gen + 1 ≠ m.nextGen ∨ !pending then s
  else if !ok then s.modMaster fun x => { x with nextGen := gen, homeDone := [], buddyDone := [], pendRestore := none }
  else (s.modMaster fun x =>
    if buddy then { x with buddyDone := node :: x.buddyDone } else { x with homeDone := node :: x.homeDone }).tryRestore

/-- CKPT_DONE (R366). -/
def execCkptDone (h : NoteHdr) (gen : Nat) (buddy : Bool) (ok : Bool) (s : State) : Host.Outcome State Fault Refusal :=
  whenUp s fun x =>
    if !x.isMaster then x.passUp h 0x0D [gen, b2n buddy, b2n !ok]
    else x.ckptIn h.sender gen buddy ok

/-- SNAP_DONE: the generation is free once every module has reported (R375). -/
def execSnapDone (h : NoteHdr) (id : Nat) (ok : Bool) (s : State) : Host.Outcome State Fault Refusal :=
  whenUp s fun x =>
    if !x.isMaster then x.passUp h 0x11 [id, b2n !ok]
    else match x.caravan.snapshot with
      | some (g, i, left) =>
        let rest := left.filter fun n => decide (n ≠ h.sender)
        if i ≠ id then x
        else x.modCaravan fun c => { c with snapshot := if rest.isEmpty then none else some (g, i, rest) }
      | none => x

/-! Master and standby (R368, R372, R373). -/

/-- HEARTBEAT_SEND (R372). -/
def execHeartbeatSend (s : State) : Host.Outcome State Fault Refusal :=
  whenUp s fun x =>
    match (if x.isMaster then standbyOf x.caravan.map else if x.carRole = 2 then some x.masterId else none) with
    | some n => x.notice 0x0E n (x.heartbeatBody x.beatRestore)
    | none => x

/-- The standby's HEARTBEAT acknowledges what the master has sent it first (R368). -/
def State.standbyAck (s : State) (h : NoteHdr) (restore : Option (Nat × Nat)) : State :=
  let s1 := match s.caravan.master.pendRestore with
    | some (g, t) => if restore = some (g, t) then s.recordRestore g t else s
    | none => s
  let m := s1.caravan.master
  let waits := m.pendMap.isSome || m.pendGo
  if waits && (m.pendMap.isNone || decide ((s1.reg .carMapgen 0).toNat < h.mapGen)) then s1.launch.tryBoundary else s1

/-- A module has acknowledged the map generation in force (R344). -/
def State.mapAcked (s : State) (h : NoteHdr) : State :=
  if decide (h.mapGen = (s.reg .carMapgen 0).toNat) && !s.caravan.master.mapAcks.contains h.sender then
    s.modMaster fun m => { m with mapAcks := h.sender :: m.mapAcks }
  else s

/-- Body of a HEARTBEAT as it is passed on. -/
def heartbeatWords (beat : Nat) (restore : Option (Nat × Nat)) (term : Nat) : List Nat :=
  stepWords beat ++ (match restore with
    | some (g, t) => [1, g] ++ stepWords t
    | none => [0, 0, 0, 0]) ++ [term]

/-- HEARTBEAT (R368, R372). -/
def execHeartbeat (h : NoteHdr) (beat : Nat) (restore : Option (Nat × Nat)) (s : State) :
    Host.Outcome State Fault Refusal :=
  whenUp s fun x => x.fromAbove h fun y =>
    if y.isMaster then
      (if some h.sender = standbyOf y.caravan.master.pendMap.toList.flatten ∨ some h.sender = standbyOf y.caravan.map then
        (y.mapAcked h).standbyAck h restore else y.mapAcked h)
    else if y.carRole = 2 then
      y.modCaravan fun c => { c with masterHeard := beat % 2 ^ 48, masterNode := some h.sender, restore := restore
                                     takingOver := false, takeover := [] }
    else if y.memberNodes.contains h.sender then y.passUp h 0x0E (heartbeatWords beat restore h.term)
    else y

/-- Live heads. -/
def State.heads (s : State) : List Nat := (s.caravan.map.filter fun e => e.isHead && !e.isFailed).map (·.node)

/-- The standby keeps its role and reports the loss of its master (R372). -/
def State.noTakeover (s : State) : State :=
  (s.modCaravan fun c => { c with takingOver := false, takeover := [] }).noticeHost 0x0205 [1]

/-- MASTER_LOSS: the standby asks every head (R372). -/
def execMasterLoss (s : State) : Host.Outcome State Fault Refusal :=
  whenUp s fun x =>
    if x.carRole ≠ 2 then x
    else if x.heads.isEmpty then x.noTakeover
    else (x.modCaravan fun c => { c with takingOver := true, takeover := [] }).notices 0x0F x.heads
      (stepWords x.caravan.masterHeard ++ [0])

/-- The standby becomes master: TERM rises, the old master has failed, a new standby is appointed, and the old master's
stage is substituted (R372). -/
def State.takeOver (s : State) : State :=
  let old := s.masterId
  let keep := match s.caravan.restore with | some (g, _) => g + 1 | none => 0
  let s1 := (s.setReg .carTerm 0 (wrapAdd32 (s.reg .carTerm 0) 1)).setRfld .carStatus 0 28 27 1
  let s2 := s1.modCaravan fun c =>
    { c with takingOver := false, takeover := [], masterNode := some s1.carNode
             master := { Master.init with started := true, nextGen := keep, parts := c.master.parts } }
  let s3 := s2.substitute [old] 0x61
  if (standbyOf (s3.appoint s3.baseMap none)).isNone then s3.noticeHost 0x0205 [0] else s3

/-- Heads' answers decide once more than half have lost the master for 2 ms, or all have answered (R372). -/
def State.weigh (s : State) : State :=
  let n := s.heads.length
  let lost := (s.caravan.takeover.filter fun a => decide (2000 ≤ (s.beat + 2 ^ 48 - a.2) % 2 ^ 48)).length
  if n < 2 * lost then s.takeOver
  else if n ≤ s.caravan.takeover.length then s.noTakeover
  else s

/-- TAKEOVER and its answer (R372). -/
def execTakeover (h : NoteHdr) (answer : Bool) (lastBeat : Nat) (s : State) : Host.Outcome State Fault Refusal :=
  whenUp s fun x => x.fromAbove h fun y =>
    if !answer then y.notice 0x0F h.sender (stepWords y.caravan.masterHeard ++ [1])
    else if y.caravan.takingOver && y.heads.contains h.sender then
      (y.modCaravan fun c =>
        { c with takeover := (c.takeover.filter fun a => decide (a.1 ≠ h.sender)) ++ [(h.sender, lastBeat)] }).weigh
    else y

/-- STANDBY_LOSS: the next candidate becomes standby; without one the host driver hears of it. What waited for the old
standby waits for the new one, or goes on (R368, R373). -/
def State.standbyLost (s : State) : State :=
  match standbyOf s.baseMap with
  | none => s
  | some n =>
    let map := s.appoint s.baseMap (some n)
    let m := s.caravan.master
    let s1 : State := if m.pendMap.isSome || m.pendGo then
        s.propose (some map) (if m.pendGo then m.rollback else none)
      else s.newMap map
    if (standbyOf map).isSome then s1
    else
      let s2 := match m.pendRestore with
        | some (g, t) => s1.recordRestore g t
        | none => s1
      s2.noticeHost 0x0205 [0]

/-- STANDBY_LOSS (R373). -/
def execStandbyLoss (s : State) : Host.Outcome State Fault Refusal :=
  whenUp s fun x => if x.isMaster then x.standbyLost else x

end Sys2Proof.Machine
end

