-- ==== Sys2Proof/Machine/Drains.lean ====
section
/-! DEFINITION. Edge-file swaps (R80), drains and accumulate-on-write (R85 to R97), and the tile prologue (R127). -/
namespace Sys2Proof.Machine

/-! Edge-file swaps. -/

/-- Tiles still ahead at an edge file. -/
def ArrJob.left (j : ArrJob) (f : Nat) : Nat := if f = 0 then j.left0 else j.left1

/-- One tile fewer ahead at an edge file. -/
def ArrJob.pass (j : ArrJob) (f : Nat) : ArrJob :=
  if f = 0 then { j with left0 := j.left0 - 1 } else { j with left1 := j.left1 - 1 }

/-- The activation tile that an edge file feeds to a MATMUL. -/
def actOf (d : List W32) (f : Nat) : Nat :=
  match (usesOf (mTile d) (mMask d)).find? fun u => decide (fileOf (mTile d) (mMask d) u.act = f) with
  | some u => u.act
  | none => 0

/-- The tile that comes into file f's shadow half for the job in hand. -/
def State.nextTile (s : State) (n : Nat) (j : ArrJob) (f : Nat) : Option (SMap Byte) :=
  let d := j.desc
  let rda := s.yard n (s.taskCold j.owner.1 j.owner.2 (df d 4 23 0))
  match dType d with
  | 1 => matmulNext rda d (actOf d f) (j.left f)
  | 2 => j.fusedNext rda f
  | _ => convNext rda d (s.home (j.owner.1 / 16) (df d 4 23 0)) j.chunk f (j.left f) j.more

/-- The swap at a tile boundary inside a sweep: the shadow half, once it holds the job's next tile, becomes active, and the
loader fills the freed half with the tile after it (R79, R80). -/
def State.swapTile (s : State) (n f : Nat) (j : ArrJob) : State :=
  let c := s.core n
  let sh := (c.edge f).shadow
  match s.nextTile n j f with
  | none => s
  | some load =>
    let j1 := j.pass f
    s.setCore n { c.swapIn f (sh.taken load) (s.nextTile n j1 f) with arr := some j1 }

/-- The swap with which the next sweep of a CONV begins (R210). -/
def State.swapConv (s : State) (n f : Nat) (j : ArrJob) : State :=
  if decide (0 < j.more) && (s.core n).halo.all (fun h => decide (h.phase = 3)) &&
    (s.core n).banksReady (convUses j.desc) ((mBank j.desc + (j.chunk + 1) % 2) % 4) then
    s.convBegin n j (j.chunk + 1) 0 (some f)
  else s

/-- The swap with which a FUSED2 takes its next intermediate tile or begins its next chunk (R181). -/
def State.swapFused (s : State) (n f : Nat) (j : ArrJob) : State :=
  let d := j.desc
  let k := j.owner.1
  if j.phase = 1 then
    let nb := fBlocks d (s.home (k / 16) (dDst d))
    if (decide (j.tileNo = 0) || decide (j.block = nb)) && !j.pending.isEmpty then s.fusedTile n f j else s
  else if decide (j.phase = 2) && (s.core n).banksReady (fUses d) (fBank d) then s.fusedFirst n j (j.chunk + 1) 0 (some f)
  else s

/-- An edge file swaps its halves: inside a sweep, or to begin the task's next sweep (R80). -/
def State.edgeSwap (s : State) (n f : Nat) : State :=
  match (s.core n).arr with
  | none => s
  | some j =>
    if 0 < j.left f then s.swapTile n f j
    else if j.left0 = 0 ∧ j.left1 = 0 then
      if dType j.desc = 3 ∧ (convFiles j.desc).contains f then s.swapConv n f j
      else if dType j.desc = 2 ∧ (filesOf (fTile j.desc) (fMask j.desc)).contains f then s.swapFused n f j
      else s
    else s

/-- EDGE_FILE_SWAP (R80). -/
def execEdgeFileSwap (n : Fin 16) (file : Fin 2) (s : State) : Host.Outcome State Fault Refusal :=
  whenUp s fun x => x.edgeSwap n file

/-! Drains. -/

/-- What a drain does with its 65,536 values: a yard write at an offset per element, plain or accumulating, or the
return path (Table 3-4). -/
inductive DrainTo where
  | yard (accumulate : Bool)
  | engine
  deriving DecidableEq, Repr

/-- Destination of a drain of array a's bank of a task (R86, R181). -/
def drainTo (d : List W32) (b tag : Nat) : DrainTo :=
  if dType d = 2 then
    if b = fBank d ∨ fFn d = 0 then .engine else .yard (tag % 2 = 0)
  else if mDrain d = 3 then .engine
  else .yard (mDrain d = 2)

/-- Row and column of DST that element (r, c) of a drained bank fills. -/
def State.drainPlace (s : State) (k : Nat) (d : List W32) (a tag r c : Nat) : Nat × Nat :=
  if dType d = 3 then convPlace d (s.home (k / 16) (df d 4 23 0)) tag a r c
  else if dType d = 2 then
    let p := placeOf (fTile d) (fMask d) a
    (p.1 + r, tag / 2 * fWidth d + p.2 + c)
  else
    let p := placeOf (mTile d) (mMask d) a
    (p.1 + r, p.2 + c)

/-- Yard offset and width of a task's drain region (R171, R181, R210). -/
def State.drainRegion (s : State) (k : Nat) (d : List W32) : Nat × Nat :=
  let dst := s.home (k / 16) (dDst d)
  if dType d = 3 then (mDrainOff d, dst.d0)
  else if dType d = 2 then (fOff d, fBlocks d dst * fWidth d)
  else (mDrainOff d, drainWidth (mTile d) (mMask d))

/-- Bytes of a task's drain region. -/
def State.drainSize (s : State) (k : Nat) (d : List W32) : Nat :=
  let dst := s.home (k / 16) (dDst d)
  if dType d = 3 then 4 * dst.d0 * dst.d1
  else if dType d = 2 then 4 * fRows d * fBlocks d dst * fWidth d
  else 4 * drainRows (mTile d) (mMask d) * drainWidth (mTile d) (mMask d)

/-- Trap element of a drained element (R72, R101). -/
def State.drainElem (s : State) (k : Nat) (d : List W32) (p : Nat × Nat) : Nat :=
  let dst := s.home (k / 16) (dDst d)
  if dType d = 3 then dst.elemIndex p.1 p.2
  else
    let w := if dType d = 2 then wordAt d 14 else wordAt d 10
    dst.elemIndex (fld w 15 0 * 256 + p.1) (fld w 31 16 * 256 + p.2)

/-- The task accumulates into the yard. -/
def accumulates (d : List W32) : Bool :=
  if dType d = 2 then decide (fFn d ≠ 0) else (decide (dType d = 1) || decide (dType d = 3)) && decide (mDrain d = 2)

/-- An earlier task of the queue still accumulates into an overlapping region (R97). -/
def State.accWaits (s : State) (k serial : Nat) (d : List W32) : Bool :=
  let lo := (s.drainRegion k d).1
  let hi := lo + s.drainSize k d
  ((s.queue k).tasks.takeWhile fun t => !decide (t.serial = serial)).any fun t =>
    accumulates t.desc && !t.landed && decide ((s.drainRegion k t.desc).1 < hi) &&
      decide (lo < (s.drainRegion k t.desc).1 + s.drainSize k t.desc)

/-- The 65,536 places of a bank in drain order: increasing rows (R85). -/
def bankCells : List (Nat × Nat) := (List.range 65536).map fun i => (i / 256, i % 256)

/-- Store one drained value: plain, or added to the stored value with one rounding (R87, R95). -/
def drainWord (acc : Bool) (old v : W32) : FRes := if acc then fadd old v else { bits := v }

/-- The place lies inside the drain region: the row blocks that a depthwise group does not have drain nowhere (R170, R213). -/
def State.drainIn (s : State) (k : Nat) (d : List W32) (p : Nat × Nat) : Bool :=
  decide (dType d ≠ 3) || decide (p.1 < (s.home (k / 16) (dDst d)).d1)

/-- A yard drain: every value is stored at its place; the results give counts and traps (R95). -/
def State.drainYard (s : State) (k : Nat) (d : List W32) (a tag : Nat) (acc : Bool) (data : SMap W32) :
    State × List (Nat × FRes) :=
  let n := (s.queue k).lcore
  let g := s.drainRegion k d
  let out := (bankCells.filter fun p => s.drainIn k d (s.drainPlace k d a tag p.1 p.2)).map fun p =>
    let q := s.drainPlace k d a tag p.1 p.2
    let addr := s.yardAddr n (g.1 + tileOff g.2 q.1 q.2 4)
    (addr, s.drainElem k d q, drainWord acc (s.word addr) (mget 0 data (256 * p.1 + p.2)))
  (out.foldl (fun x r => x.putBytes r.1 (leBytes 4 r.2.2.bits.toNat)) s, out.map fun r => (r.2.1, r.2.2))

/-- The free landing buffer that a drain takes (R163). -/
def Core.freeLanding (c : Core) : Option Nat := (List.range 2).find? fun b => !(c.landing b).full

/-- A drain starts once its sweep's last update has landed, its array's one drain path is free, and its destination is free
(R85, R89, R163). -/
def State.drainStart (s : State) (n a b : Nat) : State :=
  let c := s.core n
  let x := c.bank a b
  let k := x.owner.1
  match s.task? k x.owner.2 with
  | none => s
  | some t =>
    let d := t.desc
    if x.use ≠ .landed ∨ (List.range 4).any (fun b' => decide ((c.bank a b').use = .drain)) then s
    else match drainTo d b x.tag with
      | .engine =>
        match c.freeLanding with
        | none => s
        | some lb =>
          s.setCore n ((c.setBank a b { x with use := .drain }).setLanding lb
            { full := true, data := x.data, taken := 0, array := a, owner := x.owner })
      | .yard acc =>
        if s.filling (k / 16) (dDst d) || (acc && s.accWaits k t.serial d) then s
        else
          let r := (s.setCore n (c.setBank a b { x with use := .drain })).drainYard k d a x.tag acc x.data
          let cnt := resCounts (r.2.map fun y => y.2)
          let s1 := r.1.addCounts k t.serial cnt.1 cnt.2.1 cnt.2.2
          match (if t.trap then lowestNan r.2 else none) with
          | some e => s1.nanTrap k t.serial 6 (dDst d) e
          | none => s1

/-- DRAIN (R85). -/
def execDrain (n : Fin 16) (array bank : Fin 4) (s : State) : Host.Outcome State Fault Refusal :=
  whenUp s fun x => x.drainStart n array bank

/-- The drain releases its bank: the descriptor's bit, and always in FUSED2 (R90, R181). -/
def releases (d : List W32) : Bool := decide (dType d = 2) || mRelease d

/-- A drain ends: EMPTY in release mode, HELD in keep mode (R90); sweeps that waited for the bank may begin. -/
def State.drainEnd (s : State) (n a b : Nat) : State :=
  let c := s.core n
  let x := c.bank a b
  let k := x.owner.1
  match s.task? k x.owner.2 with
  | none => s
  | some t =>
    if x.use ≠ .drain then s
    else
      let s1 := s.setCore n (c.setBank a b (if releases t.desc then Bank.init else { x with st := .held, use := .none }))
      (s1.fusedBlocks n).checkLanded k t.serial

/-- DRAIN_END (R90). -/
def execDrainEnd (n : Fin 16) (array bank : Fin 4) (s : State) : Host.Outcome State Fault Refusal :=
  whenUp s fun x => x.drainEnd n array bank

/-! The tile prologue. -/

/-- Files and first tiles of an array task: edge file and its bytes. -/
def State.firstTiles (s : State) (k n : Nat) (d : List W32) : List (Nat × SMap Byte) :=
  let t := k / 16
  let rd := s.yard n (s.cold t (df d 4 23 0))
  match dType d with
  | 1 => (fileActs (mTile d) (mMask d)).map fun p => (p.1, halfOf (tileBytes (mB8 d) (mKt d)) (matmulHalf rd d p.2 0))
  | 2 => (filesOf (fTile d) (fMask d)).map fun f => (f, fusedActTile rd d f 0)
  | _ => (convFiles d).map fun f => (f, convTile rd d (s.home t (df d 4 23 0)) 0 f 0)

/-- The first bricks of a chosen brick MATMUL are read and checked, and the codebooks that it needs start to load (R237,
R240); the first failure is the task's (R241). -/
def State.prologueBricks (s : State) (k index n : Nat) (d : List W32) : State :=
  let rd := s.yard n (s.cold (k / 16) (df d 5 23 0))
  let r := s.portBooks k index n d rd
  match r.2 with
  | some f => r.1.failChosen k index n f
  | none =>
    match (usesOf (mTile d) (mMask d)).findSome? fun u => r.1.brickFail k index n d rd u 0 with
    | some f => r.1.failChosen k index n f
    | none => r.1

/-- The yard offset of an array task's first activation tile. -/
def actOff (d : List W32) : Nat := if dType d = 2 then df d 7 24 0 else df d 6 24 0

/-- The sequencer starts the load of the next array task's first activation tile: the shadow halves are free and the task's
waits are satisfied (R127). The first tile of a CONV with HALO waits for its exchange (R217); the first bricks and the
codebooks of a brick MATMUL load with the tile (R237, R240). -/
def State.prologue (s : State) (k : Nat) : State :=
  let q := s.queue k
  let n := q.lcore
  let d := s.patched k q.next
  let c := s.core n
  let array := decide (dType d = 1) || decide (dType d = 2) || (decide (dType d = 3) && decide (cHalo d = 0))
  let t := k / 16
  if !(array && decide (s.qst k = 2) && !s.queueHeld k && decide (q.next < q.descCount) && q.fence.isNone &&
    s.waitsReady k d && !s.filling t (df d 4 23 0)) then s
  else
    let free := (jobFiles d).all fun f => !(c.edge f).shadow.full && !c.fileBusy f
    if !free || s.yardReadCode t n (df d 4 23 0) (actOff d) 0 ≠ 0 then s
    else
      let tiles := s.firstTiles k n d
      let s1 := s.modCore n fun x => tiles.foldl (fun y p =>
        y.setEdge p.1 { y.edge p.1 with shadow := { EdgeHalf.ofLoader p.2 with chosen := (k, q.next) } }) x
      if decide (dType d = 1) && mBricks d then s1.prologueBricks k q.next n d else s1

/-- TILE_PROLOGUE_LOAD (R127). -/
def execTilePrologueLoad (t : Fin 8) (q : Fin 16) (s : State) : Host.Outcome State Fault Refusal :=
  whenUp s fun x => x.prologue (16 * t.val + q.val)

end Sys2Proof.Machine
end

