-- ==== Sys2Proof/Machine/Grants.lean ====
section
/-! DEFINITION. SHARED_UNIT_GRANT: the end of a grant at a shared unit, its effect, and the next requester (R35 to R39). -/
namespace Sys2Proof.Machine

/-- The effect of a finished grant of unit u: a burst of a mover, a frame of the Kiln, or a segment of a Tunil engine. -/
def State.grantEffect (s : State) (errs : List CwErr) (u : Nat) (r : Req) : State :=
  if u = 0 then s.moverEffect errs r
  else if u = 1 then s.kilnFrame errs r.key
  else if 3 ≤ u then s.sendNext errs (u - 3) r.key
  else s

/-- Requesters of unit u ask again. -/
def State.refreshRequests (s : State) (u : Nat) : State :=
  if u = 0 then s.moverRequests else if u = 1 then s.kilnRequests else if 3 ≤ u then s.tunilRequests else s

/-- A unit ends its grant, if it holds one, and grants its next requester. -/
def State.unitStep (s : State) (u : Nat) (errs : List CwErr) : State :=
  let e := s.endGrant u
  let s1 := match e.2 with
    | some r => e.1.grantEffect errs u r
    | none => e.1
  (s1.refreshRequests u).grantNext u

/-- SHARED_UNIT_GRANT (R35): units 0 movers, 1 Kiln, 2 codec, 3 + g the Tunil engines of port group g. The codec's
grants are its frame admissions (R435). -/
def execSharedUnitGrant (unit : Fin 11) (errs : List CwErr) (s : State) : Host.Outcome State Fault Refusal :=
  whenUp s fun x => if unit.val = 2 then x.unitBoundary 2 else x.unitStep unit errs

end Sys2Proof.Machine
end

