-- ==== Sys2Proof/Machine/Health.lean ====
section
/-! DEFINITION. The monitors: temperature, voltage and process (R499 to R505), power throttling (R41), critical shutdown
(R506, R507), the sideband inputs (R508 to R511, R536) and the 54 V input's warning (R532). Core faults and substitution
(R22, R512 to R517, R545). -/
namespace Sys2Proof.Machine

/-! Events. -/

/-- The monitors sample: the regulators are up and no shutdown has begun. -/
def State.sampling (s : State) : Bool := s.clocked || decide (s.power.phase = .idle)

/-- A command of the monitors. -/
def whenSampling (s : State) (f : State → State) : Host.Outcome State Fault Refusal :=
  .next (if s.sampling then f s else s)

/-- A record of the given kind with interrupt source 193 (Table 21-8); the control processor writes none before a start. -/
def State.monEvent (s : State) (kind : Nat) (what : List Nat) : State :=
  if s.clocked then (s.log kind what).raise 0 193 else s

/-- Causes that a CRITICAL record names (R535, R537). -/
def causeSensor : Nat := 1
def causeRail : Nat := 2
def causeFaultIn : Nat := 4
def causeClock : Nat := 8

/-- Critical shutdown, step 1 and 2: every island clock stops and the CRITICAL record is written (R506). -/
def State.critical (s : State) (cause : Nat) : State :=
  if !s.sampling then s
  else
    let s1 := if s.clocked then s.log 0x0B [cause] else s
    { s1 with power := { s1.power with phase := .shutdown, clocksStopped := true, training := false } }

/-- RAILS_OFF: step 3 of R506. -/
def State.railsOff (s : State) : State :=
  if s.power.phase = .shutdown then
    let s1 : State := { s with power := { s.power with phase := .dark, replaceN := true, pwrgd := false } }
    ((s1.setRfld .monReplace 0 31 31 1).emit (.pin 1 true)).emit (.pin 2 false)
  else s

/-- RAILS_OFF (R506). -/
def execRailsOff (s : State) : Host.Outcome State Fault Refusal := .next s.railsOff

/-! Temperature (R499 to R501, R505). -/

/-- Thresholds of a sensor in 1/16 °C: warn, throttle, critical; none where Table 21-1 has none. -/
def sensorLimits (i : Nat) : Option Int × Option Int × Option Int :=
  if i < 18 then (some 1520, some 1600, some 1760)
  else if i < 26 then (some 1360, some 1520, some 1680)
  else if i < 30 then (some 1520, some 1600, some 1760)
  else if i = 30 then (some 720, none, none)
  else (some 1680, none, some 2000)

/-- The threshold of a level. -/
def limitOf (i l : Nat) : Option Int :=
  let t := sensorLimits i
  match l with
  | 1 => t.1
  | 2 => t.2.1
  | 3 => t.2.2
  | _ => none

/-- A reading has reached the threshold of a level. -/
def reaches (i l : Nat) (r : Int) : Bool := match limitOf i l with | some x => decide (x ≤ r) | none => false

/-- A reading keeps a level that was reached: it is less than 3 °C below the threshold (R500). -/
def keeps (i l : Nat) (r : Int) : Bool := match limitOf i l with | some x => decide (x - 48 < r) | none => false

/-- Level of a sensor after a reading (R500). -/
def nextLevel (i old : Nat) (r : Int) : Nat :=
  let ok (l : Nat) : Bool := reaches i l r || (decide (l ≤ old) && keeps i l r)
  if ok 3 then 3 else if ok 2 then 2 else if ok 1 then 1 else 0

/-- A sensor is FAILED. -/
def State.tempFailed (s : State) (i : Nat) : Bool := bit (s.reg .monTemp i) 29

/-- Reading that MON_TEMP holds, in 1/16 °C. -/
def State.reading (s : State) (i : Nat) : Int := (BitVec.ofNat 16 (s.rfld .monTemp i 15 0)).toInt

/-- HOTREF of a stack (R261, R505). -/
def State.setHotref (s : State) (stack : Nat) (hot : Bool) : State := s.setRfld .memStatus 0 (16 + stack) (16 + stack) (b2n hot)

/-- One reading of a sensor that works: its level, a rise to warn or throttle, the stack's refresh rate (R261, R500). -/
def State.sampleTemp (s : State) (i : Nat) (r : Int) : State :=
  if s.tempFailed i then s
  else
    let old := s.rfld .monTemp i 31 30
    let new := nextLevel i old r
    let s1 := (s.setRfld .monTemp i 15 0 ((BitVec.ofInt 16 r).toNat)).setRfld .monTemp i 31 30 new
    let s2 : State := { s1 with mon := { s1.mon with
      hot := mset 0 s1.mon.hot i (if reaches i 3 r then mget 0 s1.mon.hot i + 1 else 0) } }
    let s3 := if 18 ≤ i ∧ i < 26 then s2.setHotref (i - 18) (decide (1360 < r)) else s2
    if old < new then s3.monEvent 2 [i, new] else s3

/-- A sample of the sensors: three critical ones in a row stop the module (R499, R506). -/
def State.sampleTemps (s : State) (readings : List (Fin 32 × Int)) : State :=
  let s1 := readings.foldl (fun x p => x.sampleTemp p.1 p.2) s
  if (List.range 32).any fun i => decide (3 ≤ mget 0 s1.mon.hot i) then s1.critical causeSensor else s1

/-- SENSOR_SAMPLE (R499). -/
def execSensorSample (readings : List (Fin 32 × Int)) (s : State) : Host.Outcome State Fault Refusal :=
  whenSampling s fun x => x.sampleTemps readings

/-! Clock steps (R41, R501, R502, R504). -/

/-- The smallest step rules (R504). -/
def State.showStep (s : State) (i : Nat) : State :=
  let w := s.reg .monClkstep i
  s.setRfld .monClkstep i 28 24 (Nat.min (fld w 20 16) (Nat.min (fld w 12 8) (fld w 4 0)))
def State.setTherm (s : State) (i v : Nat) : State := (s.setRfld .monClkstep i 20 16 v).showStep i
def State.setVoltStep (s : State) (i v : Nat) : State := (s.setRfld .monClkstep i 12 8 v).showStep i
def State.setPowerStep (s : State) (i v : Nat) : State := (s.setRfld .monClkstep i 4 0 v).showStep i
def State.therm (s : State) (i : Nat) : Nat := s.rfld .monClkstep i 20 16
def State.voltStep (s : State) (i : Nat) : Nat := s.rfld .monClkstep i 12 8
def State.powerStep (s : State) (i : Nat) : Nat := s.rfld .monClkstep i 4 0

/-- Sensor that governs an island (Tables 21-1 and R525). -/
def sensorOf (i : Nat) : Nat :=
  if i < 26 then i else if 35 ≤ i ∧ i ≤ 38 then 26 else if 39 ≤ i ∧ i ≤ 42 then 27 else if i ≤ 34 ∨ i = 43 then 28 else 29

/-- The reading that governs an island, and whether it is at the throttle level: a FAILED hub sensor passes its islands to
the highest other hub reading plus 5 °C; a FAILED core or stack sensor governs nothing (R505). -/
def State.governing (s : State) (i : Nat) : Option (Int × Bool) :=
  let x := sensorOf i
  if !s.tempFailed x then some (s.reading x, decide (2 ≤ s.rfld .monTemp x 31 30))
  else if x < 26 then none
  else match ([26, 27, 28, 29].filter fun j => !s.tempFailed j).map s.reading with
    | [] => none
    | r :: t =>
      let m := t.foldl max r + 80
      some (m, reaches x 2 m)

/-- Highest THERM of an island: a stack without its sensor holds its controller at 12 (R505). -/
def State.thermCap (s : State) (i : Nat) : Nat := if decide (18 ≤ i) && decide (i < 26) && s.tempFailed i then 12 else 16

/-- THERM_STEP_DOWN (R501). -/
def State.thermDown (s : State) (i : Nat) : State :=
  match s.governing i with
  | some (_, true) => if 4 < s.therm i then (s.setTherm i (s.therm i - 1)).countWrap .monThrcnt 0 1 else s
  | _ => s

def execThermStepDown (island : Fin 49) (s : State) : Host.Outcome State Fault Refusal :=
  whenSampling s fun x => x.thermDown island

/-- THERM_STEP_UP: more than 3 °C below the throttle threshold; not while FAULT_IN_N holds every island at 4 (R501,
R511). -/
def State.thermUp (s : State) (i : Nat) : State :=
  let cool := match s.governing i with
    | some (r, _) => (match limitOf (sensorOf i) 2 with | some x => decide (r < x - 48) | none => false)
    | none => true
  if !s.mon.forced && cool && decide (s.therm i < s.thermCap i) then s.setTherm i (s.therm i + 1) else s

def execThermStepUp (island : Fin 49) (s : State) : Host.Outcome State Fault Refusal :=
  whenSampling s fun x => x.thermUp island

/-- Nominal level of an island's rail in mV (Table 22-6). -/
def railMv (i : Nat) : Nat := if i = 26 ∨ i = 44 ∨ (35 ≤ i ∧ i ≤ 42) then 800 else 750

/-- A rail's deviation from nominal: outside p percent, below p percent. -/
def railOutside (i mv p : Nat) : Bool := decide (mv * 100 < railMv i * (100 - p)) || decide (railMv i * (100 + p) < mv * 100)
def railBelow (i mv p : Nat) : Bool := decide (mv * 100 < railMv i * (100 - p))

/-- Level of a rail after a sample; critical only after 100 µs (RAIL_CRITICAL), and while the rail stays there (R502). -/
def railLevel (i old mv : Nat) : Nat :=
  if decide (old = 3) && railOutside i mv 8 then 3 else if railBelow i mv 5 then 2 else if railOutside i mv 3 then 1 else 0

def State.mv (s : State) (i : Nat) : Nat := s.rfld .monVolt i 15 0

/-- One rail is sampled (R502). -/
def State.sampleVolt (s : State) (i mv : Nat) : State :=
  let old := s.rfld .monVolt i 31 30
  let new := railLevel i old mv
  let s1 := (s.setRfld .monVolt i 15 0 mv).setRfld .monVolt i 31 30 new
  if old < new then s1.monEvent 2 [256 + i, new] else s1

/-- VOLTAGE_SAMPLE (R502). -/
def execVoltageSample (readings : List (Fin 49 × Nat)) (s : State) : Host.Outcome State Fault Refusal :=
  whenSampling s fun x => readings.foldl (fun y p => y.sampleVolt p.1 p.2) x

/-- VOLT_STEP_DOWN: while the rail is below −5 % (R502). -/
def State.voltDown (s : State) (i : Nat) : State :=
  if railBelow i (s.mv i) 5 && decide (4 < s.voltStep i) then
    (s.setVoltStep i (s.voltStep i - 1)).countWrap .monVthrcnt 0 1
  else s

def execVoltStepDown (island : Fin 49) (s : State) : Host.Outcome State Fault Refusal :=
  whenSampling s fun x => x.voltDown island

/-- VOLT_STEP_UP: the rail stays above −3 % (R502). -/
def State.voltUp (s : State) (i : Nat) : State :=
  if decide (railMv i * 97 < s.mv i * 100) && decide (s.voltStep i < 16) then s.setVoltStep i (s.voltStep i + 1) else s

def execVoltStepUp (island : Fin 49) (s : State) : Host.Outcome State Fault Refusal :=
  whenSampling s fun x => x.voltUp island

/-- PROCESS_MONITOR_READ: a speed below −5 % is at warn and logged; it throttles nothing (R503). -/
def State.readProcess (s : State) (i v : Nat) : State :=
  let was := decide (s.rfld .monProc i 15 0 < 3891)
  let s1 := s.setRfld .monProc i 15 0 v
  if decide (s1.rfld .monProc i 15 0 < 3891) && !was then s1.monEvent 2 [512 + i, 1] else s1

def execProcessMonitorRead (speeds : List (Fin 49 × Nat)) (s : State) : Host.Outcome State Fault Refusal :=
  whenSampling s fun x => speeds.foldl (fun y p => y.readProcess p.1 p.2) x

/-- Physical cores that hold a position whose tenant keeps them active (R31, R41). -/
def State.activeCores (s : State) : List Nat :=
  (List.range 16).filterMap fun n => if (s.cfg.coreTenant n).isSome then s.phys n else none

/-- The array clocks of the active cores move by one step, within 4 and 16; a step is counted once (R41, R504). -/
def State.powerMove (s : State) (down : Bool) : State :=
  let l := s.activeCores.filter fun c => if down then decide (4 < s.powerStep c) else decide (s.powerStep c < 16)
  if l.isEmpty then s
  else (l.foldl (fun x c => x.setPowerStep c (if down then x.powerStep c - 1 else x.powerStep c + 1)) s).countWrap .monPwrthr 0 1

/-- POWER_THROTTLE (R41). -/
def execPowerThrottle (s : State) : Host.Outcome State Fault Refusal := whenUp s fun x => x.powerMove true
/-- POWER_UNTHROTTLE (R41). -/
def execPowerUnthrottle (s : State) : Host.Outcome State Fault Refusal := whenUp s fun x => x.powerMove false

/-- INPUT_VOLTAGE_WARN: 58 V to 60 V, or 44 V to 46 V after start (R532). -/
def execInputVoltageWarn (mv : Nat) (s : State) : Host.Outcome State Fault Refusal :=
  whenClocked s fun x =>
    if (decide (58000 < mv) && decide (mv ≤ 60000)) || (decide (44000 ≤ mv) && decide (mv < 46000)) then x.monEvent 2 [65536, mv]
    else x

/-! Sideband inputs. -/

/-- Bits of MON_SBSTAT of an input: STUCK, CHATTER, LEVEL. -/
def sbStuck (sync : Bool) : Nat := if sync then 15 else 31
def sbChat (sync : Bool) : Nat := if sync then 14 else 30
def sbLevel (sync : Bool) : Nat := if sync then 13 else 29
def State.side (s : State) (sync : Bool) : Sideband := if sync then s.mon.sync else s.mon.fault
def State.modSide (s : State) (sync : Bool) (f : Sideband → Sideband) : State :=
  if sync then { s with mon := { s.mon with sync := f s.mon.sync } } else { s with mon := { s.mon with fault := f s.mon.fault } }
def State.setSb01 (s : State) (b v : Nat) : State := s.setRfld .monSbstat 0 b b v

/-- A qualified assertion less than 100 µs after the last one acted on (R510). -/
def State.chatter (s : State) (sync : Bool) : State :=
  let sec := s.clock.since / 1000000000
  let s1 := (s.setSb01 (sbChat sync) 1).countWrap .monSbrate 0 1
  if (s1.side sync).chatSecond = some sec then s1
  else (s1.modSide sync fun x => { x with chatSecond := some sec }).monEvent 0x0A [b2n sync, 1]

/-- An assertion qualifies: it is acted on once, as chatter or by its action (R508 to R510). -/
def State.assertSide (s : State) (sync : Bool) (act : State → State) : State :=
  if bit (s.reg .monSbstat 0) (sbLevel sync) then s
  else
    let s1 := s.setSb01 (sbLevel sync) 1
    let soon := match (s1.side sync).lastActed with
      | some t => decide (s1.clock.since - t < 100000)
      | none => false
    if soon then s1.chatter sync
    else act (s1.modSide sync fun x => { x with lastActed := some s1.clock.since })

/-- What FAULT_IN_N does, by FAULTACT (R511). -/
def State.faultIn (s : State) : State :=
  let s1 := s.monEvent 0x0A [0, 0]
  match s.rfld .monSbcfg 0 1 0 with
  | 1 =>
    let s2 := (List.range 49).foldl (fun x i => x.setTherm i 4) s1
    { s2 with mon := { s2.mon with forced := true } }
  | 2 => s1.critical causeFaultIn
  | _ => s1

/-- FAULT_IN_ASSERT (R511). -/
def execFaultInAssert (s : State) : Host.Outcome State Fault Refusal :=
  whenSampling s fun x => x.assertSide false State.faultIn

/-- The beat is captured (R511, R536). -/
def State.syncCapture (s : State) : State :=
  let n := (s.rfld .monSynccap1 0 31 16 + 1) % 65536
  (s.setReg .monSynccap0 0 (BitVec.ofNat 32 s.beat)).setReg .monSynccap1 0 (BitVec.ofNat 32 (n * 65536 + s.beat / 2 ^ 32 % 65536))

/-- STEP_SYNC_CAPTURE (R536). -/
def execStepSyncCapture (s : State) : Host.Outcome State Fault Refusal :=
  whenSampling s fun x => x.assertSide true State.syncCapture

/-- A deassertion qualifies: the level falls, the input may act again, and THERM is released (R508, R509, R511). -/
def State.deassertSide (s : State) (sync : Bool) : State :=
  let s1 := (s.setSb01 (sbLevel sync) 0).modSide sync fun x => { x with held := false }
  if sync then s1 else { s1 with mon := { s1.mon with forced := false } }

/-- SIDEBAND_DEASSERT (R508). -/
def execSidebandDeassert (syncInput : Bool) (s : State) : Host.Outcome State Fault Refusal :=
  whenSampling s fun x => x.deassertSide syncInput

/-- An assertion has stayed qualified for 100 ms (R509). -/
def State.stuckSide (s : State) (sync : Bool) : State :=
  if bit (s.reg .monSbstat 0) (sbLevel sync) && !(s.side sync).held then
    ((s.setSb01 (sbStuck sync) 1).modSide sync fun x => { x with held := true }).monEvent 0x0A [b2n sync, 2]
  else s

/-- SIDEBAND_STUCK (R509). -/
def execSidebandStuck (syncInput : Bool) (s : State) : Host.Outcome State Fault Refusal :=
  whenSampling s fun x => x.stuckSide syncInput

/-- SIDEBAND_GLITCH: a shorter pulse is ignored and counted (R508). -/
def execSidebandGlitch (s : State) : Host.Outcome State Fault Refusal :=
  whenSampling s fun x => x.countWrap .monSbglitch 0 1

/-! Core faults. -/

/-- Die of a physical core, its spare, and the die of a logical core. -/
def dieOf (c : Nat) : Nat := c / 9
def spareOf (die : Nat) : Nat := 9 * die + 8
/-- Logical core on a physical one. -/
def State.logical (s : State) (c : Nat) : Option Nat := (List.range 16).find? fun n => decide (s.phys n = some c)
/-- The spare of a die can still take a position. -/
def State.spareLeft (s : State) (die : Nat) : Bool := !s.mon.dead.contains (spareOf die) && (s.logical (spareOf die)).isNone

/-- A core is recorded as failed (R513, R516). -/
def State.recordCore (s : State) (n c what : Nat) : State :=
  let s1 := s.log 6 [n, c, what]
  { s1 with mon := { s1.mon with dead := if s1.mon.dead.contains c then s1.mon.dead else s1.mon.dead ++ [c] } }

/-- A field of MON_SUBST for a die. -/
def State.setDie (s : State) (die hi lo v : Nat) : State := s.setRfld .monSubst 0 (8 * die + hi) (8 * die + lo) v

/-- Yard homes on a core are lost: a MOVE from or to its yard before the switch aborts with 0x50, and every home there is
VOID (R515, R545, Table 11-5). -/
def State.loseYard (s : State) (n : Nat) : State :=
  let here (x : State) (m : MoveRec) : Bool :=
    let e := x.home m.tenant m.handle
    (decide (e.kind = 0) && decide (e.lcore = n)) || (decide (m.dkind = 0) && decide (m.dcore = n))
  let s1 := (s.moves.filter fun m => !m.switched && here s m).foldl
    (fun x m => x.abortTask (16 * m.tenant + m.queue) m.task 0x50) s
  (s1.homes.filter fun p => decide (p.2.kind = 0) && decide (p.2.lcore = n) && !decide (p.2.st = stFree)).foldl
    (fun x p => x.setSt (p.1 / 2 ^ 24) (p.1 % 2 ^ 24) stVoid) s1

/-- The switched MOVEs of a queue whose core fails: a local one completes, since no reader on the core holds its old home; one
to a peer goes on to its commit without its task (R545). -/
def State.settleMoves (s : State) (k : Nat) : State :=
  (s.moves.filter fun m => decide (m.tenant * 16 + m.queue = k) && m.switched).foldl (fun x m =>
    if m.dkind = 3 then x.setMove { m with detached := true }
    else
      let y : State := { x with moves := x.moves.filter fun z => !(decide (z.tenant = m.tenant) && decide (z.task = m.task)) }
      (y.genUpdate m.tenant m.handle m.gen fun z =>
        if (z.home m.tenant m.handle).st = stMoving then z.setSt m.tenant m.handle stValid else z).completeTask k m.task) s

/-- R22: the logical core is left unmapped, the manifests of its tenant stop, and the module asks to be replaced. -/
def State.unmapCore (s : State) (n c : Nat) : State :=
  let die := n / 8
  let s1 := (s.recordCore n c 2).setDie die 6 6 1
  let s2 := if bit (s1.reg .monSubst 0) (8 * die + 7) then s1 else s1.setDie die 4 0 c
  let s3 := match s2.cfg.coreTenant n with
    | none => s2
    | some t => (queuesOf t).foldl (fun x k =>
        let y := (x.settleMoves k).abortAll k 0x50
        if y.qst k = 2 then y.enter k 3 else y) s2
  let s4 := s3.loseYard n
  ({ s4 with coreMap := mset 0 s4.coreMap n 0 }).replaceReason 3

/-- Oldest task in flight of each queue on a core that has one. -/
def State.oldest (s : State) (n : Nat) : List (Nat × Nat) :=
  (s.queuesOn n).filterMap fun k => ((s.queue k).tasks.head?).map fun t => (k, t.index)

/-- A substitution of a core of the die is in progress. -/
def State.dieBusy (s : State) (die : Nat) : Bool := s.mon.subst.any fun e => decide (e.1 = die)

/-- A core fault of a physical core in a position: its sequencer stops, its tasks abort with 0x50, and firmware decides
(R512, R513 steps 1 and 2). A fault during the substitution on the same die waits for its end (R517). -/
def State.coreFault (s : State) (c : Nat) : State :=
  match s.logical c with
  | none => s
  | some n =>
    if s.mon.subst.any fun e => decide (e.2.1 = n) then s
    else
      let die := dieOf c
      let old := s.oldest n
      let s1 := s.modCore n fun x => { x with stopped := true }
      let s2 := (s1.queuesOn n).foldl (fun x k => (x.settleMoves k).abortAll k 0x50) s1
      let s3 : State := { s2 with mon := { s2.mon with subst := s2.mon.subst ++ [(die, n, c, old)] } }
      if s.dieBusy die then s3
      else if s3.spareLeft die then s3.recordCore n c 0
      else
        let s4 : State := { s3 with mon := { s3.mon with subst := s3.mon.subst.filter fun e => !decide (e.2.1 = n) } }
        s4.unmapCore n c

/-- A core that runs nothing, because no tenant owns it, shows none of the faults of running logic (R31, R512). -/
def State.faultKind (s : State) (c : Nat) (kind : CoreFaultKind) : State :=
  let idle := match s.logical c with
    | some n => (s.cfg.coreTenant n).isNone
    | none => true
  match kind with
  | .sensor => s.coreFault c
  | .rail => s.coreFault c
  | _ => if idle then s else s.coreFault c

/-- CORE_FAULT (R512, R513). -/
def execCoreFault (core : Fin 18) (kind : CoreFaultKind) (s : State) : Host.Outcome State Fault Refusal :=
  whenClocked s fun x => x.faultKind core kind

/-- MORTAR_LINK_FAILED: the link is held failed, and the core at its receiving end has a core fault (R221, R512). -/
def execMortarLinkFailed (n : Fin 16) (link : Fin 4) (s : State) : Host.Outcome State Fault Refusal :=
  whenUp s fun x =>
    let y := x.linkFailed n link
    if (meshPartner n link).isSome then (match y.phys n with | some c => y.coreFault c | none => y) else y

/-- Consequences of a FAILED sensor that firmware takes: a core fault, doubled refresh, or a record (R505). -/
def State.sensorLost (s : State) (i : Nat) : State :=
  if i < 18 then s.coreFault i
  else if i < 26 then s.setHotref (i - 18) true
  else if 30 ≤ i then s.log 2 [i, 4]
  else s

/-- A sensor is FAILED: a stack's controller is held at THERM 12 (R505). -/
def State.failSensor (s : State) (i : Nat) : State :=
  if s.tempFailed i then s
  else
    let s1 := s.setRfld .monTemp i 29 29 1
    let s2 := if 18 ≤ i ∧ i < 26 then s1.setTherm i (if s1.mon.forced then 4 else 12) else s1
    if s2.clocked then s2.sensorLost i
    else { s2 with mon := { s2.mon with selfFail := s2.mon.selfFail ++ [i] } }

/-- SENSOR_FAILED: no reading for 1 ms (R505). -/
def execSensorFailed (sensor : Fin 32) (s : State) : Host.Outcome State Fault Refusal :=
  whenSampling s fun x => x.failSensor sensor

/-- RAIL_CRITICAL: outside ±8 % for 100 µs; a core fault on a core island, critical shutdown on any other rail (R502,
R533). -/
def State.railCritical (s : State) (island : Option Nat) : State :=
  match island with
  | none => s.critical causeRail
  | some i =>
    let s1 := s.setRfld .monVolt i 31 30 3
    if i < 18 then (if s1.clocked then s1.coreFault i else s1) else s1.critical causeRail

/-- RAIL_CRITICAL (R502). -/
def execRailCritical (island : Option (Fin 49)) (s : State) : Host.Outcome State Fault Refusal :=
  whenSampling s fun x => x.railCritical (island.map (·.val))

/-! Substitution (R513 steps 3 to 7). -/

/-- Counters and records of a core block. -/
def coreCounters : List Reg :=
  [.coreNumsat, .coreNumflush, .coreNumnan, .coreNantrap0, .coreNantrap1, .coreNantrap2, .coreNantrap3, .coreArrissue,
   .coreStalledge, .coreStallopnd, .coreStallbank, .coreRestovr, .coreVecissue, .coreStallland, .coreMhalowait, .coreMreplay,
   .coreMtxbytes, .coreStallcb, .coreBrkfault0, .coreBrkfault1]

/-- The new core of a position: HELD banks VOID, codebook banks empty, its other logic idle; its links work (R88, R221,
R239, R515). -/
def Core.substituted (c : Core) : Core :=
  { Core.init with
    banks := mmap Bank.init c.banks fun _ b => { Bank.init with st := if b.st = .empty then .empty else .void }
    cbdirWritten := c.cbdirWritten }

/-- A queue reloaded from its image: HALTED, to restart at the oldest task aborted; an image that no longer passes the loader
is REJECTED (R104, R513 step 6). -/
def State.reloadHalted (s : State) (k : Nat) (old : List (Nat × Nat)) : State :=
  let q := s.queue k
  let from1 := match old.find? fun p => decide (p.1 = k) with
    | some p => p.2
    | none => q.next
  let x := s.takeImage q.imgAddr q.imgLen
  let fresh : Queue := { Queue.init with lcore := q.lcore, img := x.2.1, imgBad := !x.2.2, imgAddr := q.imgAddr
                                         imgLen := q.imgLen, loading := true }
  let s1 := (x.1.setQueue k fresh).clearSb k
  let s2 := s1.loadDone k
  if s2.qst k = 5 then s2 else (s2.setQst k 3).hwFld .queCtrl k 31 16 from1

/-- Steps 4 to 7 for a spare that has passed its self-test. -/
def State.giveSpare (s : State) (die n c : Nat) (old : List (Nat × Nat)) (answers : Bool) : State :=
  let s1 : State := { s with coreMap := mset 0 s.coreMap n (spareOf die + 1) }
  let s2 := (s1.setDie die 7 7 1).setDie die 4 0 c
  let s3 := if answers then s2 else (s2.resetRegs coreCounters n 1).setRfld .monSubst 0 31 31 1
  let s4 := (s3.loseYard n).modCore n Core.substituted
  let ks := (s4.queuesOn n).filter fun k => decide (0 < (s4.queue k).imgLen) && decide (0 < s4.qst k) && decide (s4.qst k < 5)
  (ks.foldl (fun x k => x.reloadHalted k old) s4).replaceReason 1

/-- The tenant resets that waited run; one reset serves all that ask for it (R498, R517). -/
def State.runWaits (s : State) : State :=
  let ready := s.mon.waiting.filter fun w => !s.substituting w.tenant
  let s1 : State := { s with mon := { s.mon with waiting := s.mon.waiting.filter fun w => s.substituting w.tenant } }
  let rolls := ready.filterMap (·.rollback)
  let s2 := rolls.foldl State.rollbackIn s1
  let done := (ready.filter fun w => w.rollback.isSome).map (·.tenant)
  let plain := ((ready.map (·.tenant)).eraseDups).filter fun t => !done.contains t
  let s3 := plain.foldl State.tenantReset s2
  (ready.filterMap (·.mailbox)).foldl (fun x m => if (x.svc m).active then x.endSvc m 0x0000 else x) s3

/-- The substitution under way on a die ends; later faults of the die then follow under R22 (R513, R517). -/
def State.substitution (s : State) (die : Nat) (selfTestOk islandAnswers : Bool) : State :=
  match s.mon.subst.find? fun e => decide (e.1 = die) with
  | none => s
  | some (_, n, c, old) =>
    let s1 := if selfTestOk then s.giveSpare die n c old islandAnswers
      else (s.recordCore n (spareOf die) 1).unmapCore n c
    let more := (s1.mon.subst.filter fun e => decide (e.1 = die)).drop 1
    let s2 : State := { s1 with mon := { s1.mon with subst := s1.mon.subst.filter fun e => !decide (e.1 = die) } }
    (more.foldl (fun x e => x.unmapCore e.2.1 e.2.2.1) s2).runWaits

/-- CORE_SUBSTITUTION (R513). -/
def execCoreSubstitution (die : Fin 2) (selfTestOk islandAnswers : Bool) (s : State) : Host.Outcome State Fault Refusal :=
  whenClocked s fun x => x.substitution die selfTestOk islandAnswers

end Sys2Proof.Machine
end

