-- ==== Sys2Proof/Machine/Hostregs.lean ====
section
/-! DEFINITION. Register writes by address, crossings, latching reads, the lock, hidden parity and its repair, and PCIe
configuration requests (R376, R443, R449, R464 to R478, R485). -/
namespace Sys2Proof.Machine

/-! Addresses of BAR2 outside the mailbox pages (Tables 18-3 and 18-4). -/

/-- The register that a doorbell names for function f, when its tenant holds the queue or context open (R443). -/
def State.doorbell (s : State) (f off : Nat) : Option (Reg × Nat) :=
  let i := off % 4096 / 4
  match s.cfg.funcTenant f with
  | none => none
  | some t =>
    if off % 4 ≠ 0 ∨ s.power.phase = .recovery then none
    else if i < 16 then (if s.qOpen (16 * t + i) then some (.queRingtail, 16 * t + i) else none)
    else if i < 32 then (if (s.kq (16 * t + (i - 16))).isOpen then some (.klnQtail, 16 * t + (i - 16)) else none)
    else if 256 ≤ i ∧ i < 512 then (if s.decTenant (i - 256) = some t then some (.cdcDtail, i - 256) else none)
    else if 512 ≤ i ∧ i < 576 then (if s.encTenant (i - 512) = some t then some (.cdcEtail, i - 512) else none)
    else none

/-- The register that a write of function f reaches. -/
def State.target (s : State) (f : Nat) (bar2 : Bool) (off : Nat) : Option (Reg × Nat) :=
  if bar2 && decide (0x40000 ≤ off) && decide (off < 0x41000) then s.doorbell f off else s.regOf f bar2 off

/-- The vector whose MSI-X table entry holds an offset of BAR2. -/
def vectorAt (f off : Nat) : Option Nat :=
  if 0x80000 ≤ off ∧ off < 0x80000 + 16 * vectorsOf f then some ((off - 0x80000) / 16) else none

/-- A write into the MSI-X table: word 3 of an entry holds its mask bit (R449). -/
def State.writeVector (s : State) (f v off : Nat) (value : W32) : State :=
  if off % 16 ≠ 12 then s
  else if bit value 0 then { s with host := { s.host with unmasked := mset false s.host.unmasked (256 * f + v) false } }
  else s.unmask f v

/-! Writes. -/

/-- EN goes from 0 to 1. -/
def rises (old new : W32) : Bool := bit new 31 && !bit old 31

/-- What a landed write of a register does beyond its value. -/
def State.afterWrite (s : State) (r : Reg) (i : Nat) (old : W32) : State :=
  match r with
  | .queCtrl => s.afterQueCtrl i
  | .thCmd => s.afterThCmd i
  | .portCtrl => s.afterPortCtrl i (bit old 30)
  | .cdcDrelease => s.freePics i
  | .coreCbdir => if (s.cfg.coreTenant i).isSome then s.modCore i fun c => { c with cbdirWritten := true } else s
  | .portFinj => if rises old (s.reg .portFinj i) then s.modPort i fun p => { p with injNo := 0 } else s
  | .tunFinj => { s with tunil := { s.tunil with injNo := 0 } }
  | .queRingtail => if s.reg .queRingtail i = old then s else s.modQueue i fun q => { q with ringFull := false }
  | .hubLock => { s with power := { s.power with lockWritten := true } }
  | _ => s

/-- A whole write of a register by a function. -/
def State.writeReg (s : State) (f : Nat) (r : Reg) (i : Nat) (v : W32) : State :=
  match r with
  | .klnQtail => s.kilnTail f i v
  | .cdcDtail => s.decTail f i v
  | .cdcEtail => s.encTail f i v
  | .mbxLock => s.lockWrite f i v
  | .mbxPost => let w := s.write f .mbxPost i true v
    if w.2 then w.1.postNotice f i v else w.1
  | .mbxAck => let w := s.write f .mbxAck i true v
    if w.2 && decide (w.1.boxSt i = 1) then w.1.endNotice i 3 (fld v 15 0) else w.1
  | _ => let w := s.write f r i true v
    if w.2 then w.1.afterWrite r i (s.reg r i) else w.1

/-- A write at an offset (R473). -/
def State.hostWriteAt (s : State) (f : Nat) (bar2 : Bool) (off : Nat) (allBytes : Bool) (v : W32) : State :=
  match s.target f bar2 off with
  | some (r, i) => if allBytes then s.writeReg f r i v else (s.write f r i false v).1
  | none =>
    match (if bar2 then vectorAt f off else none) with
    | some n => s.writeVector f n off v
    | none =>
      if bar2 && decide (0x84000 ≤ off) && decide (off < 0x84020) then s
      else s.regError 1 (b2n bar2) f off true

/-- REGISTER_WRITE (R465, R473). -/
def execRegisterWrite (f : Fin 9) (bar2 : Bool) (offset : Nat) (allBytes : Bool) (value : W32) (s : State) :
    Host.Outcome State Fault Refusal := whenServed s fun x => x.hostWriteAt f bar2 offset allBytes value

/-- A register lies in the endpoint's island: hub, host blocks, mailbox pages (R474), the first sub-block of a tenant and
the registers of a CLOSED queue (Table 19-7). -/
def State.inEndpoint (s : State) (r : Reg) (i : Nat) : Bool :=
  let (typ, inst, off, _) := regPlace r i
  decide (typ ≤ 2) || (decide (typ = 8) &&
    ((decide (0x100 ≤ off) && decide (off < 0x200)) ||
      (decide (0x1000 ≤ off) && decide (off < 0x2000) && decide (s.qst (16 * inst + (off - 0x1000) / 0x100) = 0))))

/-- An access that does not cross in time (R474). -/
def State.crossing (s : State) (f off : Nat) (write : Bool) : State :=
  match s.regOf f false off with
  | none => if write then s.regError 1 0 f off true else (s.regError 0 0 f off false).emit (.unsupported f)
  | some (r, i) =>
    if s.inEndpoint r i then s
    else if write then s.regError 6 0 f off false
    else (s.regError 6 0 f off true).emit (.completerAbort f)

/-- REGISTER_CROSSING_TIMEOUT (R474). -/
def execRegisterCrossingTimeout (f : Fin 9) (offset : Nat) (write : Bool) (s : State) :
    Host.Outcome State Fault Refusal := whenServed s fun x => x.crossing f offset write

/-- A read of CAR_STEP0 or CAR_BEAT0 latches the high register (R376). -/
def State.latchRead (s : State) (f : Nat) (beat : Bool) : State :=
  let r : Reg := if beat then .carBeat0 else .carStep0
  if !s.inView f r 0 then (s.regError 0 0 f (offsetFor f r 0) false).emit (.unsupported f)
  else if beat then
    { s with host := { s.host with latchBeat := some (BitVec.ofNat 32 (s.beat / 2 ^ 32)) } }.emit (.reply f (s.readReg r 0))
  else { s with host := { s.host with latchStep := some (s.reg .carStep1 0) } }.emit (.reply f (s.readReg r 0))

/-- LATCHING_READ (R376). -/
def execLatchingRead (f : Fin 9) (beat : Bool) (s : State) : Host.Outcome State Fault Refusal :=
  whenServed s fun x => x.latchRead f beat

/-- HUB_LOCK_WRITE (R472). -/
def execHubLockWrite (f : Fin 9) (value : W32) (s : State) : Host.Outcome State Fault Refusal :=
  whenServed s fun x => x.writeReg f .hubLock 0 value

/-! Hidden parity. -/

/-- A copy that carries parity: a configuration register that exists, the staged copy only where there is one (R476). -/
def Flip.counts (x : Flip) : Bool :=
  let r := (runkey x.key).1
  decide (rkey r (runkey x.key).2 = x.key) && r.isConfig && decide ((runkey x.key).2 < regCount r) && (!x.staged || r.isRwb)

/-- A second flip of the same copy hides the first: parity finds odd numbers alone (R476). -/
def flipIn (l : List (Nat × Bool)) (p : Nat × Bool) : List (Nat × Bool) := if l.contains p then l.erase p else p :: l

/-- One cycle of the sweeper: flips of before are found, and of the new ones those whose register it visits after the
flip (R477). -/
def State.parityCycle (s : State) (flips : List Flip) : State :=
  let fs := flips.filter Flip.counts
  let s1 : State := { s with parity := { s.parity with
    latent := fs.foldl (fun l x => flipIn l (x.key, x.staged)) s.parity.latent } }
  let missed (p : Nat × Bool) : Bool := fs.any fun x => decide ((x.key, x.staged) = p) && !x.visited
  (s1.parity.latent.filter fun p => !missed p).foldl (fun x p => x.ciFault p.1 p.2 true) s1

/-- PARITY_SWEEP (R477). -/
def execParitySweep (flips : List Flip) (s : State) : Host.Outcome State Fault Refusal :=
  whenClocked s fun x => x.parityCycle flips

/-- A register that the host cannot rewrite: all RO, locked, or a written WO1 (R478). -/
def State.firmwareOnly (s : State) (r : Reg) : Bool :=
  r.fields.isEmpty || ((r.fields.any fun x => decide (x.acc = .rwl)) && s.rwlLocked r) ||
    (decide (r = .hubLock) && s.power.lockWritten)

/-- Firmware rewrites such a register from the applied image: the fault goes, both copies are alike. -/
def State.firmwareRepair (s : State) (key : Nat) : State :=
  let p := runkey key
  if s.parity.faulted.contains key && s.firmwareOnly p.1 then s.fromImage p.1 p.2 (s.reg p.1 p.2) else s

/-- CI_FIRMWARE_REPAIR (R478). -/
def execCiFirmwareRepair (key : Nat) (s : State) : Host.Outcome State Fault Refusal :=
  whenClocked s fun x => x.firmwareRepair key

/-! Configuration requests. -/

/-- A configuration request: Retry Status until the endpoint serves; in recovery PF0 alone exists, and VF Enable cannot
be written (R485, R494). -/
def State.configReq (s : State) (f : Nat) (req : CfgReq) : State :=
  if !s.served then s.emit (.retry f)
  else if f ≠ 0 ∧ (s.power.phase = .recovery ∨ !s.power.vfEnable) then s.emit (.unsupported f)
  else
    let s1 : State := match req with
      | .busMaster on => { s with host := { s.host with busMaster := mset false s.host.busMaster f on } }
      | .vfEnable on =>
        if f ≠ 0 ∨ s.power.phase = .recovery then s
        else if on then { s with power := { s.power with vfEnable := true } }
        else if s.up then s.clearVf
        else { s with power := { s.power with vfEnable := false } }
      | _ => s
    s1.emit (.configDone f)

/-- CONFIG_REQUEST (R485). -/
def execConfigRequest (f : Fin 9) (req : CfgReq) (s : State) : Host.Outcome State Fault Refusal :=
  whenClocked s fun x => x.configReq f req

end Sys2Proof.Machine
end

