-- ==== Sys2Proof/Machine/Startup.lean ====
section
/-! DEFINITION. Power, reset and start-up: Table 20-1 by its stages (R484 to R490), the boot record and image choice (R488,
R489, R492), applying the image, memory training (R255 to R258), port groups (R487), readiness (R486), the failed and
recovery states (R493 to R495), and the power-on, warm and hot resets (R496, R530, R532, R535). -/
namespace Sys2Proof.Machine

/-! Resets. -/

/-- What a reset of the whole module leaves: flash and fuses, what waits and what has left. -/
def State.blankWith (s : State) (phase : Phase) : State :=
  { State.reset with
    pending := s.pending
    flash := { s.flash with logSecond := 0, logCount := 0 }
    serial := s.serial
    freeCtr := s.freeCtr
    sent := s.sent
    power := { State.reset.power with phase := phase } }

/-- Registers of the monitors that a warm reset leaves; it clears their counters (R496, R525). -/
def monitorRegs : List (Reg × Nat) :=
  [(.monTemp, 32), (.monVolt, 49), (.monProc, 49), (.monClkstep, 49), (.monReplace, 1), (.monSbcfg, 1), (.monSbstat, 1),
   (.monSynccap0, 1), (.monSynccap1, 1)]

/-- Their values carried into another state. -/
def State.carryMonitors (s old : State) : State :=
  monitorRegs.foldl (fun x p => (List.range p.2).foldl (fun y i => y.setReg p.1 i (old.reg p.1 i)) x) s

/-- A warm reset: the module except the regulators and the monitors; it comes to rest before start-up stage 1 (R496, R498). -/
def State.warm (s : State) (held : Bool) : State :=
  let b := s.blankWith .idle
  let s1 : State := { b with
    power := { b.power with pwrgd := s.power.pwrgd, replaceN := s.power.replaceN, perst := held }
    clock := s.clock
    mon := { s.mon with dead := [], subst := [], waiting := [] } }
  s1.carryMonitors s

/-- WARM_RESET: PERST_N asserted for 1 µs or longer; no effect after a critical shutdown or while PWRGD is low (R507,
R530). -/
def execWarmReset (s : State) : Host.Outcome State Fault Refusal :=
  .next (if s.sampling && s.power.pwrgd then s.warm true else s)

/-- HOT_RESET: a PCIe hot reset is a warm reset that PERST_N does not hold (R496). -/
def execHotReset (s : State) : Host.Outcome State Fault Refusal :=
  .next (if s.clocked then s.warm false else s)

/-- The rails go: outputs are high-impedance (R529). -/
def State.unpowered (s : State) (phase : Phase) : State :=
  ((s.blankWith phase).emit (.pin 1 false)).emit (.pin 2 false)

/-- POWER_ON_RESET: the input is below 44 V for 1 ms (R496, R537). -/
def execPowerOnReset (s : State) : Host.Outcome State Fault Refusal :=
  .next (if s.power.phase = .off then s else s.unpowered .off)

/-- The input opens: every rail is lost and no record is written (R532). -/
def State.inputOpens (s : State) : State :=
  if s.power.phase = .off ∨ s.power.phase = .disconnected then s else s.unpowered .disconnected

/-- INPUT_OVERVOLTAGE (R532). -/
def execInputOvervoltage (s : State) : Host.Outcome State Fault Refusal := .next s.inputOpens
/-- ELECTRONIC_FUSE_OPEN (R532). -/
def execElectronicFuseOpen (s : State) : Host.Outcome State Fault Refusal := .next s.inputOpens

/-- REFCLK_LOSS: the monitors go over to their oscillator and the module stops (R535). -/
def execRefclkLoss (s : State) : Host.Outcome State Fault Refusal :=
  .next (if s.sampling then
      let x := s.critical causeClock
      { x with power := { x.power with internalOsc := true } }
    else s)

/-! The regulators. -/

/-- INPUT_POWER_UP: the input rises through 46 V and the regulators start (R484, R531). -/
def execInputPowerUp (s : State) : Host.Outcome State Fault Refusal :=
  .next (if s.power.phase = .off then { s with power := { s.power with phase := .rails } } else s)

/-- PWRGD is released; at power-up the monitors then check their sensors (R484, R505, R530). -/
def State.powerGood (s : State) (failedSensors : List (Fin 32)) : State :=
  if s.power.phase = .rails then
    let s1 : State := { s with power := { s.power with phase := .idle, pwrgd := true } }
    (failedSensors.map (·.val)).foldl State.failSensor (s1.emit (.pin 2 true))
  else if s.sampling && !s.power.pwrgd then
    { s with power := { s.power with pwrgd := true } }.emit (.pin 2 true)
  else s

/-- PWRGD (R484). -/
def execPwrgd (failedSensors : List (Fin 32)) (s : State) : Host.Outcome State Fault Refusal :=
  .next (s.powerGood failedSensors)

/-- PWRGD_DEASSERT: a rail has left regulation (R530). -/
def execPwrgdDeassert (s : State) : Host.Outcome State Fault Refusal :=
  .next (if s.power.pwrgd then { s with power := { s.power with pwrgd := false } }.emit (.pin 2 false) else s)

/-! Stages 2 to 6: the boot record and the image copy. -/

/-- The boot record that stage 2 writes (R488). -/
def BootRec.atStart (r : BootRec) : BootRec :=
  { r with bootCount := (r.bootCount + 1) % 2 ^ 32, tries := if r.trial && decide (r.tries < 3) then r.tries + 1 else r.tries }

/-- What stages 3 to 5 find: the copy to use (none: both rejected), and per copy its reason, 15 not tried, with the failing
section (R489, R492). -/
structure BootChoice where
  image : Option Image
  copyB : Bool
  fellBack : Bool
  reasonA : Nat × Nat
  reasonB : Nat × Nat
  deriving DecidableEq, Repr

/-- The boot ROM tries the preferred copy, then the other (R489). -/
def chooseImage (fl : Flash) (r : BootRec) (readOkA readOkB : Bool) : BootChoice :=
  let used := r.trial && decide (r.tries = 3)
  let check (b up : Bool) : Nat × Nat :=
    if b then imageReason fl.fuses readOkB up fl.copyB else imageReason fl.fuses readOkA up fl.copyA
  let copy (b : Bool) : Option Image := if b then fl.copyB else fl.copyA
  let first := check r.pref used
  if first.1 = 0 then
    { image := copy r.pref, copyB := r.pref, fellBack := false, reasonA := if r.pref then (15, 0) else (0, 0),
      reasonB := if r.pref then (0, 0) else (15, 0) }
  else
    let second := check (!r.pref) false
    let ra := if r.pref then second else first
    let rb := if r.pref then first else second
    if second.1 = 0 then { image := copy (!r.pref), copyB := !r.pref, fellBack := true, reasonA := ra, reasonB := rb }
    else { image := none, copyB := false, fellBack := false, reasonA := ra, reasonB := rb }

/-! Stage 8: the image's registers. -/

/-- PORT_CFG of a port record (Table 12-7). -/
def PortRec.cfgWord (r : PortRec) : W32 :=
  BitVec.ofNat 32 (r.pfcEn * 2 ^ 24 + b2n r.preempt * 2 ^ 19 + b2n r.xpn * 2 ^ 18 + b2n r.macsec * 2 ^ 17 + r.role * 2 ^ 8 + r.mode)

/-- MBX_STATUS of mailbox m (Table 18-8). -/
def mbxWord (m : Nat) (e : Bool × Nat) : W32 :=
  let many := decide (2 ≤ ((List.range 9).filter fun f => decide (e.2 / 2 ^ f % 2 = 1)).length)
  BitVec.ofNat 32 (b2n e.1 * 2 ^ 26 + b2n many * 2 ^ 25 + b2n (decide (56 ≤ m)) * 2 ^ 24)

/-- HST_FUNC of function f. -/
def State.funcWord (s : State) (f : Nat) : W32 :=
  match s.cfg.funcTenant f with
  | some t => BitVec.ofNat 32 (2 ^ 31 + t * 2 ^ 16 + f)
  | none => BitVec.ofNat 32 f

/-- Registers of a list of instances from the image. -/
def State.imageRegs (s : State) (r : Reg) (l : List Nat) (f : Nat → W32) : State :=
  l.foldl (fun x i => x.fromImage r i (f i)) s

/-- Every register marked "from configuration image", the firmware release, and the associations whose keys the image
references (R307, R484 stage 8). -/
def State.applyImage (s : State) : State :=
  let im := s.cfg
  let s1 := ((s.setReg .hubFwrel 0 im.fwRel).setRfld .hubStatus 0 30 30 (b2n im.testMode)).setRfld .hubStatus 0 28 28
    (b2n s.power.copyB)
  let s2 := (im.tenants.map (·.tenant)).foldl State.applyTenant s1
  let s3 := im.tenants.foldl (fun x r =>
    x.imageRegs .schCfg (List.range 11 |>.map fun u => 8 * u + r.tenant) fun i => (r.sch[i / 8]?).getD 0) s2
  let s4 := s3.imageRegs .coreMemsplit (List.range 16) fun n => BitVec.ofNat 32 ((im.splits[n]?).getD 0)
  let s5 := s4.imageRegs .portCfg (List.range 32) fun p => (im.port p).cfgWord
  let s6 := (((s5.fromImage .tunCtrl 0 (BitVec.ofNat 32 (2 ^ 31 + b2n im.ipv6 * 2 ^ 29))).fromImage .tunUdp 0
    (BitVec.ofNat 32 im.dport)).fromImage .tunDscp 0
    (BitVec.ofNat 32 (im.dscp.1 * 2 ^ 24 + im.dscp.2.1 * 2 ^ 16 + im.dscp.2.2 * 2 ^ 8))).fromImage .tunTimeout 0
    (BitVec.ofNat 32 im.tunTimeout)
  let s7 := s6.imageRegs .mbxStatus (List.range 64) fun m => mbxWord m ((im.mailboxes[m]?).getD (false, 0))
  let s8 := s7.imageRegs .hstFunc (List.range 9) s7.funcWord
  im.keys.foldl (fun x k => x.putSa (k.1, k.2.1, k.2.2.1) [BitVec.ofNat 32 k.2.2.2]) s8

/-- Every tenant's epoch and the boot epoch (R333). -/
def State.bootEpochs (s : State) : State :=
  let e := s.power.bootCount % 256 * 256
  let s1 : State := { s with tunil := { s.tunil with bootEpoch := e } }
  (List.range 8).foldl (fun x t => x.setRfld .tunEpoch t 15 0 e) s1

/-! Cores at a start (R516). -/

/-- Cores that the log records as failed. -/
def Flash.failedCores (f : Flash) : List Nat :=
  ((f.repair.filter fun r => decide (r.kind = 6)).map fun r => (r.what[1]?).getD 18).eraseDups

/-- The failed core of a position goes to its die's spare; a second one, or a spare that fails its self-test, leaves the
position unmapped (R22, R516). Which of two failed cores gets the spare at a start the spec does not say: the position of
the lowest number gets it (DESIGN CHOICE, log 110). -/
def State.mapDie (s : State) (spareOk : Bool) (die : Nat) : State :=
  let bad := (List.range 8).filter fun i => s.mon.dead.contains (9 * die + i)
  match bad with
  | [] => s
  | i :: more =>
    let usable := !s.mon.dead.contains (spareOf die)
    let s1 := if usable && !spareOk then s.recordCore (8 * die + i) (spareOf die) 1 else s
    let give := usable && spareOk
    let s2 := if give then
        { (s1.setDie die 7 7 1).setDie die 4 0 (9 * die + i) with coreMap := mset 0 s1.coreMap (8 * die + i) (spareOf die + 1) }
      else s1
    let lost := if give then more else i :: more
    lost.foldl (fun x j =>
      let y := x.setDie die 6 6 1
      let z := if give then y else y.setDie die 4 0 (9 * die + j)
      { z with coreMap := mset 0 z.coreMap (8 * die + j) 0 }) s2

/-- A replace reason holds or, at a start whose checks no longer find its condition, clears (R518, R519). -/
def State.recheckReason (s : State) (b : Nat) (cond : Bool) : State :=
  if cond then s.replaceReason b
  else
    let w := setBit (s.reg .monReplace 0) b false
    let on := !decide (fld w 4 0 = 0)
    let s1 := s.setReg .monReplace 0 (setBit w 31 on)
    if s.power.replaceN && !on then { s1 with power := { s1.power with replaceN := false } }.emit (.pin 1 false) else s1

/-- Firmware maps the cores before it applies the image, and takes what failed sensors mean (R505, R516). -/
def State.startCores (s : State) (spareOk0 spareOk1 : Bool) : State :=
  let s1 : State := { s with coreMap := coreMapReset, mon := { s.mon with dead := s.flash.failedCores } }
  let lost := ((List.range 18).filter fun c => s1.tempFailed c && !s1.mon.dead.contains c)
  let s2 := lost.foldl (fun x c => match x.logical c with | some n => x.recordCore n c 0 | none => x) s1
  let s3 := (s2.mapDie spareOk0 0).mapDie spareOk1 1
  let s4 := (List.range 8).foldl (fun x h => if x.tempFailed (18 + h) then x.setHotref h true else x) s3
  let s5 := (s4.mon.selfFail.filter fun i => decide (30 ≤ i)).foldl (fun x i => x.log 2 [i, 4]) s4
  let s6 : State := { s5 with mon := { s5.mon with selfFail := [] } }
  let w := s6.reg .monSubst 0
  (s6.recheckReason 1 (bit w 7 || bit w 15)).recheckReason 3 (bit w 6 || bit w 14)

/-! PERST_N release: stages 1 to 8. -/

/-- Mailboxes of the recovery state (R494). -/
def recoveryImage : Image :=
  { Image.blank with mailboxes := (List.range 64).map fun m =>
      if m = 56 then (false, 1) else if m = 63 then (true, 1) else (false, 0) }

/-- BOOT_REPORT after a start in which a copy was rejected (R495): the reasons, the failing sections, the copy in use and
BOOTCOUNT. -/
def State.bootReport (s : State) (c : BootChoice) : State :=
  let bad (r : Nat × Nat) : Bool := !decide (r.1 = 0) && !decide (r.1 = 15)
  if bad c.reasonA || bad c.reasonB then
    let inUse : Nat := if c.image.isNone then 15 else b2n c.copyB
    let w0 := c.reasonA.1 + c.reasonB.1 * 2 ^ 4 + inUse * 2 ^ 8 + c.reasonA.2 * 2 ^ 16 + c.reasonB.2 * 2 ^ 24
    let s1 := s.log 1 [w0, s.power.bootCount]
    match s1.d2hBox 0 true with
    | some m => s1.queueNotice m { code := 0x0282, body := [BitVec.ofNat 32 w0, BitVec.ofNat 32 s.power.bootCount] }
    | none => s1
  else s

/-- Recovery state: both copies are rejected (R494). -/
def State.enterRecovery (s : State) (c : BootChoice) : State :=
  let s1 : State := { s with cfg := recoveryImage, power := { s.power with phase := .recovery } }
  let s2 := s1.imageRegs .mbxStatus (List.range 64) fun m => mbxWord m ((recoveryImage.mailboxes[m]?).getD (false, 0))
  (s2.recheckReason 4 true).bootReport c

/-- Role of this module from its image: master, also of a caravan of one (R345, R346). -/
def State.startRole (s : State) : State :=
  match s.cfg.caravan with
  | some c =>
    let s1 : State := { s with caravan := { s.caravan with tenant := some c.tenant } }
    s1.setRfld .carStatus 0 28 27 (if c.role = 1 then 1 else 0)
  | none =>
    let s1 : State := { s with clock := { s.clock with locked := true } }
    (s1.setRfld .carStatus 0 28 27 1).setRfld .carStatus 0 24 24 1

/-- Stages 7 and 8 with an image; memory training starts (R484). -/
def State.enterStart (s : State) (im : Image) (c : BootChoice) (spareOk0 spareOk1 : Bool) : State :=
  let s1 : State := { s with cfg := im, power := { s.power with copyB := c.copyB, training := true } }
  ((((s1.startCores spareOk0 spareOk1).applyImage).bootEpochs).startRole).bootReport c

/-- Stages 1 to 8 (R484, R488, R489). -/
def State.startUp (s : State) (readOkA readOkB spareOk0 spareOk1 : Bool) : State :=
  let old := s.flash.current
  let s1 := s.writeBoot BootRec.atStart
  let s2 : State := { s1 with
    clock := { s1.clock with since := 0, locked := false }
    mon := { s1.mon with fault := { s1.mon.fault with lastActed := none, chatSecond := none }
                         sync := { s1.mon.sync with lastActed := none, chatSecond := none } }
    power := { s1.power with phase := .starting, perst := false, bootCount := s1.flash.current.bootCount } }
  let c := chooseImage s2.flash old readOkA readOkB
  let s3 := if c.fellBack then s2.writeBoot fun r => { r with pref := c.copyB, trial := false } else s2
  match c.image with
  | none => s3.enterRecovery c
  | some im => s3.enterStart im c spareOk0 spareOk1

/-- PERST_N_RELEASE: the release is taken while PWRGD is released (R530). -/
def execPerstNRelease (readOkA readOkB spareOk0 spareOk1 : Bool) (s : State) : Host.Outcome State Fault Refusal :=
  .next (if s.power.phase = .idle ∧ s.power.pwrgd then s.startUp readOkA readOkB spareOk0 spareOk1 else s)

/-! Stage 9: memory training. -/

/-- Failed lanes of a channel or group that a training found, lowest first. -/
def lanesOf (failed : List (Fin 272 × Nat)) (n : Nat) : List Nat :=
  (failed.filter fun p => decide (p.1.val = n) && decide (p.2 < if n < 256 then 72 else 64)).foldl
    (fun l p => laneInsert p.2 l) []

/-- Spare lanes take the lowest two failed lanes of a fast channel, the rest are erasures; each is logged (R255). -/
def State.assignLanes (s : State) (n : Nat) (lanes : List Nat) : State :=
  let spares := if n < 256 then lanes.take 2 else []
  let er := if n < 256 then lanes.drop 2 else lanes
  let s1 := (s.setRfld .memLanemap n 31 24 (spares[0]?.getD 0xFF)).setRfld .memLanemap n 23 16 (spares[1]?.getD 0xFF)
  let s2 := s1.setRfld .memChstat n 19 18 spares.length
  let s3 := { s2 with mem := { s2.mem with erased := mset [] s2.mem.erased n er } }.showErased n
  let s4 := spares.foldl (fun x l => x.log 3 [n, l, 0]) s3
  er.foldl (fun x l => x.log 3 [n, l, 1]) s4

/-- A row that the log records is repaired hard and counts (R266). -/
def State.hardRepair (s : State) (bank row : Nat) : State :=
  let had := mget [] s.mem.retired bank
  if had.contains row || decide ((if bank / 256 < 256 then 2 else 1) ≤ had.length) then s
  else
    let n := bank / 256
    let s1 := { s with mem := { s.mem with retired := mset [] s.mem.retired bank (row :: had) } }
    s1.setRfld .memChstat n 27 24 (Nat.min 15 (s1.rfld .memChstat n 27 24 + 1))

/-- Every row that the repair area records. -/
def State.hardRepairs (s : State) : State :=
  (s.flash.repair.filter fun r => decide (r.kind = 4)).foldl (fun x r =>
    match r.what with
    | [_, bank, row] => x.hardRepair bank row
    | _ => x) s

/-- The failed state (R257, R493). -/
def State.enterFailed (s : State) : State :=
  let s1 : State := { s with power := { s.power with phase := .failed, training := false } }
  let s2 := ((s1.setRfld .memStatus 0 31 31 0).setRfld .memStatus 0 30 30 1).setRfld .hubStatus 0 31 31 0
  ((List.range 32).foldl (fun x p => if x.portSt p = 0 then x else (x.setPortSt p 0).portLoss p) s2).recheckReason 4 true

/-- Training has ended: lanes, initialisation maps, hard repairs, and the state that follows (R255 to R258, R260, R518). -/
def State.trainingDone (s : State) (failed : List (Fin 272 × Nat)) : State :=
  let s1 := ((failed.map fun p => p.1.val).eraseDups).foldl (fun x n => x.assignLanes n (lanesOf failed n)) s
  let s2 : State := { s1 with mem := { s1.mem with init := [], initNext := 0 }
                              power := { s1.power with training := false } }
  let s3 := s2.hardRepairs
  let lanes := (List.range 272).any fun n => decide (s3.rfld .memChstat n 19 18 = 2) || !(s3.erased n).isEmpty
  let full := s3.mem.retired.any fun p => decide ((if p.1 / 256 < 256 then 2 else 1) ≤ p.2.length)
  let all : Nat := (s3.flash.repair.filter fun r => decide (r.kind = 4)).length
  let s4 := (s3.recheckReason 0 lanes).recheckReason 2 (full || decide (64 ≤ all))
  if (List.range 272).any fun n => failsChannel n (s4.erased n) then s4.enterFailed
  else (s4.setRfld .memStatus 0 31 31 1).recheckReason 4 false

/-- MEMORY_TRAINING_DONE (R258). -/
def execMemoryTrainingDone (failedLanes : List (Fin 272 × Nat)) (s : State) : Host.Outcome State Fault Refusal :=
  whenClocked s fun x => if x.power.training then x.trainingDone failedLanes else x

/-- TRAINING_TIMEOUT: the bound has passed, and the training ends as failed (R258). -/
def execTrainingTimeout (s : State) : Host.Outcome State Fault Refusal :=
  whenClocked s fun x => if x.power.training then x.enterFailed else x

/-! Stages 10 and 11. -/

/-- PORT_GROUP_START: groups start in order, the four ports of a group together (R487). -/
def execPortGroupStart (g : Fin 8) (s : State) : Host.Outcome State Fault Refusal :=
  .next (if decide (s.power.phase = .starting) && !s.power.clocksStopped && decide (s.power.groups = g.val) then
      let x := (List.range 4).foldl (fun y i => y.startPort (4 * g.val + i)) s
      { x with power := { x.power with groups := g.val + 1 } }
    else s)

/-- Every port in use is UP or MISCABLED or has ended its first attempt (R486). -/
def State.portsSettled (s : State) : Bool :=
  decide (8 ≤ s.power.groups) && (List.range 32).all fun p =>
    !s.portUsed p || decide (s.portSt p = 2) || decide (s.portSt p = 3) || (s.port p).firstEnded

/-- A start on a trial copy is confirmed, and the fuse counter rises to its ROLLBACK (R490). -/
def State.confirmTrial (s : State) : State :=
  let cur := s.flash.current
  if cur.trial && decide (cur.pref = s.power.copyB) then
    let s1 := s.writeBoot fun r => { r with trial := false }
    let fu := s1.flash.fuses
    { s1 with flash := { s1.flash with fuses := { fu with rollback := Nat.max fu.rollback s1.cfg.rollback } } }
  else s

/-- Port states of a JOIN, three bits to a port. -/
def State.portWord (s : State) : Nat := ((List.range 32).map fun p => s.portSt p * 8 ^ p).sum

/-- After start-up a module of a caravan sends JOIN, and REPLACE again for each reason that it holds; the master counts
itself (R354, R519). -/
def State.sendJoin (s : State) : State :=
  match s.cfg.caravan with
  | none => s
  | some c =>
    let me := s.flash.fuses.serial
    let s1 := if c.role = 1 then
        s.modMaster fun m => { m with joined := [⟨me, c.bond, c.slot, c.role, (s.cfg.port 0).addr⟩] }
      else s.noticeUp 0x01 [me, c.bond, c.slot, c.role, s.portWord]
    (List.range 4).foldl (fun x b => if bit (x.reg .monReplace 0) b then x.noticeUp 0x07 [b] else x) s1

/-- Readiness (R486, R490). -/
def State.ready (s : State) : State :=
  let s1 : State := { s with power := { s.power with phase := .ready } }
  let s2 := ((s1.setRfld .hubStatus 0 31 31 1).setRfld .tunCtrl 0 30 30 1).hwFld .cdcMode 0 1 0 1
  (s2.confirmTrial).sendJoin

/-- READINESS (R486). -/
def execReadiness (s : State) : Host.Outcome State Fault Refusal :=
  .next (if decide (s.power.phase = .starting) && !s.power.clocksStopped && s.trained && s.portsSettled then s.ready else s)

end Sys2Proof.Machine
end

