-- ==== Sys2Proof/Machine/Dispatch.lean ====
section
/-! DEFINITION. The meaning of each command: one arm per constructor. -/
namespace Sys2Proof.Machine

def exec (i : Instr) (s : State) : Host.Outcome State Fault Refusal :=
  match i with
  | .inputPowerUp => Sys2Proof.Machine.execInputPowerUp s
  | .pwrgd failedSensors => Sys2Proof.Machine.execPwrgd failedSensors s
  | .powerOnReset => Sys2Proof.Machine.execPowerOnReset s
  | .perstNRelease readOkA readOkB spareOk0 spareOk1 => Sys2Proof.Machine.execPerstNRelease readOkA readOkB spareOk0 spareOk1 s
  | .portGroupStart g => Sys2Proof.Machine.execPortGroupStart g s
  | .warmReset => Sys2Proof.Machine.execWarmReset s
  | .hotReset => Sys2Proof.Machine.execHotReset s
  | .memoryTrainingDone failedLanes => Sys2Proof.Machine.execMemoryTrainingDone failedLanes s
  | .trainingTimeout => Sys2Proof.Machine.execTrainingTimeout s
  | .readiness => Sys2Proof.Machine.execReadiness s
  | .configRequest f req => Sys2Proof.Machine.execConfigRequest f req s
  | .refclkLoss => Sys2Proof.Machine.execRefclkLoss s
  | .inputOvervoltage => Sys2Proof.Machine.execInputOvervoltage s
  | .electronicFuseOpen => Sys2Proof.Machine.execElectronicFuseOpen s
  | .powerThrottle => Sys2Proof.Machine.execPowerThrottle s
  | .powerUnthrottle => Sys2Proof.Machine.execPowerUnthrottle s
  | .sensorSample readings => Sys2Proof.Machine.execSensorSample readings s
  | .railsOff => Sys2Proof.Machine.execRailsOff s
  | .thermStepDown island => Sys2Proof.Machine.execThermStepDown island s
  | .thermStepUp island => Sys2Proof.Machine.execThermStepUp island s
  | .voltageSample readings => Sys2Proof.Machine.execVoltageSample readings s
  | .voltStepDown island => Sys2Proof.Machine.execVoltStepDown island s
  | .voltStepUp island => Sys2Proof.Machine.execVoltStepUp island s
  | .railCritical island => Sys2Proof.Machine.execRailCritical island s
  | .processMonitorRead speeds => Sys2Proof.Machine.execProcessMonitorRead speeds s
  | .sensorFailed sensor => Sys2Proof.Machine.execSensorFailed sensor s
  | .faultInAssert => Sys2Proof.Machine.execFaultInAssert s
  | .stepSyncCapture => Sys2Proof.Machine.execStepSyncCapture s
  | .sidebandDeassert syncInput => Sys2Proof.Machine.execSidebandDeassert syncInput s
  | .sidebandStuck syncInput => Sys2Proof.Machine.execSidebandStuck syncInput s
  | .sidebandGlitch => Sys2Proof.Machine.execSidebandGlitch s
  | .coreFault core kind => Sys2Proof.Machine.execCoreFault core kind s
  | .coreSubstitution die selfTestOk islandAnswers => Sys2Proof.Machine.execCoreSubstitution die selfTestOk islandAnswers s
  | .registerWrite f bar2 offset allBytes value => Sys2Proof.Machine.execRegisterWrite f bar2 offset allBytes value s
  | .registerCrossingTimeout f offset write => Sys2Proof.Machine.execRegisterCrossingTimeout f offset write s
  | .latchingRead f beat => Sys2Proof.Machine.execLatchingRead f beat s
  | .hubLockWrite f value => Sys2Proof.Machine.execHubLockWrite f value s
  | .paritySweep flips => Sys2Proof.Machine.execParitySweep flips s
  | .ciFirmwareRepair key => Sys2Proof.Machine.execCiFirmwareRepair key s
  | .flr f => Sys2Proof.Machine.execFlr f s
  | .vfEnableClear => Sys2Proof.Machine.execVfEnableClear s
  | .apertureRead f x len errs => Sys2Proof.Machine.execApertureRead f x len errs s
  | .apertureWrite f x data errs => Sys2Proof.Machine.execApertureWrite f x data errs s
  | .hostReadFail f user => Sys2Proof.Machine.execHostReadFail f user s
  | .msixUnmask f v => Sys2Proof.Machine.execMsixUnmask f v s
  | .mbxLockRead f m => Sys2Proof.Machine.execMbxLockRead f m s
  | .mbxLockRelease f m value => Sys2Proof.Machine.execMbxLockRelease f m value s
  | .mbxPost f m value => Sys2Proof.Machine.execMbxPost f m value s
  | .mbxTake m body => Sys2Proof.Machine.execMbxTake m body s
  | .mbxAck f m code => Sys2Proof.Machine.execMbxAck f m code s
  | .d2hNoticePost m => Sys2Proof.Machine.execD2hNoticePost m s
  | .processorRestart security => Sys2Proof.Machine.execProcessorRestart security s
  | .queueOpen m => Sys2Proof.Machine.execQueueOpen m s
  | .manifestLoadDone t q => Sys2Proof.Machine.execManifestLoadDone t q s
  | .queueClose m => Sys2Proof.Machine.execQueueClose m s
  | .routeOpen m => Sys2Proof.Machine.execRouteOpen m s
  | .routeClose m => Sys2Proof.Machine.execRouteClose m s
  | .kilnOpen m => Sys2Proof.Machine.execKilnOpen m s
  | .kilnClose m => Sys2Proof.Machine.execKilnClose m s
  | .codecOpen m cfg => Sys2Proof.Machine.execCodecOpen m cfg s
  | .codecClose m => Sys2Proof.Machine.execCodecClose m s
  | .planSubmit m => Sys2Proof.Machine.execPlanSubmit m s
  | .tenantReset t => Sys2Proof.Machine.execTenantReset t s
  | .sakInstall m unwraps => Sys2Proof.Machine.execSakInstall m unwraps s
  | .sakRetire m => Sys2Proof.Machine.execSakRetire m s
  | .imageStage m img => Sys2Proof.Machine.execImageStage m img s
  | .fuseRead m => Sys2Proof.Machine.execFuseRead m s
  | .logRead m => Sys2Proof.Machine.execLogRead m s
  | .queueGo f t q restart => Sys2Proof.Machine.execQueueGo f t q restart s
  | .queueStop f t q => Sys2Proof.Machine.execQueueStop f t q s
  | .matmul t q waited => Sys2Proof.Machine.execMatmul t q waited s
  | .fused2 t q waited => Sys2Proof.Machine.execFused2 t q waited s
  | .conv t q waited => Sys2Proof.Machine.execConv t q waited s
  | .vec t q waited => Sys2Proof.Machine.execVec t q waited s
  | .move t q waited => Sys2Proof.Machine.execMove t q waited s
  | .moveToPeer t q waited => Sys2Proof.Machine.execMoveToPeer t q waited s
  | .send t q waited => Sys2Proof.Machine.execSend t q waited s
  | .recv t q waited => Sys2Proof.Machine.execRecv t q waited s
  | .e8MaxPass t q waited => Sys2Proof.Machine.execE8MaxPass t q waited s
  | .l32Sum t q waited => Sys2Proof.Machine.execL32Sum t q waited s
  | .orderedF32Sum t q waited => Sys2Proof.Machine.execOrderedF32Sum t q waited s
  | .l32ToF32 t q waited => Sys2Proof.Machine.execL32ToF32 t q waited s
  | .kilnTake t q waited => Sys2Proof.Machine.execKilnTake t q waited s
  | .loop t q waited => Sys2Proof.Machine.execLoop t q waited s
  | .fence t q waited => Sys2Proof.Machine.execFence t q waited s
  | .wait t q waited => Sys2Proof.Machine.execWait t q waited s
  | .restWindowEnd n => Sys2Proof.Machine.execRestWindowEnd n s
  | .taskComplete t q pos => Sys2Proof.Machine.execTaskComplete t q pos s
  | .prefetchIssue n => Sys2Proof.Machine.execPrefetchIssue n s
  | .prefetchLand n slot errs => Sys2Proof.Machine.execPrefetchLand n slot errs s
  | .lateManifestEvent t q => Sys2Proof.Machine.execLateManifestEvent t q s
  | .tilePrologueLoad t q => Sys2Proof.Machine.execTilePrologueLoad t q s
  | .codebookLoadDone n port => Sys2Proof.Machine.execCodebookLoadDone n port s
  | .brickReadAhead n port offset => Sys2Proof.Machine.execBrickReadAhead n port offset s
  | .edgeFileSwap n file => Sys2Proof.Machine.execEdgeFileSwap n file s
  | .sweepEnd n array bank => Sys2Proof.Machine.execSweepEnd n array bank s
  | .drain n array bank => Sys2Proof.Machine.execDrain n array bank s
  | .drainEnd n array bank => Sys2Proof.Machine.execDrainEnd n array bank s
  | .drainProgram n buffer => Sys2Proof.Machine.execDrainProgram n buffer s
  | .onlineSoftmax n => Sys2Proof.Machine.execOnlineSoftmax n s
  | .gelu n => Sys2Proof.Machine.execGelu n s
  | .silu n => Sys2Proof.Machine.execSilu n s
  | .swiglu n => Sys2Proof.Machine.execSwiglu n s
  | .rmsScaling n => Sys2Proof.Machine.execRmsScaling n s
  | .vAdd n => Sys2Proof.Machine.execVAdd n s
  | .vSub n => Sys2Proof.Machine.execVSub n s
  | .vMul n => Sys2Proof.Machine.execVMul n s
  | .vFma n => Sys2Proof.Machine.execVFma n s
  | .vMin n => Sys2Proof.Machine.execVMin n s
  | .vMax n => Sys2Proof.Machine.execVMax n s
  | .vAbs n => Sys2Proof.Machine.execVAbs n s
  | .vNeg n => Sys2Proof.Machine.execVNeg n s
  | .vCmp n => Sys2Proof.Machine.execVCmp n s
  | .vSel n => Sys2Proof.Machine.execVSel n s
  | .vMovi n => Sys2Proof.Machine.execVMovi n s
  | .vMovs n => Sys2Proof.Machine.execVMovs n s
  | .vExp2 n => Sys2Proof.Machine.execVExp2 n s
  | .vLog2 n => Sys2Proof.Machine.execVLog2 n s
  | .vRsqrt n => Sys2Proof.Machine.execVRsqrt n s
  | .vRecip n => Sys2Proof.Machine.execVRecip n s
  | .vSin n => Sys2Proof.Machine.execVSin n s
  | .vCos n => Sys2Proof.Machine.execVCos n s
  | .vRmax n => Sys2Proof.Machine.execVRmax n s
  | .vRsum n => Sys2Proof.Machine.execVRsum n s
  | .vRssq n => Sys2Proof.Machine.execVRssq n s
  | .vCvt n => Sys2Proof.Machine.execVCvt n s
  | .vCvtsr n => Sys2Proof.Machine.execVCvtsr n s
  | .vBexp n => Sys2Proof.Machine.execVBexp n s
  | .vIadd n => Sys2Proof.Machine.execVIadd n s
  | .vIsub n => Sys2Proof.Machine.execVIsub n s
  | .vImul n => Sys2Proof.Machine.execVImul n s
  | .vShl n => Sys2Proof.Machine.execVShl n s
  | .vShr n => Sys2Proof.Machine.execVShr n s
  | .vSar n => Sys2Proof.Machine.execVSar n s
  | .vAnd n => Sys2Proof.Machine.execVAnd n s
  | .vOr n => Sys2Proof.Machine.execVOr n s
  | .vXor n => Sys2Proof.Machine.execVXor n s
  | .vImin n => Sys2Proof.Machine.execVImin n s
  | .vImax n => Sys2Proof.Machine.execVImax n s
  | .vIcmp n => Sys2Proof.Machine.execVIcmp n s
  | .vNoiseu n => Sys2Proof.Machine.execVNoiseu n s
  | .vNoiseg n => Sys2Proof.Machine.execVNoiseg n s
  | .vLd n => Sys2Proof.Machine.execVLd n s
  | .vLdh n => Sys2Proof.Machine.execVLdh n s
  | .vLdb n => Sys2Proof.Machine.execVLdb n s
  | .vSt n => Sys2Proof.Machine.execVSt n s
  | .vSth n => Sys2Proof.Machine.execVSth n s
  | .vStb n => Sys2Proof.Machine.execVStb n s
  | .vGather n => Sys2Proof.Machine.execVGather n s
  | .vGatherh n => Sys2Proof.Machine.execVGatherh n s
  | .vLdl n => Sys2Proof.Machine.execVLdl n s
  | .vSte n => Sys2Proof.Machine.execVSte n s
  | .vSmov n => Sys2Proof.Machine.execVSmov n s
  | .vSpar n => Sys2Proof.Machine.execVSpar n s
  | .vSadd n => Sys2Proof.Machine.execVSadd n s
  | .vRep n => Sys2Proof.Machine.execVRep n s
  | .haloExchangeStart n => Sys2Proof.Machine.execHaloExchangeStart n s
  | .haloToken n link => Sys2Proof.Machine.execHaloToken n link s
  | .haloInboundComplete n => Sys2Proof.Machine.execHaloInboundComplete n s
  | .haloPartnerAbort n => Sys2Proof.Machine.execHaloPartnerAbort n s
  | .mortarFlitError n link => Sys2Proof.Machine.execMortarFlitError n link s
  | .mortarLinkFailed n link => Sys2Proof.Machine.execMortarLinkFailed n link s
  | .maintenanceBurst chan errs => Sys2Proof.Machine.execMaintenanceBurst chan errs s
  | .periodicCalibration chan => Sys2Proof.Machine.execPeriodicCalibration chan s
  | .rowRetirement bank row => Sys2Proof.Machine.execRowRetirement bank row s
  | .laneErasure chan lane => Sys2Proof.Machine.execLaneErasure chan lane s
  | .backgroundInit => Sys2Proof.Machine.execBackgroundInit s
  | .refresh bank hot => Sys2Proof.Machine.execRefresh bank hot s
  | .create f t handle => Sys2Proof.Machine.execCreate f t handle s
  | .destroy f t handle => Sys2Proof.Machine.execDestroy f t handle s
  | .thRead f t handle => Sys2Proof.Machine.execThRead f t handle s
  | .clear f t handle => Sys2Proof.Machine.execClear f t handle s
  | .rehome f t handle => Sys2Proof.Machine.execRehome f t handle s
  | .thUnknownCommand f t op handle => Sys2Proof.Machine.execThUnknownCommand f t op handle s
  | .tensorFillDone t handle => Sys2Proof.Machine.execTensorFillDone t handle s
  | .moveSwitch t handle => Sys2Proof.Machine.execMoveSwitch t handle s
  | .moveRelease t handle => Sys2Proof.Machine.execMoveRelease t handle s
  | .sharedUnitGrant unit errs => Sys2Proof.Machine.execSharedUnitGrant unit errs s
  | .portLinkUp p => Sys2Proof.Machine.execPortLinkUp p s
  | .portBringupFail p => Sys2Proof.Machine.execPortBringupFail p s
  | .portBringupRetry p => Sys2Proof.Machine.execPortBringupRetry p s
  | .portRetrain p => Sys2Proof.Machine.execPortRetrain p s
  | .portRetrainRequest f p => Sys2Proof.Machine.execPortRetrainRequest f p s
  | .portHold f p => Sys2Proof.Machine.execPortHold f p s
  | .portHoldRelease f p => Sys2Proof.Machine.execPortHoldRelease f p s
  | .lldpTransmit p => Sys2Proof.Machine.execLldpTransmit p s
  | .lldpReceive p sender slot port => Sys2Proof.Machine.execLldpReceive p sender slot port s
  | .lldpPartnerTimeout p => Sys2Proof.Machine.execLldpPartnerTimeout p s
  | .frameReceive p frame => Sys2Proof.Machine.execFrameReceive p frame s
  | .pfcReceive p priorities xoff => Sys2Proof.Machine.execPfcReceive p priorities xoff s
  | .pfcXoffRepeat p pcp4 => Sys2Proof.Machine.execPfcXoffRepeat p pcp4 s
  | .frameTransmit p => Sys2Proof.Machine.execFrameTransmit p s
  | .preemptVerify p ok => Sys2Proof.Machine.execPreemptVerify p ok s
  | .finjHoldRelease p => Sys2Proof.Machine.execFinjHoldRelease p s
  | .routeFinjHoldRelease => Sys2Proof.Machine.execRouteFinjHoldRelease s
  | .ptpMessage p msg offsetOk => Sys2Proof.Machine.execPtpMessage p msg offsetOk s
  | .data p seg => Sys2Proof.Machine.execData p seg s
  | .ack p seg => Sys2Proof.Machine.execAck p seg s
  | .notReady p seg => Sys2Proof.Machine.execNotReady p seg s
  | .participantReset p seg => Sys2Proof.Machine.execParticipantReset p seg s
  | .openSeg p seg => Sys2Proof.Machine.execOpenSeg p seg s
  | .openAck p seg => Sys2Proof.Machine.execOpenAck p seg s
  | .commit p seg => Sys2Proof.Machine.execCommit p seg s
  | .refused p seg => Sys2Proof.Machine.execRefused p seg s
  | .busy p seg => Sys2Proof.Machine.execBusy p seg s
  | .routeFail p seg => Sys2Proof.Machine.execRouteFail p seg s
  | .ackSend fw r => Sys2Proof.Machine.execAckSend fw r s
  | .retransmit fw r seq => Sys2Proof.Machine.execRetransmit fw r seq s
  | .routeTimeout fw r => Sys2Proof.Machine.execRouteTimeout fw r s
  | .retryAfterExpiry fw r => Sys2Proof.Machine.execRetryAfterExpiry fw r s
  | .participantResetRepeat r => Sys2Proof.Machine.execParticipantResetRepeat r s
  | .join h serial bond slot role ports addr => Sys2Proof.Machine.execJoin h serial bond slot role ports addr s
  | .joinWaitExpiry => Sys2Proof.Machine.execJoinWaitExpiry s
  | .stageDone h => Sys2Proof.Machine.execStageDone h s
  | .bondDone h bond slots => Sys2Proof.Machine.execBondDone h bond slots s
  | .stepGo h nextStep beat freeze gen => Sys2Proof.Machine.execStepGo h nextStep beat freeze gen s
  | .stepBoundary => Sys2Proof.Machine.execStepBoundary s
  | .ckptFreezeDone => Sys2Proof.Machine.execCkptFreezeDone s
  | .ckptStreamDone => Sys2Proof.Machine.execCkptStreamDone s
  | .lateManifest h core queue slip => Sys2Proof.Machine.execLateManifest h core queue slip s
  | .haltReport h code core queue task peer => Sys2Proof.Machine.execHaltReport h code core queue task peer s
  | .haltCollectExpiry => Sys2Proof.Machine.execHaltCollectExpiry s
  | .replace h reason => Sys2Proof.Machine.execReplace h reason s
  | .portState h port state => Sys2Proof.Machine.execPortState h port state s
  | .probe h => Sys2Proof.Machine.execProbe h s
  | .alive h done waiting => Sys2Proof.Machine.execAlive h done waiting s
  | .probeTimer stalled => Sys2Proof.Machine.execProbeTimer stalled s
  | .probeWaitExpiry node => Sys2Proof.Machine.execProbeWaitExpiry node s
  | .rollback h restart checkpoint gen => Sys2Proof.Machine.execRollback h restart checkpoint gen s
  | .ckptRestoreDone => Sys2Proof.Machine.execCkptRestoreDone s
  | .mapUpdate h entries final => Sys2Proof.Machine.execMapUpdate h entries final s
  | .ckptDone h gen buddy ok => Sys2Proof.Machine.execCkptDone h gen buddy ok s
  | .heartbeat h beat restore => Sys2Proof.Machine.execHeartbeat h beat restore s
  | .heartbeatSend => Sys2Proof.Machine.execHeartbeatSend s
  | .masterLoss => Sys2Proof.Machine.execMasterLoss s
  | .takeover h answer lastBeat => Sys2Proof.Machine.execTakeover h answer lastBeat s
  | .snapshot h gen id target => Sys2Proof.Machine.execSnapshot h gen id target s
  | .snapDone h id ok => Sys2Proof.Machine.execSnapDone h id ok s
  | .caravanHalt h reason => Sys2Proof.Machine.execCaravanHalt h reason s
  | .kilnTailWrite f t k value => Sys2Proof.Machine.execKilnTailWrite f t k value s
  | .kilnAccept t k desc params => Sys2Proof.Machine.execKilnAccept t k desc params s
  | .kilnSampleStart t k pos host => Sys2Proof.Machine.execKilnSampleStart t k pos host s
  | .kilnSampleEnd t k pos => Sys2Proof.Machine.execKilnSampleEnd t k pos s
  | .kilnDeadline t k batch => Sys2Proof.Machine.execKilnDeadline t k batch s
  | .kilnBatchCopy t k => Sys2Proof.Machine.execKilnBatchCopy t k s
  | .decodeTailWrite f c value => Sys2Proof.Machine.execDecodeTailWrite f c value s
  | .encodeTailWrite f e value => Sys2Proof.Machine.execEncodeTailWrite f e value s
  | .codecFrameAdmit pipe entries roi more => Sys2Proof.Machine.execCodecFrameAdmit pipe entries roi more s
  | .decodePictureOutput c pic frameEnds last => Sys2Proof.Machine.execDecodePictureOutput c pic frameEnds last s
  | .decodeReleaseWrite f c value => Sys2Proof.Machine.execDecodeReleaseWrite f c value s
  | .encodePassDone e qp bits => Sys2Proof.Machine.execEncodePassDone e qp bits s
  | .encodeCommit f e value block => Sys2Proof.Machine.execEncodeCommit f e value block s
  | .encodeReleaseWrite f e value => Sys2Proof.Machine.execEncodeReleaseWrite f e value s
  | .codecModeRequest f value => Sys2Proof.Machine.execCodecModeRequest f value s
  | .pipeFault pipe => Sys2Proof.Machine.execPipeFault pipe s
  | .pfcPauseExpiry p pcp4 => Sys2Proof.Machine.execPfcPauseExpiry p pcp4 s
  | .midMessageTimeout fw r => Sys2Proof.Machine.execMidMessageTimeout fw r s
  | .standbyLoss => Sys2Proof.Machine.execStandbyLoss s
  | .snapshotCopyDone => Sys2Proof.Machine.execSnapshotCopyDone s
  | .inputVoltageWarn mv => Sys2Proof.Machine.execInputVoltageWarn mv s
  | .pwrgdDeassert => Sys2Proof.Machine.execPwrgdDeassert s

end Sys2Proof.Machine
end

