-- ==== Sys2Proof/Machine/Time.lean ====
section
/-! DEFINITION. The passing of module time when no command waits. -/
namespace Sys2Proof.Machine

/-- One microsecond of module time (R351, R520): PTP time runs in nanoseconds. -/
def tick (s : State) : State :=
  { s with clock := { s.clock with ptp := s.clock.ptp + 1000, since := s.clock.since + 1000 } }

end Sys2Proof.Machine
end

