-- ==== Sys2Proof/Machine/Step.lean ====
section
/-! DEFINITION. The block's step: take the command at the front of the queue and run it; on an empty queue a tick of
module time passes. -/
namespace Sys2Proof.Machine

/-- One step (the queue is first in, first out). -/
def step (s : State) : Host.Outcome State Fault Refusal :=
  match s.pending with
  | [] => .next (tick s)
  | c :: rest => exec c { s with pending := rest }

/-- `s` with the command that a word spells put at the front of its queue; no row of the table has a word. -/
def State.withFetchWord (s : State) (nbits w : Nat) : State :=
  match decodeTableWord nbits w with
  | some c => { s with pending := c :: s.pending }
  | none => s

end Sys2Proof.Machine
end

