-- ==== Sys2Proof/WellFormed.lean ====
section
/-! DEFINITION. Which commands can come to the module: the fields of segments, notices, map entries and readings keep their
widths, addresses keep their spaces, and words read come whole. `exec` is total and does not rest on it. -/
namespace Sys2Proof

/-- The header fields of Table 13-2 keep their widths, and the payload is at most 8,192 bytes (R317, R321). -/
def Seg.wf (g : Seg) : Bool :=
  decide (1 ≤ g.typ) && decide (g.typ ≤ 11) && decide (g.cls < 3) && decide (g.tenant < 8) && decide (g.epoch < 2 ^ 16) &&
  decide (g.srcNode < 2 ^ 16) && decide (g.dstNode < 2 ^ 16) && decide (g.route < 2 ^ 16) && decide (g.segIdx < 2 ^ 16) &&
  decide (g.segCnt < 2 ^ 16) && decide (g.seq < 2 ^ 32) && decide (g.msgNo < 2 ^ 32) && decide (g.handle < 2 ^ 24) &&
  decide (g.offset < 2 ^ 32) && decide (g.step < 2 ^ 48) && decide (g.tstamp < 2 ^ 32) && decide (g.aux < 2 ^ 32) &&
  decide (g.payload.length ≤ 8192)

/-- A received frame fits the MAC limit, its address has 48 bits, its SecTAG's fields their widths, and a datagram that the
command gives lies within it (R298, R308, R316). -/
def RxFrame.wf (f : RxFrame) : Bool :=
  decide (f.len ≤ 9216) && (f.dst.all fun a => decide (a < 2 ^ 48)) &&
  (f.sec.all fun x => decide (x.1 < 4) && decide (x.2 < 2 ^ 64)) && f.datagram.all fun b => decide (b.length ≤ f.len)

/-- A PTP message keeps its widths: domain, and the data set of an Announce (R309). -/
def PtpMsg.wf (m : PtpMsg) : Bool := decide (m.domain < 256) && decide (m.dataset.length ≤ 9)

/-- The common fields of a notice keep their widths (R349). -/
def NoteHdr.wf (h : NoteHdr) : Bool :=
  decide (h.step < 2 ^ 48) && decide (h.sender < 2 ^ 16) && decide (h.term < 2 ^ 32) && decide (h.mapGen < 2 ^ 32)

/-- A map entry keeps Table 14-2. -/
def MapEntry.wf (e : MapEntry) : Bool :=
  decide (e.node < 2 ^ 16) && decide (e.bond < 2 ^ 16) && (decide (e.slot ≤ 8) || decide (e.slot = 15)) &&
  decide (e.flags < 64) && decide (e.addr < 2 ^ 128) && decide (e.serial < 2 ^ 64)

/-- Symbols of a codeword are numbered 0 to 71, and addresses have 48 bits (R249). -/
def CwErr.wf (x : CwErr) : Bool := decide (x.addr < 2 ^ 48) && x.symbols.all fun k => decide (k < 72)

/-- Lanes of a channel or bulk group (R249). -/
def laneWf (chan lane : Nat) : Bool := decide (lane < if chan < 256 then 72 else 64)

/-- A temperature fits TEMP, I16 in 1/16 °C (Table 21-10). -/
def tempWf (r : Int) : Bool := decide (-32768 ≤ r) && decide (r ≤ 32767)

/-- A register offset is that of a word (R464). -/
def offsetWf (off : Nat) : Bool := decide (off % 4 = 0)

/-- Words of a descriptor or ring entry come whole: 16 of them. -/
def entryWf (l : List W32) : Bool := decide (l.length ≤ 16)

/-- A step number has 48 bits. -/
def stepWf (n : Nat) : Bool := decide (n < 2 ^ 48)

/-- The checks of each command. -/
def Instr.wf (i : Instr) : Bool :=
  match i with
  | .memoryTrainingDone l => l.all fun p => laneWf p.1 p.2
  | .sensorSample l => l.all fun p => tempWf p.2
  | .voltageSample l => l.all fun p => decide (p.2 < 2 ^ 16)
  | .processMonitorRead l => l.all fun p => decide (p.2 < 2 ^ 16)
  | .registerWrite _ _ off _ _ => offsetWf off
  | .registerCrossingTimeout _ off _ => offsetWf off
  | .apertureRead _ _ len errs => decide (1 ≤ len) && errs.all CwErr.wf
  | .apertureWrite _ _ bytes errs => !bytes.isEmpty && errs.all CwErr.wf
  | .prefetchLand _ _ errs => errs.all CwErr.wf
  | .maintenanceBurst _ errs => errs.all CwErr.wf
  | .sharedUnitGrant _ errs => errs.all CwErr.wf
  | .laneErasure chan lane => laneWf chan lane
  | .rowRetirement bank _ => decide (bank < 272 * 256)
  | .refresh bank _ => decide (bank < 272 * 256)
  | .frameReceive _ f => f.wf
  | .lldpReceive _ x _ _ => decide (x.chassis < 2 ^ 64)
  | .ptpMessage _ m _ => m.wf
  | .data _ g => g.wf
  | .ack _ g => g.wf
  | .notReady _ g => g.wf
  | .participantReset _ g => g.wf
  | .openSeg _ g => g.wf
  | .openAck _ g => g.wf
  | .commit _ g => g.wf
  | .refused _ g => g.wf
  | .busy _ g => g.wf
  | .routeFail _ g => g.wf
  | .join h serial bond slot role _ addr => h.wf && decide (serial < 2 ^ 64) && decide (bond < 2 ^ 16) &&
      (decide (slot ≤ 8) || decide (slot = 15)) && decide (role ≤ 2) && decide (addr < 2 ^ 128)
  | .stageDone h => h.wf
  | .bondDone h bond slots => h.wf && decide (bond < 2 ^ 16) && decide (slots < 2 ^ 9)
  | .stepGo h n beat _ gen => h.wf && stepWf n && stepWf beat && decide (gen < 2 ^ 16)
  | .lateManifest h core queue slip => h.wf && decide (core < 16) && decide (queue < 16) && decide (slip < 2 ^ 32)
  | .haltReport h code core queue task _ => h.wf && decide (code < 256) && decide (core < 16) && decide (queue < 16) &&
      decide (task < 2 ^ 16)
  | .replace h reason => h.wf && decide (reason < 4)
  | .portState h port state => h.wf && decide (port < 32) && decide (state ≤ 5)
  | .probe h => h.wf
  | .alive h _ _ => h.wf
  | .probeWaitExpiry node => decide (node < 2 ^ 16)
  | .rollback h restart _ gen => h.wf && stepWf restart && decide (gen < 2 ^ 16)
  | .mapUpdate h es _ => h.wf && es.all MapEntry.wf
  | .ckptDone h gen _ _ => h.wf && decide (gen < 2 ^ 16)
  | .heartbeat h beat _ => h.wf && stepWf beat
  | .takeover h _ beat => h.wf && stepWf beat
  | .snapshot h gen _ _ => h.wf && decide (gen < 2 ^ 16)
  | .snapDone h _ _ => h.wf
  | .caravanHalt h reason => h.wf && decide (reason < 256)
  | .codecFrameAdmit _ es _ _ => es.all entryWf
  | .kilnAccept _ _ d p => entryWf d && entryWf p
  | .encodeCommit _ _ _ b => decide (b.length ≤ 32)
  | .codecOpen _ b => decide (b.length ≤ 32)
  | _ => true

end Sys2Proof
end

