-- ==== Sys2Proof/Safety.lean ====
section
/-! DEFINITION. What the statements call a sound state: the canonical form of memory and of the registers, what a safe step
is, and the words of the statements. -/
namespace Sys2Proof.Machine

/-- Memory keeps its canonical form: addresses strictly rising, no listed byte 0 (what an unlisted byte reads as). -/
def Mem.wf (m : Mem) : Bool := mapWf (fun _ => (0 : Byte)) m.bytes

/-- Registers keep their canonical form: keys strictly rising, none listed at its reset value. -/
def regsWf (m : SMap W32) : Bool := mapWf (fun k => (runkey k).1.reset (runkey k).2) m

/-- The tensor home tables keep their canonical form. -/
def homesWf (m : SMap HEntry) : Bool := mapWf (fun _ => HEntry.free) m

/-- The canonical forms of a state. -/
def State.canonical (s : State) : Bool := s.mem.wf && regsWf s.regs && homesWf s.homes

/-- A step from s is safe: it answers a next state. -/
def stepsOn (s : State) : Prop := ∃ t, step s = .next t

/-- No clock of the module runs and input power is not on its way (R484, R507). -/
def unpowered (s : State) : Prop :=
  (s.power.phase = .off ∨ s.power.phase = .shutdown ∨ s.power.phase = .dark ∨ s.power.phase = .disconnected) ∧
    Instr.inputPowerUp ∉ s.pending

/-- Every register that p does not name reads as before. -/
def sameRegs (p : Reg → Nat → Prop) (s t : State) : Prop := ∀ r i, ¬ p r i → t.reg r i = s.reg r i

/-- A register whose landing write has no effect beyond its value (R473): no doorbell, lock, command or injection register. -/
def plainReg (r : Reg) : Bool :=
  match r with
  | .klnQtail | .cdcDtail | .cdcEtail | .mbxLock | .mbxPost | .mbxAck | .queCtrl | .thCmd | .portCtrl | .cdcDrelease
  | .coreCbdir | .portFinj | .tunFinj | .hubLock | .queRingtail => false
  | _ => true

/-- Registers of the access error log (R473). -/
def errorLog (r : Reg) (i : Nat) : Prop := (r = .hubRegerr0 ∨ r = .hubRegerr1 ∨ r = .hubRegerrcnt) ∧ i = 0

/-- What Table 19-4 does with an access that goes wrong: counted, logged while the log is free, reported when it says so. -/
def logged (s t : State) (kind bar f off : Nat) (aer : Bool) : Prop :=
  t.reg .hubRegerrcnt 0 = satAdd32 (s.reg .hubRegerrcnt 0) 1 ∧
  (bit (s.reg .hubRegerr0 0) 31 = false → bit (t.reg .hubRegerr0 0) 31 = true ∧ t.rfld .hubRegerr0 0 27 24 = kind ∧
    t.rfld .hubRegerr0 0 23 22 = bar ∧ t.rfld .hubRegerr0 0 19 16 = f ∧ t.reg .hubRegerr1 0 = BitVec.ofNat 32 off) ∧
  (bit (s.reg .hubRegerr0 0) 31 = true → t.rfld .hubRegerr0 0 29 0 = s.rfld .hubRegerr0 0 29 0 ∧
    bit (t.reg .hubRegerr0 0) 30 = true ∧ t.reg .hubRegerr1 0 = s.reg .hubRegerr1 0) ∧
  t = { s with regs := t.regs, sent := t.sent } ∧ (aer = true → .aer f false ∈ t.sent)

/-- No stored codeword holds an error, none is poisoned and no lane is erased: a read delivers what is stored (R251, R252). -/
def readsClean (s : State) : Prop := s.mem.latent = [] ∧ s.mem.poison = [] ∧ s.mem.erased = []

/-- The module has stopped for a critical shutdown: every island's clock, and no training goes on (R506). -/
def stopsModule (s t : State) : Prop :=
  t.power.phase = .shutdown ∧ t.power.clocksStopped = true ∧ t.power.training = false ∧ t.up = false ∧ t.mem = s.mem ∧
    t.homes = s.homes ∧ t.cores = s.cores ∧ t.queues = s.queues

/-- A CRITICAL record is the newest of the log, where the control processor runs and has written none in this second (R506,
R520). -/
def criticalLogged (s t : State) : Prop :=
  s.clocked = true → s.flash.logSecond ≠ s.clock.since / 1000000000 →
    ∃ r, t.flash.ring.head? = some r ∧ r.kind = 0x0B ∧ r.seq = s.flash.logSeq

/-- A sideband input's next assertion is acted on: none was within 100 µs before (R510). -/
def State.sideReady (s : State) (sync : Bool) : Prop :=
  bit (s.reg .monSbstat 0) (sbLevel sync) = false ∧ ∀ a, (s.side sync).lastActed = some a → 100000 ≤ s.clock.since - a

/-- No configuration register has a flip or a fault (R476, R477). -/
def sound (s : State) : Prop := s.parity.latent = [] ∧ s.parity.faulted = []

/-- The next task of queue k, with working descriptor d, issues now but for its unit: nothing is faulted, staged or void
(R113, R119, R121). Serial numbers of tasks in flight lie below the next one. -/
def mayIssue (s : State) (k : Nat) (d : List W32) : Prop :=
  s.up = true ∧ sound s ∧ s.staged = [] ∧ (s.core (s.queue k).lcore).cbdirWritten = false ∧
    d = s.patched k (s.queue k).next ∧ s.issuable k = true ∧ s.firstOnCore k = true ∧ s.voidWait k d = none ∧
    ∀ x ∈ (s.queue k).tasks, x.serial < s.serial

/-! Words of the statements about the vector engine. -/

/-- The next instruction of a context (R142). -/
def State.nextInsn (s : State) (c : VecCtx) : Insn :=
  insnOf (s.word (c.prog + 0x140 + 8 * c.pc)) (s.word (c.prog + 0x144 + 8 * c.pc))

/-- Lane l of V register r, and bit l of M register r. -/
def VecCtx.lane (c : VecCtx) (r l : Nat) : W32 := ((c.vec r)[l]?).getD 0
def VecCtx.bitAt (c : VecCtx) (r l : Nat) : Bool := ((c.mask r)[l]?).getD false

/-- Core n's engine stands at an instruction of opcode op of context c, not the last of the program, outside a REP and
outside trap mode. -/
def State.vecAt (s : State) (n op : Nat) (drain : Bool) (c : VecCtx) : Prop :=
  s.up = true ∧ (s.core n).running = some (drain, c) ∧ (s.nextInsn c).op = op ∧ c.reps = [] ∧
    c.pc + 1 < s.insnCount c.prog ∧ ∀ t, s.task? c.owner.1 c.owner.2 = some t → t.trap = false

/-- Only the instruction count of core n and cold reads are counted. -/
def vecRegs (n : Nat) (s t : State) : Prop :=
  t.reg .coreVecissue n = wrapAdd32 (s.reg .coreVecissue n) 1 ∧
    sameRegs (fun r i => (r = .coreVecissue ∧ i = n) ∨ r = .thColdcnt) s t

/-- The instruction has run: the context is c', at the next instruction; the instruction is counted; memory, homes and
the other cores are as before. -/
def vecGoesOn (s t : State) (n : Nat) (drain : Bool) (c c' : VecCtx) : Prop :=
  t.core n = (s.core n).setRunning drain { c' with pc := c.pc + 1 } ∧ (∀ m, m ≠ n → t.core m = s.core m) ∧
    t = { s with cores := t.cores, queues := t.queues, regs := t.regs } ∧ vecRegs n s t

/-- The result of a lane that the mask lets through; a masked-off lane keeps its destination (R147). -/
def masked (f : VecCtx → Insn → Nat → W32) (c : VecCtx) (i : Insn) (l : Nat) : W32 :=
  if c.bitAt i.mask l then f c i l else c.lane i.vd l

/-- The command runs an instruction that gives lane l of V[VD] the value f c i l, and changes no other register of the
context. -/
def givesLanes (op : Nat) (p : Insn → Prop) (cmd : Fin 16 → Instr) (f : VecCtx → Insn → Nat → W32) : Prop :=
  ∀ (n : Fin 16) drain c s, s.vecAt n op drain c → p (s.nextInsn c) →
    ∃ t c', exec (cmd n) s = .next t ∧ vecGoesOn s t n drain c c' ∧ c' = { c with v := c'.v } ∧
      (∀ l, l < 2048 → c'.lane (s.nextInsn c).vd l = f c (s.nextInsn c) l) ∧
      ∀ r, r ≠ (s.nextInsn c).vd → c'.vec r = c.vec r

/-- The same for an instruction that writes M[VD]; M0 cannot be written (Table 5-1). -/
def givesBits (op : Nat) (cmd : Fin 16 → Instr) (f : Insn → W32 → W32 → Bool) : Prop :=
  ∀ (n : Fin 16) drain c s, s.vecAt n op drain c →
    ∃ t c', exec (cmd n) s = .next t ∧ vecGoesOn s t n drain c c' ∧ c' = { c with m := c'.m } ∧
      (∀ l, l < 2048 → (s.nextInsn c).vd ≠ 0 → c'.bitAt (s.nextInsn c).vd l =
        if c.bitAt (s.nextInsn c).mask l then f (s.nextInsn c) (c.lane (s.nextInsn c).va l) (c.lane (s.nextInsn c).vb l)
        else c.bitAt (s.nextInsn c).vd l) ∧
      ∀ r, r ≠ (s.nextInsn c).vd → c'.mask r = c.mask r

/-- The same for an instruction that writes S[VD]. -/
def givesScalar (op : Nat) (cmd : Fin 16 → Instr) (f : VecCtx → Insn → W32) : Prop :=
  ∀ (n : Fin 16) drain c s, s.vecAt n op drain c →
    ∃ t c', exec (cmd n) s = .next t ∧ vecGoesOn s t n drain c c' ∧ c' = { c with s := c'.s } ∧
      c'.sc (s.nextInsn c).vd = f c (s.nextInsn c) ∧ ∀ r, r ≠ (s.nextInsn c).vd → c'.sc r = c.sc r

/-- The pairwise tree over 2^k values from position i (R148). -/
def pairTree (f : W32 → W32 → FRes) (x : Nat → W32) : Nat → Nat → W32
  | 0, i => x i
  | k + 1, i => (f (pairTree f x k i) (pairTree f x k (i + 2 ^ k))).bits

/-- The values of the active lanes of block j of w lanes of V[VA] (R57, R153). -/
def activeOf (c : VecCtx) (i : Insn) (w j : Nat) : List W32 :=
  (((List.range w).map fun q => w * j + q).filter fun l => c.bitAt i.mask l).map fun l => c.lane i.va l

/-- The command sends frame w on port p and does nothing else, but for what port injection makes of the frame (R314). -/
def sendsOn (p : Nat) (c : Instr) (w : WireFrame) (s : State) : Prop :=
  let inj := s.reg .portFinj p
  let draw := injDraw (s.reg .portFinjseed p) (s.port p).injNo p
  let taken := bit inj 31 = true ∧ fld inj 23 16 / 2 ^ w.pcp % 2 = 1
  let kind := fld inj 30 29
  ∃ u, exec c s = .next u ∧ u = { s with ports := u.ports, regs := u.regs, sent := u.sent } ∧
    sameRegs (fun r i => r = .portFinjcnt ∧ i = p) s u ∧
    (¬ taken → u.regs = s.regs ∧ w.out p ∈ u.sent ∧ ((s.port p).held = [] → u = { s with sent := w.out p :: s.sent })) ∧
    (taken → (u.port p).injNo = ((s.port p).injNo + 1) % 2 ^ 40 ∧
      (injHit (fld inj 28 24) draw.1 = false → w.out p ∈ u.sent ∧ u.regs = s.regs) ∧
      (injHit (fld inj 28 24) draw.1 = true → u.reg .portFinjcnt p = wrapAdd32 (s.reg .portFinjcnt p) 1 ∧
        (kind = 0 → (s.port p).held = [] → u.sent = s.sent ∧ (u.port p).held = []) ∧
        (kind = 1 ∨ kind = 2 →
          .flipped p (draw.2.toNat % (8 * s.wireLen p w)) (decide (kind = 2)) w ∈ u.sent) ∧
        (kind = 3 → (s.port p).held = [] → u.sent = s.sent ∧ (u.port p).held = [w])))

/-- The command writes a register that is outside function f's view: only the access error log is changed (R473). -/
def offView (f : Nat) (r : Reg) (i : Nat) (c : Instr) (s : State) : Prop :=
  s.inView f r i = false → ∃ u, exec c s = .next u ∧ u = { s with regs := u.regs, sent := u.sent } ∧ sameRegs errorLog s u

/-! Words of the statements about the caravan. -/

/-- A notice of this module to a node, as it leaves (R349). -/
def State.noticeOf (s : State) (code node : Nat) (body : List Nat) : Emit :=
  .notice code node (noticePayload (bit (s.reg .tunCtrl 0) 29) s.noteHdr code body)

/-- A notice that a head or deputy passes on with the header it came with (R350). -/
def State.relayed (s : State) (h : NoteHdr) (code node : Nat) (body : List Nat) : Emit :=
  .notice code node (noticePayload (bit (s.reg .tunCtrl 0) 29) h code body)

/-- The module has heard its master (R372). -/
def State.heard (s : State) (h : NoteHdr) : State :=
  { s with caravan := { s.caravan with masterNode := some h.sender, masterHeard := s.beat } }

/-- The fields of the acting master alone are as f makes them. -/
def masterIs (s u : State) (f : Master → Master) : Prop :=
  u = { s with caravan := { s.caravan with master := f s.caravan.master } }

/-- CARAVAN_HALT for a reason has gone to every head and module outside bonds, and the master's collection is over (R360). -/
def haltsAll (s u : State) (reason : Nat) : Prop :=
  (∀ n ∈ s.downNodes, s.noticeOf 0x12 n (reason :: stepWords s.carStep) ∈ u.sent) ∧
    u = { s with caravan := { s.caravan with master := u.caravan.master }, sent := u.sent } ∧
    u.caravan.master.reports = [] ∧ u.caravan.master.failed = [] ∧ u.caravan.master.collecting = false ∧
    u.caravan.master.rollback = none

end Sys2Proof.Machine
end

