-- ==== Sys2Proof/Certificates/Slice0/Obligations.lean ====
section
/-! DEFINITION. The statements for the provers. -/

open Sys2Proof Sys2Proof.Machine

/-- A step runs the command at the front of the queue on the state with the queue's rest (notes/assumptions/7). -/
def Obligations.StepRunsFrontCommand : Prop :=
  ∀ (c : Instr) (rest : List Instr) (s : State),
    step { s with pending := c :: rest } = exec c { s with pending := rest }

/-- On an empty queue one microsecond of module time passes and nothing else changes (notes/assumptions/98, 14_caravan.md). -/
def Obligations.EmptyQueueLetsTimePass : Prop :=
  ∀ s : State, s.pending = [] → ∃ t, step s = .next t ∧
    t = { s with clock := t.clock } ∧ t.clock.ptp = s.clock.ptp + 1000 ∧ t.clock.since = s.clock.since + 1000 ∧
    t.clock.locked = s.clock.locked ∧ t.beat = (s.beat + 1) % 2 ^ 48

/-- Right after reset every register reads its reset value, memory reads 0, nothing waits and nothing runs (19_register_behaviour.md, notes/assumptions/1, notes/assumptions/3). -/
def Obligations.ResetHoldsTheResetValues : Prop :=
  (∀ r i, State.reset.reg r i = r.reset i) ∧ (∀ a, State.reset.byte a = 0) ∧ State.reset.power.phase = .off ∧
  (∀ t h, (State.reset.home t h) = HEntry.free) ∧ State.reset.pending = [] ∧ State.reset.sent = [] ∧
  State.reset.up = false ∧ State.reset.canonical = true

/-- The module right after reset has no running clock and no input power on its way (R484, R507). -/
def Obligations.UnpoweredAtReset : Prop :=
  unpowered State.reset

/-- No step starts a module that is off, shut down or disconnected: only a rise of the input power can (R507, R496, R531, R484). -/
def Obligations.UnpoweredStaysUnpowered : Prop :=
  ∀ s t : State, unpowered s → step s = .next t →
    unpowered t ∧ t.up = false ∧ t.clocked = false ∧ t.served = false

/-- After critical shutdown every command but those of the power stage leaves the module as it is (R507, R506, 22_electrical_and_mechanical.md). -/
def Obligations.ShutdownHasNoEffects : Prop :=
  ∀ (c : Instr) (s : State), s.power.phase = .shutdown ∨ s.power.phase = .dark →
    (c ≠ .railsOff → c ≠ .powerOnReset → c ≠ .pwrgdDeassert → c ≠ .inputOvervoltage → c ≠ .electronicFuseOpen →
      exec c s = .next s) ∧
    (∃ t, exec c s = .next t ∧ t.up = false ∧ t.clocked = false ∧ t.served = false)

/-- No command ever stops the block: each answers a next state from every state (opcode_table.json). -/
def Obligations.EveryCommandAnswers : Prop :=
  ∀ (c : Instr) (s : State), ∃ t, exec c s = .next t

/-- Every instance of every register has one BAR offset, and that offset leads back to it (R480, R481, 19_register_behaviour.md). -/
def Obligations.RegisterMapRoundTrip : Prop :=
  (∀ (r : Reg) (i : Nat), i < regCount r →
    (regPlace r i).2.2.2 % 4 = 0 ∧
    (if inBar2 r then regAt2 (regPlace r i).2.2.2 else regAt (regPlace r i).2.2.2) = some (r, i)) ∧
  (∀ (r r' : Reg) (i i' : Nat), i < regCount r → i' < regCount r' → inBar2 r = inBar2 r' →
    (regPlace r i).2.2.2 = (regPlace r' i').2.2.2 → r = r' ∧ i = i')

/-- Input power, PWRGD and the loss of rails move the module between the phases of power (R484, R505, R506, R530, R532, R531). -/
def Obligations.RailsComeUpAndGo : Prop :=
  (∀ s : State,
    (s.power.phase = .off →
      exec .inputPowerUp s = .next { s with power := { s.power with phase := .rails } }) ∧
    (s.power.phase = .rails →
      exec (.pwrgd []) s = .next { s with power := { s.power with phase := .idle, pwrgd := true },
                                          sent := .pin 2 true :: s.sent }) ∧
    (s.power.pwrgd = true →
      exec .pwrgdDeassert s = .next { s with power := { s.power with pwrgd := false }, sent := .pin 2 false :: s.sent }) ∧
    (s.power.phase = .shutdown → ∃ t, exec .railsOff s = .next t ∧
      t = { s with power := { s.power with phase := .dark, replaceN := true, pwrgd := false },
                   regs := t.regs, sent := .pin 2 false :: .pin 1 true :: s.sent } ∧
      bit (t.reg .monReplace 0) 31 = true ∧ (∀ j, j < 31 → bit (t.reg .monReplace 0) j = bit (s.reg .monReplace 0) j) ∧
      sameRegs (fun r i => r = .monReplace ∧ i = 0) s t) ∧
    (s.power.phase ≠ .off → s.power.phase ≠ .disconnected →
      ∀ c, c = .inputOvervoltage ∨ c = .electronicFuseOpen → ∃ t, exec c s = .next t ∧
        t.power.phase = .disconnected ∧ t.power.pwrgd = false ∧ t.power.replaceN = false ∧
        t.flash = { s.flash with logSecond := 0, logCount := 0 } ∧ t.mem = State.reset.mem ∧ t.regs = [] ∧
        t.pending = s.pending)) ∧
  (∀ (l : List (Fin 32)) (s : State), s.power.phase = .rails → ∃ t, exec (.pwrgd l) s = .next t ∧
    t.power = { s.power with phase := .idle, pwrgd := true } ∧ t.mem = s.mem ∧ t.homes = s.homes ∧
    (∀ i : Fin 32, bit (t.reg .monTemp i) 29 = (decide (i ∈ l) || bit (s.reg .monTemp i) 29)) ∧
    (∀ i : Fin 32, i ∈ l → bit (s.reg .monTemp i) 29 = false → 18 ≤ i.val → i.val < 26 →
      t.rfld .monClkstep i 20 16 = if s.mon.forced then 4 else 12) ∧
    sameRegs (fun r _ => r = .monTemp ∨ r = .monClkstep) s t)

/-- A power-on reset leaves flash and fuses alone; a warm or hot reset leaves the monitor registers as well (R496, R537, R507, R525, R530). -/
def Obligations.ResetsKeepWhatTheyMust : Prop :=
  (∀ s : State, s.power.phase ≠ .off → ∃ t, exec .powerOnReset s = .next t ∧
    t = { State.reset with pending := s.pending, flash := t.flash, serial := s.serial, freeCtr := s.freeCtr,
                           sent := .pin 2 false :: .pin 1 false :: s.sent } ∧
    t.flash = { s.flash with logSecond := 0, logCount := 0 } ∧
    (∀ r i, t.reg r i = r.reset i) ∧ (∀ a, t.byte a = 0)) ∧
  (∀ (c : Instr) (s : State),
    (c = .warmReset ∧ s.sampling = true ∧ s.power.pwrgd = true) ∨ (c = .hotReset ∧ s.clocked = true) →
    ∃ t, exec c s = .next t ∧ t.power.phase = .idle ∧ t.power.perst = decide (c = .warmReset) ∧
      t.power.pwrgd = s.power.pwrgd ∧ t.power.replaceN = s.power.replaceN ∧ t.clock = s.clock ∧ t.sent = s.sent ∧
      t.flash = { s.flash with logSecond := 0, logCount := 0 } ∧ t.mem = State.reset.mem ∧ t.homes = [] ∧ t.queues = [] ∧
      t.tunil = State.reset.tunil ∧ t.cores = [] ∧ t.codec = State.reset.codec ∧ t.kiln = State.reset.kiln ∧
      (∀ p ∈ monitorRegs, ∀ i, i < p.2 → t.reg p.1 i = s.reg p.1 i) ∧
      (∀ r i, (∀ p ∈ monitorRegs, ¬ (p.1 = r ∧ i < p.2)) → t.reg r i = r.reset i))

/-- PERST_N release counts the boot and starts the image copy that the boot ROM accepts, or the recovery state (R484, R488, R489, R494). -/
def Obligations.StartTakesTheFirstGoodCopy : Prop :=
  ∀ (okA okB sp0 sp1 : Bool) (s : State),
    (s.power.phase = .idle → s.power.pwrgd = true →
      ∃ t, exec (.perstNRelease okA okB sp0 sp1) s = .next t ∧ t.power.perst = false ∧ t.clock.since = 0 ∧
        t.clock.ptp = s.clock.ptp ∧ t.mem = s.mem ∧ t.homes = s.homes ∧
        (s.flash.current.seq + 1 < 2 ^ 32 → t.power.bootCount = (s.flash.current.bootCount + 1) % 2 ^ 32) ∧
        (let c := chooseImage s.flash s.flash.current okA okB
         match c.image with
         | none => t.power.phase = .recovery ∧ t.power.training = s.power.training ∧ t.cfg = recoveryImage ∧
            bit (t.reg .monReplace 0) 4 = true
         | some im => t.power.phase = .starting ∧ t.power.training = true ∧ t.cfg = im ∧ t.power.copyB = c.copyB ∧
            t.reg .hubFwrel 0 = im.fwRel ∧ t.rfld .hubStatus 0 28 28 = b2n c.copyB ∧
            t.tunil.bootEpoch = t.power.bootCount % 256 * 256)) ∧
    (s.power.phase ≠ .idle ∨ s.power.pwrgd = false → exec (.perstNRelease okA okB sp0 sp1) s = .next s)

/-- Memory training puts the failed lanes in spares and erasures and leaves start-up going, or the failed state when it loses a channel or times out (R255, R257, R258, R493). -/
def Obligations.TrainingEndsReadyOrFailed : Prop :=
  ∀ s : State, s.clocked = true → s.power.training = true →
    ((∀ n, n < 272 → s.erased n = []) → ∃ t, exec (.memoryTrainingDone []) s = .next t ∧
      t.power.training = false ∧ t.power.phase = s.power.phase ∧ t.rfld .memStatus 0 31 31 = 1 ∧
      t.mem.init = [] ∧ t.mem.initNext = 0 ∧ t.mem.bytes = s.mem.bytes ∧ t.homes = s.homes) ∧
    (∀ lost, let found (n : Nat) := lanesOf lost n
      ∃ t, exec (.memoryTrainingDone lost) s = .next t ∧ t.power.training = false ∧ t.mem.bytes = s.mem.bytes ∧
        t.homes = s.homes ∧
        (∀ n, n < 272 → t.erased n = if ∃ p ∈ lost, p.1.val = n then (if n < 256 then (found n).drop 2 else found n)
          else s.erased n) ∧
        ((∃ n, n < 272 ∧ failsChannel n (t.erased n) = true) →
          t.power.phase = .failed ∧ t.rfld .memStatus 0 31 31 = 0 ∧ t.rfld .memStatus 0 30 30 = 1) ∧
        ((∀ n, n < 272 → failsChannel n (t.erased n) = false) →
          t.power.phase = s.power.phase ∧ t.rfld .memStatus 0 31 31 = 1)) ∧
    (∃ t, exec .trainingTimeout s = .next t ∧ (∀ p, p < 32 → t.portSt p = 0) ∧
      t.power.phase = .failed ∧ t.power.training = false ∧ t.rfld .memStatus 0 31 31 = 0 ∧
      t.rfld .memStatus 0 30 30 = 1 ∧ t.rfld .hubStatus 0 31 31 = 0 ∧ t.mem = s.mem ∧ t.homes = s.homes ∧
      bit (t.reg .monReplace 0) 4 = true) ∧
    (∀ lost, exec (.memoryTrainingDone lost) { s with power := { s.power with training := false } } =
      .next { s with power := { s.power with training := false } })

/-- Port groups start in order, four ports together, and readiness follows when memory and ports are settled (R487, R486, R490). -/
def Obligations.PortsStartInGroups : Prop :=
  (∀ (g : Fin 8) (s : State), s.power.phase = .starting → s.power.clocksStopped = false →
    (s.power.groups = g.val → ∃ t, exec (.portGroupStart g) s = .next t ∧ t.power = { s.power with groups := g.val + 1 } ∧
      t = { s with power := t.power, regs := t.regs, ports := t.ports, host := t.host, sent := t.sent } ∧
      (∀ j, j < 4 → t.portSt (4 * g.val + j) = if s.portUsed (4 * g.val + j) then 1 else s.portSt (4 * g.val + j)) ∧
      (∀ p, p < 32 → p / 4 ≠ g.val → t.portSt p = s.portSt p) ∧ sameRegs (fun r _ => r = .portStatus) s t) ∧
    (s.power.groups ≠ g.val → exec (.portGroupStart g) s = .next s)) ∧
  (∀ s : State, s.power.phase = .starting → s.power.clocksStopped = false → s.trained = true → s.portsSettled = true →
    s.cfg.caravan = none → s.flash.current.trial = false → s.faulty .cdcMode 0 = false →
    s.parity.latent.contains (rkey .cdcMode 0, false) = false →
    ∃ t, exec .readiness s = .next t ∧ t = { s with power := { s.power with phase := .ready }, regs := t.regs } ∧
      t.rfld .hubStatus 0 31 31 = 1 ∧ t.rfld .tunCtrl 0 30 30 = 1 ∧ t.rfld .cdcMode 0 1 0 = 1 ∧
      sameRegs (fun r _ => r = .hubStatus ∨ r = .tunCtrl ∨ r = .cdcMode) s t) ∧
  (∀ s : State, s.power.phase = .starting → s.power.clocksStopped = false →
    (s.trained = true → s.portsSettled = true → ∃ t, exec .readiness s = .next t ∧ t.power.phase = .ready ∧
      t.rfld .hubStatus 0 31 31 = 1 ∧ t.rfld .tunCtrl 0 30 30 = 1 ∧ t.mem = s.mem ∧ t.homes = s.homes ∧
      (s.flash.current.trial = true → s.flash.current.pref = s.power.copyB →
        t.flash.fuses.rollback = Nat.max s.flash.fuses.rollback s.cfg.rollback)) ∧
    (s.trained = false ∨ s.portsSettled = false → exec .readiness s = .next s))

/-- Loss of the reference clock, a critical rail outside the cores and FAULT_IN_N with FAULTACT 2 shut the module down (R506, R502, R511, R535, R533). -/
def Obligations.ShutdownStopsEveryClock : Prop :=
  (∀ s : State, s.sampling = true →
    (∃ t, exec .refclkLoss s = .next t ∧ stopsModule s t ∧ criticalLogged s t ∧ t.power.internalOsc = true ∧
      sameRegs (fun q _ => q = .monLoglost) s t) ∧
    (∃ t, exec (.railCritical none) s = .next t ∧ stopsModule s t ∧ criticalLogged s t ∧
      sameRegs (fun q _ => q = .monLoglost) s t) ∧
    (∀ i : Fin 49, 18 ≤ i.val → ∃ t, exec (.railCritical (some i)) s = .next t ∧ stopsModule s t ∧ criticalLogged s t ∧
      t.rfld .monVolt i 31 30 = 3 ∧ sameRegs (fun q j => (q = .monVolt ∧ j = i.val) ∨ q = .monLoglost) s t) ∧
    (∀ i : Fin 49, i.val < 18 → s.clocked = false ∨ s.logical i = none →
      exec (.railCritical (some i)) s = .next (s.setRfld .monVolt i 31 30 3)) ∧
    (∀ (i : Fin 49) (n : Nat), i.val < 18 → s.clocked = true → s.logical i = some n → s.queuesOn n = [] → s.mon.subst = [] →
      s.spareLeft (dieOf i) = true → ∃ t, exec (.railCritical (some i)) s = .next t ∧ t.rfld .monVolt i 31 30 = 3 ∧
        (t.core n).stopped = true ∧ i.val ∈ t.mon.dead ∧ t.mem = s.mem ∧ t.homes = s.homes ∧ t.power = s.power ∧
        sameRegs (fun q j => (q = .monVolt ∧ j = i.val) ∨ q = .monLoglost) s t) ∧
    (∀ (i : Fin 49) (n : Nat), i.val < 18 → s.clocked = true → s.logical i = some n → (∀ e ∈ s.mon.subst, e.2.1 ≠ n) →
      ∃ t, exec (.railCritical (some i)) s = .next t ∧ t.rfld .monVolt i 31 30 = 3 ∧ (t.core n).stopped = true ∧
        (i.val ∈ t.mon.dead ∨ ∃ e ∈ t.mon.subst, e.2.1 = n)) ∧
    (s.rfld .monSbcfg 0 1 0 = 2 → s.sideReady false → ∃ t, exec .faultInAssert s = .next t ∧ stopsModule s t ∧
      bit (t.reg .monSbstat 0) 29 = true ∧ sameRegs (fun q _ => q = .monSbstat ∨ q = .monLoglost) s t)) ∧
  (∀ s : State, s.sampling = false → exec .refclkLoss s = .next s ∧ (∀ i, exec (.railCritical i) s = .next s) ∧
    exec .faultInAssert s = .next s)

/-- Samples of sensors, rails, process monitors and the input are stored with their levels; the third critical sample stops the module (R499, R500, R261, R506, R502, R503, R532, R520). -/
def Obligations.SamplesAreShownWithTheirLevels : Prop :=
  (∀ (i : Fin 32) (r : Int) (s : State), s.sampling = true → -32768 ≤ r → r ≤ 32767 →
    (∀ j, j < 32 → j ≠ i.val → mget 0 s.mon.hot j < 3) →
    ∃ t, exec (.sensorSample [(i, r)]) s = .next t ∧ t.mem = s.mem ∧ t.homes = s.homes ∧
      (s.tempFailed i = true → mget 0 s.mon.hot i < 3 → t.regs = s.regs ∧ t.power = s.power) ∧
      (s.tempFailed i = false →
        t.reading i = r ∧ t.rfld .monTemp i 31 30 = nextLevel i (s.rfld .monTemp i 31 30) r ∧
        (18 ≤ i.val → i.val < 26 → t.rfld .memStatus 0 (i - 2) (i - 2) = b2n (decide (1360 < r))) ∧
        (t.power.phase = .shutdown ↔ s.power.phase = .shutdown ∨ (reaches i 3 r = true ∧ 2 ≤ mget 0 s.mon.hot i)) ∧
        sameRegs (fun q j => (q = .monTemp ∧ j = i.val) ∨ (q = .memStatus ∧ j = 0) ∨ (q = .monLoglost ∧ j = 0)) s t)) ∧
  (∀ s : State, s.sampling = true →
    (∀ l : List (Fin 32 × Int), (l.map (·.1)).Nodup → (∀ p ∈ l, -32768 ≤ p.2 ∧ p.2 ≤ 32767) →
      ∃ t, exec (.sensorSample l) s = .next t ∧ t.mem = s.mem ∧ t.homes = s.homes ∧
        (∀ p ∈ l, s.tempFailed p.1 = false →
          t.reading p.1 = p.2 ∧ t.rfld .monTemp p.1 31 30 = nextLevel p.1 (s.rfld .monTemp p.1 31 30) p.2) ∧
        sameRegs (fun q _ => q = .monTemp ∨ q = .memStatus ∨ q = .monLoglost) s t) ∧
    (∀ l : List (Fin 49 × Nat), (l.map (·.1)).Nodup → (∀ p ∈ l, p.2 < 65536) →
      (∃ t, exec (.voltageSample l) s = .next t ∧ t.mem = s.mem ∧ t.homes = s.homes ∧ t.power = s.power ∧
        (∀ p ∈ l, t.mv p.1 = p.2 ∧ t.rfld .monVolt p.1 31 30 = railLevel p.1 (s.rfld .monVolt p.1 31 30) p.2) ∧
        sameRegs (fun q _ => q = .monVolt ∨ q = .monLoglost) s t) ∧
      (∃ t, exec (.processMonitorRead l) s = .next t ∧ t.mem = s.mem ∧ t.homes = s.homes ∧ t.power = s.power ∧
        (∀ p ∈ l, t.rfld .monProc p.1 15 0 = p.2) ∧ sameRegs (fun q _ => q = .monProc ∨ q = .monLoglost) s t))) ∧
  (∀ (i : Fin 49) (mv : Nat) (s : State), s.sampling = true → mv < 65536 →
    (∃ t, exec (.voltageSample [(i, mv)]) s = .next t ∧ t.mv i = mv ∧
      t.rfld .monVolt i 31 30 = railLevel i (s.rfld .monVolt i 31 30) mv ∧ t.power = s.power ∧ t.mem = s.mem ∧ t.homes = s.homes ∧
      sameRegs (fun q j => (q = .monVolt ∧ j = i.val) ∨ q = .monLoglost) s t) ∧
    (∃ t, exec (.processMonitorRead [(i, mv)]) s = .next t ∧ t.rfld .monProc i 15 0 = mv ∧ t.power = s.power ∧
      t.mem = s.mem ∧ t.homes = s.homes ∧ sameRegs (fun q j => (q = .monProc ∧ j = i.val) ∨ q = .monLoglost) s t)) ∧
  (∀ (mv : Nat) (s : State), s.clocked = true → (58000 < mv ∧ mv ≤ 60000) ∨ (44000 ≤ mv ∧ mv < 46000) →
    s.flash.logSecond ≠ s.clock.since / 1000000000 →
    ∃ t, exec (.inputVoltageWarn mv) s = .next t ∧ t.regs = s.regs ∧ t.mem = s.mem ∧ t.homes = s.homes ∧
      ∃ r, t.flash.ring.head? = some r ∧ r.kind = 2 ∧ r.data = leBytes 4 mv) ∧
  (∀ (mv : Nat) (s : State), s.clocked = true →
    ((58000 < mv ∧ mv ≤ 60000) ∨ (44000 ≤ mv ∧ mv < 46000) → ∃ t, exec (.inputVoltageWarn mv) s = .next t ∧
      t = { s with regs := t.regs, flash := t.flash, host := t.host, sent := t.sent } ∧
      sameRegs (fun q _ => q = .monLoglost) s t) ∧
    (¬ ((58000 < mv ∧ mv ≤ 60000) ∨ (44000 ≤ mv ∧ mv < 46000)) → exec (.inputVoltageWarn mv) s = .next s))

/-- A throttled or low island moves its step by one within 4 and 16, counted once, and the smallest step rules (R501, R502, R504, R505, R511, R41). -/
def Obligations.ClockStepsMoveByOne : Prop :=
  (∀ (i : Fin 49) (s : State), s.sampling = true →
    (∀ r, s.governing i = some (r, true) → 4 < s.therm i → ∃ t, exec (.thermStepDown i) s = .next t ∧
      t = { s with regs := t.regs } ∧ t.therm i = s.therm i - 1 ∧ t.voltStep i = s.voltStep i ∧ t.powerStep i = s.powerStep i ∧
      t.rfld .monClkstep i 28 24 = Nat.min (t.therm i) (Nat.min (t.voltStep i) (t.powerStep i)) ∧
      t.reg .monThrcnt 0 = s.reg .monThrcnt 0 + 1 ∧
      sameRegs (fun q j => (q = .monClkstep ∧ j = i.val) ∨ (q = .monThrcnt ∧ j = 0)) s t) ∧
    (s.therm i ≤ 4 ∨ (∀ r, s.governing i ≠ some (r, true)) → exec (.thermStepDown i) s = .next s) ∧
    (s.mon.forced = true ∨ s.thermCap i ≤ s.therm i ∨
      (∃ r b, s.governing i = some (r, b) ∧ ∀ x, limitOf (sensorOf i) 2 = some x → x - 48 ≤ r) →
      exec (.thermStepUp i) s = .next s) ∧
    (railBelow i (s.mv i) 5 = false ∨ s.voltStep i ≤ 4 → exec (.voltStepDown i) s = .next s) ∧
    (s.mv i * 100 ≤ railMv i * 97 ∨ 16 ≤ s.voltStep i → exec (.voltStepUp i) s = .next s) ∧
    ((∀ r b, s.governing i = some (r, b) → ∃ x, limitOf (sensorOf i) 2 = some x ∧ r < x - 48) → s.mon.forced = false →
      s.therm i < s.thermCap i → ∃ t, exec (.thermStepUp i) s = .next t ∧
      t = { s with regs := t.regs } ∧ t.therm i = s.therm i + 1 ∧ t.voltStep i = s.voltStep i ∧ t.powerStep i = s.powerStep i ∧
      t.rfld .monClkstep i 28 24 = Nat.min (t.therm i) (Nat.min (t.voltStep i) (t.powerStep i)) ∧
      sameRegs (fun q j => q = .monClkstep ∧ j = i.val) s t) ∧
    (railBelow i (s.mv i) 5 = true → 4 < s.voltStep i → ∃ t, exec (.voltStepDown i) s = .next t ∧
      t = { s with regs := t.regs } ∧ t.voltStep i = s.voltStep i - 1 ∧ t.therm i = s.therm i ∧ t.powerStep i = s.powerStep i ∧
      t.rfld .monClkstep i 28 24 = Nat.min (t.therm i) (Nat.min (t.voltStep i) (t.powerStep i)) ∧
      t.reg .monVthrcnt 0 = s.reg .monVthrcnt 0 + 1 ∧
      sameRegs (fun q j => (q = .monClkstep ∧ j = i.val) ∨ (q = .monVthrcnt ∧ j = 0)) s t) ∧
    (railMv i * 97 < s.mv i * 100 → s.voltStep i < 16 → ∃ t, exec (.voltStepUp i) s = .next t ∧
      t = { s with regs := t.regs } ∧ t.voltStep i = s.voltStep i + 1 ∧ t.therm i = s.therm i ∧ t.powerStep i = s.powerStep i ∧
      t.rfld .monClkstep i 28 24 = Nat.min (t.therm i) (Nat.min (t.voltStep i) (t.powerStep i)) ∧
      sameRegs (fun q j => q = .monClkstep ∧ j = i.val) s t)) ∧
  (∀ (down : Bool) (s : State), s.up = true →
    ∃ t, exec (if down then .powerThrottle else .powerUnthrottle) s = .next t ∧ t = { s with regs := t.regs } ∧
      (∀ c, c ∈ s.activeCores → s.activeCores.Nodup →
        t.powerStep c = if down then (if 4 < s.powerStep c then s.powerStep c - 1 else s.powerStep c)
                        else (if s.powerStep c < 16 then s.powerStep c + 1 else s.powerStep c)) ∧
      ((∃ c ∈ s.activeCores, if down then 4 < s.powerStep c else s.powerStep c < 16) →
        t.reg .monPwrthr 0 = s.reg .monPwrthr 0 + 1) ∧
      sameRegs (fun q j => (q = .monClkstep ∧ j ∈ s.activeCores) ∨ (q = .monPwrthr ∧ j = 0)) s t)

/-- A sideband assertion acts once, is released by its deassertion, and glitches and stuck inputs show in their registers (R508, R509, R510, R511, R536). -/
def Obligations.SidebandInputsAreTakenOnce : Prop :=
  ∀ s : State, s.sampling = true →
    (s.sideReady true → ∃ t, exec .stepSyncCapture s = .next t ∧
      t.reg .monSynccap0 0 = BitVec.ofNat 32 s.beat ∧ t.rfld .monSynccap1 0 15 0 = s.beat / 2 ^ 32 ∧
      t.rfld .monSynccap1 0 31 16 = (s.rfld .monSynccap1 0 31 16 + 1) % 65536 ∧ bit (t.reg .monSbstat 0) 13 = true ∧
      t.mon.sync.lastActed = some s.clock.since ∧ t = { s with regs := t.regs, mon := t.mon } ∧
      sameRegs (fun q _ => q = .monSynccap0 ∨ q = .monSynccap1 ∨ q = .monSbstat) s t) ∧
    (bit (s.reg .monSbstat 0) 13 = true → exec .stepSyncCapture s = .next s) ∧
    (bit (s.reg .monSbstat 0) 29 = true → exec .faultInAssert s = .next s) ∧
    (∀ sync a, bit (s.reg .monSbstat 0) (sbLevel sync) = false → (s.side sync).lastActed = some a →
      s.clock.since - a < 100000 → ∃ t, exec (if sync then .stepSyncCapture else .faultInAssert) s = .next t ∧
        bit (t.reg .monSbstat 0) (sbLevel sync) = true ∧ bit (t.reg .monSbstat 0) (sbChat sync) = true ∧
        t.reg .monSbrate 0 = wrapAdd32 (s.reg .monSbrate 0) 1 ∧ (t.side sync).lastActed = some a ∧ t.power = s.power ∧
        t.mem = s.mem ∧ t.homes = s.homes ∧
        sameRegs (fun q _ => q = .monSbstat ∨ q = .monSbrate ∨ q = .monLoglost) s t) ∧
    (∃ t, exec .sidebandGlitch s = .next t ∧ t = { s with regs := t.regs } ∧
      t.reg .monSbglitch 0 = s.reg .monSbglitch 0 + 1 ∧ sameRegs (fun q j => q = .monSbglitch ∧ j = 0) s t) ∧
    (∀ sync, ∃ t, exec (.sidebandDeassert sync) s = .next t ∧ t = { s with regs := t.regs, mon := t.mon } ∧
      bit (t.reg .monSbstat 0) (sbLevel sync) = false ∧ (t.side sync).held = false ∧
      t.mon.forced = (sync && s.mon.forced) ∧ sameRegs (fun q j => q = .monSbstat ∧ j = 0) s t) ∧
    (∀ sync, bit (s.reg .monSbstat 0) (sbLevel sync) = true → (s.side sync).held = false →
      ∃ t, exec (.sidebandStuck sync) s = .next t ∧ bit (t.reg .monSbstat 0) (sbStuck sync) = true ∧
        (t.side sync).held = true ∧ t.mem = s.mem ∧ t.homes = s.homes ∧
        sameRegs (fun q _ => q = .monSbstat ∨ q = .monLoglost) s t) ∧
    (∀ sync, bit (s.reg .monSbstat 0) (sbLevel sync) = false ∨ (s.side sync).held = true →
      exec (.sidebandStuck sync) s = .next s) ∧
    (s.sideReady false → s.rfld .monSbcfg 0 1 0 = 1 →
      ∃ t, exec .faultInAssert s = .next t ∧ (∀ i, i < 49 → t.therm i = 4) ∧ t.mon.forced = true ∧
        bit (t.reg .monSbstat 0) 29 = true ∧ t.power = s.power ∧ t.mem = s.mem ∧ t.homes = s.homes ∧
        sameRegs (fun q _ => q = .monSbstat ∨ q = .monClkstep ∨ q = .monLoglost) s t) ∧
    (s.sideReady false → s.rfld .monSbcfg 0 1 0 = 0 →
      ∃ t, exec .faultInAssert s = .next t ∧ bit (t.reg .monSbstat 0) 29 = true ∧ t.mon.forced = s.mon.forced ∧
        t.mon.fault.lastActed = some s.clock.since ∧ t.power = s.power ∧ t.mem = s.mem ∧ t.homes = s.homes ∧
        sameRegs (fun q _ => q = .monSbstat ∨ q = .monLoglost) s t)

/-- A core fault stops the sequencer of its core and waits for the spare, and a substitution puts the spare into the position (R512, R513, R505, R515). -/
def Obligations.CoreFaultStopsItsCore : Prop :=
  (∀ (c : Fin 18) (k : CoreFaultKind) (s : State),
    s.clocked = false ∨ s.logical c = none ∨ (∃ n, s.logical c = some n ∧ ∃ e ∈ s.mon.subst, e.2.1 = n) ∨
      (k ≠ .sensor ∧ k ≠ .rail ∧ ∀ n, s.logical c = some n → s.cfg.coreTenant n = none) →
    exec (.coreFault c k) s = .next s) ∧
  (∀ (c : Fin 18) (k : CoreFaultKind) (n : Nat) (s : State), s.clocked = true →
    k = .sensor ∨ k = .rail ∨ (s.cfg.coreTenant n).isSome = true →
    s.logical c = some n → s.queuesOn n = [] → s.mon.subst = [] → s.spareLeft (dieOf c) = true →
    ∃ t, exec (.coreFault c k) s = .next t ∧ (t.core n).stopped = true ∧ c.val ∈ t.mon.dead ∧
      t.mon.subst = [(dieOf c, n, c.val, [])] ∧ t.mem = s.mem ∧ t.homes = s.homes ∧ t.coreMap = s.coreMap ∧
      (∀ m, m ≠ n → t.core m = s.core m) ∧ sameRegs (fun q _ => q = .monLoglost) s t) ∧
  (∀ (c : Fin 18) (k : CoreFaultKind) (n : Nat) (s : State), s.clocked = true →
    k = .sensor ∨ k = .rail ∨ (s.cfg.coreTenant n).isSome = true → s.logical c = some n → (∀ e ∈ s.mon.subst, e.2.1 ≠ n) →
    ∃ t, exec (.coreFault c k) s = .next t ∧ (t.core n).stopped = true ∧
      (c.val ∈ t.mon.dead ∨ ∃ e ∈ t.mon.subst, e.2.1 = n)) ∧
  (∀ (d : Fin 2) (n c : Nat) (old : List (Nat × Nat)) (answers : Bool) (s : State), s.clocked = true → n < 16 → n / 8 = d.val →
    c < 18 → s.mon.subst = [(d.val, n, c, old)] → s.mon.waiting = [] →
    (∃ t, exec (.coreSubstitution d true answers) s = .next t ∧ t.phys n = some (spareOf d) ∧ (t.core n).stopped = false ∧
      t.mon.subst = [] ∧ t.rfld .monSubst 0 (8 * d + 4) (8 * d) = c ∧ bit (t.reg .monSubst 0) (8 * d + 7) = true ∧
      bit (t.reg .monReplace 0) 1 = true) ∧
    (∃ t, exec (.coreSubstitution d false answers) s = .next t ∧ t.phys n = none ∧ t.mon.subst = [] ∧
      spareOf d ∈ t.mon.dead ∧ bit (t.reg .monSubst 0) (8 * d + 6) = true ∧ bit (t.reg .monReplace 0) 3 = true)) ∧
  (∀ (d : Fin 2) (n c : Nat) (s : State), s.clocked = true → n < 16 → n / 8 = d.val → c < 18 → s.mon.subst = [(d.val, n, c, [])] →
    s.queuesOn n = [] → s.homes = [] → s.moves = [] → s.mon.waiting = [] → s.carState = 0 →
    ∃ t, exec (.coreSubstitution d true true) s = .next t ∧ t.phys n = some (spareOf d) ∧ (t.core n).stopped = false ∧
      t.mon.subst = [] ∧ t.rfld .monSubst 0 (8 * d + 4) (8 * d) = c ∧ bit (t.reg .monSubst 0) (8 * d + 7) = true ∧
      bit (t.reg .monReplace 0) 1 = true ∧ t.mem = s.mem ∧
      (∀ m, m ≠ n → t.core m = s.core m) ∧ (∀ m, m ≠ n → t.phys m = s.phys m) ∧
      sameRegs (fun q _ => q = .monSubst ∨ q = .monReplace ∨ q = .monLoglost) s t) ∧
  (∀ (d : Fin 2) (ok answers : Bool) (s : State), (∀ e ∈ s.mon.subst, e.1 ≠ d.val) →
    exec (.coreSubstitution d ok answers) s = .next s) ∧
  (∀ (i : Fin 32) (s : State), s.clocked = true → 18 ≤ i.val → s.tempFailed i = false →
    ∃ t, exec (.sensorFailed i) s = .next t ∧ t.tempFailed i = true ∧ t.mem = s.mem ∧ t.homes = s.homes ∧ t.power = s.power ∧
      (i.val < 26 → t.therm i = (if s.mon.forced then 4 else 12) ∧ t.rfld .memStatus 0 (i - 2) (i - 2) = 1 ∧
        t = { s with regs := t.regs } ∧
        sameRegs (fun q j => ((q = .monTemp ∨ q = .monClkstep) ∧ j = i.val) ∨ (q = .memStatus ∧ j = 0)) s t) ∧
      (26 ≤ i.val → i.val < 30 → t = { s with regs := t.regs } ∧ sameRegs (fun q j => q = .monTemp ∧ j = i.val) s t) ∧
      (30 ≤ i.val → sameRegs (fun q j => (q = .monTemp ∧ j = i.val) ∨ q = .monLoglost) s t)) ∧
  (∀ (i : Fin 32) (s : State), s.tempFailed i = true → exec (.sensorFailed i) s = .next s)

/-- A register write lands in its register alone, or changes no register but the error log (R464, R465, R467, R473, R478). -/
def Obligations.RegisterWritesLandOrAreLogged : Prop :=
  ∀ (f : Fin 9) (bar2 all : Bool) (off : Nat) (v : W32) (s : State), s.served = true →
    (∀ r i, s.target f bar2 off = some (r, i) → s.inView f r i = true → plainReg r = true →
      s.writeKind f r i true v = none → ∃ t, exec (.registerWrite f bar2 off true v) s = .next t ∧
        t.reg r i = landValue r (s.reg r i) v ∧ sameRegs (fun q j => q = r ∧ j = i) s t ∧
        t = { s with regs := t.regs, staged := t.staged, parity := t.parity }) ∧
    (∀ r i kind aer, s.target f bar2 off = some (r, i) → s.inView f r i = true → plainReg r = true ∨ all = false →
      s.writeKind f r i all v = some (kind, aer) → kind ≠ 7 →
      ∃ t, exec (.registerWrite f bar2 off all v) s = .next t ∧
        logged s t kind (b2n (inBar2 r)) f (offsetFor f r i) aer ∧ sameRegs errorLog s t) ∧
    (s.target f false off = none → ∃ t, exec (.registerWrite f false off all v) s = .next t ∧
      logged s t 1 0 f off true ∧ sameRegs errorLog s t)

/-- HUB_LOCK takes one write, a low half latches its high half, and an access that does not cross is reported (R472, R376, R474, R473). -/
def Obligations.LockLatchesAndCrossings : Prop :=
  (∀ (v : W32) (s : State), s.served = true →
    (s.power.lockWritten = false → ∃ t, exec (.hubLockWrite 0 v) s = .next t ∧ t.power = { s.power with lockWritten := true } ∧
      bit (t.reg .hubLock 0) 0 = bit v 0 ∧ sameRegs (fun q i => q = .hubLock ∧ i = 0) s t ∧
      t = { s with power := t.power, regs := t.regs, parity := t.parity, staged := t.staged }) ∧
    (s.power.lockWritten = true → ∃ t, exec (.hubLockWrite 0 v) s = .next t ∧
      logged s t 4 0 0 (offsetFor 0 .hubLock 0) false ∧ sameRegs errorLog s t)) ∧
  (∀ (f : Fin 9) (s : State), s.served = true →
    (s.inView f .carBeat0 0 = true → exec (.latchingRead f true) s = .next { s with
      host := { s.host with latchBeat := some (BitVec.ofNat 32 (s.beat / 2 ^ 32)) },
      sent := .reply f (BitVec.ofNat 32 s.beat) :: s.sent }) ∧
    (s.inView f .carStep0 0 = true → exec (.latchingRead f false) s = .next { s with
      host := { s.host with latchStep := some (s.reg .carStep1 0) }, sent := .reply f (s.reg .carStep0 0) :: s.sent }) ∧
    s.inView 0 .carBeat0 0 = true ∧ s.inView 0 .carStep0 0 = true ∧
    (∀ n, ({ s with host := { s.host with latchBeat := some n } } : State).readReg .carBeat1 0 = n) ∧
    (∀ n, ({ s with host := { s.host with latchStep := some n } } : State).readReg .carStep1 0 = n)) ∧
  (∀ (f : Fin 9) (off : Nat) (r : Reg) (i : Nat) (s : State), s.served = true → s.regOf f false off = some (r, i) →
    (s.inEndpoint r i = true → ∀ w, exec (.registerCrossingTimeout f off w) s = .next s) ∧
    (s.inEndpoint r i = false →
      (∃ t, exec (.registerCrossingTimeout f off true) s = .next t ∧ logged s t 6 0 f off false ∧ sameRegs errorLog s t) ∧
      (∃ t, exec (.registerCrossingTimeout f off false) s = .next t ∧ logged s t 6 0 f off true ∧ sameRegs errorLog s t ∧
        t.sent.head? = some (.completerAbort f))))

/-- The sweeper finds a flip it passes, holds the register, and firmware repairs what the host cannot rewrite (R476, R477, R478). -/
def Obligations.ParityFaultsAreFoundAndRepaired : Prop :=
  (∀ (x : Flip) (s : State), s.clocked = true → s.parity.latent = [] → Flip.counts x = true →
    (x.visited = true → ∃ t, exec (.paritySweep [x]) s = .next t ∧ t.parity.latent = [] ∧ x.key ∈ t.parity.faulted ∧
      (∀ k ∈ s.parity.faulted, k ∈ t.parity.faulted) ∧
      t.reg .hubCicnt 0 = satAdd32 (s.reg .hubCicnt 0) 1 ∧ t.mem = s.mem ∧ t.homes = s.homes ∧ t.power = s.power ∧
      sameRegs (fun q _ => q = .hubCifault0 ∨ q = .hubCifault1 ∨ q = .hubCicnt ∨ q = .monLoglost) s t) ∧
    (x.visited = false → exec (.paritySweep [x]) s = .next { s with parity := { s.parity with latent := [(x.key, x.staged)] } })) ∧
  (∀ (r : Reg) (i : Nat) (s : State), s.clocked = true → rkey r i ∈ s.parity.faulted → s.firmwareOnly r = true →
    ∃ t, exec (.ciFirmwareRepair (rkey r i)) s = .next t ∧ t.faulty r i = false ∧ (∀ q j, t.reg q j = s.reg q j) ∧
      (∀ q j, (q, j) ≠ (r, i) → t.faulty q j = s.faulty q j) ∧ (∀ u, t.applied r i u = s.reg r i) ∧
      t = { s with regs := t.regs, staged := t.staged, parity := t.parity }) ∧
  (∀ s : State, s.clocked = true →
    (∀ xs : List Flip, ∃ t, exec (.paritySweep xs) s = .next t ∧ t.mem = s.mem ∧ t.homes = s.homes ∧ t.power = s.power ∧
      (∀ k ∈ s.parity.faulted, k ∈ t.parity.faulted) ∧
      (∀ p ∈ s.parity.latent, (∀ x ∈ xs, (x.key, x.staged) ≠ p) → p.1 ∈ t.parity.faulted) ∧
      (∀ x ∈ xs, Flip.counts x = true → x.visited = true → (x.key, x.staged) ∉ s.parity.latent →
        (xs.filter fun y => decide (y.key = x.key) && decide (y.staged = x.staged)).length = 1 → x.key ∈ t.parity.faulted) ∧
      sameRegs (fun q _ => q = .hubCifault0 ∨ q = .hubCifault1 ∨ q = .hubCicnt ∨ q = .monLoglost) s t) ∧
    (∀ key, key ∉ s.parity.faulted ∨ s.firmwareOnly (runkey key).1 = false → exec (.ciFirmwareRepair key) s = .next s))

/-- Configuration requests are retried before readiness and set Bus Master Enable and VF Enable after it (R485, R494, R441, R447). -/
def Obligations.ConfigurationRequests : Prop :=
  ∀ (f : Fin 9) (s : State), s.clocked = true →
    (s.served = false → ∀ q, exec (.configRequest f q) s = .next { s with sent := .retry f :: s.sent }) ∧
    (s.served = true →
      (f ≠ 0 → s.power.phase = .recovery ∨ s.power.vfEnable = false →
        ∀ q, exec (.configRequest f q) s = .next { s with sent := .unsupported f :: s.sent }) ∧
      (f = 0 ∨ (s.power.phase ≠ .recovery ∧ s.power.vfEnable = true) → ∀ on,
        ∃ t, exec (.configRequest f (.busMaster on)) s = .next t ∧ mget false t.host.busMaster f = on ∧
          (∀ g, g ≠ f.val → mget false t.host.busMaster g = mget false s.host.busMaster g) ∧
          t = { s with host := { s.host with busMaster := t.host.busMaster }, sent := .configDone f :: s.sent }) ∧
      (f = 0 ∨ (s.power.phase ≠ .recovery ∧ s.power.vfEnable = true) → ∀ q,
        q = .read ∨ q = .other ∨ (∃ on, q = .vfEnable on ∧ (f ≠ 0 ∨ s.power.phase = .recovery)) →
        exec (.configRequest f q) s = .next { s with sent := .configDone f :: s.sent }) ∧
      (f = 0 → s.power.phase ≠ .recovery →
        exec (.configRequest f (.vfEnable true)) s =
          .next { s with power := { s.power with vfEnable := true }, sent := .configDone f :: s.sent } ∧
        (s.up = false → exec (.configRequest f (.vfEnable false)) s =
          .next { s with power := { s.power with vfEnable := false }, sent := .configDone f :: s.sent }) ∧
        (s.up = true → ∃ u, exec .vfEnableClear s = .next u ∧
          exec (.configRequest f (.vfEnable false)) s = .next { u with sent := .configDone f :: u.sent })))

/-- A mailbox lock goes to the first reader, is refused to others and is released by its holder alone (R454, R473). -/
def Obligations.MailboxLocksHaveOneHolder : Prop :=
  ∀ (f : Fin 9) (m : Fin 64) (s : State), s.served = true → sound s → s.boxView f m = true → s.isD2h m = false →
    (s.rfld .mbxLock m 3 0 = 0 → ∃ t, exec (.mbxLockRead f m) s = .next t ∧ t.rfld .mbxLock m 3 0 = f.val + 1 ∧
      t = { s with regs := t.regs, sent := .reply f 0 :: s.sent } ∧ sameRegs (fun q i => q = .mbxLock ∧ i = m.val) s t) ∧
    (s.rfld .mbxLock m 3 0 ≠ 0 → exec (.mbxLockRead f m) s =
      .next { s with sent := .reply f (BitVec.ofNat 32 (s.rfld .mbxLock m 3 0)) :: s.sent }) ∧
    (s.rfld .mbxLock m 3 0 = f.val + 1 → ∀ v, fld v 3 0 = 0 → ∃ t, exec (.mbxLockRelease f m v) s = .next t ∧
      t.rfld .mbxLock m 3 0 = 0 ∧ t = { s with regs := t.regs } ∧ sameRegs (fun q i => q = .mbxLock ∧ i = m.val) s t) ∧
    (s.rfld .mbxLock m 3 0 ≠ f.val + 1 → ∀ v, ∃ t, exec (.mbxLockRelease f m v) s = .next t ∧
      logged s t 7 1 f (offsetFor f .mbxLock m) false ∧ sameRegs errorLog s t)

/-- A notice is posted, taken and acknowledged in that order, and a restart of its processor aborts it (R453, R456, R457, R448, R449). -/
def Obligations.MailboxNoticesGoThroughTheirStates : Prop :=
  ∀ (f : Fin 9) (m : Fin 64) (s : State), s.served = true → s.isD2h m = false →
    (∀ v, s.inView f .mbxPost m = true → s.boxParty f .mbxPost m = true → bit v 31 = true →
      ∃ t, exec (.mbxPost f m v) s = .next t ∧ t.mem = s.mem ∧ t.homes = s.homes ∧
        (s.boxSt m = 1 ∨ s.boxSt m = 2 → t.boxSt m = s.boxSt m ∧ t.rfld .mbxStatus m 27 27 = 1 ∧ t.host = s.host ∧
          sameRegs (fun q i => q = .mbxStatus ∧ i = m.val) s t) ∧
        (s.boxSt m ≠ 1 → s.boxSt m ≠ 2 → t.boxSt m = 1 ∧ t.reg .mbxTag m = BitVec.ofNat 32 (fld v 15 0) ∧ t.posterOf m = f ∧
          sameRegs (fun q i => (q = .mbxStatus ∨ q = .mbxTag) ∧ i = m.val) s t)) ∧
    (s.boxSt m = 1 → bit (s.reg .mbxPtrhi m) 31 = false → mget false s.host.busMaster (s.posterOf m) = true →
      ∀ body, ∃ t, exec (.mbxTake m body) s = .next t ∧ t.boxSt m = 2 ∧ (t.svc m).active = true ∧
        (t.svc m).func = s.posterOf m ∧ (t.svc m).code = fld (wordAt body 0) 15 0 ∧ (t.svc m).body = body.drop 4 ∧
        (t.svc m).result = (if s.bodyCode m (s.reg .mbxLen m).toNat body = 0 then none
                            else some (s.bodyCode m (s.reg .mbxLen m).toNat body)) ∧
        (∃ a, t.sent = .hostRead (s.posterOf m) a (s.reg .mbxLen m).toNat :: s.sent) ∧ t.mem = s.mem ∧ t.homes = s.homes ∧
        sameRegs (fun q i => q = .mbxStatus ∧ i = m.val) s t) ∧
    (s.boxSt m ≠ 1 → ∀ body, exec (.mbxTake m body) s = .next s) ∧
    (s.boxSt m = 1 → bit (s.reg .mbxPtrhi m) 31 = false → mget false s.host.busMaster (s.posterOf m) = false →
      ∀ body, ∃ t, exec (.mbxTake m body) s = .next t ∧ t.boxSt m = 2 ∧ (t.svc m).active = true ∧
        (t.svc m).result = some 0x0101 ∧ t.reg .hstRderr (s.posterOf m) = wrapAdd32 (s.reg .hstRderr (s.posterOf m)) 1 ∧
        t.mem = s.mem ∧ t.homes = s.homes ∧ t.sent = s.sent) ∧
    (s.boxSt m = 1 → bit (s.reg .mbxPtrhi m) 31 = true → ∀ body,
      let a := (s.reg .mbxPtrlo m).toNat + fld (s.reg .mbxPtrhi m) 15 0 * 2 ^ 32
      let len := (s.reg .mbxLen m).toNat
      let inside := m.val < 56 ∧ ∃ t, s.cfg.funcTenant (s.posterOf m) = some t ∧ s.inWindows t a len = true ∧ isFast a = true
      let words := s.imageWords a len
      (¬ inside → ∃ t, exec (.mbxTake m body) s = .next t ∧ t.boxSt m = 2 ∧ (t.svc m).result = some 4 ∧ t.mem = s.mem ∧
        t.homes = s.homes) ∧
      (inside → readsClean s → ∃ t, exec (.mbxTake m body) s = .next t ∧ t.boxSt m = 2 ∧ (t.svc m).active = true ∧
        (t.svc m).func = s.posterOf m ∧ (t.svc m).code = fld (wordAt words 0) 15 0 ∧ (t.svc m).body = words.drop 4 ∧
        (t.svc m).result = (if s.bodyCode m len words = 0 then none else some (s.bodyCode m len words)) ∧
        t.mem = s.mem ∧ t.homes = s.homes ∧ t.sent = s.sent)) ∧
    (∀ code w, (s.svc m).active = true → (s.svc m).result = some code → s.boxSt m = 2 → code < 65536 →
      ∃ t, exec (.mbxAck f m w) s = .next t ∧ t.boxSt m = 3 ∧ t.rfld .mbxStatus m 15 0 = code ∧ t.svc m = Svc.init ∧
        t.mem = s.mem ∧ t.homes = s.homes ∧ sameRegs (fun q i => q = .mbxStatus ∧ i = m.val) s t) ∧
    (∀ sec, ∃ t, exec (.processorRestart sec) s = .next t ∧ t.mem = s.mem ∧ t.homes = s.homes ∧
      (sec = decide (56 ≤ m.val) → s.boxSt m = 1 ∨ s.boxSt m = 2 → t.boxSt m = 4 ∧ t.rfld .mbxStatus m 15 0 = 1 ∧
        t.svc m = Svc.init) ∧
      (sec ≠ decide (56 ≤ m.val) ∨ (s.boxSt m ≠ 1 ∧ s.boxSt m ≠ 2) → t.reg .mbxStatus m = s.reg .mbxStatus m) ∧
      sameRegs (fun q _ => q = .mbxStatus) s t)

/-- A queued device notice is written to host memory and posted, an unmasked vector sends its pending message, and a failed read is counted (R458, R449, R447, R453). -/
def Obligations.DeviceNoticesAndVectors : Prop :=
  ∀ (f : Fin 9) (s : State), s.served = true →
    (∀ (m : Fin 64) n rest, sound s → s.isD2h m = true → s.boxSt m ≠ 1 → s.reg64 .mbxRxbuf0 .mbxRxbuf1 m ≠ 0 →
      mget [] s.host.d2h m = n :: rest → ∃ t, exec (.d2hNoticePost m) s = .next t ∧ t.boxSt m = 1 ∧
        t.reg .mbxLen m = BitVec.ofNat 32 (noticeBytes n).length ∧ t.reg .mbxPtrlo m = s.reg .mbxRxbuf0 m ∧
        mget [] t.host.d2h m = rest ∧
        (mget false s.host.busMaster (s.boxFunc m) = true →
          .hostWrite (s.boxFunc m) (s.reg64 .mbxRxbuf0 .mbxRxbuf1 m) (noticeBytes n) ∈ t.sent) ∧
        (mget false s.host.busMaster (s.boxFunc m) = false → ∀ k a bs, .hostWrite k a bs ∈ t.sent → .hostWrite k a bs ∈ s.sent) ∧
        t.mem = s.mem ∧
        sameRegs (fun q i => (q = .mbxPtrlo ∨ q = .mbxPtrhi ∨ q = .mbxLen ∨ q = .mbxTag ∨ q = .mbxStatus) ∧ i = m.val) s t) ∧
    (∀ (m : Fin 64) (code : W16), s.isD2h m = true → s.inView f .mbxAck m = true → s.boxSt m = 1 →
      ∃ t, exec (.mbxAck f m code) s = .next t ∧ t.boxSt m = 3 ∧ t.rfld .mbxStatus m 15 0 = code.toNat ∧ t.mem = s.mem ∧
        sameRegs (fun q i => (q = .mbxStatus ∨ q = .mbxAck) ∧ i = m.val) s t) ∧
    (∀ v : Fin 256, v.val < vectorsOf f → ∃ t, exec (.msixUnmask f v) s = .next t ∧
      mget false t.host.unmasked (256 * f.val + v.val) = true ∧ mget false t.host.pba (256 * f.val + v.val) = false ∧
      t = { s with host := { s.host with unmasked := t.host.unmasked, pba := t.host.pba }, sent := t.sent } ∧
      t.sent = if mget false s.host.pba (256 * f.val + v.val) then .msix f v :: s.sent else s.sent) ∧
    (∀ m : Fin 64, s.isD2h m = false → s.boxSt m = 1 → ∃ t, exec (.hostReadFail f (.mailboxBody m)) s = .next t ∧
      t.reg .hstRderr f = s.reg .hstRderr f + 1 ∧ t.boxSt m = 2 ∧ (t.svc m).result = some 0x0101 ∧ t.mem = s.mem ∧
      sameRegs (fun q i => (q = .hstRderr ∧ i = f.val) ∨ (q = .mbxStatus ∧ i = m.val)) s t) ∧
    (∀ m : Fin 64, sound s → mget [] s.host.d2h m = [] ∨ s.isD2h m = false ∨ s.boxSt m = 1 ∨
      s.reg64 .mbxRxbuf0 .mbxRxbuf1 m = 0 → exec (.d2hNoticePost m) s = .next s) ∧
    (let y := s.setReg .hstRderr f (wrapAdd32 (s.reg .hstRderr f) 1)
     let c (u : HostUser) := Instr.hostReadFail f u
     (∀ m : Fin 64, s.isD2h m = true ∨ s.boxSt m ≠ 1 →
       exec (c (.mailboxBody m)) s = .next (if (s.svc m).active && !(s.svc m).begun && (s.svc m).result.isNone
         then y.endSvc m 0x0101 else y)) ∧
     (∀ x, exec (c (.decodeRing x)) s = .next (if (s.dec x).isOpen then y.setDec x { s.dec x with badNext := true } else y)) ∧
     (∀ x, exec (c (.encodeRing x)) s = .next (y.setEnc x { s.enc x with
       frame := (s.enc x).frame.map fun g => { g with failed := true, pass := 4 } })) ∧
     (∀ (t : Fin 8) (k : Fin 16), let q := s.kq (16 * t.val + k.val)
       let at? := q.samples.findIdx? fun x => x.started && decide (kdKind x.desc = 0)
       (at? = none → exec (c (.kilnSample t k)) s = .next y) ∧
       (∀ i x, at? = some i → q.samples[i]? = some x → kqCls q.record ≠ 0 → ∃ u, exec (c (.kilnSample t k)) s = .next u ∧
         (u.kq (16 * t.val + k.val)).samples = q.samples.eraseIdx i ∧
         ((u.kq (16 * t.val + k.val)).batch (kdBatch x.desc)).slot (kdSlot x.desc) = slotOf x.desc 2 5 false ∧
         u.regs = y.regs ∧ u.mem = s.mem ∧ u.homes = s.homes)))

/-- An aperture read returns the bytes of memory and changes none; a whole-codeword write stores exactly its bytes (R444, R445, R446, R253, R260). -/
def Obligations.ApertureReadsAndWritesBytes : Prop :=
  ∀ (f : Fin 9) (x : Nat) (s : State), s.up = true → sound s →
    (∀ len, s.apOut f (s.apAddr f x) len = false → (∀ cw ∈ codewords (s.apAddr f x) len, s.poisoned cw = false) →
      (∀ n, s.erased n = []) → s.mem.latent = [] →
      exec (.apertureRead f x len []) s = .next { s with
        sent := .data f ((List.range len).map fun i => s.byte (s.apAddr f x + i)) false :: s.sent }) ∧
    (∀ bytes : List Byte, bytes.length = 64 → s.apAddr f x % 64 = 0 → s.apOut f (s.apAddr f x) 64 = false →
      ∃ t, exec (.apertureWrite f x (bytes.map some) []) s = .next t ∧
        (∀ i, i < 64 → t.byte (s.apAddr f x + i) = (bytes[i]?).getD 0) ∧
        (∀ a, a < s.apAddr f x ∨ s.apAddr f x + 64 ≤ a → t.byte a = s.byte a) ∧
        t.poisoned (s.apAddr f x) = false ∧ t.inited (s.apAddr f x) = true ∧ t = { s with mem := t.mem } ∧
        (s.mem.wf = true → t.mem.wf = true)) ∧
    (∀ len, s.apOut f (s.apAddr f x) len = true → ∃ t, exec (.apertureRead f x len []) s = .next t ∧ t.mem = s.mem ∧
      t.reg .hstAperr f = s.reg .hstAperr f + 1 ∧ t.sent.head? = some (.unsupported f)) ∧
    (∀ (data : List (Option Byte)), s.apOut f (s.apAddr f x) data.length = true →
      ∃ t, exec (.apertureWrite f x data []) s = .next t ∧ t.mem = s.mem ∧ t.homes = s.homes ∧
        t.reg .hstAperr f = s.reg .hstAperr f + 1) ∧
    (∀ len errs, s.apOut f (s.apAddr f x) len = false → ∃ t bytes ep, exec (.apertureRead f x len errs) s = .next t ∧
      .data f bytes ep ∈ t.sent ∧ bytes.length = len ∧ (s.moves = [] → t.mem.bytes = s.mem.bytes) ∧
      ((∃ cw ∈ codewords (s.apAddr f x) len, s.poisoned cw = true ∧ s.inited cw = true) → ep = true)) ∧
    (∀ data : List (Option Byte), s.apOut f (s.apAddr f x) data.length = false → readsClean s →
      ∃ t, exec (.apertureWrite f x data []) s = .next t ∧ t = { s with mem := t.mem } ∧
        (∀ i b, data[i]? = some (some b) → t.byte (s.apAddr f x + i) = b) ∧
        (∀ a, (∀ i b, data[i]? = some (some b) → a ≠ s.apAddr f x + i) → t.byte a = s.byte a))

/-- A reset of a function that serves no tenant frees its locks, aborts its notices and empties its device mailboxes (R441, R455, R453, R457). -/
def Obligations.FunctionResets : Prop :=
  ∀ s : State, s.up = true → sound s →
    (∀ f : Fin 9, s.cfg.funcTenant f = none → ∃ t, exec (.flr f) s = .next t ∧ t.mem = s.mem ∧ t.homes = s.homes ∧
      t.power = s.power ∧ sameRegs (fun q _ => q = .mbxLock ∨ q = .mbxStatus) s t ∧
      ∀ m, m < 64 →
        (s.isD2h m = false → s.rfld .mbxLock m 3 0 = f.val + 1 → t.rfld .mbxLock m 3 0 = 0 ∧ bit (t.reg .mbxStatus m) 28 = true) ∧
        (s.isD2h m = false → s.rfld .mbxLock m 3 0 ≠ f.val + 1 → t.reg .mbxLock m = s.reg .mbxLock m) ∧
        (s.isD2h m = false → s.posterOf m = f.val → s.boxSt m = 1 ∨ s.boxSt m = 2 → t.boxSt m = 4 ∧ t.rfld .mbxStatus m 15 0 = 1) ∧
        (s.isD2h m = true → s.maskHas m f = true → t.boxSt m = 0 ∧ mget [] t.host.d2h m = [])) ∧
    (s.power.vfEnable = true → (∀ f, 1 ≤ f → f ≤ 8 → s.cfg.funcTenant f = none) →
      ∃ t, exec .vfEnableClear s = .next t ∧ t.power = { s.power with vfEnable := false } ∧ t.mem = s.mem ∧
        t.homes = s.homes ∧ sameRegs (fun q _ => q = .mbxLock ∨ q = .mbxStatus) s t ∧
        ∀ m f, m < 64 → 1 ≤ f → f ≤ 8 → s.isD2h m = false → s.rfld .mbxLock m 3 0 = f + 1 → t.rfld .mbxLock m 3 0 = 0) ∧
    (s.power.vfEnable = true → ∃ t, exec .vfEnableClear s = .next t ∧ t.power.vfEnable = false) ∧
    (s.power.vfEnable = false → exec .vfEnableClear s = .next s)

/-- A tenant reset leaves every core of the tenant empty and every counter and record of its blocks at its reset value (R497, R498, R441, R134, R88). -/
def Obligations.TenantResetClearsTheTenant : Prop :=
  ∀ (t : Fin 8) (s : State), s.up = true → s.substituting t = false → ∀ c,
    (c = .tenantReset t ∧ ∃ m, s.askedReset t = some m ∧ (s.svc m).func = 0 ∧ wordAt (s.svc m).body 0 = BitVec.ofNat 32 t ∧
      (s.cfg.tenant? t).isSome = true) ∨ (∃ f : Fin 9, c = .flr f ∧ s.cfg.funcTenant f = some t.val) →
    ∃ u, exec c s = .next u ∧
      (∀ n, n < 16 → u.cfg.coreTenant n = some t.val → (u.core n).sb = [] ∧ (u.core n).slots = [] ∧ (u.core n).banks = [] ∧
        (u.core n).edges = [] ∧ (u.core n).landings = [] ∧ (u.core n).arr = none ∧ (u.core n).inbox = []) ∧
      (∀ r ∈ ([.thColdcnt, .thFillcnt, .thStaleupd, .thPackin, .thPackout, .tenPlanid0, .tenPlanid1, .tenRunsize,
        .klnFault0, .klnFault1, .klnFault2, .klnFault3] : List Reg), u.reg r t = r.reset t) ∧
      u.reg .tenNumcfg t = (u.cfg.tenant t).numcfg ∧ u.reg .thCfg t = (u.cfg.tenant t).thcfg ∧
      (∀ m, c = .tenantReset t → s.askedReset t = some m → (u.svc m).active = true → (u.svc m).result = some 0)

/-- QUEUE_OPEN reads an image and starts the loader, the loader makes the queue LOADED or REJECTED, QUEUE_CLOSE makes it CLOSED (R104, R118, R174, R177, R135, R251, 18_host_and_mailboxes.md). -/
def Obligations.QueueServices : Prop :=
  (∀ (m : Fin 64) (t : Nat) (s : State), s.up = true → sound s → s.cfg.funcTenant (s.svc m).func = some t →
    let b := (s.svc m).body
    (s.asked m 1 = true →
      let k := 16 * t + fld (wordAt b 0) 19 16
      let a := (wordAt b 1).toNat + fld (wordAt b 2) 15 0 * 2 ^ 32
      let len := (wordAt b 3).toNat
      let x := s.takeImage a len
      let q : Queue := { Queue.init with lcore := fld (wordAt b 0) 3 0, img := x.2.1, imgBad := !x.2.2, imgAddr := a,
                                         imgLen := len, mailbox := some m.val, loading := true }
      (readsClean s → x = (s, s.readImage a len, true)) ∧
      (s.inWindows t a len = false ∨ isFast a = false → exec (.queueOpen m) s = .next (s.endSvc m 3)) ∧
      (s.inWindows t a len = true → isFast a = true →
        (∀ c, c ≠ 0 → x.1.openRefusal t k (fld (wordAt b 0) 3 0) q = c → exec (.queueOpen m) s = .next (x.1.endSvc m c)) ∧
        (x.1.openRefusal t k (fld (wordAt b 0) 3 0) q = 0 → sound x.1 →
          ∃ u, exec (.queueOpen m) s = .next u ∧ u.queue k = q ∧ u.qst k = 0 ∧ (u.svc m).begun = true ∧
            (u.svc m).result = none ∧ u.reg .queRingbase k = wordAt b 4 ∧ u.mem = x.1.mem ∧ u.homes = x.1.homes ∧
            (∀ j, j ≠ k → u.queue j = x.1.queue j) ∧
            sameRegs (fun r i => (r = .queStatus ∨ r = .queCtrl ∨ r = .queRingbase) ∧ i = k) x.1 u))) ∧
    (s.asked m 2 = true →
      let k := 16 * t + fld (wordAt b 0) 3 0
      let busy := !(s.queue k).tasks.isEmpty || (s.core (s.queue k).lcore).slots.any fun p => decide (16 * p.tenant + p.queue = k)
      (s.qst k = 2 ∨ (s.queue k).loading = true → exec (.queueClose m) s = .next (s.endSvc m 2)) ∧
      (s.qst k ≠ 2 → (s.queue k).loading = false → busy = true → exec (.queueClose m) s = .next s) ∧
      (s.qst k ≠ 2 → (s.queue k).loading = false → busy = false →
        ∃ u, exec (.queueClose m) s = .next u ∧ u.queue k = Queue.init ∧ u.qst k = 0 ∧ (u.svc m).result = some 0 ∧
          u.mem = s.mem ∧ u.homes = s.homes ∧ sameRegs (fun r i => r = .queStatus ∧ i = k) s u))) ∧
  (∀ (t : Fin 8) (q : Fin 16) (s : State), s.up = true → sound s → (s.queue (16 * t + q)).loading = true →
    (s.queue (16 * t + q)).goHeld = false →
    ∃ u, exec (.manifestLoadDone t q) s = .next u ∧ (u.queue (16 * t + q)).loading = false ∧ u.mem = s.mem ∧ u.homes = s.homes ∧
      (∀ m, (s.queue (16 * t + q)).mailbox = some m → (u.svc m).result =
        some (if (s.loadFail (16 * t + q)).isSome then 3 else 0)) ∧
      match s.loadFail (16 * t + q) with
      | none => u.qst (16 * t + q) = 1
      | some f => u.reg .queStatus (16 * t + q) = BitVec.ofNat 32 (f.code * 2 ^ 24 + 5 * 2 ^ 16 + f.place))

/-- ROUTE_OPEN starts the handshake of each route it names, ROUTE_CLOSE closes them (R318, R319, R326). -/
def Obligations.RouteServices : Prop :=
  ∀ (m : Fin 64) (t : Nat) (s : State), s.up = true → s.cfg.funcTenant (s.svc m).func = some t →
    let b := (s.svc m).body
    (s.asked m 3 = true → b.length % 4 = 0 → 0 < b.length → b.length ≤ 1020 →
      ((∀ e ∈ entriesOf b, s.routeRefusal t e = 0) → ((entriesOf b).map rtRoute).Nodup →
        ∃ u, exec (.routeOpen m) s = .next u ∧ (u.svc m).begun = true ∧ (u.svc m).result = none ∧ u.mem = s.mem ∧
          u.homes = s.homes ∧ (∀ k, (∀ e ∈ entriesOf b, k ≠ rtRoute e) → u.route k = s.route k) ∧
          ∀ e ∈ entriesOf b, (u.route (rtRoute e)).st = 1 ∧ (u.route (rtRoute e)).peerNode = rtNode e ∧
            (u.route (rtRoute e)).peerRoute = rtPeerRoute e ∧ (u.route (rtRoute e)).cls = rtClass e ∧
            (u.route (rtRoute e)).ports = rtPorts e ∧ (u.route (rtRoute e)).tenant = t ∧
            (u.route (rtRoute e)).mailbox = some m.val) ∧
      (∀ c, ((entriesOf b).map (s.routeRefusal t)).find? (fun x => decide (x ≠ 0)) = some c →
        exec (.routeOpen m) s = .next (s.endSvc m c))) ∧
    (s.asked m 3 = true → bit (s.reg .tunFinj 0) 31 = false → b.length = 4 → s.routeRefusal t b = 0 →
      ∃ u, exec (.routeOpen m) s = .next u ∧ u.regs = s.regs ∧
        ∀ p, s.pickPort (rtPorts b) (ackPcp (rtClass b)) none = some p →
          ∃ f, (u.port p).txq = (s.port p).txq ++ [f] ∧ f.seg.typ = 5 ∧ f.seg.dstNode = rtNode b ∧ f.route = rtRoute b) ∧
    (s.asked m 4 = true → 0 < b.length → b.length ≤ 255 →
      (∀ w ∈ b, w.toNat < 8192 ∧ ((s.route w.toNat).st = 0 ∨ (s.route w.toNat).tenant = t)) →
      ∃ u, exec (.routeClose m) s = .next u ∧ (u.svc m).result = some 0 ∧ ∀ w ∈ b, (u.route w.toNat).st = 0) ∧
    (s.asked m 4 = true → ∀ w, b = [w] → w.toNat < 8192 → (s.route w.toNat).tenant = t →
      (s.route w.toNat).st = 1 ∨ (s.route w.toNat).st = 2 → (s.route w.toNat).mailbox = none → (s.route w.toNat).msgs = [] →
      s.queues = [] → s.moves = [] →
      ∃ u, exec (.routeClose m) s = .next u ∧ (u.route w.toNat).st = 0 ∧ (u.route w.toNat).toSend = [] ∧
        (u.route w.toNat).unacked = [] ∧ (u.svc m).result = some 0 ∧ u.regs = s.regs ∧ u.mem = s.mem ∧ u.homes = s.homes)

/-- The security and log services install and retire keys, stage an image and return fuses and log records (R307, R461, R490, R492, R520, R523, R447, R460). -/
def Obligations.SecureServices : Prop :=
  (∀ (m : Fin 64) (s : State), s.up = true → let b := (s.svc m).body
    (s.asked m 0x81 = true → b.length = 17 → saOk b = true →
      (s.saInUse (saOf b) = false → exec (.sakInstall m true) s = .next ((s.putSa (saOf b) (b.drop 3)).endSvc m 0)) ∧
      (s.saInUse (saOf b) = true → exec (.sakInstall m true) s = .next (s.endSvc m 2)) ∧
      exec (.sakInstall m false) s = .next (s.endSvc m 0x0103)) ∧
    (s.asked m 0x82 = true → b.length = 3 → saOk b = true →
      (s.saInUse (saOf b) = true → exec (.sakRetire m) s = .next (s.endSvc m 2)) ∧
      (s.saInUse (saOf b) = false → exec (.sakRetire m) s = .next ((s.dropSa (saOf b)).endSvc m 0) ∧
        ∀ x ∈ (s.dropSa (saOf b)).host.sas, (x.1, x.2.1, x.2.2.1) ≠ saOf b)) ∧
    (s.asked m 0x0B = true → (s.svc m).func = 0 → b.length = 5 → (wordAt b 0).toNat ≤ 1 → 0 < (wordAt b 2).toNat →
      (wordAt b 2).toNat ≤ 4096 → mget false s.host.busMaster 0 = true →
      let l := s.logFrom (wordAt b 0).toNat (wordAt b 1).toNat (wordAt b 2).toNat
      let bytes := leBytes 4 l.length ++ leBytes 4 0 ++ l.flatMap LogRec.bytes
      exec (.logRead m) s = .next (({ s with sent := .hostWrite 0 (addr64 b 3) bytes :: s.sent } : State).endSvc m 0) ∧
      l.length ≤ (wordAt b 2).toNat)) ∧
  (∀ (m : Fin 64) (s : State), s.served = true → let b := (s.svc m).body
    (s.asked m 0x83 = true → ∀ img, ∃ u, exec (.imageStage m img) s = .next u ∧ u.mem = s.mem ∧ u.regs = s.regs ∧
      u.homes = s.homes ∧
      (if s.power.copyB then u.flash.copyA = some img ∧ u.flash.copyB = s.flash.copyB
       else u.flash.copyB = some img ∧ u.flash.copyA = s.flash.copyA) ∧
      (if (imageReason s.flash.fuses true false (some img)).1 = 0 then (u.svc m).result = some 0 ∧
          (s.flash.current.seq + 1 < 2 ^ 32 → u.flash.current.trial = true ∧ u.flash.current.pref = !s.power.copyB ∧
            u.flash.current.tries = 0)
       else (u.svc m).result = some 3 ∧ u.flash.rec0 = s.flash.rec0 ∧ u.flash.rec1 = s.flash.rec1)) ∧
    (s.asked m 0x84 = true → b.length = 2 → mget false s.host.busMaster 0 = true → exec (.fuseRead m) s =
      .next (({ s with sent := .hostWrite 0 (addr64 b 0) (leBytes 8 s.flash.fuses.serial ++ leBytes 4 (s.rfld .hubId 0 15 8) ++
        leBytes 4 s.flash.fuses.rollback ++ List.replicate 240 0) :: s.sent } : State).endSvc m 0)))

/-- Each task command issues the next descriptor of its queue when it has that type and its unit accepts it, and leaves it where not (R113, R114, R119, R34, 04_manifests_and_sequencer.md). -/
def Obligations.IssueRunsTheTaskOfItsType : Prop :=
  ∀ (t : Fin 8) (q : Fin 16) (w : Nat) (d : List W32) (s : State), mayIssue s (16 * t + q) d →
    let k := 16 * t.val + q.val
    let u := (s.startTask k w).1
    let x := (s.startTask k w).2
    (s.unitFree k = true →
      (dType d = 1 → s.matmulReady k d = true → exec (.matmul t q w) s = .next (u.runMatmul k x)) ∧
      (dType d = 2 → s.fusedReady k d = true → exec (.fused2 t q w) s = .next (u.runFused k x)) ∧
      (dType d = 3 → s.convReady k d = true → exec (.conv t q w) s = .next (u.runConv k x)) ∧
      (dType d = 4 → exec (.vec t q w) s = .next (u.runVec k x)) ∧
      (dType d = 5 → s.filling t (df d 4 23 0) = false →
        (vKind d ≠ 3 → exec (.move t q w) s = .next (u.runMove k x)) ∧
        (vKind d = 3 → exec (.moveToPeer t q w) s = .next (u.runMovePeer k x))) ∧
      (dType d = 6 → s.filling t (df d 4 23 0) = false → exec (.send t q w) s = .next ((u.runSend k x).wakeMesh 64))) ∧
    (s.unitFree k = false →
      (dType d = 1 → exec (.matmul t q w) s = .next s) ∧ (dType d = 2 → exec (.fused2 t q w) s = .next s) ∧
      (dType d = 3 → exec (.conv t q w) s = .next s) ∧ (dType d = 4 → exec (.vec t q w) s = .next s) ∧
      (dType d = 5 → exec (.move t q w) s = .next s ∧ exec (.moveToPeer t q w) s = .next s) ∧
      (dType d = 6 → exec (.send t q w) s = .next (s.wakeMesh 64))) ∧
    (dType d = 7 → exec (.recv t q w) s = .next ((u.runRecv k x).wakeMesh 64)) ∧
    (dType d = 8 → s.filling t (rSrc d) = false → s.filling t (rAcc d) = false → ∀ c,
      (rOp d = 0 ∧ c = .e8MaxPass t q w) ∨ (rOp d = 1 ∧ c = .l32Sum t q w) ∨ (rOp d = 2 ∧ c = .orderedF32Sum t q w) ∨
        (rOp d = 3 ∧ c = .l32ToF32 t q w) → exec c s = .next ((u.runReduce k x).wakeMesh 64)) ∧
    (dType d = 10 → exec (.loop t q w) s = .next (u.runLoop k x)) ∧
    (dType d = 11 → exec (.fence t q w) s = .next (u.runFence k x)) ∧
    (dType d = 12 → exec (.wait t q w) s = .next (u.runWait k x)) ∧
    (dType d ≠ 1 → exec (.matmul t q w) s = .next s) ∧ (dType d ≠ 2 → exec (.fused2 t q w) s = .next s) ∧
    (dType d ≠ 3 → exec (.conv t q w) s = .next s) ∧ (dType d ≠ 4 → exec (.vec t q w) s = .next s) ∧
    (dType d ≠ 10 → exec (.loop t q w) s = .next s)

/-- An issued task is the newest in flight, with its patched descriptor, and the queue goes on behind it (R113, R111, R129, R69, R276). -/
def Obligations.StartedTaskIsInFlight : Prop :=
  ∀ (k w : Nat) (d : List W32) (s : State), mayIssue s k d →
    let u := (s.startTask k w).1
    let x := (s.startTask k w).2
    (u.queue k).tasks = (s.queue k).tasks ++ [x] ∧ x.serial = s.serial ∧ u.serial = s.serial + 1 ∧
    x.index = (s.queue k).next ∧ x.desc = d ∧ x.params = s.paramWords k ∧ x.landed = false ∧ x.waited = w ∧
    (u.queue k).next = (loopNext (s.queue k).next (s.queue k).loops).1 ∧
    (u.queue k).loops = (loopNext (s.queue k).next (s.queue k).loops).2 ∧
    u.task? k x.serial = some x ∧ u.reg .queSlip k = wrapAdd32 (s.reg .queSlip k) w ∧
    u = { s with queues := u.queues, regs := u.regs, serial := u.serial } ∧ (∀ j, j ≠ k → u.queue j = s.queue j) ∧
    sameRegs (fun r i => r = .queSlip ∧ i = k) s u

/-- Each task does at its issue what its type says: LOOP, FENCE, WAIT, VEC and MOVE, the array tasks, messages and reductions (R111, R117, R131, R138, R139, R168, R181, R217, R282, R287, R321, R382). -/
def Obligations.SequencerTasksTakeEffect : Prop :=
  ∀ (t : Fin 8) (q : Fin 16) (w : Nat) (d : List W32) (s : State), mayIssue s (16 * t + q) d →
    let k := 16 * t.val + q.val
    let n := (s.queue k).lcore
    (dType d = 10 → ∃ u, exec (.loop t q w) s = .next u ∧ (u.queue k).next = (s.queue k).next + 1 ∧
      ((u.queue k).loops.head?).map (fun f => (f.index, f.iter, f.desc)) = some ((s.queue k).next, 0, d) ∧
      (∃ x, u.task? k s.serial = some x ∧ x.landed = true) ∧ u.mem = s.mem ∧ u.homes = s.homes) ∧
    (dType d = 11 → s.caravan.tenant = none → ∃ u, exec (.fence t q w) s = .next u ∧ (u.queue k).fence = some s.serial ∧
      u.issuable k = false ∧ u.mem = s.mem ∧ u.homes = s.homes) ∧
    (dType d = 12 → wRest d = false → ∃ u, exec (.wait t q w) s = .next u ∧
      (∃ x, u.task? k s.serial = some x ∧ x.landed = true) ∧ u.cores = s.cores ∧ u.mem = s.mem ∧ u.homes = s.homes) ∧
    (dType d = 12 → wRest d = true → s.restOf k = none → ∃ u, exec (.wait t q w) s = .next u ∧
      (u.core n).rest = some { queue := k, ends := s.clock.since + (wordAt d 9).toNat * 10, waiting := false } ∧
      u.mem = s.mem ∧ u.homes = s.homes) ∧
    (dType d = 4 → (s.core n).vec.running = false → s.progCode k n (s.yardAddr n (df d 4 24 0)) = 0 →
      s.regionCount (s.yardAddr n (df d 4 24 0)) = 0 →
      ∃ u, exec (.vec t q w) s = .next u ∧ (u.core n).vec.running = true ∧ (u.core n).vec.pc = 0 ∧
        (u.core n).vec.prog = s.yardAddr n (df d 4 24 0) ∧ (u.core n).vec.owner = (k, s.serial) ∧
        (∀ r, (u.core n).vec.vec r = List.replicate 2048 0) ∧ (u.core n).vec.sc 3 = BitVec.ofNat 32 n ∧
        (u.core n).vec.sc 0 = s.reg .carStep0 0 ∧ (u.core n).vec.sc 1 = s.reg .carStep1 0 ∧
        (u.core n).vec.seed = BitVec.ofNat 64 ((wordAt d 8).toNat + (wordAt d 9).toNat * 2 ^ 32) ∧ u.mem = s.mem) ∧
    (dType d = 1 → mBricks d = false → s.matmulReady k d = true → s.matmulCode k n d = 0 → s.trapMode k d = false →
      (s.core n).failedCode k (s.queue k).next = none → (s.core n).voidBank (usesOf (mTile d) (mMask d)) (mBank d) (mClear d) = false →
      ∃ u, exec (.matmul t q w) s = .next u ∧ (∃ j, (u.core n).arr = some j ∧ j.owner = (k, s.serial) ∧ j.desc = d) ∧
        (∃ x, u.task? k s.serial = some x ∧ x.desc = d) ∧
        (∀ v ∈ usesOf (mTile d) (mMask d), ((u.core n).bank v.array (mBank d)).st = .busy ∧
          ((u.core n).bank v.array (mBank d)).use = .sweep ∧ ((u.core n).bank v.array (mBank d)).owner = (k, s.serial)) ∧
        u.mem = s.mem) ∧
    (dType d = 2 → s.fusedReady k d = true → (s.startTask k w).1.fusedCode k n (s.startTask k w).2 = 0 → s.trapMode k d = false →
      ∃ u, exec (.fused2 t q w) s = .next u ∧
        (∃ j, (u.core n).arr = some j ∧ j.owner = (k, s.serial) ∧ j.desc = d ∧ j.chunk = 0 ∧ j.phase = 0) ∧
        (∀ v ∈ fUses d, ((u.core n).bank v.array (fBank d)).st = .busy ∧
          ((u.core n).bank v.array (fBank d)).owner = (k, s.serial)) ∧ u.mem = s.mem) ∧
    (dType d = 3 → s.convReady k d = true → s.convCode k n d = 0 → s.trapMode k d = false →
      (∀ l ∈ haloLinks d, (s.core n).linkFail.contains l = false ∧ ∃ m, meshPartner n l = some m ∧
        (s.core m).linkFail.contains (meshBack l) = false) →
      ∃ u, exec (.conv t q w) s = .next u ∧ (∃ j, (u.core n).arr = some j ∧ j.owner = (k, s.serial) ∧ j.desc = d) ∧
        (cHalo d = 0 → ∀ v ∈ convUses d, ((u.core n).bank v.array (mBank d)).st = .busy) ∧
        (cHalo d ≠ 0 → ∃ h, (u.core n).halo = some h ∧ h.owner = (k, s.serial) ∧ h.desc = d ∧ h.started = false) ∧
        u.mem = s.mem) ∧
    (∀ a, dType d = 5 → vKind d = 3 → s.unitFree k = true → vPack d = false → s.filling t (df d 4 23 0) = false →
      s.moveSource t (df d 4 23 0) = 0 → s.routeCode t (df d 8 15 0, df d 8 31 16) = 0 →
      s.homeOk t ((moveRec k s.serial d (s.home t (df d 4 23 0)) 0 0).entry (s.home t (df d 4 23 0))) = true →
      (s.home t (df d 4 23 0)).st ≠ stUnwritten → tooLong (s.home t (df d 4 23 0)).bytes = false →
      s.homeAddr (s.home t (df d 4 23 0)) = some a →
      ∃ u, exec (.moveToPeer t q w) s = .next u ∧ (u.home t (df d 4 23 0)).st = stMoving ∧
        (∃ r ∈ u.moves, r.handle = df d 4 23 0 ∧ r.tenant = t.val ∧ r.task = s.serial ∧ r.dkind = 3 ∧ r.src = a ∧ r.next = 0) ∧
        (∃ p ∈ (u.route (df d 8 31 16)).toSend, p.task = (k, s.serial) ∧ p.seg.move = true ∧ p.seg.segIdx = 0 ∧ p.src = some a) ∧
        u.mem = s.mem) ∧
    (∀ r, dType d = 6 → s.unitFree k = true → s.filling t (df d 4 23 0) = false → (∀ c, (s.core c).inbox = []) →
      s.sendSource t n d = 0 → dRoute d = some r → s.routeCode t r = 0 → tooLong (sLen d) = false →
      (s.home t (df d 4 23 0)).st = stUnwritten ∨ (s.homeAddr (s.home t (df d 4 23 0))).isSome = true →
      ∃ u, exec (.send t q w) s = .next u ∧ (∃ x, u.task? k s.serial = some x ∧ x.desc = d) ∧
        (∃ p ∈ (u.route r.2).toSend, p.task = (k, s.serial) ∧ p.seg.handle = df d 5 23 0 ∧ p.seg.segIdx = 0 ∧
          p.seg.msgNo = (s.route r.2).txMsg) ∧
        (u.route r.2).txMsg = ((s.route r.2).txMsg + 1) % 2 ^ 32 ∧ u.mem = s.mem) ∧
    (∀ r, dType d = 7 → (∀ c, (s.core c).inbox = []) → (∀ h, h = dDst d ∨ h = df d 4 23 0 →
        s.handleOk t h = true ∧ (s.home t h).writeCode false = 0) →
      dRoute d = some r → (s.route r.2).kiln = false → s.recvCode t r = 0 → (s.route r.2).msgs = [] →
      (s.route r.2).tenant = t.val →
      ((s.route r.2).rxQueue = [] → ∃ u, exec (.recv t q w) s = .next u ∧
        (∃ x, u.task? k s.serial = some x ∧ x.desc = d ∧ x.landed = false) ∧ u.mem = s.mem ∧ u.homes = s.homes) ∧
      (∀ m rest, (s.route r.2).rxQueue = m :: rest → m.code = 0 → m.handle = df d 4 23 0 → m.len = (wordAt d 9).toNat →
        s.oldestWait (queuesOf t) (fun e => decide ((dRoute e).map (·.2) = some r.2)) = none →
        ∃ u, exec (.recv t q w) s = .next u ∧ (u.route r.2).rxQueue = rest ∧
          (∃ x, u.task? k s.serial = some x ∧ x.desc = d ∧ x.landed = true) ∧ u.mem = s.mem ∧ u.homes = s.homes)) ∧
    (∀ c a b, dType d = 8 → rPartner d = false → rFwd d = false → (∀ m, (s.core m).inbox = []) →
      (rOp d = 0 ∧ c = .e8MaxPass t q w) ∨ (rOp d = 1 ∧ c = .l32Sum t q w) ∨ (rOp d = 2 ∧ c = .orderedF32Sum t q w) ∨
        (rOp d = 3 ∧ c = .l32ToF32 t q w) →
      s.filling t (rSrc d) = false → s.filling t (rAcc d) = false → s.reduceCode t n d = 0 → s.reduceLinks t n d = 0 →
      s.trapMode k d = false → (s.home t (rAcc d)).st = stValid →
      s.homeAddr (s.home t (rSrc d)) = some a → s.homeAddr (s.home t (rAcc d)) = some b →
      let e := s.home t (rSrc d)
      let o := s.reduceOut d e e.elems a 0 b
      ∃ u, exec c s = .next u ∧ (∃ x, u.task? k s.serial = some x ∧ x.landed = true) ∧
        u.bytesAt (b + (rRegion (rOp d) e.elems).1) o.2.length = o.2 ∧
        ∀ y, y < b + (rRegion (rOp d) e.elems).1 ∨ b + (rRegion (rOp d) e.elems).1 + o.2.length ≤ y → u.byte y = s.byte y) ∧
    (dType d = 5 → vKind d ≠ 3 → s.unitFree k = true → vPack d = false → s.filling t (df d 4 23 0) = false →
      s.moveSource t (df d 4 23 0) = 0 → (s.home t (df d 4 23 0)).st ≠ stUnwritten →
      (let e := s.home t (df d 4 23 0)
       let g := (moveRec k s.serial d e 0 0).entry e
       ¬ (g.kind = e.kind ∧ g.w1 = e.w1 ∧ g.w2 = e.w2) → g.unpopulated = false → s.homeOk t g = true →
       ∀ a b, s.homeAddr e = some a → s.homeAddr g = some b →
       ∃ u, exec (.move t q w) s = .next u ∧ (u.home t (df d 4 23 0)).st = stMoving ∧
         (∃ r ∈ u.moves, r.handle = df d 4 23 0 ∧ r.tenant = t.val ∧ r.src = a ∧ r.dst = b ∧ r.next = 0 ∧ r.total = e.bytes ∧
           r.switched = false) ∧ u.mem = s.mem))

/-- A landed task completes: its record is in the ring, its entry READY, its counts in the core, and the queue goes on (R116, R128, R118, R71, R135, R130). -/
def Obligations.TasksCompleteInTheirRecords : Prop :=
  (∀ (t : Fin 8) (q : Fin 16) (pos : Fin 8) (x : Task) (s : State), s.up = true →
    let k := 16 * t.val + q.val
    let n := (s.queue k).lcore
    let a := (s.applied .queRingbase k n).toNat * 32768 + 32 * s.rfld .queRinghead k 9 0
    (s.queue k).tasks[pos.val]? = some x → x.landed = true → dType x.desc ≠ 11 → x.xlates = [] → releaseEntries x.desc = [] →
    x.windowEnd = none → dIrq x.desc = false → ((s.queue k).tasks.map (·.serial)).Nodup →
    s.inWindows t a 32 = true → isFast a = true → (s.queue k).next < (s.queue k).descCount → s.caravan.tenant = none →
    (s.queue k).unrecorded = [] → (∀ y ∈ (s.queue k).tasks, x.serial ≤ y.serial) → readsClean s →
    ∃ u, exec (.taskComplete t q pos) s = .next u ∧ u.bytesAt a 32 = recordBytes k n 0 s.clock.ptp x ∧
      (∀ j, j < a ∨ a + 32 ≤ j → u.byte j = s.byte j) ∧ u.homes = s.homes ∧
      u.rfld .queRinghead k 9 0 = (s.rfld .queRinghead k 9 0 + 1) % 1024 ∧
      (dSigValid x.desc = true → u.sbEntry k (dSig x.desc) = ⟨1, dDst x.desc, 0⟩) ∧
      u.reg .coreNumsat n = satAdd32 (s.reg .coreNumsat n) x.sat ∧
      u.reg .coreNumflush n = satAdd32 (s.reg .coreNumflush n) x.flush ∧
      u.reg .coreNumnan n = satAdd32 (s.reg .coreNumnan n) x.nan ∧
      (u.queue k).tasks = (s.queue k).tasks.eraseIdx pos.val ∧ u.qst k = s.qst k ∧
      sameRegs (fun r i => (r = .queRinghead ∧ i = k) ∨ ((r = .coreNumsat ∨ r = .coreNumflush ∨ r = .coreNumnan) ∧ i = n)) s u) ∧
  (∀ (t : Fin 8) (q : Fin 16) (pos : Fin 8) (x : Task) (s : State), s.up = true →
    let k := 16 * t.val + q.val
    (s.queue k).tasks[pos.val]? = some x → ((s.queue k).tasks.map (·.serial)).Nodup →
    (canComplete pos x = true → ∃ u, exec (.taskComplete t q pos) s = .next u ∧ u.task? k x.serial = none) ∧
    (canComplete pos x = false → exec (.taskComplete t q pos) s = .next s) ∧
    (x.landed = true → dType x.desc ≠ 11 → (s.queue k).unrecorded = [] → (∃ y ∈ (s.queue k).tasks, y.serial < x.serial) →
      x.xlates = [] → x.windowEnd = none → s.caravan.tenant = none → (s.queue k).tasks.length ≠ 1 →
      ∃ u, exec (.taskComplete t q pos) s = .next u ∧ (u.queue k).unrecorded = [⟨x, 0, s.clock.ptp⟩] ∧ u.mem = s.mem ∧
        u.rfld .queRinghead k 9 0 = s.rfld .queRinghead k 9 0)) ∧
  (∀ (t : Fin 8) (q : Fin 16) (s : State), s.up = true → let k := 16 * t.val + q.val
    s.qOpen k = true → (s.queue k).cls = 0 → (s.queue k).slack < (s.reg .queSlip k).toNat →
    ((s.queue k).lateSent = false → ∃ u, exec (.lateManifestEvent t q) s = .next u ∧ (u.queue k).lateSent = true ∧
      u.reg .queLateevt k = s.reg .queLateevt k + 1 ∧ u.mem = s.mem ∧ u.homes = s.homes ∧
      (s.caravan.tenant ≠ some (k / 16) → u = { s with queues := u.queues, regs := u.regs } ∧
        sameRegs (fun r i => r = .queLateevt ∧ i = k) s u)) ∧
    ((s.queue k).lateSent = true → exec (.lateManifestEvent t q) s = .next s)) ∧
  (∀ (n : Fin 16) (s : State), s.up = true → (s.core n).rest = none → exec (.restWindowEnd n) s = .next s) ∧
  (∀ (n : Fin 16) (r : Rest) (s : State), s.up = true → (s.core n).rest = some r →
    ∃ u, exec (.restWindowEnd n) s = .next u ∧ u = { s with cores := u.cores } ∧ (∀ m, m ≠ n.val → u.core m = s.core m) ∧
      (r.waiting = false → (u.core n).rest = none) ∧
      (r.waiting = true → (u.core n).rest = some { r with ends := Nat.min r.ends s.clock.since }))

/-- A prefetch takes a slot, lands its bytes in the yard and makes its scoreboard entry READY, or fails into it as VOID (R122, R123, R124, R294, R277). -/
def Obligations.PrefetchFillsItsEntry : Prop :=
  ∀ (n : Fin 16) (s : State), s.up = true →
    (∀ k i it, s.prefQueue n = some k → (s.queue k).firstPref = some (i, it) →
      let e := (s.queue k).pref i
      let off := pOffset e it
      (s.prefCode k e off ≠ 0 → ∃ u, exec (.prefetchIssue n) s = .next u ∧
        u.sbEntry k (pEntry e) = ⟨2, pSrc e, s.prefCode k e off⟩ ∧ u = { s with queues := u.queues, cores := u.cores } ∧
        (u.queue k).eligible = (s.queue k).eligible.erase (i, it)) ∧
      (s.prefCode k e off = 0 → (s.queue k).lcore = n.val → ∃ u, exec (.prefetchIssue n) s = .next u ∧
        (u.core n).slots.length = (s.core n).slots.length + 1 ∧
        (∃ p, (u.core n).slots.getLast? = some p ∧ p.handle = pSrc e ∧ p.entry = pEntry e ∧ p.bytes = pBytes e ∧
          p.dst = s.yardAddr n (pDst e) ∧ p.src = (s.home (k / 16) (pSrc e)).addr + off) ∧
        (u.queue k).eligible = (s.queue k).eligible.erase (i, it) ∧ u.mem = s.mem)) ∧
    (∀ (slot : Fin 6) p, (s.core n).slots[slot.val]? = some p → p.zeros = true → 
      (s.queue (16 * p.tenant + p.queue)).lcore = n.val →
      ∃ u, exec (.prefetchLand n slot []) s = .next u ∧
        (∀ a, u.byte a = if p.dst ≤ a ∧ a < p.dst + p.bytes then 0 else s.byte a) ∧
        u.sbEntry (16 * p.tenant + p.queue) p.entry = ⟨1, p.handle, 0⟩ ∧
        (u.core n).slots = (s.core n).slots.eraseIdx slot.val ∧ u.regs = s.regs ∧ u.homes = s.homes) ∧
    (∀ (slot : Fin 6) p, (s.core n).slots[slot.val]? = some p → p.zeros = false → readsClean s →
      (s.queue (16 * p.tenant + p.queue)).lcore = n.val →
      ∃ u, exec (.prefetchLand n slot []) s = .next u ∧
        (∀ a, u.byte a = if p.dst ≤ a ∧ a < p.dst + p.bytes then s.byte (p.src + (a - p.dst)) else s.byte a) ∧
        u.sbEntry (16 * p.tenant + p.queue) p.entry = ⟨1, p.handle, 0⟩ ∧
        (u.core n).slots = (s.core n).slots.eraseIdx slot.val ∧ u.regs = s.regs ∧ u.homes = s.homes) ∧
    (∀ (slot : Fin 6) errs p, (s.core n).slots[slot.val]? = some p → (s.queue (16 * p.tenant + p.queue)).lcore = n.val →
      ∃ u, exec (.prefetchLand n slot errs) s = .next u ∧ (u.core n).slots = (s.core n).slots.eraseIdx slot.val ∧
        (u.sbEntry (16 * p.tenant + p.queue) p.entry = ⟨1, p.handle, 0⟩ ∨
          u.sbEntry (16 * p.tenant + p.queue) p.entry = ⟨2, p.handle, 0x50⟩)) ∧
    (∀ slot : Fin 6, (s.core n).slots[slot.val]? = none → ∀ errs, exec (.prefetchLand n slot errs) s = .next s) ∧
    (s.prefQueue n = none → exec (.prefetchIssue n) s = .next s)

/-- GO starts a LOADED queue at 0 and a HALTED or DONE one at its restart index; STOP halts a RUNNING one (R133, R135, R177, R477). -/
def Obligations.GoAndStopMoveTheQueue : Prop :=
  ∀ (f : Fin 9) (t : Fin 8) (q : Fin 16) (s : State), s.served = true → sound s →
    let k := 16 * t.val + q.val
    s.inView f .queCtrl k = true →
    (∀ r : W16, s.qst k = 1 ∨ s.qst k = 3 → ∃ u, exec (.queueGo f t q r) s = .next u ∧ u.qst k = 2 ∧
      (u.queue k).next = (if s.qst k = 1 then 0 else r.toNat) ∧ (u.queue k).loops = [] ∧ bit (u.reg .queCtrl k) 0 = false ∧
      u = { s with queues := u.queues, cores := u.cores, regs := u.regs, staged := u.staged } ∧
      (∀ m, u.core m = { s.core m with edges := (u.core m).edges, ahead := (u.core m).ahead, failed := (u.core m).failed }) ∧
      (∀ j, j ≠ k → u.queue j = s.queue j) ∧ sameRegs (fun x i => (x = .queCtrl ∨ x = .queStatus) ∧ i = k) s u) ∧
    (∀ r : W16, s.qst k = 4 → ∃ u, exec (.queueGo f t q r) s = .next u ∧ u.qst k = 2 ∧ (u.queue k).next = r.toNat ∧
      (u.queue k).loops = [] ∧ (u.queue k).eligible = [] ∧
      (∀ e, (s.queue k).sbBase ≤ e → e < (s.queue k).sbBase + (s.queue k).sbCount → u.sbEntry k e = .empty) ∧
      u.mem = s.mem ∧ u.homes = s.homes ∧ sameRegs (fun x i => (x = .queCtrl ∨ x = .queStatus) ∧ i = k) s u) ∧
    (∀ r : W16, s.qst k = 2 → ∃ u, exec (.queueGo f t q r) s = .next u ∧ (u.queue k).goHeld = true ∧ u.qst k = 2 ∧
      u.mem = s.mem ∧ u.homes = s.homes ∧ sameRegs (fun x i => x = .queCtrl ∧ i = k) s u) ∧
    (s.qst k = 2 → (s.queue k).goHeld = false → ∃ u, exec (.queueStop f t q) s = .next u ∧ u.qst k = 3 ∧
      u.queues = s.queues ∧ u.mem = s.mem ∧ u.homes = s.homes ∧
      sameRegs (fun x i => (x = .queCtrl ∨ x = .queStatus) ∧ i = k) s u) ∧
    (s.qst k = 2 → (s.queue k).goHeld = true → ∃ u, exec (.queueStop f t q) s = .next u ∧ u.qst k = 2 ∧
      (u.queue k).next = s.rfld .queCtrl k 31 16 ∧ (u.queue k).goHeld = false ∧ u.mem = s.mem ∧ u.homes = s.homes ∧
      sameRegs (fun x i => (x = .queCtrl ∨ x = .queStatus) ∧ i = k) s u)

/-- SWEEP_END holds a bank or readies its drain, DRAIN stores or hands on its values, DRAIN_END releases or keeps it (R88, R85, R89, R90, R86, R95, R163). -/
def Obligations.BanksLandDrainAndRelease : Prop :=
  ∀ (n : Fin 16) (a b : Fin 4) (t : Task) (s : State), s.up = true →
    let x := (s.core n).bank a b
    let k := x.owner.1
    let g := s.drainRegion k t.desc
    let place (i : Nat) := s.drainPlace k t.desc a x.tag (i / 256) (i % 256)
    let at' (i : Nat) := s.yardAddr (s.queue k).lcore (g.1 + tileOff g.2 (place i).1 (place i).2 4)
    let inside (i : Nat) := s.drainIn k t.desc (place i) = true
    let free := ∀ b' : Fin 4, ((s.core n).bank a b').use ≠ .drain
    s.task? k x.owner.2 = some t →
    (x.use = .sweep → (∀ j, (s.core n).arr = some j → j.sweeping x = false) → ∃ u, exec (.sweepEnd n a b) s = .next u ∧
      u.core n = (s.core n).setBank a b
        (if drains t.desc then { x with use := .landed } else { x with st := .held, use := .none }) ∧
      u = { s with cores := u.cores, queues := u.queues } ∧ (∀ m, m ≠ n.val → u.core m = s.core m)) ∧
    (∀ j, x.use = .sweep → (s.core n).arr = some j → j.sweeping x = true → exec (.sweepEnd n a b) s = .next s) ∧
    (x.use = .landed → (∃ b' : Fin 4, ((s.core n).bank a b').use = .drain) → exec (.drain n a b) s = .next s) ∧
    (x.use = .landed → free → drainTo t.desc b x.tag = .engine →
      ((s.core n).freeLanding = none → exec (.drain n a b) s = .next s) ∧
      (∀ lb, (s.core n).freeLanding = some lb → ∃ u, exec (.drain n a b) s = .next u ∧
        (u.core n).bank a b = { x with use := .drain } ∧
        (u.core n).landing lb = { full := true, data := x.data, taken := 0, array := a, owner := x.owner } ∧
        u = { s with cores := u.cores } ∧ (∀ m, m ≠ n.val → u.core m = s.core m))) ∧
    (∀ acc, x.use = .landed → free → drainTo t.desc b x.tag = .yard acc → t.trap = false → s.filling (k / 16) (dDst t.desc) = false →
      (acc = true → s.accWaits k t.serial t.desc = false) →
      ∃ u, exec (.drain n a b) s = .next u ∧ u.core n = (s.core n).setBank a b { x with use := .drain } ∧
        (∀ i, i < 65536 → inside i → (∀ j, i < j → j < 65536 → at' j + 4 ≤ at' i ∨ at' i + 4 ≤ at' j) →
          u.word (at' i) = (drainWord acc (s.word (at' i)) (mget 0 x.data i)).bits) ∧
        (∀ y, (∀ i, i < 65536 → inside i → y < at' i ∨ at' i + 4 ≤ y) → u.byte y = s.byte y) ∧
        u = { s with cores := u.cores, queues := u.queues, mem := u.mem } ∧ (s.mem.wf = true → u.mem.wf = true)) ∧
    (x.use = .drain → ∃ u, exec (.drainEnd n a b) s = .next u ∧ ((u.core n).bank a b).use ≠ .drain) ∧
    (x.use = .drain → (∀ j, (s.core n).arr = some j → dType j.desc = 2 → j.phase ≠ 1 ∨ j.tileNo = 0) →
      ∃ u, exec (.drainEnd n a b) s = .next u ∧
        u.core n = (s.core n).setBank a b (if releases t.desc then Bank.init else { x with st := .held, use := .none }) ∧
        u = { s with cores := u.cores, queues := u.queues } ∧ (∀ m, m ≠ n.val → u.core m = s.core m))

/-- Prologues, swaps, codebook loads, brick checks and drain programs put the next operands in place (R79, R80, R127, R164, R240, R241, R242). -/
def Obligations.LoadersFillHalvesAndBooks : Prop :=
  (∀ (t : Fin 8) (q : Fin 16) (s : State), s.up = true →
    let k := 16 * t.val + q.val
    let n := (s.queue k).lcore
    let d := s.patched k (s.queue k).next
    let tiles := s.firstTiles k n d
    (dType d = 1 ∧ mBricks d = false) ∨ dType d = 2 ∨ (dType d = 3 ∧ cHalo d = 0) → s.qst k = 2 → s.queueHeld k = false →
    (s.queue k).next < (s.queue k).descCount → (s.queue k).fence = none → s.waitsReady k d = true →
    s.filling t (df d 4 23 0) = false → s.yardReadCode t n (df d 4 23 0) (actOff d) 0 = 0 →
    ((∃ f ∈ jobFiles d, ((s.core n).edge f).shadow.full = true ∨ (s.core n).fileBusy f = true) →
      exec (.tilePrologueLoad t q) s = .next s) ∧
    ((∀ f ∈ jobFiles d, ((s.core n).edge f).shadow.full = false ∧ (s.core n).fileBusy f = false) → (tiles.map (·.1)).Nodup →
      ∃ u, exec (.tilePrologueLoad t q) s = .next u ∧ u = { s with cores := u.cores } ∧
        (∀ m, m ≠ n → u.core m = s.core m) ∧
        (∀ p ∈ tiles, (u.core n).edge p.1 = { (s.core n).edge p.1 with
          shadow := { EdgeHalf.ofLoader p.2 with chosen := (k, (s.queue k).next) } }))) ∧
  (∀ (n : Fin 16) (f : Fin 2) (s : State), s.up = true →
    ((s.core n).arr = none → exec (.edgeFileSwap n f) s = .next s) ∧
    (∀ j load, (s.core n).arr = some j → 0 < j.left f → s.nextTile n j f = some load →
      ∃ u, exec (.edgeFileSwap n f) s = .next u ∧ u = { s with cores := u.cores } ∧
        (∀ m, m ≠ n.val → u.core m = s.core m) ∧ (u.core n).arr = some (j.pass f) ∧
        ((u.core n).edge f).active.bytes =
          (if ((s.core n).edge f).shadow.full then ((s.core n).edge f).shadow.bytes else load) ∧
        ((u.core n).edge f).shadow = (match s.nextTile n (j.pass f) f with | some b => .ofLoader b | none => .init) ∧
        (∀ g, g ≠ f.val → (u.core n).edge g = (s.core n).edge g)) ∧
    (∀ j, dType j.desc = 1 → 0 < j.left f → s.nextTile n j f =
      some (halfOf (tileBytes (mB8 j.desc) (mKt j.desc)) (matmulHalf (s.yard n (s.taskCold j.owner.1 j.owner.2 (df j.desc 4 23 0)))
        j.desc (actOf j.desc f) (mK j.desc / mKt j.desc - j.left f))))) ∧
  (∀ (n : Fin 16) (port : Fin 4) (s : State), s.up = true →
    ((List.range 2).find? (fun i => ((s.core n).cbBank port i).loading) = none → exec (.codebookLoadDone n port) s = .next s) ∧
    ∀ b, (List.range 2).find? (fun i => ((s.core n).cbBank port i).loading) = some b →
    let x := (s.core n).cbBank port b
    let r := s.bookEnd n x.form x.addr
    (r = 0 → exec (.codebookLoadDone n port) s = .next (s.modCore n fun c =>
      c.setCb port b { x with valid := true, loading := false, entries := s.bookEntries n x.form x.addr })) ∧
    (r ≠ 0 → x.chosen.2 < 65536 → x.stream < 256 → ∃ u, exec (.codebookLoadDone n port) s = .next u ∧
      (u.core n).cbBank port b = .init ∧ u = { s with cores := u.cores, regs := u.regs } ∧
      ((s.queue x.chosen.1).next = x.chosen.2 → s.qst x.chosen.1 = 2 →
        (u.core n).failedCode x.chosen.1 x.chosen.2 = some 0x30) ∧
      (bit (s.reg .coreBrkfault0 n) 31 = false → bit (u.reg .coreBrkfault0 n) 31 = true ∧
        u.rfld .coreBrkfault0 n 29 28 = port ∧ u.rfld .coreBrkfault0 n 27 24 = r ∧ u.rfld .coreBrkfault0 n 23 16 = x.stream) ∧
      sameRegs (fun q i => (q = .coreBrkfault0 ∨ q = .coreBrkfault1) ∧ i = n.val) s u)) ∧
  (∀ (n : Fin 16) (port : Fin 4) (i : Nat) (s : State), s.up = true →
    ((s.core n).arr = none → exec (.brickReadAhead n port i) s = .next s) ∧
    ∀ (j : ArrJob) (v : ArrUse) (t : Task), (s.core n).arr = some j → dType j.desc = 1 → mBricks j.desc = true →
    i < mK j.desc / 32 → (usesOf (mTile j.desc) (mMask j.desc)).find? (fun w => decide (w.array = port.val)) = some v →
    s.task? j.owner.1 j.owner.2 = some t →
    let k := j.owner.1
    let d := j.desc
    let rd := s.yard n (s.taskCold k t.serial (df d 5 23 0))
    let p := s.brickPlan k d
    (s.brickFail k t.index n d rd v i = none → exec (.brickReadAhead n port i) s = .next (s.modCore n fun c =>
      c.setBrickBuf port i (readBrick rd k t.index i (brickAddr p.1 p.2.1 p.2.2 v.stream i) p.2.2))) ∧
    (∀ f, s.brickFail k t.index n d rd v i = some f → ∃ u, exec (.brickReadAhead n port i) s = .next u ∧
      u = (s.recordFail n t.index f).abortTask k t.serial f.code ∧ u.task? k t.serial = none)) ∧
  (∀ (n : Fin 16) (b : Fin 2) (t : Task) (s : State), s.up = true →
    let lb := (s.core n).landing b
    let prog := s.yardAddr n (df t.desc 12 24 0)
    s.task? lb.owner.1 lb.owner.2 = some t → lb.full = true → lb.taken = 0 → (s.core n).drainVec.running = false →
    dType t.desc = 1 → s.regionCount prog = 0 →
    ∃ u, exec (.drainProgram n b) s = .next u ∧ u = { s with cores := u.cores } ∧
      (∀ m, m ≠ n.val → u.core m = s.core m) ∧ (u.core n).vec = (s.core n).vec ∧
      (u.core n).drainVec.running = true ∧ (u.core n).drainVec.prog = prog ∧ (u.core n).drainVec.pc = 0 ∧
      (u.core n).drainVec.buffer = b ∧ (u.core n).drainVec.owner = (lb.owner.1, t.serial) ∧
      (∀ r, (u.core n).drainVec.vec r = List.replicate 2048 0))

/-- The row functions take the landed chunk and make the intermediate tile of the second product (R160, R161, R162, R181, R163). -/
def Obligations.RowFunctionsWriteTheIntermediate : Prop :=
  ∀ (n : Fin 16) (j : ArrJob) (t : Task) (s : State), s.up = true → (s.core n).arr = some j →
    s.task? j.owner.1 j.owner.2 = some t → t.trap = false → dType j.desc = 2 →
    let d := j.desc
    let g := (s.takeLandings n j).2
    let val (r c : Nat) := chunkVal d g.got r c
    (∀ c fn, ((c = .gelu n ∧ fn = 1) ∨ (c = .silu n ∧ fn = 2) ∨ (c = .swiglu n ∧ fn = 3) ∨ (c = .rmsScaling n ∧ fn = 4)) →
      (fFn d ≠ fn ∨ j.phase ≠ 0 → exec c s = .next s) ∧
      (fFn d = fn → j.phase = 0 → g.whole = false → ∃ u, exec c s = .next u ∧ (u.core n).arr = some g ∧
        u = { s with cores := u.cores } ∧ ∀ b, b < 2 → ((s.core n).landing b).owner = j.owner →
          ((u.core n).landing b).full = false) ∧
      (fFn d = fn → j.phase = 0 → g.whole = true → fn ≠ 4 → ∃ u, exec c s = .next u ∧
        (∃ y, (u.core n).arr = some y ∧ y.phase = 1 ∧ y.got = [] ∧ y.tileNo = 0 ∧ y.desc = d ∧ y.owner = j.owner ∧
          y.pending.length = fU d / fKt2 d ∧
          ∀ i r p, i < fU d / fKt2 d → r < fRows d → p < fKt2 d → p < 512 →
            let x := val r (i * fKt2 d + p)
            mget 0 ((y.pending[i]?).getD []) (512 * r + p) =
              (f32ToB16 (if fn = 1 then gelu x else if fn = 2 then silu x
                else swiglu x (val r (i * fKt2 d + p + fWidth d / 2)))).bits) ∧
        u = { s with cores := u.cores, queues := u.queues, regs := u.regs } ∧
        (∀ m, m ≠ n.val → u.core m = s.core m) ∧ sameRegs (fun q i => q = .coreVecissue ∧ i = n.val) s u) ∧
      (fFn d = fn → j.phase = 0 → g.whole = true → fn = 4 → j.chunk + 1 < fChunks d →
        let scr := s.yardAddr n (fld (recWord j.rowRec 8) 24 0)
        let cell (i q : Nat) := scr + 4 * (i * fN1 d + j.chunk * fU d + q)
        ∃ u, exec c s = .next u ∧ (u.core n).arr = some { g with got := [], phase := 2 } ∧ u.regs = s.regs ∧
          u.homes = s.homes ∧ (∀ i q, i < 256 → q < fU d → fU d ≤ fN1 d - j.chunk * fU d → u.word (cell i q) = val i q) ∧
          (∀ y, (∀ i q, i < 256 → q < fU d → y < cell i q ∨ cell i q + 4 ≤ y) → u.byte y = s.byte y)) ∧
      (fFn d = fn → j.phase = 0 → g.whole = true → fn = 4 → fChunks d ≤ j.chunk + 1 → ∃ u, exec c s = .next u ∧
        (∃ y, (u.core n).arr = some y ∧ y.phase = 1 ∧ y.got = [] ∧ y.tileNo = 0 ∧ y.desc = d ∧ y.owner = j.owner ∧
          y.pending.length = fN1 d / fKt2 d) ∧ u.homes = s.homes ∧
        sameRegs (fun q i => q = .coreVecissue ∧ i = n.val) s u)) ∧
    (fFn d ≠ 0 ∨ 1 < j.phase → exec (.onlineSoftmax n) s = .next s) ∧
    (fFn d = 0 → j.phase ≤ 1 → g.whole = false → ∃ u, exec (.onlineSoftmax n) s = .next u ∧ (u.core n).arr = some g ∧
      u = { s with cores := u.cores }) ∧
    (fFn d = 0 → j.phase ≤ 1 → g.whole = true → j.phase = 0 ∨ j.chunk + 1 < fChunks d →
      ∃ u, exec (.onlineSoftmax n) s = .next u ∧
        (∃ y, (u.core n).arr = some y ∧ y.phase = j.phase + 1 ∧ y.got = [] ∧ y.desc = d ∧ y.owner = j.owner) ∧
        u = { s with cores := u.cores, queues := u.queues, regs := u.regs } ∧
        (∀ m, m ≠ n.val → u.core m = s.core m) ∧ sameRegs (fun q i => q = .coreVecissue ∧ i = n.val) s u) ∧
    (fFn d = 0 → j.phase = 1 → g.whole = true → fChunks d ≤ j.chunk + 1 → ∃ u, exec (.onlineSoftmax n) s = .next u ∧
      (∃ y, (u.core n).arr = some y ∧ y.phase = 3 ∧ y.desc = d ∧ y.owner = j.owner) ∧ u.homes = s.homes ∧
      sameRegs (fun q i => q = .coreVecissue ∧ i = n.val) s u)

/-- Each lane instruction gives every active lane its function of the operands and leaves all else of the context (R142, R147, R63, R65, R66, R149, R151, R156, R157). -/
def Obligations.LaneInstructionsComputeEachLane : Prop :=
  let a (c : VecCtx) (i : Insn) (l : Nat) := c.lane i.va l
  let b (c : VecCtx) (i : Insn) (l : Nat) := c.lane i.vb l
  let any : Insn → Prop := fun _ => True
  let w (c : VecCtx) (i : Insn) (l : Nat) := laneNoise c (noiseBase c i.va) (fld i.imm 27 24) (fld i.imm 23 0) l
  givesLanes 0x01 any .vAdd (masked fun c i l => (fadd (a c i l) (b c i l)).bits) ∧
  givesLanes 0x02 any .vSub (masked fun c i l => (fsub (a c i l) (b c i l)).bits) ∧
  givesLanes 0x03 any .vMul (masked fun c i l => (fmul (a c i l) (b c i l)).bits) ∧
  givesLanes 0x04 any .vFma (masked fun c i l => (ffma (a c i l) (b c i l) (c.lane i.vc l)).bits) ∧
  givesLanes 0x05 any .vMin (masked fun c i l => (fmin (a c i l) (b c i l)).bits) ∧
  givesLanes 0x06 any .vMax (masked fun c i l => (fmax (a c i l) (b c i l)).bits) ∧
  givesLanes 0x07 any .vAbs (masked fun c i l => a c i l &&& 0x7FFFFFFF#32) ∧
  givesLanes 0x08 any .vNeg (masked fun c i l => a c i l ^^^ 0x80000000#32) ∧
  givesBits 0x09 .vCmp (fun i => cmpCond (fld i.imm 2 0)) ∧
  givesLanes 0x0A any .vSel (fun c i l => if c.bitAt i.mask l then a c i l else b c i l) ∧
  givesLanes 0x0B any .vMovi (masked fun _ i _ => i.imm) ∧
  givesLanes 0x0C any .vMovs (masked fun c i _ => c.sc i.va) ∧
  givesLanes 0x10 any .vExp2 (masked fun c i l => (vexp2 (a c i l)).bits) ∧
  givesLanes 0x11 any .vLog2 (masked fun c i l => (vlog2 (a c i l)).bits) ∧
  givesLanes 0x12 any .vRsqrt (masked fun c i l => (vrsqrt (a c i l)).bits) ∧
  givesLanes 0x13 any .vRecip (masked fun c i l => (vrecip (a c i l)).bits) ∧
  givesLanes 0x14 any .vSin (masked fun c i l => (vsin (a c i l)).bits) ∧
  givesLanes 0x15 any .vCos (masked fun c i l => (vcos (a c i l)).bits) ∧
  givesLanes 0x21 any .vCvtsr (masked fun c i l =>
    (cvtSr (laneNoise c (c.sc i.vb).toNat 15 (fld i.imm 23 0) l).1.toNat (a c i l)).bits) ∧
  givesLanes 0x28 any .vIadd (masked fun c i l => a c i l + b c i l) ∧
  givesLanes 0x29 any .vIsub (masked fun c i l => a c i l - b c i l) ∧
  givesLanes 0x2A any .vImul (masked fun c i l => a c i l * b c i l) ∧
  givesLanes 0x2B any .vShl (masked fun c i l => BitVec.ofNat 32 ((a c i l).toNat * 2 ^ (b c i l).toNat)) ∧
  givesLanes 0x2C any .vShr (masked fun c i l => BitVec.ofNat 32 ((a c i l).toNat / 2 ^ (b c i l).toNat)) ∧
  givesLanes 0x2D any .vSar (masked fun c i l => BitVec.ofInt 32 ((a c i l).toInt / 2 ^ (b c i l).toNat)) ∧
  givesLanes 0x2E any .vAnd (masked fun c i l => a c i l &&& b c i l) ∧
  givesLanes 0x2F any .vOr (masked fun c i l => a c i l ||| b c i l) ∧
  givesLanes 0x30 any .vXor (masked fun c i l => a c i l ^^^ b c i l) ∧
  givesLanes 0x31 any .vImin (masked fun c i l => if (a c i l).toInt ≤ (b c i l).toInt then a c i l else b c i l) ∧
  givesLanes 0x32 any .vImax (masked fun c i l => if (a c i l).toInt ≤ (b c i l).toInt then b c i l else a c i l) ∧
  givesBits 0x33 .vIcmp (fun i => icmpCond (fld i.imm 2 0)) ∧
  givesLanes 0x38 any .vNoiseu (masked fun c i l => noiseUniform (w c i l).1) ∧
  givesLanes 0x39 any .vNoiseg (masked fun c i l => noiseGauss (w c i l).1 (w c i l).2.1)

/-- NOISEU gives each active lane (w0 >> 9 + 0.5) / 2^23 exactly, never 0 and never 1 (R156). -/
def Obligations.UniformNoiseLiesStrictlyBetween : Prop :=
  givesLanes 0x38 (fun _ => True) .vNoiseu (masked fun c i l =>
    noiseUniform (laneNoise c (noiseBase c i.va) (fld i.imm 27 24) (fld i.imm 23 0) l).1) ∧
  ∀ w0 : W32, ∃ m e : Int, ext32 (noiseUniform w0) = .fin m e ∧
    (m : Rat) * (2 : Rat) ^ e = (((w0 >>> 9).toNat : Rat) + 1 / 2) * (2 : Rat) ^ (-23 : Int) ∧
    (2 : Rat) ^ (-24 : Int) ≤ (m : Rat) * (2 : Rat) ^ e ∧ (m : Rat) * (2 : Rat) ^ e ≤ 1 - (2 : Rat) ^ (-24 : Int) ∧
    noiseUniform w0 ≠ 0 ∧ noiseUniform w0 ≠ 0x80000000#32 ∧ noiseUniform w0 ≠ 0x3F800000#32

/-- Whatever earlier programs left, a VEC task and a drain program start with V0–V31, S4–S31 and M1–M7 zero (R138). -/
def Obligations.ProgramsStartWithClearedRegisters : Prop :=
  let cleared (c : VecCtx) := c.running = true ∧ c.pc = 0 ∧ (∀ r, r < 32 → c.vec r = List.replicate 2048 0) ∧
    (∀ r, 4 ≤ r → r < 32 → c.sc r = 0) ∧ (∀ r, 1 ≤ r → r ≤ 7 → c.mask r = List.replicate 2048 false)
  (∀ (t : Fin 8) (q : Fin 16) (w : Nat) (d : List W32) (s : State), mayIssue s (16 * t + q) d → dType d = 4 →
    let n := (s.queue (16 * t + q)).lcore
    (s.core n).vec.running = false → s.progCode (16 * t + q) n (s.yardAddr n (df d 4 24 0)) = 0 →
    ∃ u, exec (.vec t q w) s = .next u ∧ cleared (u.core n).vec) ∧
  (∀ (n : Fin 16) (b : Fin 2) (t : Task) (s : State), s.up = true →
    let lb := (s.core n).landing b
    s.task? lb.owner.1 lb.owner.2 = some t → lb.full = true → lb.taken = 0 → (s.core n).drainVec.running = false →
    dType t.desc = 1 → s.progCode lb.owner.1 n (s.yardAddr n (df t.desc 12 24 0)) = 0 →
    s.drawsNoise (s.yardAddr n (df t.desc 12 24 0)) = false ∨ s.regionCount (s.yardAddr n (df t.desc 12 24 0)) = 0 ∨
      (let g := s.region (s.yardAddr n (df t.desc 12 24 0)) 0
       s.yardReadCode (lb.owner.1 / 16) n g.1 g.2.2.2.1 64 = 0 ∧ s.filling (lb.owner.1 / 16) g.1 = false) →
    ∃ u, exec (.drainProgram n b) s = .next u ∧ cleared (u.core n).drainVec)

/-- Row reductions give each segment its pairwise tree, and the converts give each lane its format (R148, R152, R153, R57, R61, R149). -/
def Obligations.ReductionsAndConversions : Prop :=
  let a (c : VecCtx) (i : Insn) (l : Nat) := c.lane i.va l
  let b (c : VecCtx) (i : Insn) (l : Nat) := c.lane i.vb l
  let small : Insn → Prop := fun i => fld i.imm 2 0 ≤ 6
  let seg (i : Insn) (l : Nat) := 2 ^ (fld i.imm 2 0 + 5) * (l / 2 ^ (fld i.imm 2 0 + 5))
  let tree (f : W32 → W32 → FRes) (lead : W32 → W32) (pad : W32) := masked fun c i l =>
    pairTree f (fun q => if c.bitAt i.mask q then lead (a c i q) else pad) (fld i.imm 2 0 + 5) (seg i l)
  let code (i : Insn) := (fld i.imm 3 0, fld i.imm 7 4)
  givesLanes 0x18 small .vRmax (tree fmax id 0xFF800000#32) ∧
  givesLanes 0x19 small .vRsum (tree fadd id 0) ∧
  givesLanes 0x1A small .vRssq (tree fadd (fun x => (fmul x x).bits) 0) ∧
  givesLanes 0x20 (fun i => code i ≠ (2, 3) ∧ code i ≠ (3, 2) ∧ code i ≠ (2, 4) ∧ code i ≠ (4, 2)) .vCvt
    (masked fun c i l => match cvtLane (code i).1 (code i).2 (a c i l) with
      | some r => r.bits
      | none => Config.cvtOpen (code i).1 (code i).2 (a c i l)) ∧
  givesLanes 0x20 (fun i => code i = (3, 2)) .vCvt
    (masked fun c i l => (b8xToF32 ((b c i (l / 32)).toNat % 256) ((a c i l).toNat % 256)).bits) ∧
  givesLanes 0x20 (fun i => code i = (2, 4)) .vCvt
    (masked fun c i l => l32Quant ((b c i (l / 64)).toNat % 256) (fld i.imm 11 8) (a c i l)) ∧
  (∀ (n : Fin 16) drain c s, s.vecAt n 0x20 drain c → code (s.nextInsn c) = (4, 2) →
    let i := s.nextInsn c
    ∃ t c', exec (.vCvt n) s = .next t ∧ vecGoesOn { s with freeCtr := s.freeCtr + 1 } t n drain c c' ∧ c' = { c with v := c'.v } ∧
      (∀ l, l < 2048 → c'.lane i.vd l = if c.bitAt i.mask l then
        (l32ToF32 (Config.l32NanProduced s.freeCtr (l / 64)) ((b c i (l / 64)).toNat % 256) (fld i.imm 11 8) (a c i l)).bits
        else c.lane i.vd l) ∧
      ∀ r, r ≠ i.vd → c'.vec r = c.vec r) ∧
  (∀ (n : Fin 16) drain c s, s.vecAt n 0x20 drain c → code (s.nextInsn c) = (2, 3) →
    let i := s.nextInsn c
    i.vc ≠ i.vd →
    ∃ t c', exec (.vCvt n) s = .next t ∧ vecGoesOn s t n drain c c' ∧ c' = { c with v := c'.v } ∧
      (∀ l, l < 2048 → c'.lane i.vd l =
        if c.bitAt i.mask l then (b8xElem (b8xScale (activeOf c i 32 (l / 32))) (a c i l)).bits else c.lane i.vd l) ∧
      (∀ l, l < 2048 → c'.lane i.vc l =
        if l < 64 ∧ c.bitAt i.mask l then BitVec.ofNat 32 (b8xScale (activeOf c i 32 l)) else c.lane i.vc l) ∧
      ∀ r, r ≠ i.vd → r ≠ i.vc → c'.vec r = c.vec r) ∧
  givesLanes 0x22 (fun _ => True) .vBexp (masked fun c i l =>
    if l < 32 then BitVec.ofNat 32 (blockE8 (activeOf c i 64 l)) else c.lane i.vd l)

/-- Loads, stores and gathers move each active lane's bytes at its place in the region; LDL and STE use the buffers (R145, R146, R140, R142, R164, R165, R79). -/
def Obligations.VectorMemoryInstructions : Prop :=
  (∀ (n : Fin 16) drain c s, let i := s.nextInsn c
    let r := (memOff c i).1
    let off := (memOff c i).2
    let act := c.mask i.mask
    (∀ op w cmd, ((op = 0x40 ∧ w = 4 ∧ cmd = .vLd n) ∨ (op = 0x41 ∧ w = 2 ∧ cmd = .vLdh n) ∨
        (op = 0x42 ∧ w = 1 ∧ cmd = .vLdb n)) → s.vecAt n op drain c →
      (act.contains true = false → ∃ t, exec cmd s = .next t ∧ vecGoesOn s t n drain c c) ∧
      (act.contains true = true → off % 256 ≠ 0 → exec cmd s = .next (s.abortTask c.owner.1 c.owner.2 0x12)) ∧
      (∀ y len cold, act.contains true = true → off % 256 = 0 → s.regionAt n c r false = .at y len cold →
        (pastEnd act off w len = true → exec cmd s = .next (s.abortTask c.owner.1 c.owner.2 0x13)) ∧
        (pastEnd act off w len = false → ∃ t c', exec cmd s = .next t ∧ vecGoesOn s t n drain c c' ∧
          c' = { c with v := c'.v } ∧ (∀ q, q ≠ i.vd → c'.vec q = c.vec q) ∧
          ∀ l, l < 2048 → c'.lane i.vd l = if c.bitAt i.mask l then
            BitVec.ofNat 32 (leNat ((List.range w).map fun j => s.yard n cold (y + off + w * l + j))) else c.lane i.vd l))) ∧
    (∀ op w cmd, ((op = 0x43 ∧ w = 4 ∧ cmd = .vSt n) ∨ (op = 0x44 ∧ w = 2 ∧ cmd = .vSth n) ∨
        (op = 0x45 ∧ w = 1 ∧ cmd = .vStb n)) → s.vecAt n op drain c →
      (act.contains true = false → ∃ t, exec cmd s = .next t ∧ vecGoesOn s t n drain c c) ∧
      (act.contains true = true → off % 256 ≠ 0 → exec cmd s = .next (s.abortTask c.owner.1 c.owner.2 0x12)) ∧
      (∀ y len cold, act.contains true = true → off % 256 = 0 → s.regionAt n c r true = .at y len cold →
        (pastEnd act off w len = true → exec cmd s = .next (s.abortTask c.owner.1 c.owner.2 0x13)) ∧
        (pastEnd act off w len = false →
          (∀ l, l < 2048 → c.bitAt i.mask l = true → s.yardAddr n (y + off + w * l) + w ≤ c.prog ∨
            c.prog + 0x140 ≤ s.yardAddr n (y + off + w * l)) →
          ∃ t, exec cmd s = .next t ∧ t.core n = (s.core n).setRunning drain { c with pc := c.pc + 1 } ∧
            t = { s with cores := t.cores, queues := t.queues, regs := t.regs, mem := t.mem } ∧ vecRegs n s t ∧
            (∀ l, l < 2048 → c.bitAt i.mask l = true →
              t.bytesAt (s.yardAddr n (y + off + w * l)) w = leBytes w (c.lane i.vd l).toNat) ∧
            (∀ x, (∀ l, l < 2048 → c.bitAt i.mask l = true →
              x < s.yardAddr n (y + off + w * l) ∨ s.yardAddr n (y + off + w * l) + w ≤ x) → t.byte x = s.byte x) ∧
            (s.mem.wf = true → t.mem.wf = true)))) ∧
    (∀ op w cmd, ((op = 0x46 ∧ w = 4 ∧ cmd = .vGather n) ∨ (op = 0x47 ∧ w = 2 ∧ cmd = .vGatherh n)) →
      s.vecAt n op drain c → ∀ y len cold, act.contains true = true →
      s.regionAt n c (fld i.imm 31 28) false = .at y len cold →
      ((∃ l, l < 2048 ∧ c.bitAt i.mask l = true ∧
          ((c.lane i.va l).toInt < 0 ∨ len < w * (c.lane i.va l).toNat + w)) →
        exec cmd s = .next (s.abortTask c.owner.1 c.owner.2 0x13)) ∧
      ((∀ l, l < 2048 → c.bitAt i.mask l = true →
          0 ≤ (c.lane i.va l).toInt ∧ w * (c.lane i.va l).toNat + w ≤ len) →
        ∃ t c', exec cmd s = .next t ∧ vecGoesOn s t n drain c c' ∧ c' = { c with v := c'.v } ∧
          (∀ q, q ≠ i.vd → c'.vec q = c.vec q) ∧
          ∀ l, l < 2048 → c'.lane i.vd l = if c.bitAt i.mask l then
            BitVec.ofNat 32 (leNat ((List.range w).map fun j => s.yard n cold (y + w * (c.lane i.va l).toNat + j)))
            else c.lane i.vd l)) ∧
    (s.vecAt n 0x48 drain c → let lb := (s.core n).landing c.buffer
      let full := drain && lb.full && decide (lb.taken < 32)
      let got := dense 0 (mslice lb.data (2048 * lb.taken) 2048) (2048 * lb.taken) 2048
      ∃ t, ∃ c' : VecCtx, exec (.vLdl n) s = .next t ∧ (t.core n).running = some (drain, { c' with pc := c.pc + 1 }) ∧
        c' = { c with v := c'.v, buffer := if full && decide (lb.taken = 31) then noBuffer else c.buffer } ∧
        (∀ q, q ≠ i.vd → c'.vec q = c.vec q) ∧ t.mem = s.mem ∧ t.homes = s.homes ∧ vecRegs n s t ∧
        (full = true → (t.core n).landing c.buffer = if lb.taken = 31 then .init else { lb with taken := lb.taken + 1 }) ∧
        ∀ l, l < 2048 → c'.lane i.vd l = if c.bitAt i.mask l then
          (if full then (got[l]?).getD 0 else Config.freeWord (s.freeCtr + l)) else c.lane i.vd l) ∧
    (s.vecAt n 0x49 drain c → let e := (s.core n).edge (fld i.imm 0 0)
      let base := 4096 * fld i.imm 9 4
      let waits := (e.shadow.full && !e.shadow.fromEngine) || (s.core n).fileBusy (fld i.imm 0 0) ||
        (e.shadow.fromEngine && e.shadow.loaded.contains (fld i.imm 9 4))
      (waits = true → exec (.vSte n) s = .next s) ∧
      (waits = false → ∃ t, exec (.vSte n) s = .next t ∧
        (t.core n).running = some (drain, { c with pc := c.pc + 1 }) ∧ t.mem = s.mem ∧ t.homes = s.homes ∧
        vecRegs n s t ∧ ((t.core n).edge (fld i.imm 0 0)).active = e.active ∧
        ((t.core n).edge (fld i.imm 0 0)).shadow.full = true ∧
        ((t.core n).edge (fld i.imm 0 0)).shadow.fromEngine = true ∧
        ((t.core n).edge (fld i.imm 0 0)).shadow.coming.contains (fld i.imm 9 4) = true ∧
        ∀ x, mget 0 ((t.core n).edge (fld i.imm 0 0)).shadow.bytes x =
          if base ≤ x ∧ x < base + 4096 ∧ c.bitAt i.mask ((x - base) / 2) = true
          then (c.lane i.vd ((x - base) / 2)).extractLsb' (8 * ((x - base) % 2)) 8 else mget 0 e.shadow.bytes x)))

/-- Scalar moves write S[VD], REP repeats its body or skips it, and the last instruction ends the program (R143, R138, R116, R139). -/
def Obligations.ScalarsLoopsAndProgramEnd : Prop :=
  givesScalar 0x50 .vSmov (fun _ i => i.imm) ∧
  givesScalar 0x51 .vSpar (fun c i => mget 0 c.p (fld i.imm 5 0)) ∧
  givesScalar 0x52 .vSadd (fun c i => c.sc i.va + i.imm) ∧
  (∀ (n : Fin 16) drain c s, s.vecAt n 0x60 drain c → let i := s.nextInsn c
    let len := fld i.imm 27 16
    let cnt := if fld i.imm 15 0 = 0 then (c.sc i.va).toNat else fld i.imm 15 0
    (0 < cnt → 0 < len → ∃ t, exec (.vRep n) s = .next t ∧
      (t.core n).running = some (drain, { c with pc := c.pc + 1, reps := [(c.pc + 1, c.pc + 1 + len, cnt - 1)] }) ∧
      t = { s with cores := t.cores, queues := t.queues, regs := t.regs } ∧ vecRegs n s t) ∧
    (cnt = 0 ∨ len = 0 → c.pc + 1 + len < s.insnCount c.prog → ∃ t, exec (.vRep n) s = .next t ∧
      (t.core n).running = some (drain, { c with pc := c.pc + 1 + len }) ∧
      t = { s with cores := t.cores, queues := t.queues, regs := t.regs } ∧ vecRegs n s t)) ∧
  (∀ (n : Fin 16) drain c first left s, s.up = true → (s.core n).running = some (drain, c) →
    (∀ t, s.task? c.owner.1 c.owner.2 = some t → t.trap = false) → (s.nextInsn c).op = 0x50 →
    (c.reps = [(first, c.pc + 1, left)] → c.pc + 1 < s.insnCount c.prog → first ≤ c.pc →
      ∃ t, ∃ c' : VecCtx, exec (.vSmov n) s = .next t ∧ (t.core n).running = some (drain, c') ∧
        (0 < left → c'.pc = first ∧ c'.reps = [(first, c.pc + 1, left - 1)]) ∧
        (left = 0 → c'.pc = c.pc + 1 ∧ c'.reps = [])) ∧
    (drain = false → c.reps = [] → s.insnCount c.prog ≤ c.pc + 1 → ∃ t, exec (.vSmov n) s = .next t ∧
      (t.core n).vec = .init ∧ (∀ y, t.task? c.owner.1 c.owner.2 = some y → y.landed = true) ∧
      t = { s with cores := t.cores, queues := t.queues, regs := t.regs } ∧ vecRegs n s t))

/-- Halo exchanges send tokens, check them, land their data and start the sweep; a lost partner or link ends them (R217, R218, R219, R221, R512, R216). -/
def Obligations.MortarLinksExchangeHalos : Prop :=
  ∀ (n : Fin 16) (s : State), s.up = true →
  (∀ h, (s.core n).halo = some h →
    (h.started = false → ((s.queue h.owner.1).tasks.head?).map (·.serial) = some h.owner.2 →
      exec (.haloExchangeStart n) s = .next (s.modCore n fun c =>
        { c with halo := some { h with started := true, phase := if (phaseLinks h.desc 1).isEmpty then 2 else 1 } })) ∧
    (h.started = true ∨ ((s.queue h.owner.1).tasks.head?).map (·.serial) ≠ some h.owner.2 →
      exec (.haloExchangeStart n) s = .next s) ∧
    (∀ (l : Fin 4) m p, meshPartner n l = some m → (s.core m).halo = some p → p.started = true →
      (haloLinks p.desc).contains (meshBack l) = true → (haloLinks h.desc).contains l.val = true →
      (s.queue p.owner.1).cls = (s.queue h.owner.1).cls →
      (h.ready.contains l.val = false → s.tokenOk h p l = true → exec (.haloToken n l) s = .next (s.modCore n fun c =>
        { c with halo := some { h with ready := l.val :: h.ready, tokens := if l.val < 2 then l.val :: h.tokens else h.tokens } })) ∧
      (h.ready.contains l.val = false → s.tokenOk h p l = false → ∃ u, exec (.haloToken n l) s = .next u ∧
        u = (s.abortTask h.owner.1 h.owner.2 0x10).abortTask p.owner.1 p.owner.2 0x10 ∧
        u.task? h.owner.1 h.owner.2 = none ∧ u.task? p.owner.1 p.owner.2 = none) ∧
      (h.ready.contains l.val = true → 2 ≤ l.val → 2 ≤ p.phase → h.tokens.contains l.val = false →
        exec (.haloToken n l) s = .next (s.modCore n fun c => { c with halo := some { h with tokens := l.val :: h.tokens } })) ∧
      (h.ready.contains l.val = true → l.val < 2 ∨ p.phase < 2 ∨ h.tokens.contains l.val = true →
        exec (.haloToken n l) s = .next s)) ∧
    (h.started = true → h.gone = false → h.phase = 1 ∨ h.phase = 2 → (∀ l ∈ phaseLinks h.desc h.phase, ∃ m p, meshPartner n l = some m ∧
        (s.core m).halo = some p ∧ h.tokens.contains l = true ∧ p.tokens.contains (meshBack l) = true) →
      (s.queue h.owner.1).lcore = n.val → (∀ t, s.task? h.owner.1 h.owner.2 = some t → t.trap = false) →
      ∃ u, exec (.haloInboundComplete n) s = .next u ∧ u.homes = s.homes ∧
        (h.phase = 1 → (phaseLinks h.desc 2).isEmpty = false → ∃ g, (u.core n).halo = some g ∧ g.phase = 2 ∧
          g.owner = h.owner ∧ ∀ l ∈ phaseLinks h.desc 1, g.landed.contains l = true) ∧
        (h.phase = 2 ∨ (phaseLinks h.desc 2).isEmpty = true →
          ((u.core n).arr).map (fun j => (j.owner, j.desc, j.chunk)) = some (h.owner, h.desc, 0) ∧
          ∀ g, (u.core n).halo = some g → g.phase = 3) ∧
        sameRegs (fun q _ => q = .coreMtxbytes ∨ q = .coreArrissue ∨ q = .coreMhalowait ∨ q = .queSlip) s u ∧
        (let e := s.home (h.owner.1 / 16) (df h.desc 4 23 0)
         let a := s.yardAddr n (df h.desc 6 24 0)
         ∀ y, (∀ l ∈ phaseLinks h.desc h.phase, ∀ m p, meshPartner n l = some m → (s.core m).halo = some p →
            ∀ q ∈ haloCells h.desc e (s.home (p.owner.1 / 16) (df p.desc 4 23 0)) p.desc l, ∀ c, c < e.d3 →
            let o := a + convOff e (cPlanar h.desc) (cB8 h.desc) c q.1.1 q.1.2.1 q.1.2.2
            let b := a + convScaleOff e c q.1.1 q.1.2.1 q.1.2.2
            (y < o ∨ o + (if cB8 h.desc then 1 else 2) ≤ y) ∧ y ≠ b) → u.byte y = s.byte y)) ∧
    (h.started = false ∨ h.gone = true ∨ 3 ≤ h.phase → exec (.haloInboundComplete n) s = .next s) ∧
    (h.gone = false ∨ 3 ≤ h.phase → exec (.haloPartnerAbort n) s = .next s) ∧
    (h.gone = true → h.phase < 3 →
      ∃ u, exec (.haloPartnerAbort n) s = .next u ∧ u = s.abortTask h.owner.1 h.owner.2 0x60 ∧
        u.task? h.owner.1 h.owner.2 = none)) ∧
  ((s.core n).halo = none → exec (.haloExchangeStart n) s = .next s ∧ exec (.haloInboundComplete n) s = .next s ∧
    exec (.haloPartnerAbort n) s = .next s) ∧
  (∀ l : Fin 4, ((meshPartner n l).isSome = true → exec (.mortarFlitError n l) s =
      .next (s.setReg .coreMreplay n (wrapAdd32 (s.reg .coreMreplay n) 1))) ∧
    (meshPartner n l = none → exec (.mortarFlitError n l) s = .next s ∧ exec (.mortarLinkFailed n l) s = .next s) ∧
    (∀ m, meshPartner n l = some m → ∃ u, exec (.mortarLinkFailed n l) s = .next u ∧
      (u.core n).linkFail.contains l.val = true) ∧
    (∀ m c, meshPartner n l = some m → s.phys n = some c → s.logical c = some n.val → s.queuesOn n = [] →
      s.queuesOn m = [] → s.mon.subst = [] → s.spareLeft (dieOf c) = true →
      ∃ u, exec (.mortarLinkFailed n l) s = .next u ∧ (u.core n).linkFail.contains l.val = true ∧
        (u.core n).stopped = true ∧ u.mon.subst = [(dieOf c, n.val, c, [])] ∧ u.mem = s.mem ∧ u.homes = s.homes ∧
        sameRegs (fun q _ => q = .monLoglost) s u))

/-- Maintenance, calibration, retirement, erasure, initialisation and refresh keep every byte and show in their registers (R251, R256, R260, R261, R263, R264, R266, R252). -/
def Obligations.TierControllersKeepTheData : Prop :=
  ∀ s : State, s.clocked = true →
  (s.trained = false → ∀ c : Instr, (∃ k errs, c = .maintenanceBurst k errs) ∨ (∃ k, c = .periodicCalibration k) ∨
    (∃ b r, c = .rowRetirement b r) ∨ (∃ k l, c = .laneErasure k l) ∨ c = .backgroundInit → exec c s = .next s) ∧
  (∀ (k : Fin 272) (errs : List CwErr), s.trained = true → (∀ j, s.erased j = []) → s.mem.latent = [] →
    let cur := mget 0 s.mem.scrub k
    (s.unitInited k (cur % unitsOf k) = true → s.scrubNext k = some cur) ∧
    (∀ pos, s.scrubNext k = some pos → cur ≤ pos ∧ s.unitInited k (pos % unitsOf k) = true) ∧
    (mget [] s.mem.writeBack k = [] → s.scrubNext k = none → exec (.maintenanceBurst k errs) s = .next s) ∧
    (∀ pos, mget [] s.mem.writeBack k = [] → s.scrubNext k = some pos → errs = [] → (∀ cw, s.poisoned cw = false) →
      exec (.maintenanceBurst k errs) s = .next { s with mem := { s.mem with scrub := mset 0 s.mem.scrub k (pos + 1) } }) ∧
    (∀ cw rest, mget [] s.mem.writeBack k = cw :: rest → errs = [] → s.poisoned cw = false →
      exec (.maintenanceBurst k errs) s =
        .next { s with mem := { s.mem with writeBack := mset [] s.mem.writeBack k rest } }) ∧
    (∀ cw rest, mget [] s.mem.writeBack k = cw :: rest → chanOf cw = some k.val → s.inited cw = true →
      s.poisoned cw = true → s.moves = [] → ∃ t, exec (.maintenanceBurst k errs) s = .next t ∧
      t.reg .memUecnt k = satAdd32 (s.reg .memUecnt k) 1 ∧ t.mem.bytes = s.mem.bytes ∧ t.poisoned cw = true ∧
      bit (t.reg .memUelog0 0) 31 = true ∧ mget [] t.mem.writeBack k = rest ∧
      sameRegs (fun q i => (q = .memUecnt ∧ i = k.val) ∨ (q = .memUelog0 ∨ q = .memUelog1 ∨ q = .monLoglost) ∧ i = 0) s t)) ∧
  (∀ k : Fin 272, s.trained = true → exec (.periodicCalibration k) s =
    .next { s with mem := { s.mem with calibrated := mset 0 s.mem.calibrated k (mget 0 s.mem.calibrated k + 1) } }) ∧
  (∀ bank row : Nat, s.trained = true →
    (s.memRest = false ∨ (bank, row) ∉ s.mem.retireQ → exec (.rowRetirement bank row) s = .next s) ∧
    (s.memRest = true → (bank, row) ∈ s.mem.retireQ → row ∉ mget [] s.mem.retired bank → bank / 256 < 272 →
      (mget [] s.mem.retired bank).length < (if bank / 256 < 256 then 2 else 1) →
      s.mem.latent = [] → ∃ t, exec (.rowRetirement bank row) s = .next t ∧ t.mem.bytes = s.mem.bytes ∧
        (s.badInRow bank row = [] → t.mem.poison = s.mem.poison ∧ t.homes = s.homes) ∧
        mget [] t.mem.retired bank = row :: mget [] s.mem.retired bank ∧ (bank, row) ∉ t.mem.retireQ ∧
        t.rfld .memChstat (bank / 256) 27 24 = Nat.min 15 (s.rfld .memChstat (bank / 256) 27 24 + 1))) ∧
  (∀ (k : Fin 272) (lane : Nat), s.trained = true →
    (s.laneHits k lane < 16 ∨ lane ∈ s.erased k → exec (.laneErasure k lane) s = .next s) ∧
    (16 ≤ s.laneHits k lane → lane ∉ s.erased k → ∃ t, exec (.laneErasure k lane) s = .next t ∧
      t.erased k = laneInsert lane (s.erased k) ∧ (∀ j, j ≠ k.val → t.erased j = s.erased j) ∧
      t.rfld .memChstat k 23 20 = Nat.min 15 ((s.erased k).length + 1) ∧ t.mem.bytes = s.mem.bytes ∧ t.homes = s.homes ∧
      sameRegs (fun q i => ((q = .memChstat ∨ q = .memLanemap) ∧ i = k.val) ∨ (q = .monLoglost ∧ i = 0)) s t)) ∧
  (s.trained = true →
    (s.mem.initNext < 1048576 → ∃ t, exec .backgroundInit s = .next t ∧ t = { s with mem := t.mem } ∧
      t.mem.bytes = s.mem.bytes ∧ t.mem.initNext = s.mem.initNext + 1 ∧
      ∀ a, t.inited a = (s.inited a || decide (granuleOf a = s.mem.initNext))) ∧
    (1048576 ≤ s.mem.initNext → exec .backgroundInit s = .next s)) ∧
  (∀ (bank : Nat) (hot : Bool), ∃ t, exec (.refresh bank hot) s = .next t ∧
    t = { s with regs := t.regs, mem := { s.mem with refreshed := t.mem.refreshed } } ∧
    mget 0 t.mem.refreshed bank = mget 0 s.mem.refreshed bank + 1 ∧
    (bank / 256 % 272 < 256 → t.regs = s.regs) ∧
    (256 ≤ bank / 256 % 272 → bit (t.reg .memStatus 0) (bank / 256 % 272 - 256) = hot ∧
      (∀ j, j < 32 → j ≠ bank / 256 % 272 - 256 → bit (t.reg .memStatus 0) j = bit (s.reg .memStatus 0) j) ∧
      sameRegs (fun q i => q = .memStatus ∧ i = 0) s t))

/-- CREATE, DESTROY, READ, CLEAR and REHOME end with their result in TH_CMDSTAT and change at most their own entry (R273, R274, R272, R275, R270, R271, 11_tensor_homes.md). -/
def Obligations.EntryCommandsChangeTheirEntry : Prop :=
  ∀ (f : Fin 9) (t : Fin 8) (hb : BitVec 24) (s : State), s.served = true → sound s → s.inView f .thCmd t = true →
    let h := hb.toNat
    let e := s.home t h
    let im := s.entryImage t
    let busy := e.st = stMoving ∨ s.filling t h = true
    let ends (c : Instr) (code : Nat) (e' : HEntry) := ∃ u, exec c s = .next u ∧ u.rfld .thCmdstat t 7 0 = code ∧
      bit (u.reg .thCmdstat t) 31 = true ∧ bit (u.reg .thCmd t) 31 = false ∧ u.home t h = e' ∧
      (∀ t' h', t' < 8 → h' < 2 ^ 24 → (t', h') ≠ (t.val, h) → u.home t' h' = s.home t' h') ∧ u.mem = s.mem ∧
      u.queues = s.queues ∧ u.cores = s.cores ∧
      sameRegs (fun r i => ((r = .thCmd ∨ r = .thCmdstat) ∧ i = t.val) ∨
        (c = .thRead f t hb ∧ code = 0 ∧ r = .thEntry ∧ i / 8 = t.val)) s u ∧
      (c = .thRead f t hb → code = 0 → u.entryImage t = e)
    (s.handleOk t h = false → ∀ c, c = .create f t hb ∨ c = .destroy f t hb ∨ c = .thRead f t hb ∨ c = .clear f t hb ∨
      c = .rehome f t hb → ends c 3 e) ∧
    (s.handleOk t h = true →
      ends (.thRead f t hb) 0 e ∧
      (busy → ∀ c, c = .create f t hb ∨ c = .destroy f t hb ∨ c = .clear f t hb ∨ c = .rehome f t hb → ends c 1 e) ∧
      (¬ busy →
        ends (.destroy f t hb) 0 ((e.withSt stFree).nextGen) ∧
        (e.st ≠ stFree → ends (.create f t hb) 2 e) ∧
        (e.st = stFree → im.packed = true ∨ im.imageOk = false → ends (.create f t hb) 4 e) ∧
        (e.st = stFree → im.packed = false → im.imageOk = true → s.homeOk t im = false → ends (.create f t hb) 5 e) ∧
        (e.st = stFree → im.packed = false → im.imageOk = true → s.homeOk t im = true →
          ends (.create f t hb) 0 ((im.withSt stUnwritten).withGen (e.gen + 1))) ∧
        (e.st = stUnwritten ∨ e.st = stValid ∨ e.st = stVoid ∨ e.st = stPoisoned →
          ends (.clear f t hb) 0 (((e.withSt stUnwritten).withPacked false).nextGen)) ∧
        (e.st = stFree → ends (.clear f t hb) 2 e) ∧
        (e.st ≠ stUnwritten → e.st ≠ stVoid → ends (.rehome f t hb) 2 e) ∧
        (e.st = stUnwritten ∨ e.st = stVoid →
          (im.packed = true ∨ im.imageOk = false ∨ im.fmt ≠ e.fmt ∨ im.layout ≠ e.layout ∨ im.bform ≠ e.bform →
            ends (.rehome f t hb) 4 e) ∧
          (im.packed = false → im.imageOk = true → im.fmt = e.fmt → im.layout = e.layout → im.bform = e.bform →
            (s.homeOk t im = false → ends (.rehome f t hb) 5 e) ∧
            (s.homeOk t im = true → ends (.rehome f t hb) 0
              { im with w0 := setBit (setFld e.w0 5 4 im.kind) 6 im.packed }))))) ∧
    (∀ op : BitVec 3, (op = 0 ∨ op = 6 ∨ op = 7 → ends (.thUnknownCommand f t op hb) 6 e) ∧
      (op = 1 → exec (.thUnknownCommand f t op hb) s = exec (.create f t hb) s) ∧
      (op = 2 → exec (.thUnknownCommand f t op hb) s = exec (.destroy f t hb) s) ∧
      (op = 3 → exec (.thUnknownCommand f t op hb) s = exec (.thRead f t hb) s) ∧
      (op = 4 → exec (.thUnknownCommand f t op hb) s = exec (.clear f t hb) s) ∧
      (op = 5 → exec (.thUnknownCommand f t op hb) s = exec (.rehome f t hb) s))

/-- A fill ends with zeros and VALID, a MOVE switches its entry and then releases it, and a free unit grants by class (R278, R282, R287, R283, R274, R35, R36). -/
def Obligations.FillsMovesAndGrants : Prop :=
  (∀ (t : Fin 8) (hb : BitVec 24) (s : State), s.up = true →
    let h := hb.toNat
    let e := s.home t h
    (s.filling t h = false → exec (.tensorFillDone t hb) s = .next s) ∧
    (∀ f, s.fills.find? (fun x => decide (x.tenant = t.val) && decide (x.handle = h)) = some f → e.kind ≠ 0 → f.next < e.bytes →
      exec (.tensorFillDone t hb) s = .next s) ∧
    (∀ f a, s.fills.find? (fun x => decide (x.tenant = t.val) && decide (x.handle = h)) = some f →
      e.kind = 0 ∨ e.bytes ≤ f.next → s.homeAddr e = some a →
      ∃ u, exec (.tensorFillDone t hb) s = .next u ∧ u.filling t h = false ∧
        (∀ y, u.byte y = if a + f.next ≤ y ∧ y < a + e.bytes then 0 else s.byte y) ∧
        u.home t h = (if e.st = stUnwritten then e.withSt stValid else e) ∧
        u.reg .thFillcnt t = wrapAdd32 (s.reg .thFillcnt t) e.w3.toNat ∧
        sameRegs (fun r i => r = .thFillcnt ∧ i = t.val) s u ∧ (s.mem.wf = true → u.mem.wf = true)) ∧
    (∀ m, s.moveOf t h = some m →
      (m.copied = false ∨ m.switched = true → exec (.moveSwitch t hb) s = .next s) ∧
      (m.copied = true → m.switched = false → ∃ u, exec (.moveSwitch t hb) s = .next u ∧ u.mem = s.mem ∧
        u.moveOf t h = some { m with switched := true } ∧
        (e.gen = m.gen → u.home t h = m.entry e ∧ u.regs = s.regs) ∧
        (e.gen ≠ m.gen → u.home t h = e ∧ u.reg .thStaleupd t = satAdd32 (s.reg .thStaleupd t) 1) ∧
        (m.dkind = 3 → (s.task? (16 * t.val + m.queue) m.task).isSome = true → ∃ x ∈ (u.route m.route).toSend,
          x.seg.typ = 7 ∧ x.len = 0 ∧ x.task = (16 * t.val + m.queue, m.task)) ∧
        (m.dkind ≠ 3 → u.ports = s.ports ∧ u.units = s.units)) ∧
      ((m.switched && m.acked) = false ∨ s.oldHeld t h m.gen m.task = true → exec (.moveRelease t hb) s = .next s) ∧
      (m.switched = true → m.acked = true → s.oldHeld t h m.gen m.task = false →
        ∃ u, exec (.moveRelease t hb) s = .next u ∧ (∀ x ∈ u.moves, ¬ (x.tenant = t.val ∧ x.task = m.task)) ∧
          (e.gen = m.gen → e.st = stMoving → u.home t h = e.withSt stValid) ∧
          u.task? (16 * t.val + m.queue) m.task = none ∧
          (s.task? (16 * t.val + m.queue) m.task = none → u.mem = s.mem))) ∧
    (s.moveOf t h = none → exec (.moveSwitch t hb) s = .next s ∧ exec (.moveRelease t hb) s = .next s)) ∧
  (∀ (errs : List CwErr) (s : State), s.up = true → sound s → s.staged = [] →
    exec (.sharedUnitGrant 2 errs) s = .next s ∧
    (∀ n : Fin 11, n.val ≠ 2 → (s.unit n).holder = none ∨ (s.unit n).discard = true →
      ∃ u, exec (.sharedUnitGrant n errs) s = .next u ∧ u.mem = s.mem ∧ u.homes = s.homes ∧ u.regs = s.regs ∧
        u.queues = s.queues ∧ u.moves = s.moves ∧ u.fills = s.fills) ∧
    (s.fills = [] → s.moves = [] → (s.unit 0).holder = none → (s.unit 0).more = [] → (s.unit 0).queue ≠ [] →
      (∀ r ∈ (s.unit 0).queue, r.cls ≤ 2 ∧ r.tenant < 8) →
      ∃ u r, exec (.sharedUnitGrant 0 errs) s = .next u ∧ u = { s with units := u.units } ∧
        (u.unit 0).holder = some r ∧ r ∈ (s.unit 0).queue ∧ (u.unit 0).queue = (s.unit 0).queue.erase r ∧
        ((∃ x ∈ (s.unit 0).queue, x.cls = 0) → r.cls = 0) ∧
        ((∀ x ∈ (s.unit 0).queue, x.cls ≠ 0) → (∃ x ∈ (s.unit 0).queue, x.cls = 1) →
          r.cls = 1 ∧ ∀ x ∈ (s.unit 0).queue, x.cls = 1 → r.deadline ≤ x.deadline)) ∧
    (∀ r f a, (s.unit 0).holder = some r → (s.unit 0).discard = false → r.kind = 0 →
      s.fills.find? (fun x => decide (x.tenant = r.tenant) && decide (x.handle = r.key)) = some f →
      s.homeAddr (s.home r.tenant r.key) = some a →
      let n := Nat.min 4096 ((s.home r.tenant r.key).bytes - f.next)
      ∃ u, exec (.sharedUnitGrant 0 errs) s = .next u ∧ u.homes = s.homes ∧ u.regs = s.regs ∧
        (∀ y, u.byte y = if a + f.next ≤ y ∧ y < a + f.next + n then 0 else s.byte y) ∧
        u.fills.find? (fun x => decide (x.tenant = r.tenant) && decide (x.handle = r.key)) = some { f with next := f.next + n }) ∧
    (∀ r m, (s.unit 0).holder = some r → (s.unit 0).discard = false → r.kind = 1 →
      s.moves.find? (fun x => decide (x.tenant = r.tenant) && decide (x.task = r.key)) = some m → m.copied = false →
      (s.home m.tenant m.handle).packed = false → m.pack = false → readsClean s → errs = [] →
      let n := Nat.min 4096 ((s.home m.tenant m.handle).bytes - m.next)
      ∃ u, exec (.sharedUnitGrant 0 errs) s = .next u ∧ u.homes = s.homes ∧ u.regs = s.regs ∧ u.queues = s.queues ∧
        (∀ y, u.byte y = if m.dst + m.next ≤ y ∧ y < m.dst + m.next + n then s.byte (m.src + (y - m.dst)) else s.byte y) ∧
        u.moves = s.moves.map fun x => if x.tenant = m.tenant ∧ x.task = m.task then { m with next := m.next + n } else x) ∧
    (∀ (g : Fin 8) (n : Fin 11) (r : Req) (p : Nat) (plan : TxPlan) (rest : List TxPlan), n.val = 3 + g.val →
      (s.unit n).holder = some r → (s.unit n).discard = false →
      let key := r.key
      let x := s.route key
      x.ready = true → bit (s.reg .tunCtrl 0) 31 = true → s.pickPort x.ports (classPcp x.cls) none = some p → p / 4 = g.val →
      x.toSend = plan :: rest → plan.src = none ∨ (plan.seg.move = false ∧ readsClean s) → errs = [] →
      bit (s.reg .tunFinj 0) 31 = false →
      ∃ u f, exec (.sharedUnitGrant n errs) s = .next u ∧ f ∈ (u.port p).txq ∧ f.pcp = classPcp x.cls ∧ f.seg.seq = x.txSeq ∧
        f.seg.epoch = s.ownEpoch key ∧ f.seg.msgNo = plan.seg.msgNo ∧ f.seg.segIdx = plan.seg.segIdx ∧
        f.seg.payload = (match plan.src with
          | none => if plan.bytes = [] then List.replicate plan.len 0 else plan.bytes
          | some a => s.bytesAt a plan.len) ∧
        (u.route key).txSeq = (x.txSeq + 1) % 2 ^ 32 ∧ u.mem = s.mem ∧ u.homes = s.homes ∧ u.regs = s.regs ∧
        ∃ z, (u.route key).unacked = x.unacked ++ [z] ∧ z.seg = f.seg ∧ z.port = p ∧ z.task = plan.task))

/-- Bring-up, retrain, hold, LLDP, preemption and PTP move a port between its states (R311, R312, R313, R301, R300, R306, R309, R352). -/
def Obligations.PortsMoveBetweenTheirStates : Prop :=
  ∀ (p : Fin 32) (s : State), s.clocked = true → sound s →
    let st := s.portSt p
    let resent (r : Reg) (i : Nat) := ((r = .portStatus ∨ r = .portFinjcnt) ∧ i = p.val) ∨ r = .tunRetx ∨ r = .tunFinjcnt
    let quiet := bit (s.reg .portFinj p) 31 = false
    let count (u : State) := u.rfld .portStatus p 23 16 = Nat.min 255 (s.rfld .portStatus p 23 16 + 1)
    let arg := s.flash.fuses.serial * 2 ^ 32 + s.carBond * 2 ^ 16 + s.ownSlot * 2 ^ 8 + p
    let lldp : Emit := .macFrame p 2 arg
    ((st = 1 ∨ st = 4) →
      (bit (s.reg .portCtrl p) 31 = false → ∃ u, exec (.portLinkUp p) s = .next u ∧ u.portSt p = 2 ∧ (quiet → lldp ∈ u.sent) ∧
        (u.port p).fails = 0 ∧ (u.port p).verifyFails = 0 ∧ (u.port p).matched = !decide (s.portRole p = 1) ∧ u.mem = s.mem ∧ u.homes = s.homes ∧
        sameRegs resent s u) ∧
      (bit (s.reg .portCtrl p) 31 = true → ∃ u, exec (.portLinkUp p) s = .next u ∧ u.portSt p = 4 ∧ count u ∧
        (quiet → lldp ∈ u.sent) ∧ bit (u.reg .portCtrl p) 31 = false ∧ u.mem = s.mem) ∧
      ((s.port p).fails + 1 < 8 → exec (.portBringupFail p) s =
        .next (s.modPort p fun x => { x with fails := (s.port p).fails + 1, firstEnded := true })) ∧
      (8 ≤ (s.port p).fails + 1 → ∃ u, exec (.portBringupFail p) s = .next u ∧ u.portSt p = 5 ∧ (s.tunil.held = none → (u.port p).txq = []) ∧
        u.mem = s.mem ∧ sameRegs resent s u) ∧
      (0 < (s.port p).fails → ∃ u, exec (.portBringupRetry p) s = .next u ∧ u.portSt p = 1 ∧ u.mem = s.mem ∧
        u.ports = s.ports ∧ sameRegs (fun r i => r = .portStatus ∧ i = p.val) s u) ∧
      ((s.port p).fails = 0 → exec (.portBringupRetry p) s = .next s)) ∧
    (st ≠ 1 → st ≠ 4 → exec (.portLinkUp p) s = .next s ∧ exec (.portBringupFail p) s = .next s ∧
      exec (.portBringupRetry p) s = .next s) ∧
    (st = 2 ∨ st = 3 →
      (∃ u, exec (.portRetrain p) s = .next u ∧ u.portSt p = 4 ∧ count u ∧ (s.tunil.held = none → (u.port p).txq = []) ∧
        bit (u.reg .portStatus p) 28 = false ∧ u.mem = s.mem) ∧
      sendsOn p (.lldpTransmit p) (.mac 2 arg) s ∧
      (∀ (sender : LldpSender) (slot : Fin 16) (port : Fin 32), ∃ u, exec (.lldpReceive p sender slot port) s = .next u ∧
        let bond := sender.bond
        u.reg .portPeer p = BitVec.ofNat 32 (bond.toNat * 65536 + slot.val * 4096 + port.val) ∧ u.mem = s.mem ∧
        (s.portRole p ≠ 1 → u = { s with regs := u.regs, ports := u.ports } ∧ u.portSt p = st ∧
          u.port p = { s.port p with chassis := some sender.chassis }) ∧
        (s.portRole p = 1 →
          let good := bond.toNat = s.carBond ∧ slot.val = (s.ownSlot + p.val / 2 + 1) % 9 ∧
            port.val = 2 * (7 - p.val / 2) + p.val % 2
          (good → u.portSt p = 2 ∧ (u.port p).matched = true) ∧ (¬ good → u.portSt p = 3 ∧ (u.port p).matched = false)) ∧
        sameRegs (fun r i => resent r i ∨ (r = .portPeer ∧ i = p.val)) s u) ∧
      (∀ ok, bit (s.reg .portCfg p) 19 = true → bit (s.reg .portStatus p) 28 = false → (s.port p).verifyFails < 3 →
        (ok = true → exec (.preemptVerify p ok) s =
          .next (s.setReg .portStatus p (setFld (s.reg .portStatus p) 28 28 1))) ∧
        (ok = false → exec (.preemptVerify p ok) s =
          .next (s.modPort p fun x => { x with verifyFails := x.verifyFails + 1 }))) ∧
      (∀ ok, bit (s.reg .portCfg p) 19 = false ∨ bit (s.reg .portStatus p) 28 = true ∨ 3 ≤ (s.port p).verifyFails →
        exec (.preemptVerify p ok) s = .next s) ∧
      (∀ (m : PtpMsg) (lock : Bool), let c := Instr.ptpMessage p m lock
        (s.portRole p = 0 ∨ m.kind = .management → exec c s = .next s) ∧
        (s.portRole p ≠ 0 → m.kind = .send →
          if s.ptpParent = some p.val then exec c s = .next s else sendsOn p c (.mac 3 s.clock.ptp) s) ∧
        (m.kind ≠ .send → m.domain ≠ s.ptpDomain → exec c s = .next s) ∧
        (s.portRole p ≠ 0 → m.domain = s.ptpDomain →
          (m.kind = .announce → exec c s = .next (s.modPort p fun x => { x with foreign := some m.dataset })) ∧
          (m.kind = .delayRequest → sendsOn p c (.mac 4 s.clock.ptp) s) ∧
          (m.kind = .sync → s.ptpParent ≠ some p.val → exec c s = .next s) ∧
          (m.kind = .sync → s.ptpParent = some p.val → ∃ u, exec c s = .next u ∧
            u = { s with clock := { s.clock with ptp := s.asymTime p m.time, locked := lock }, regs := u.regs } ∧
            bit (u.reg .carStatus 0) 24 = lock ∧ sameRegs (fun r i => r = .carStatus ∧ i = 0) s u)))) ∧
    (st ≠ 2 → st ≠ 3 → exec (.portRetrain p) s = .next s ∧ exec (.lldpTransmit p) s = .next s ∧
      (∀ sender slot port, exec (.lldpReceive p sender slot port) s = .next s) ∧
      (∀ ok, exec (.preemptVerify p ok) s = .next s) ∧ (∀ m ok, exec (.ptpMessage p m ok) s = .next s)) ∧
    (st = 2 → s.portRole p = 1 → (s.port p).matched = false → ∃ u, exec (.lldpPartnerTimeout p) s = .next u ∧
      u.portSt p = 3 ∧ u.ports = s.ports ∧ u.mem = s.mem ∧ sameRegs (fun r i => r = .portStatus ∧ i = p.val) s u) ∧
    (st ≠ 2 ∨ s.portRole p ≠ 1 ∨ (s.port p).matched = true → exec (.lldpPartnerTimeout p) s = .next s) ∧
    (∀ f : Fin 9, s.served = true → ∀ c ∈ [Instr.portRetrainRequest f p, .portHold f p, .portHoldRelease f p],
      offView f .portCtrl p c s) ∧
    (∀ f : Fin 9, s.served = true → s.inView f .portCtrl p = true →
      (bit (s.reg .portCtrl p) 30 = true → ∃ u, exec (.portRetrainRequest f p) s = .next u ∧ u.portSt p = 0 ∧
        bit (u.reg .portCtrl p) 31 = true ∧ u.mem = s.mem) ∧
      (bit (s.reg .portCtrl p) 30 = false → st = 2 ∨ st = 3 → ∃ u, exec (.portRetrainRequest f p) s = .next u ∧
        u.portSt p = 4 ∧ count u ∧ bit (u.reg .portCtrl p) 31 = false ∧ u.mem = s.mem) ∧
      (bit (s.reg .portCtrl p) 30 = false → st ≠ 2 → st ≠ 3 → ∃ u, exec (.portRetrainRequest f p) s = .next u ∧
        u.portSt p = st ∧ bit (u.reg .portCtrl p) 31 = true ∧ u.ports = s.ports ∧ u.mem = s.mem) ∧
      (∃ u, exec (.portHold f p) s = .next u ∧ u.portSt p = 0 ∧ bit (u.reg .portCtrl p) 30 = true ∧ u.mem = s.mem ∧
        (st ≠ 0 → s.tunil.held = none → (u.port p).txq = [])) ∧
      (bit (s.reg .portCtrl p) 30 = true → s.portUsed p = true → ∃ u, exec (.portHoldRelease f p) s = .next u ∧
        u.portSt p = 1 ∧ bit (u.reg .portCtrl p) 30 = false ∧ (u.port p).fails = 0 ∧ u.mem = s.mem ∧
        sameRegs (fun r i => (r = .portStatus ∨ r = .portCtrl) ∧ i = p.val) s u) ∧
      (bit (s.reg .portCtrl p) 30 = false ∨ s.portUsed p = false → bit (s.reg .portCtrl p) 31 = false →
        ∃ u, exec (.portHoldRelease f p) s = .next u ∧ u = { s with regs := u.regs } ∧ bit (u.reg .portCtrl p) 30 = false ∧
          sameRegs (fun r i => r = .portCtrl ∧ i = p.val) s u))

/-- A received frame is dropped with a count or enters its share, pauses stop their priority, and frames leave by priority (R298, R303, R304, R305, R308, R314, R340, R306, R316). -/
def Obligations.PortsCarryFrames : Prop :=
  ∀ (p : Fin 32) (s : State), s.clocked = true →
    let talks := s.portSt p = 2 ∨ s.portSt p = 3
    let x := s.port p
    let bump (z : State) (r : Reg) (i : Nat) := z.setReg r i (wrapAdd32 (z.reg r i) 1)
    (∀ f : RxFrame, let c := Instr.frameReceive p f
      (¬ talks → exec c s = .next s) ∧ (talks →
      let z := s.fecSeen p f
      let t := z.seePn p f
      let mine := (f.dst = none ∧ f.addrOk = true) ∨ f.dst = some (s.flash.fuses.macBase + p) ∨
        (f.lldpOrPtp = true ∧ ∃ d ∈ groupAddr, f.dst = some d)
      let good := f.fcsOk = true ∧ mine ∧ f.tagOk = true ∧ f.fragmentOk = true ∧ 64 ≤ f.len ∧ f.len ≤ 9216
      let secure := f.macsecOk = true ∧ ∀ an pn, f.sec = some (an, pn) → ∃ low, s.replayFrom p an = some low ∧ low ≤ pn
      let bare := bit (s.reg .portCfg p) 17 = true ∧ f.lldpOrPtp = false ∧ ¬ secure
      z.reg .portFecce p = wrapAdd32 (s.reg .portFecce p) f.fecCe ∧ z.reg .portFecue p = wrapAdd32 (s.reg .portFecue p) f.fecUe ∧
      z = { s with regs := z.regs } ∧ sameRegs (fun r i => (r = .portFecce ∨ r = .portFecue) ∧ i = p.val) s z ∧
      t = { z with host := { s.host with sas := t.host.sas } } ∧
      (bit (s.reg .portCfg p) 17 = false ∨ f.lldpOrPtp = true ∨ f.sec = none → t = z) ∧
      (∀ an pn n, bit (s.reg .portCfg p) 17 = true → f.lldpOrPtp = false → f.sec = some (an, pn) → (p.val, 0, an, n) ∈ s.host.sas →
        (p.val, 0, an, Nat.max n (pn + 1)) ∈ t.host.sas) ∧
      (f.pause = true → exec c s = .next (bump z .portPauseign p)) ∧
      (f.pause = false →
        (¬ good → exec c s = .next (bump z .portRxdrop p)) ∧
        (good → bare → exec c s = .next (bump z .portSecdrop p)) ∧
        (good → f.lldpOrPtp = true →
          exec c s = .next (if s.shareSize p 0 < x.used 0 + f.len then bump t .portRxdrop p else t)) ∧
        (good → ¬ bare → f.lldpOrPtp = false →
          (s.portUsable p = false → exec c s = .next (bump t .portRxdrop p)) ∧
          (s.portUsable p = true → framePasses f = false → exec c s = .next (bump t .tunCrcdrop 0)) ∧
          (s.portUsable p = true → framePasses f = true →
            let k := s.frameClass f.route f.pcp
            let used := x.used k + f.len
            (f.pcp = 0 ∨ f.pcp = 1 ∨ f.pcp = 3 ∨ f.pcp = 5 → k = 2) ∧
            (s.shareSize p k < used → exec c s = .next (bump t .portRxdrop p)) ∧
            (used ≤ s.shareSize p k → f.route = none → exec c s = .next t) ∧
            (∀ fw r, used ≤ s.shareSize p k → f.route = some (fw, r) → ∃ u, exec c s = .next u ∧ (u.port p).used k = used ∧
              (u.port p).rx = x.rx ++ [⟨wireKey fw r, k, f.len⟩] ∧ u = { t with ports := u.ports, sent := u.sent } ∧
              let crosses := k ≠ 0 ∧ s.pfcOn p (sharePcp k) = true ∧ x.used k ≤ s.xoffAt p ∧ s.xoffAt p < used
              (crosses → u.sent = .macFrame p 0 (sharePcp k) :: s.sent) ∧ (¬ crosses → u.sent = s.sent))))))) ∧
    (∀ (m : BitVec 8) (b : Bool), (¬ talks → exec (.pfcReceive p m b) s = .next s) ∧
      (talks → ∃ u, exec (.pfcReceive p m b) s = .next u ∧ u = { s with ports := u.ports, regs := u.regs } ∧
        (u.port p).paused4 = (if m.getLsbD 4 && s.pfcOn p 4 then b else x.paused4) ∧
        (u.port p).paused2 = (if m.getLsbD 2 && s.pfcOn p 2 then b else x.paused2) ∧
        let other := ∃ i, i < 8 ∧ m.getLsbD i = true ∧ ¬ ((i = 4 ∨ i = 2) ∧ s.pfcOn p i = true)
        (other → u.reg .portPauseign p = wrapAdd32 (s.reg .portPauseign p) 1) ∧ (¬ other → u.regs = s.regs) ∧
        sameRegs (fun r i => r = .portPauseign ∧ i = p.val) s u)) ∧
    (∀ four : Bool, let c := if four then 1 else 2
      exec (.pfcPauseExpiry p four) s =
        .next (s.modPort p fun y => if four then { y with paused4 := false } else { y with paused2 := false }) ∧
      (talks → s.pfcOn p (sharePcp c) = true → s.xoffAt p < x.used c →
        ∃ u, exec (.pfcXoffRepeat p four) s = .next u ∧ u.sent = .macFrame p 0 (sharePcp c) :: s.sent ∧
          (u.port p).xoff c = true ∧ u = { s with ports := u.ports, sent := u.sent }) ∧
      (¬ talks ∨ s.pfcOn p (sharePcp c) = false ∨ x.used c ≤ s.xoffAt p → exec (.pfcXoffRepeat p four) s = .next s)) ∧
    (s.portUsable p = false → exec (.frameTransmit p) s = .next s) ∧
    (sound s → s.portUsable p = true →
      let c := Instr.frameTransmit p
      let may (g : TxFrame) := g.pcp = 6 ∨ (g.pcp = 4 ∧ x.paused4 = false) ∨ (g.pcp = 2 ∧ x.paused2 = false)
      let protects := bit (s.reg .portCfg p) 17 = true
      ((∀ g ∈ x.txq, ¬ may g) → exec c s = .next s) ∧
      (protects → s.txAn p = none → exec c s = .next s) ∧
      (∀ an, (∃ g ∈ x.txq, may g) → (protects → s.txAn p = some an) → ∃ f u, exec c s = .next u ∧ f ∈ x.txq ∧ may f ∧
        ((∃ g ∈ x.txq, g.pcp = 6) → f.pcp = 6) ∧ (u.port p).txq = x.txq.erase f ∧ u.mem = s.mem ∧ u.homes = s.homes ∧
        u.tunil = s.tunil ∧ (f.pcp ≠ 6 → u.reg .portTxcl0 p = s.reg .portTxcl0 p) ∧
        (¬ protects → u = { s with ports := u.ports, regs := u.regs, sent := u.sent } ∧
          sameRegs (fun r i => (r = .portTxcl0 ∨ r = .portFinjcnt) ∧ i = p.val) s u) ∧
        (bit (s.reg .portFinj p) 31 = false → x.held = [] →
          (¬ protects → u.sent = .frame p f (s.wireBytes p none f) :: s.sent) ∧
          (∀ pn, protects → s.txPn p an = some pn → .frame p f (s.wireBytes p (some (an, pn)) f) ∈ u.sent)) ∧
        (∀ pn, protects → s.txPn p an = some pn → u.txPn p an = some (pn + 1) ∧ (u.port p).an = an))) ∧
    (x.held = [] → exec (.finjHoldRelease p) s = .next s) ∧
    (∀ w rest, x.held = w :: rest → ∃ u, exec (.finjHoldRelease p) s = .next u ∧ (u.port p).held = rest ∧
      u = { s with ports := u.ports, sent := w.out p :: s.sent }) ∧
    (s.tunil.held = none → exec .routeFinjHoldRelease s = .next s) ∧
    (∀ q f, s.tunil.held = some (q, f) → ∃ u, exec .routeFinjHoldRelease s = .next u ∧ u.tunil.held = none ∧
      (u.port q).txq = (s.port q).txq ++ [f] ∧
      u = { s with tunil := { s.tunil with held := none }, ports := u.ports })

/-- A segment for another node is stale; DATA writes its bytes once; COMMIT, OPEN, NOT_READY, BUSY and REFUSED move the route (R316, R319, R320, R323, R327, R328, R329, R333, R336, R337, R287). -/
def Obligations.SegmentsArriveInTheirRoute : Prop :=
  ∀ (p : Fin 32) (g : Seg) (s : State), s.clocked = true →
  let all := [Instr.data p g, .ack p g, .notReady p g, .participantReset p g, .openSeg p g, .openAck p g, .commit p g,
    .refused p g, .busy p g, .routeFail p g]
  (s.takes p g = false → ∀ c ∈ all, exec c s = .next s) ∧ (s.takes p g = true → sound s →
  let key := segKey g
  let r := s.route key
  let said (u : State) (typ aux : Nat) := bit (s.reg .tunFinj 0) 31 = false → s.portUsable p = true →
    ∃ f ∈ (u.port p).txq, f.seg.typ = typ ∧ f.seg.aux = aux ∧ f.seg.dstNode = g.srcNode
  (g.dstNode ≠ s.carNode → ∀ c ∈ all,
    ∃ u, exec c s = .next u ∧ u.reg .tunStale 0 = wrapAdd32 (s.reg .tunStale 0) 1 ∧ u.tunil = s.tunil ∧ u.mem = s.mem ∧
      u.homes = s.homes ∧ u.queues = s.queues ∧ sameRegs (fun q i => q = .tunStale ∧ i = 0) s u) ∧
  (g.dstNode = s.carNode →
    let d := (g.seq + 2 ^ 32 - r.rxNext) % 2 ^ 32
    let dup := 2 ^ 31 ≤ d ∨ r.rxMarks.contains g.seq = true
    (s.tunReady = true → r.st = 2 → r.ofRecord g = true → keyFw key = false →
      (dup → ∀ c, c = .data p g ∨ c = .commit p g → ∃ u, exec c s = .next u ∧
        u.reg .tunDupdrop 0 = wrapAdd32 (s.reg .tunDupdrop 0) 1 ∧ u.mem = s.mem ∧ u.homes = s.homes ∧ u.queues = s.queues ∧
        (u.route key).msgs = r.msgs ∧ (u.route key).rxNext = r.rxNext) ∧
      (¬ dup → d ≤ 256 → r.cls ≠ 0 ∨ s.stepFloor r.tenant ≤ g.step → (∀ k, (s.queue k).tasks = []) →
        (∀ m, r.msgs = [m] → m.msgNo = g.msgNo → m.code = 0 → m.got.length + 1 < m.segCnt →
          256 * g.offset + g.payload.length ≤ m.extent → g.payload.length % 256 = 0 →
          let a := m.addr + 256 * g.offset
          ∃ u, exec (.data p g) s = .next u ∧ u.homes = s.homes ∧ u.queues = s.queues ∧
            (∀ x, u.byte x = if a ≤ x ∧ x < a + g.payload.length then (g.payload[x - a]?).getD 0 else s.byte x) ∧
            (∃ m', (u.route key).msgs = [m'] ∧ m'.msgNo = m.msgNo ∧ m'.got.contains g.segIdx = true) ∧
            (s.mem.wf = true → u.mem.wf = true) ∧ sameRegs (fun q i => q = .tunFinjcnt ∧ i = 0) s u) ∧
        (∀ m, r.msgs = [m] → m.commit = true → m.handle = g.handle → ∃ u, exec (.commit p g) s = .next u ∧
          u.mem = s.mem ∧ (u.route key).msgs = [] ∧
          ((s.home r.tenant m.handle).gen = m.gen → (s.home r.tenant m.handle).st = stMoving →
            u.home r.tenant m.handle = (s.home r.tenant m.handle).withSt stValid)))) ∧
    (s.tunReady = true → r.st = 2 → r.ofRecord g = true → keyFw key = false → (∀ k, (s.queue k).tasks = []) → ¬ dup → d ≤ 256 →
        r.cls ≠ 0 ∨ s.stepFloor r.tenant ≤ g.step → (∀ m ∈ r.msgs, m.msgNo ≠ g.msgNo) → r.kiln = false →
      (64 ≤ r.rxQueue.length → (g.msgNo + 2 ^ 32 - r.rxMsg) % 2 ^ 32 < 2 ^ 31 → ∃ u, exec (.data p g) s = .next u ∧
        u.reg .tunBusy 0 = wrapAdd32 (s.reg .tunBusy 0) 1 ∧ u.mem = s.mem ∧ u.homes = s.homes ∧
        (u.route key).rxNext = r.rxNext ∧ (u.route key).rxQueue = r.rxQueue ∧ said u 9 10) ∧
      (r.rxQueue.length < 64 → r.msgs = [] → g.msgNo = r.rxMsg →
        (s.firstCode r.tenant g ≠ 0 → ∃ u, exec (.data p g) s = .next u ∧ u.mem = s.mem ∧ u.homes = s.homes ∧
          (u.route key).rxMsg = (r.rxMsg + 1) % 2 ^ 32 ∧ (u.route key).msgs = [] ∧ (u.route key).rxQueue =
            if g.move then r.rxQueue else r.rxQueue ++ [⟨g.msgNo, g.handle, 0, s.firstCode r.tenant g⟩]) ∧
        (∀ a, s.firstCode r.tenant g = 0 → g.move = false → g.segIdx = 0 → g.segCnt = 1 → s.fills = [] →
          (s.home r.tenant g.handle).st = stValid → s.homeAddr (s.home r.tenant g.handle) = some a →
          ∃ u, exec (.data p g) s = .next u ∧ u.homes = s.homes ∧ (u.route key).rxMsg = (r.rxMsg + 1) % 2 ^ 32 ∧
            (∀ x, u.byte x = if a + 256 * g.offset ≤ x ∧ x < a + 256 * g.offset + g.payload.length then
              (g.payload[x - (a + 256 * g.offset)]?).getD 0 else s.byte x) ∧
            (u.route key).rxQueue = r.rxQueue ++ [⟨g.msgNo, g.handle, g.payload.length / 256, 0⟩]))) ∧
    (s.tunReady = false → ∀ c, c = .data p g ∨ c = .commit p g ∨ c = .openSeg p g → ∃ u, exec c s = .next u ∧ u.mem = s.mem ∧
      u.homes = s.homes ∧ u.queues = s.queues ∧ u.tunil.routes = s.tunil.routes ∧
      sameRegs (fun q i => (q = .tunNotready ∨ q = .tunFinjcnt) ∧ i = 0) s u) ∧
    (s.tunReady = true → r.st = 0 ∨ r.st = 1 ∨ r.st = 4 → ∀ c, c = .data p g ∨ c = .commit p g → ∃ u, exec c s = .next u ∧
      u.mem = s.mem ∧ u.homes = s.homes ∧ u.queues = s.queues ∧ u.tunil.routes = s.tunil.routes ∧
      (mget 0 s.tunil.notReadyAt (65536 * key + g.srcNode % 65536) = 0 → said u 3 100) ∧
      sameRegs (fun q i => (q = .tunNotready ∨ q = .tunFinjcnt) ∧ i = 0) s u) ∧
    (s.tunReady = true → r.st = 3 → ∀ c, c = .data p g ∨ c = .commit p g ∨ c = .openSeg p g →
      exec c s = .next (s.takeFrame p g)) ∧
    (s.tunReady = true → r.st = 2 → r.ofRecord g = false → ∀ c, c = .data p g ∨ c = .commit p g →
      exec c s = .next ((s.takeFrame p g).countWrap .tunStale 0 1)) ∧
    (let mates := r.cls = g.cls ∧ r.peerRoute = g.aux % 65536 ∧ r.peerNode = g.srcNode;
      (s.tunReady = true → mates → r.st = 1 → ∃ u, exec (.openSeg p g) s = .next u ∧ (u.route key).st = 2 ∧
        (u.route key).peerEpoch = g.epoch ∧ (u.route key).txSeq = 0 ∧ (u.route key).rxNext = 0 ∧ (u.route key).unacked = [] ∧
        (u.route key).rxMarks = [] ∧ u.mem = s.mem ∧ said u 6 (s.ownEpoch key) ∧
        (r.mailbox = none → bit (s.reg .tunFinj 0) 31 = false → u.regs = s.regs)) ∧
      (s.tunReady = true → mates → r.st = 2 → r.peerEpoch = g.epoch → ∃ u, exec (.openSeg p g) s = .next u ∧ u.mem = s.mem ∧
        u.homes = s.homes ∧ u.queues = s.queues ∧ u.tunil.routes = s.tunil.routes ∧ said u 6 (s.ownEpoch key)) ∧
      (s.tunReady = true → r.st ≠ 3 → ¬ mates ∨ (r.st ≠ 1 ∧ r.st ≠ 2) → ∃ u, exec (.openSeg p g) s = .next u ∧ u.mem = s.mem ∧
        u.homes = s.homes ∧ u.queues = s.queues ∧ u.tunil.routes = s.tunil.routes ∧
        (mget 0 s.tunil.notReadyAt (65536 * key + g.srcNode % 65536) = 0 → said u 3 100))) ∧
    (r.st = 1 → r.peerNode = g.srcNode → ∃ u, exec (.openAck p g) s = .next u ∧ (u.route key).st = 2 ∧
      (u.route key).peerEpoch = g.aux % 65536 ∧ (u.route key).txSeq = 0 ∧ (u.route key).rxNext = 0 ∧
      (u.route key).unacked = [] ∧ u.mem = s.mem ∧ (r.mailbox = none → u.regs = s.regs)) ∧
    (r.st ≠ 1 ∨ r.peerNode ≠ g.srcNode → exec (.openAck p g) s = .next (s.takeFrame p g)) ∧
    (r.st = 0 → ∀ c, c = .ack p g ∨ c = .notReady p g ∨ c = .busy p g ∨ c = .refused p g ∨ c = .routeFail p g ∨
      c = .participantReset p g → exec c s = .next (s.takeFrame p g)) ∧
    (2 ≤ r.st → r.ofRecord g = false → ∀ c, c = .ack p g ∨ c = .notReady p g ∨ c = .busy p g ∨ c = .refused p g ∨
      c = .routeFail p g → exec c s = .next ((s.takeFrame p g).countWrap .tunStale 0 1)) ∧
    (r.st = 1 ∨ (r.st = 2 ∧ r.ofRecord g = true) → exec (.notReady p g) s =
      .next ((s.takeFrame p g).setRoute key { r with held := true, solo := none, retry := none })) ∧
    (r.st = 2 → r.ofRecord g = true → exec (.busy p g) s =
      .next ((s.takeFrame p g).setRoute key { r with held := true, solo := none, retry := some g.seq })) ∧
    (r.st = 1 ∨ (r.st ≠ 0 ∧ r.ofRecord g = true) →
      (∀ x rest, r.unacked.filter (fun y => decide (y.seg.msgNo = g.msgNo) && decide (y.seg.typ = 1)) = x :: rest →
        ∃ u, exec (.refused p g) s = .next u ∧ u.task? x.task.1 x.task.2 = none) ∧
      ((∀ y ∈ r.unacked, y.seg.msgNo ≠ g.msgNo) → (∀ y ∈ r.toSend, y.seg.msgNo ≠ g.msgNo) →
        exec (.refused p g) s = .next (s.takeFrame p g)))))

/-- Acknowledgements clear the window, lost segments go again, and a silent or reset peer ends the route (R323, R324, R325, R326, R329, R334, R337). -/
def Obligations.RoutesAcknowledgeRetryAndEnd : Prop :=
  (∀ (p : Fin 32) (g : Seg) (s : State), s.clocked = true → s.takes p g = true → g.dstNode = s.carNode →
    let key := segKey g
    let r := s.route key
    let known := r.st = 1 ∨ (r.st ≠ 0 ∧ r.ofRecord g = true)
    (known → r.st ≠ 2 → r.resetSent = false → exec (.ack p g) s = .next (s.takeFrame p g)) ∧
    (r.st = 2 → r.ofRecord g = true → r.resetSent = false → ∃ u, exec (.ack p g) s = .next u ∧ u.mem = s.mem ∧
      u.homes = s.homes ∧ u.regs = s.regs ∧ (u.route key).unacked = r.unacked.filter (fun x => !ackCovers g x.seg.seq) ∧
      (∀ x ∈ r.unacked, x.task ≠ (0, 0) → (∀ y ∈ r.unacked, y.task = x.task → ackCovers g y.seg.seq = true) →
        (∀ y ∈ r.toSend, y.task ≠ x.task) → s.moves = [] →
        ∀ t, u.task? x.task.1 x.task.2 = some t → t.landed = true)) ∧
    (known → r.resetSent = true → ∃ u, exec (.ack p g) s = .next u ∧ (u.route key).st = (if r.st = 1 then 1 else 0) ∧
      (u.route key).resetSent = false ∧ (u.route key).unacked = [] ∧ (u.route key).toSend = [] ∧ u.mem = s.mem) ∧
    (r.st ≠ 0 → g.epoch ≠ r.peerEpoch → g.epoch ≠ g.aux % 65536 →
      exec (.participantReset p g) s = .next ((s.takeFrame p g).countWrap .tunStale 0 1)) ∧
    (r.st ≠ 0 → g.epoch = r.peerEpoch ∨ g.epoch = g.aux % 65536 → ∃ u, exec (.participantReset p g) s = .next u ∧
      (u.route key).st = (if r.st = 4 then 4 else 3) ∧ (u.route key).toSend = [] ∧ (u.route key).unacked = [] ∧ (u.route key).msgs = [] ∧
      (keyFw key = false →
        ∀ k ∈ queuesOf r.tenant, ∀ x ∈ (u.queue k).tasks, x.landed = false → namesRoute x.desc key = false)) ∧
    (known → r.st ≠ 1 → r.st ≠ 2 → exec (.routeFail p g) s = .next (s.takeFrame p g)) ∧
    (r.st = 1 ∨ (r.st = 2 ∧ r.ofRecord g = true) → ∃ u, exec (.routeFail p g) s = .next u ∧ (u.route key).st = 4 ∧
      (u.route key).toSend = [] ∧ (u.route key).msgs = [])) ∧
  (∀ (fw : Bool) (n : Fin 16384) (s : State), s.clocked = true →
    let key := routeKey fw n
    let r := s.route key
    (r.st = 2 → 0 < r.rxPending → ∃ u, exec (.ackSend fw n) s = .next u ∧ (u.route key).rxPending = 0 ∧
      (u.route key).rxNext = r.rxNext ∧ u.mem = s.mem ∧ u.homes = s.homes ∧
      (∀ q, s.pickPort r.ports (ackPcp r.cls) none = some q → bit (s.reg .tunFinj 0) 31 = false → u.regs = s.regs ∧
        ∃ f, (u.port q).txq = (s.port q).txq ++ [f] ∧ f.seg.typ = 2 ∧ f.seg.seq = r.rxNext ∧ f.seg.payload = r.ackMap)) ∧
    (r.st ≠ 2 ∨ r.rxPending = 0 → exec (.ackSend fw n) s = .next s) ∧
    (∀ (w : W32) x q, r.st = 2 → r.held = false → s.held .tunil = false → r.solo = none →
      r.unacked.find? (fun y => decide (y.seg.seq = w.toNat)) = some x →
      s.pickPort r.ports (classPcp r.cls) (some x.port) = some q → bit (s.reg .tunFinj 0) 31 = false →
      ∃ u, exec (.retransmit fw n w) s = .next u ∧ u.reg .tunRetx 0 = wrapAdd32 (s.reg .tunRetx 0) 1 ∧ u.mem = s.mem ∧
        sameRegs (fun z i => z = .tunRetx ∧ i = 0) s u ∧
        ∃ f, (u.port q).txq = (s.port q).txq ++ [f] ∧ f.seg.seq = w.toNat ∧ f.seg.retx = true ∧
          f.seg.payload = x.seg.payload ∧ f.pcp = classPcp r.cls) ∧
    (∀ w : W32, r.st = 1 → r.held = false → s.held .tunil = false → exec (.retransmit fw n w) s = .next (s.sendOpen key)) ∧
    (∀ w : W32, r.held = true ∨ (r.st ≠ 1 ∧ ∀ y ∈ r.unacked, y.seg.seq ≠ w.toNat) →
      exec (.retransmit fw n w) s = .next s) ∧
    (r.held = true → exec (.routeTimeout fw n) s = .next s) ∧
    (let runs := r.st = 2 ∧ (r.unacked ≠ [] ∨ (r.toSend ≠ [] ∧ ∀ q ∈ portsOf r.ports, s.portUsable q = false));
      (r.st ≠ 1 → r.resetSent = false → ¬ runs → exec (.routeTimeout fw n) s = .next s) ∧
      (r.held = false → r.resetSent = false → r.st = 1 ∨ runs → ∃ u, exec (.routeTimeout fw n) s = .next u ∧
        (u.route key).st = 4 ∧ (u.route key).unacked = [] ∧ (u.route key).toSend = [] ∧ (u.route key).msgs = [])) ∧
    (r.held = false → r.resetSent = true → ∃ u, exec (.routeTimeout fw n) s = .next u ∧
      (u.route key).st = (if r.st = 1 then 1 else 0) ∧ (u.route key).resetSent = false ∧ u.mem = s.mem) ∧
    (r.held = false → exec (.retryAfterExpiry fw n) s = .next s) ∧
    (r.held = true → ∃ u, exec (.retryAfterExpiry fw n) s = .next u ∧ (u.route key).held = false ∧
      (u.route key).st = r.st ∧ u.mem = s.mem ∧ u.homes = s.homes) ∧
    (r.st ≠ 2 ∨ (∀ m ∈ r.msgs, m.msgNo = r.rxMsg → m.whole = true ∨ m.code ≠ 0 ∨ m.got = []) ∨
      s.oldestWait (queuesOf r.tenant) (fun d => decide ((dRoute d).map (·.2) = some key)) = none →
      exec (.midMessageTimeout fw n) s = .next s) ∧
    (∀ m k t, fw = false → r.st = 2 → m ∈ r.msgs → m.msgNo = r.rxMsg → m.whole = false → m.code = 0 → m.got ≠ [] →
      s.oldestWait (queuesOf r.tenant) (fun d => decide ((dRoute d).map (·.2) = some key)) = some (k, t) →
      ∃ u, exec (.midMessageTimeout fw n) s = .next u ∧ (u.route key).st = 4 ∧ (u.route key).msgs = [])) ∧
  (∀ (n : Fin 8192) (s : State), s.clocked = true →
    let r := s.route n
    (r.resetSent = false → exec (.participantResetRepeat n) s = .next s) ∧
    (∀ q, r.resetSent = true → s.pickPort r.ports (ackPcp r.cls) none = some q → bit (s.reg .tunFinj 0) 31 = false →
      ∃ u f, exec (.participantResetRepeat n) s = .next u ∧ u = { s with ports := u.ports } ∧
        (u.port q).txq = (s.port q).txq ++ [f] ∧ f.seg.typ = 4 ∧ f.seg.aux = s.rfld .tunEpoch r.tenant 15 0))

/-- Heads and deputies relay upward notices as they came; the master notes each and decides the boundary (R349, R350, R354, R355, R357, R361, R369, R375). -/
def Obligations.NoticesReachTheMaster : Prop :=
  (∀ (h : NoteHdr) (s : State) (a b c d e i : Nat) (f g : Bool), s.up = true → s.carRole ≠ 1 →
    ∀ x ∈ ([(.join h a b c d e i, 0x01, [a, b, c, d, e]), (.bondDone h a b, 0x03, stepWords h.step ++ [b]),
        (.lateManifest h a b c, 0x05, [a, b, c]), (.haltReport h a b c d e, 0x06, [a, b, c, d, e]),
        (.replace h a, 0x07, [a]), (.portState h a b, 0x08, [a, b]), (.alive h a b, 0x0A, [a, b]),
        (.ckptDone h a f g, 0x0D, [a, b2n f, b2n !g]), (.snapDone h a g, 0x11, [a, b2n !g])] : List (Instr × Nat × List Nat)),
      exec x.1 s = .next (if bit (s.reg .carStatus 0) 26 || bit (s.reg .carStatus 0) 25 then
        { s with sent := s.relayed h x.2.1 s.masterId x.2.2 :: s.sent } else s)) ∧
  (∀ (h : NoteHdr) (s : State), s.up = true → let l := s.caravan.slotsDone
    (h.step ≠ s.carStep → exec (.stageDone h) s = .next s) ∧
    (s.mapOf h.sender = none → exec (.stageDone h) s = .next s) ∧
    (s.mapSelf = none → s.carRole ≠ 1 → exec (.stageDone h) s = .next s) ∧
    (∀ e me, h.step = s.carStep → s.mapOf h.sender = some e → s.mapSelf = some me →
      let mine := (me.isHead = true ∨ me.isDeputy = true) ∧ e.bond = me.bond ∧ e.bond ≠ 0xFFFF ∧ e.slot ∉ l
      let whole := me.isHead && ((s.bondOf me.bond).filter MapEntry.isStage).all fun m => (e.slot :: l).contains m.slot
      let said := s.noticeOf 0x03 s.masterId (stepWords s.carStep ++ [((e.slot :: l).map fun n => 2 ^ n).sum])
      let y : State := { s with caravan := { s.caravan with slotsDone := e.slot :: l } }
      (mine → exec (.stageDone h) s = .next { y with sent := if whole then said :: s.sent else s.sent }) ∧
      (¬ mine → e.bond ≠ 0xFFFF ∨ s.carRole ≠ 1 → exec (.stageDone h) s = .next s))) ∧
  (∀ (h : NoteHdr) (s : State), s.up = true → s.carRole = 1 → let m := s.caravan.master
    let lead : Nat := match s.caravan.plan with | some p => p.lead | none => 16
    let stages := s.caravan.map.filter MapEntry.isStage
    let done (v : State) := ∀ e ∈ stages,
      if e.bond = 0xFFFF then e.node ∈ v.caravan.master.stagesDone else e.bond ∈ v.caravan.master.bondsDone
    let add (l : List Nat) (n : Nat) := if l.contains n then l else n :: l
    let decides (c : Instr) (v : State) :=
      (¬ done v ∨ stages = [] ∨ m.collecting = true ∨ m.rollback ≠ none ∨ m.pendMap ≠ none → exec c s = .next v) ∧
      (done v → stages ≠ [] → m.collecting = false → m.rollback = none → m.pendMap = none →
        (s.brokenPairs = [] → ∃ u, exec c s = .next u ∧ u.caravan.master.bondsDone = [] ∧ u.caravan.master.stagesDone = [] ∧
          u = { s with caravan := { s.caravan with master := u.caravan.master }, sent := u.sent, regs := u.regs } ∧
          sameRegs (fun r n => r = .carCkptstat ∧ n = 0) s u ∧
          ∀ n ∈ s.downNodes, ∃ freeze gen, s.noticeOf 0x04 n (stepWords ((s.carStep + 1) % 2 ^ 48) ++
            stepWords ((s.beat + lead) % 2 ^ 48) ++ [freeze, gen]) ∈ u.sent) ∧
        (s.brokenPairs ≠ [] → withoutNodes s.caravan.map s.brokenPairs = none →
          ∃ u, exec c s = .next u ∧ haltsAll s u 0x61))
    (∀ core queue slip, exec (.lateManifest h core queue slip) s =
      .next ((s.modMaster fun x => { x with lateLog := m.lateLog ++ [(h.sender, core, queue, slip)] }).noticeHost 0x0202
        (stepWords h.step ++ [h.sender, core, queue, slip]))) ∧
    (∀ reason, ∃ u, exec (.replace h reason) s = .next u ∧ h.sender ∈ u.caravan.master.replaceAsked ∧
      (reason = 3 → h.sender ∈ u.caravan.master.failed ∧ u.caravan.master.collecting = true) ∧
      (reason ≠ 3 → masterIs s u fun x => { x with replaceAsked := u.caravan.master.replaceAsked })) ∧
    (∀ port state, (s.mapOf h.sender = none → exec (.portState h port state) s = .next s) ∧
      ∀ e, s.mapOf h.sender = some e → ∃ u, exec (.portState h port state) s = .next u ∧
        (masterIs s u fun x => { x with downPorts := u.caravan.master.downPorts }) ∧
        ∀ y, y ∈ u.caravan.master.downPorts ↔ if y = (e.serial, port) then state = 3 ∨ state = 5 else y ∈ m.downPorts) ∧
    (∀ bond slots,
      (h.step ≠ s.carStep → exec (.bondDone h bond slots) s = .next s) ∧
      (h.step = s.carStep → decides (.bondDone h bond slots)
        (s.modMaster fun x => { x with bondsDone := add m.bondsDone bond }))) ∧
    (∀ e, h.step = s.carStep → s.mapOf h.sender = some e → e.bond = 0xFFFF → decides (.stageDone h)
      (s.modMaster fun x => { x with stagesDone := add m.stagesDone h.sender })) ∧
    (∀ completed waiting, let c := Instr.alive h completed waiting
      let rest := m.awaiting.filter fun n => decide (n ≠ h.sender)
      let left := m.probed.filter fun n => decide (n ≠ h.sender)
      (m.rollback ≠ none → m.pendGo = true → exec c s = .next (s.modMaster fun x => { x with probed := left })) ∧
      (m.rollback ≠ none → m.pendGo = false → rest ≠ [] →
        exec c s = .next (s.modMaster fun x => { x with probed := left, awaiting := rest })) ∧
      (∀ r, m.rollback = some r → m.pendGo = false → rest = [] →
        ∃ u, exec c s = .next u ∧ u.caravan.master.rollback = none ∧ u.regs = s.regs ∧ ∀ n ∈ s.downNodes,
          s.noticeOf 0x04 n (stepWords r.restart ++ stepWords ((s.beat + lead) % 2 ^ 48) ++ [0, 0]) ∈ u.sent) ∧
      (m.rollback = none → left ≠ [] ∨ (m.collectOver = false ∧ (m.collecting = true ∨ m.failed = [])) → exec c s =
        .next (s.modMaster fun x => { x with probed := left, awaiting := if m.pendGo then m.awaiting else rest })) ∧
      (∀ k, m.rollback = none → left = [] → m.collectOver = true → (m.reports.map (·.1)).find? haltCode = some k →
        ∃ u, exec c s = .next u ∧ haltsAll s u k)) ∧
    (∀ id ok, (s.caravan.snapshot = none → exec (.snapDone h id ok) s = .next s) ∧
      ∀ g i left, s.caravan.snapshot = some (g, i, left) → let rest := left.filter fun n => decide (n ≠ h.sender)
        exec (.snapDone h id ok) s = .next (if i ≠ id then s else
          { s with caravan := { s.caravan with snapshot := if rest.isEmpty then none else some (g, i, rest) } })) ∧
    (∀ serial bond slot role ports addr, let c := Instr.join h serial bond slot role ports addr
      let l := (m.joined.filter fun y => decide (y.serial ≠ serial)) ++ [⟨serial, bond, slot, role, addr⟩]
      let notes := ∃ u, exec c s = .next u ∧ masterIs s u fun x => { x with joined := l }
      (m.started = false → (∀ p, s.caravan.plan = some p → allJoined p l = false ∨ (firstMap p l).2 ≠ []) → notes) ∧
      (m.started = true → bond = 0xFFFF ∨ (∀ e ∈ s.baseMap, e.bond ≠ bond) → notes) ∧
      (∀ p, m.started = false → s.caravan.plan = some p → allJoined p l = true → (firstMap p l).2 = [] →
        ∃ u, exec c s = .next u ∧ u.caravan.master.started = true ∧ u.caravan.map = s.appoint (firstMap p l).1 none))) ∧
  (∀ (s : State), s.up = true → let m := s.caravan.master
    (s.carRole ≠ 1 ∨ m.started = true ∨ s.caravan.plan = none → exec .joinWaitExpiry s = .next s) ∧
    (∀ p, s.carRole = 1 → m.started = false → s.caravan.plan = some p → (firstMap p m.joined).2 = [] →
      ∃ u, exec .joinWaitExpiry s = .next u ∧ u.caravan.master.started = true ∧
        u.caravan.map = s.appoint (firstMap p m.joined).1 none) ∧
    (∀ p, s.carRole = 1 → m.started = false → s.caravan.plan = some p → (firstMap p m.joined).2 ≠ [] →
      ∃ u, exec .joinWaitExpiry s = .next u ∧ u.caravan = { s.caravan with plan := none } ∧ u.sent = s.sent ∧
        ∀ n, s.planBox = some n → (u.svc n).result = some 0x0002))

/-- The master collects reports, probes silent stages, halts what cannot go on, and records restore points (R358, R359, R360, R362, R366, R367, R368, R369). -/
def Obligations.MasterActsOnReportsAndParts : Prop :=
  (∀ (h : NoteHdr) (s : State), s.up = true → s.carRole = 1 → let m := s.caravan.master
    (∀ code core queue task peer, let c := Instr.haltReport h code core queue task peer
      (m.rollback ≠ none → exec c s = .next s) ∧
      (m.rollback = none → (code ≠ 0x60 ∧ code ≠ 0x61) ∨ s.mapOf peer = none ∨
          (∃ e, s.mapOf peer = some e ∧ (e.isOurs = false ∨ e.isFailed = true)) → ∃ u, exec c s = .next u ∧ masterIs s u fun x =>
        { x with reports := m.reports ++ [(code, h.sender)], collecting := true }) ∧
      (∀ e, m.rollback = none → code = 0x60 ∨ code = 0x61 → s.mapOf peer = some e → e.isOurs = true → e.isFailed = false →
        ∃ u, exec c s = .next u ∧ u.caravan.master.reports = m.reports ++ [(code, h.sender)] ∧
          u.caravan.master.collecting = true ∧ peer ∈ u.caravan.master.probed ∧ u.sent = s.noticeOf 0x09 (s.probeVia peer) [] :: s.sent ∧
          u = { s with caravan := { s.caravan with master := u.caravan.master }, sent := u.sent })) ∧
    (∀ n e, s.mapOf n = some e → let silent (k : Nat) := k ∈ m.probed ∨ k ∈ m.failed
      (e.isHead = true ∨ e.isDeputy = true ∨ e.bond = 0xFFFF → s.probeVia n = n) ∧
      (e.isHead = false → e.isDeputy = false → e.bond ≠ 0xFFFF → ∀ k, s.headOf e.bond = some k →
        (¬ silent k → s.probeVia n = k) ∧ (∀ d, silent k → s.deputyOf e.bond = some d → s.probeVia n = d))) ∧
    (∀ gen buddy ok, (∃ g t, s.caravan.restore = some (g, t) ∧ gen ≤ g) → exec (.ckptDone h gen buddy ok) s = .next s) ∧
    (∀ gen buddy ok, gen + 1 ≠ m.nextGen → exec (.ckptDone h gen buddy ok) s = .next s) ∧
    (∀ gen, gen + 1 = m.nextGen → (∀ g t, s.caravan.restore = some (g, t) → g < gen) →
      (∀ buddy, ∃ u, exec (.ckptDone h gen buddy false) s = .next u ∧ masterIs s u fun x =>
        { x with nextGen := gen, homeDone := [], buddyDone := [], pendRestore := none }) ∧
      (∀ e ∈ s.caravan.map, e.isStage = true → e.node ≠ h.sender → e.node ∉ m.homeDone →
        ∃ u, exec (.ckptDone h gen false true) s = .next u ∧ masterIs s u fun x => { x with homeDone := h.sender :: m.homeDone }) ∧
      (∀ e ∈ s.caravan.map, e.isStage = true → e.node ∉ m.homeDone ∨ (e.node ≠ h.sender ∧ e.node ∉ m.buddyDone ∧
          s.buddyOf e ≠ none) →
        ∃ u, exec (.ckptDone h gen true true) s = .next u ∧ masterIs s u fun x => { x with buddyDone := h.sender :: m.buddyDone }) ∧
      ((∀ p, s.caravan.plan = some p → p.swap = false) → m.pendRestore = none → (s.caravan.map.filter MapEntry.isStage) ≠ [] →
        (∀ e ∈ s.caravan.map, e.isStage = true → (e.node = h.sender ∨ e.node ∈ m.homeDone) ∧
          (e.node ∈ m.buddyDone ∨ s.buddyOf e = none)) →
        (standbyOf s.caravan.map = none → ∃ u, exec (.ckptDone h gen false true) s = .next u ∧
          u.caravan.restore = some (gen, m.genStep) ∧ u.sent = s.sent) ∧
        (∀ n, standbyOf s.caravan.map = some n → ∃ u, exec (.ckptDone h gen false true) s = .next u ∧
          u.caravan.restore = s.caravan.restore ∧ u.caravan.master.pendRestore = some (gen, m.genStep) ∧
          u.sent = s.noticeOf 0x0E n (s.heartbeatBody (some (gen, m.genStep))) :: s.sent)))) ∧
  (∀ (s : State), s.up = true → let m := s.caravan.master
    let ends := (∀ r ∈ m.reports, haltCode r.1 = false) ∧ m.failed = [] ∧ s.caravan.restore = none ∧
      ∀ p, s.caravan.plan = some p → p.stepReplay = false
    (∀ stalled, s.carRole ≠ 1 ∨ m.started = false ∨ m.rollback ≠ none ∨ s.silent = [] →
      exec (.probeTimer stalled) s = .next s) ∧
    (∀ stalled, s.carRole = 1 → m.started = true → m.rollback = none → s.silent ≠ [] → stalled = false ∨ m.probed ≠ [] →
      ∃ u, exec (.probeTimer stalled) s = .next u ∧
      (∀ n ∈ s.silent, n ∈ u.caravan.master.probed ∧ s.noticeOf 0x09 (s.probeVia n) [] ∈ u.sent) ∧
      u = { s with caravan := { s.caravan with master := { m with probed := u.caravan.master.probed } }, sent := u.sent }) ∧
    (s.carRole = 1 → m.started = true → m.rollback = none → s.silent ≠ [] → m.probed = [] →
      (∀ c, (m.reports.map (·.1)).find? haltCode = some c → ∃ u, exec (.probeTimer true) s = .next u ∧ haltsAll s u c) ∧
      (ends → ∃ u, exec (.probeTimer true) s = .next u ∧ haltsAll s u ((m.reports.map (·.1)).headD 0x61))) ∧
    (∀ node, s.carRole ≠ 1 ∨ node ∉ m.probed → exec (.probeWaitExpiry node) s = .next s) ∧
    (∀ node, s.carRole = 1 → node ∈ m.probed → let left := m.probed.filter fun n => decide (n ≠ node)
      (left ≠ [] ∨ (m.collecting = true ∧ m.collectOver = false) → ∃ u, exec (.probeWaitExpiry node) s = .next u ∧ masterIs s u fun x =>
        { x with probed := left, failed := m.failed ++ [node] }) ∧
      (left = [] → m.collecting = false → (∀ r ∈ m.reports, haltCode r.1 = false) →
        withoutNodes s.baseMap (m.failed ++ [node]) = none →
        ∃ u, exec (.probeWaitExpiry node) s = .next u ∧ haltsAll s u ((m.reports.map (·.1)).headD 0x61))) ∧
    (s.carRole ≠ 1 ∨ m.collecting = false → exec .haltCollectExpiry s = .next s) ∧
    (s.carRole = 1 → m.collecting = true → m.probed ≠ [] →
      ∃ u, exec .haltCollectExpiry s = .next u ∧ masterIs s u fun x => { x with collectOver := true }) ∧
    (∀ c, s.carRole = 1 → m.collecting = true → m.probed = [] → (m.reports.map (·.1)).find? haltCode = some c →
      ∃ u, exec .haltCollectExpiry s = .next u ∧ haltsAll s u c) ∧
    (s.carRole = 1 → m.collecting = true → m.probed = [] → ends →
      ∃ u, exec .haltCollectExpiry s = .next u ∧ haltsAll s u ((m.reports.map (·.1)).headD 0x61)))

/-- Old terms are answered with HEARTBEAT; the standby takes over when most heads have lost the master; a plan is taken or refused (R346, R348, R349, R353, R368, R372, R373, R347). -/
def Obligations.MasterStandbyAndPlan : Prop :=
  (∀ (h : NoteHdr) (s : State) (a b c : Nat) (f : Bool) (es : List MapEntry) (tg : SnapTarget) (rs : Option (Nat × Nat)),
    s.up = true → h.term < s.carTerm →
    ∀ x ∈ ([.probe h, .stepGo h a b f c, .rollback h a f c, .mapUpdate h es f, .snapshot h a b tg, .caravanHalt h a,
        .heartbeat h a rs, .takeover h f a] : List Instr),
      exec x s = .next { s with sent := s.noticeOf 0x0E h.sender (s.heartbeatBody s.caravan.restore) :: s.sent }) ∧
  (∀ (s : State), s.up = true →
    (s.carRole = 1 → ∀ n, standbyOf s.caravan.map = some n → exec .heartbeatSend s =
      .next { s with sent := s.noticeOf 0x0E n (s.heartbeatBody s.beatRestore) :: s.sent }) ∧
    (s.carRole = 2 → exec .heartbeatSend s =
      .next { s with sent := s.noticeOf 0x0E s.masterId (s.heartbeatBody s.beatRestore) :: s.sent }) ∧
    (s.carRole ≠ 1 → s.carRole ≠ 2 → exec .heartbeatSend s = .next s) ∧
    (s.carRole = 1 → standbyOf s.caravan.map = none → exec .heartbeatSend s = .next s) ∧
    (s.carRole ≠ 2 → exec .masterLoss s = .next s) ∧
    (s.carRole = 2 → s.heads ≠ [] → ∃ u, exec .masterLoss s = .next u ∧
      u = { s with caravan := { s.caravan with takingOver := true, takeover := [] }, sent := u.sent } ∧
      ∀ n ∈ s.heads, s.noticeOf 0x0F n (stepWords s.caravan.masterHeard ++ [0]) ∈ u.sent) ∧
    (s.carRole = 2 → s.heads = [] → exec .masterLoss s = .next (({ s with caravan :=
      { s.caravan with takingOver := false, takeover := [] } } : State).noticeHost 0x0205 [1])) ∧
    (s.carRole ≠ 1 → exec .standbyLoss s = .next s) ∧
    (s.carRole = 1 → standbyOf s.baseMap = none → exec .standbyLoss s = .next s) ∧
    (∀ n, let map := s.appoint s.caravan.map (some n)
      s.carRole = 1 → s.caravan.master.pendMap = none → s.caravan.master.pendGo = false → standbyOf s.caravan.map = some n →
      (standbyOf map).isSome = true → exec .standbyLoss s = .next (s.newMap map))) ∧
  (∀ (h : NoteHdr) (s : State), s.up = true → h.term = s.carTerm →
    (∀ beat restore, s.carRole ≠ 1 → s.carRole ≠ 2 →
      (h.sender ∉ s.memberNodes → exec (.heartbeat h beat restore) s = .next s) ∧
      (h.sender ∈ s.memberNodes → exec (.heartbeat h beat restore) s =
        .next (if bit (s.reg .carStatus 0) 26 || bit (s.reg .carStatus 0) 25 then
          { s with sent := s.relayed h 0x0E s.masterId (heartbeatWords beat restore h.term) :: s.sent } else s))) ∧
    (∀ beat restore, s.carRole = 1 → let m := s.caravan.master
      let v := if h.mapGen = (s.reg .carMapgen 0).toNat ∧ h.sender ∉ m.mapAcks then
        s.modMaster fun x => { x with mapAcks := h.sender :: m.mapAcks } else s
      (standbyOf s.caravan.map ≠ some h.sender → standbyOf (m.pendMap.getD []) ≠ some h.sender →
        exec (.heartbeat h beat restore) s = .next v) ∧
      (m.pendRestore = none ∨ m.pendRestore ≠ restore → m.pendMap = none → m.pendGo = false →
        exec (.heartbeat h beat restore) s = .next v) ∧
      (∀ g t, standbyOf s.caravan.map = some h.sender → m.pendRestore = some (g, t) → restore = some (g, t) →
        m.pendMap = none → m.pendGo = false → (∀ p, s.caravan.plan = some p → p.swap = false) →
        ∃ u, exec (.heartbeat h beat restore) s = .next u ∧ u.caravan.restore = some (g, t) ∧
          u.caravan.master.pendRestore = none ∧ u.sent = s.sent ∧ u.regs = s.regs)) ∧
    (∀ beat restore, s.carRole = 2 → exec (.heartbeat h beat restore) s = .next { s with caravan :=
      { s.caravan with masterHeard := beat % 2 ^ 48, masterNode := some h.sender, restore := restore, takingOver := false,
                       takeover := [] } }) ∧
    (∀ beat, exec (.takeover h false beat) s =
      .next { s with sent := s.noticeOf 0x0F h.sender (stepWords s.caravan.masterHeard ++ [1]) :: s.sent }) ∧
    (∀ beat, s.caravan.takingOver = false ∨ h.sender ∉ s.heads → exec (.takeover h true beat) s = .next s) ∧
    (∀ beat, s.caravan.takingOver = true → h.sender ∈ s.heads →
      let l := (s.caravan.takeover.filter fun a => decide (a.1 ≠ h.sender)) ++ [(h.sender, beat)]
      let lost := (l.filter fun a => decide (2000 ≤ (s.beat + 2 ^ 48 - a.2) % 2 ^ 48)).length
      (2 * lost ≤ s.heads.length → l.length < s.heads.length → exec (.takeover h true beat) s =
        .next { s with caravan := { s.caravan with takeover := l } }) ∧
      (2 * lost ≤ s.heads.length → s.heads.length ≤ l.length → ∃ u, exec (.takeover h true beat) s = .next u ∧
        u.caravan = { s.caravan with takingOver := false, takeover := [] } ∧ u.carRole = s.carRole ∧ u.carTerm = s.carTerm) ∧
      (s.heads.length < 2 * lost → withoutNodes s.caravan.map [s.masterId] = none → ∃ u, exec (.takeover h true beat) s = .next u ∧
        u.reg .carTerm 0 = wrapAdd32 (s.reg .carTerm 0) 1 ∧ u.carRole = 1 ∧ u.caravan.takingOver = false ∧
        u.caravan.masterNode = some s.carNode ∧ u.caravan.master.started = true ∧
        ∀ n ∈ s.downNodes, ∃ w : State, w.carTerm = u.carTerm ∧ w.noticeOf 0x12 n (0x61 :: stepWords s.carStep) ∈ u.sent))) ∧
  (∀ (m : Fin 64) (t : Nat) (s : State), s.up = true → s.cfg.funcTenant (s.svc m).func = some t → s.asked m 9 = true →
    let b := (s.svc m).body
    ((s.cfg.tenant t).cl0 = false → exec (.planSubmit m) s = .next (s.endSvc m 0x0004)) ∧
    (s.cfg.caravan = none → s.caravan.plan ≠ none → s.caravan.tenant ≠ some t →
      exec (.planSubmit m) s = .next (s.endSvc m 0x0004)) ∧
    (s.cfg.caravan = none → s.caravan.plan = none → (s.cfg.tenant t).cl0 = true → s.class0Queues t ≠ [] →
      exec (.planSubmit m) s = .next (s.endSvc m 0x0002)) ∧
    (s.planCode t b ≠ 0 → exec (.planSubmit m) s = .next (s.endSvc m (s.planCode t b))) ∧
    (∀ e rest p, s.planCode t b = 0 → s.cfg.caravan ≠ none → s.caravan.master.started = false → entriesOf b = e :: rest →
      parsePlan (s.imageWords (planEntry e).1 (planEntry e).2) = some p → allJoined p s.caravan.master.joined = false →
      exec (.planSubmit m) s = .next ({ s with caravan := { s.caravan with
        tenant := some t, plan := some p, master := { s.caravan.master with parts := planParts b } } }.beginSvc m))) ∧
  (∀ (m : Fin 64) (p : CarPlan) (s : State), s.up = true → (s.svc m).active = true → (s.svc m).code = 0x0009 →
    (s.svc m).begun = true → (s.svc m).result = none →
    (s.caravan.plan = none ∨ s.caravan.master.started = false ∨ s.dataDrained = false →
      exec (.planSubmit m) s = .next s) ∧
    (s.caravan.plan = some p → s.caravan.master.started = true → s.dataDrained = true →
      ∃ u, exec (.planSubmit m) s = .next u ∧ (u.svc m).result = some 0 ∧ u.mem = s.mem ∧ u.homes = s.homes ∧
        ∀ n ∈ s.downNodes, ∃ lead freeze gen, s.noticeOf 0x04 n (stepWords p.firstStep ++
          stepWords ((s.beat + lead) % 2 ^ 48) ++ [freeze, gen]) ∈ u.sent))

/-- Every module passes the step boundary, halts, rolls back, freezes, restores and copies snapshots as its master orders (R344, R350, R352, R356, R358, R360, R361, R364, R365, R366, R367, R375). -/
def Obligations.BoundariesRollbacksAndCheckpoints : Prop :=
  (∀ (s : State) h code body, s.passDown h code body =
    { s with sent := (s.memberNodes.map fun n => s.relayed h code n body).reverse ++ s.sent }) ∧
  (∀ (h : NoteHdr) (s : State), s.up = true → h.term = s.carTerm →
    (exec (.probe h) s = .next (if s.inCaravan then
      { ((s.heard h).passDown h 0x09 []) with
        sent := s.noticeOf 0x0A (s.heard h).upNode (s.heard h).aliveBody :: ((s.heard h).passDown h 0x09 []).sent }
      else (s.heard h).passDown h 0x09 [])) ∧
    (∀ reason, let z := (s.heard h).passDown h 0x12 (reason :: stepWords h.step)
      (s.carState = 3 ∨ s.carState = 5 → exec (.caravanHalt h reason) s = .next z) ∧
      (s.carState ≠ 3 → s.carState ≠ 5 → ∃ u, exec (.caravanHalt h reason) s = .next u ∧ u.carState = 3 ∧
        u.caravan = { z.caravan with stepGo := none } ∧ u.mem = s.mem ∧ u.homes = s.homes ∧
        (∀ k ∈ s.stepQueues, s.qst k = 2 → u.qst k = 3) ∧ (∀ k ∈ s.stepQueues, u.queue k = { s.queue k with goHeld := false }) ∧
        (∀ k, k ∉ s.stepQueues → u.queue k = s.queue k) ∧
        sameRegs (fun r i => (r = .queStatus ∧ i ∈ s.stepQueues) ∨ (r = .carStatus ∧ i = 0) ∨ r = .mbxStatus) s u)) ∧
    (∀ es final, let c := Instr.mapUpdate h es final
      let y := s.heard h
      let body := b2n final :: es.flatMap MapEntry.words
      let passed (z : State) := if s.caravan.map = [] then z else z.passDown h 0x0C body
      let had := (if s.caravan.incomingGen = h.mapGen then s.caravan.incoming else []) ++ es
      let map := mergeMap s.caravan.map had
      let whole := if s.caravan.map = [] then (∃ e ∈ had, e.isMaster = true) ∧ ∃ e ∈ had, e.serial = s.flash.fuses.serial
        else h.mapGen = (s.reg .carMapgen 0).toNat + 1
      (h.mapGen ≤ (s.reg .carMapgen 0).toNat → exec c s = .next (passed y)) ∧
      ((s.reg .carMapgen 0).toNat < h.mapGen → final = false ∨ ¬ whole → exec c s = .next (passed
        { y with caravan := { y.caravan with incoming := had, incomingGen := h.mapGen } })) ∧
      ((s.reg .carMapgen 0).toNat < h.mapGen → h.mapGen < 2 ^ 32 → final = true → whole → ∃ u, exec c s = .next u ∧
        u.caravan.map = map ∧ u.caravan.incoming = [] ∧ u.reg .carMapgen 0 = BitVec.ofNat 32 h.mapGen ∧
        (s.inCaravan = true → ∃ (w : State) (n : Nat) (l : List Nat), w.noteHdr.mapGen = h.mapGen ∧
          w.noticeOf 0x0E n l ∈ u.sent) ∧
        (s.tunil.routes = [] → s.caravan.map ≠ [] → (∀ e ∈ map, e.serial ≠ s.flash.fuses.serial) →
          u.caravan = { y.caravan with incoming := [], incomingGen := 0, map := map } ∧
          sameRegs (fun r i => r = .carMapgen ∧ i = 0) s u ∧
          u = { s with caravan := u.caravan, regs := u.regs, sent := u.sent }))) ∧
    (∀ n beat freeze gen, let c := Instr.stepGo h n beat freeze gen
      let z := (s.heard h).passDown h 0x04 (stepWords n ++ stepWords beat ++ [b2n freeze, gen])
      let g : StepGo := ⟨n, beat, freeze, gen⟩
      let late := beatPast s.beat beat = true ∧ s.beat ≠ beat
      let takes := s.awaits n = true ∧ s.carState ≠ 5 ∧ s.carState ≠ 3
      (¬ takes → exec c s = .next z) ∧
      (takes → ¬ late → bit (s.reg .carStatus 0) 24 = true →
        exec c s = .next { z with caravan := { z.caravan with stepGo := some g } }) ∧
      (takes → ¬ late → bit (s.reg .carStatus 0) 24 = false → exec c s = .next (z.passBoundary g)) ∧
      (takes → late → exec c s = .next ((z.countWrap .carLatebnd 0 1).passBoundary g))) ∧
    (∀ n ckpt gen, let c := Instr.rollback h n ckpt gen
      let z := (s.heard h).passDown h 0x0B (stepWords n ++ [b2n ckpt, gen])
      let r : Rollback := ⟨n, ckpt, gen⟩
      (s.caravan.rolled = some r ∨ s.carState = 5 ∨ s.caravan.tenant = none → exec c s = .next z) ∧
      (∀ t, s.caravan.tenant = some t → s.caravan.rolled ≠ some r → s.carState ≠ 5 →
        (s.substituting t = true → exec c s = .next (z.waitReset ⟨t, none, some r⟩)) ∧
        (s.substituting t = false → s.isStageHere = true → s.carState ≠ 1 → ∃ w : State,
          let v := w.tenantReset t
          exec c s = .next (if ckpt && (v.serveBuddy gen).caravan.restoring.isSome then v.serveBuddy gen
            else if ckpt then (v.serveBuddy gen).finishRollback r
            else if v.caravan.restoring.isSome then v else v.finishRollback r) ∧
          w.carState = 4 ∧ w.reg .carRollbacks 0 = wrapAdd32 (s.reg .carRollbacks 0) 1 ∧ w.caravan.rolled = some r ∧
          w.caravan.stepGo = none ∧ w.caravan.restoring = (if ckpt then some r else none) ∧
          (ckpt = true → w.caravan.restore = some (gen, n)) ∧ w.caravan.reroutes = s.routesOf t ∧ w.queues = s.queues ∧
          w.mem = s.mem ∧ w.homes = s.homes ∧ w.tunil = s.tunil))) ∧
    (∀ gen id target, let z := (s.heard h).passDown h 0x10 (gen :: id :: snapWords target)
      (s.carRole = 1 → ∃ u, exec (.snapshot h gen id target) s = .next u ∧
        u.caravan.snapshot = some (gen, id, stageNodes s.caravan.map)) ∧
      (s.carRole ≠ 1 → s.isStageHere = false → exec (.snapshot h gen id target) s = .next z) ∧
      (∀ l t, s.carRole ≠ 1 → s.isStageHere = true → s.caravan.lastGen = some (l, t) →
        exec (.snapshot h gen id target) s = .next (if gen = l ∨ gen + 1 = l then
          ({ z with caravan := { z.caravan with snapCopy := some (gen, id, target) } } : State).snapShip gen target
          else z.noticeUp 0x11 [id, 1])) ∧
      (∀ (v : State) u hs, v.snapShip gen (.here u hs) = v) ∧
      (s.carRole ≠ 1 → s.isStageHere = true → s.caravan.lastGen = none →
        exec (.snapshot h gen id target) s = .next (z.noticeUp 0x11 [id, 1])))) ∧
  (∀ (s : State) (g : StepGo), sound s → (∀ k ∈ s.stepQueues, (s.queue k).tasks = []) → let u := s.passBoundary g
    u.reg .carStep0 0 = BitVec.ofNat 32 g.step ∧ u.rfld .carStep1 0 15 0 = g.step / 2 ^ 32 % 2 ^ 16 ∧ u.mem = s.mem ∧
    u.homes = s.homes ∧ u.caravan.stepGo = none ∧ u.caravan.rolled = none ∧ u.caravan.stageSent = false ∧
    u.caravan.slotsDone = [] ∧ (∀ k ∈ s.stepQueues, u.reg .queSlip k = 0) ∧ (s.isStageHere = true → u.carState = 2) ∧
    (s.isStageHere = true → g.freeze = true → u.rfld .carCkptstat 0 31 30 = 1 ∧ u.rfld .carCkptstat 0 15 0 = g.gen % 2 ^ 16 ∧
      ∀ k, u.qst k = s.qst k) ∧
    (g.freeze = false → ∀ k ∈ s.stepQueues, (s.qst k = 2 → (u.queue k).goHeld = true) ∧
      (s.qst k = 1 ∨ s.qst k = 3 ∨ s.qst k = 4 → u.qst k = 2 ∧ (u.queue k).next = 0))) ∧
  (∀ (s : State) (r : Rollback) t, sound s → s.caravan.tenant = some t → s.caravan.reload = [] → s.caravan.reroutes = [] →
    s.inCaravan = true → let u := s.finishRollback r
    u.reg .tunStepflr0 t = BitVec.ofNat 32 r.restart ∧ u.reg .tunStepflr1 t = BitVec.ofNat 32 (r.restart / 2 ^ 32 % 65536) ∧
    u.caravan.restoring = none ∧ u.mem = s.mem ∧ u.homes = s.homes ∧ u.queues = s.queues ∧
    ∃ body, u.sent = s.noticeOf 0x0A s.upNode body :: s.sent) ∧
  (∀ (s : State) t h a room b, (s.home t h).st ≠ stUnwritten → (s.home t h).st ≠ stFree → s.homeAddr (s.home t h) = some b →
    let n := (s.home t h).rangeBytes
    readsClean s → (b + n ≤ a ∨ a + 32 ≤ b) → 256 + roundUp n 256 ≤ room → let r := s.freezeCopy t [h] a room
    r.2 = (true, 256 + roundUp n 256) ∧ r.1 = { s with mem := r.1.mem } ∧ r.1.bytesAt a 32 = (s.home t h).image ∧
    r.1.bytesAt (a + 256) n = s.bytesAt b n) ∧
  (∀ (s : State), s.up = true →
    (s.caravan.stepGo = none → exec .stepBoundary s = .next s) ∧
    (∀ g, s.caravan.stepGo = some g → exec .stepBoundary s = .next ((s.untilBeat g.beat).passBoundary g)) ∧
    (s.rfld .carCkptstat 0 31 30 ≠ 1 → exec .ckptFreezeDone s = .next s) ∧
    (∀ p t, s.rfld .carCkptstat 0 31 30 = 1 → s.caravan.plan = some p → s.caravan.tenant = some t →
      let g := s.rfld .carCkptstat 0 15 0
      let a := p.slotAddr (g % 2)
      let r := s.freezeCopy t p.ckptList a (p.slotGib * 2 ^ 30)
      let d := (r.1.modCaravan fun c => { c with lastGen := some (g, r.1.carStep) }).noticeUp 0x0D [g, 0, 0]
      (r.2.1 = false → exec .ckptFreezeDone s = .next
        ((((r.1.setRfld .carCkptstat 0 31 30 0).setRfld .carCkptstat 0 29 29 1).noticeUp 0x0D [g, 0, 1]).goQueues)) ∧
      (r.2.1 = true → d.mapSelf.bind d.buddyOf = none →
        exec .ckptFreezeDone s = .next (d.setRfld .carCkptstat 0 31 30 0).goQueues) ∧
      (∀ m, r.2.1 = true → d.mapSelf.bind d.buddyOf = some m → exec .ckptFreezeDone s = .next
        ((d.setRfld .carCkptstat 0 31 30 2).sendBytes m.node (3 + g % 2) 0 a r.2.2).goQueues)) ∧
    (s.rfld .carCkptstat 0 31 30 = 2 → s.dataDrained = true → exec .ckptStreamDone s =
      .next ((s.setRfld .carCkptstat 0 31 30 0).noticeUp 0x0D [s.rfld .carCkptstat 0 15 0, 1, 0])) ∧
    (s.rfld .carCkptstat 0 31 30 ≠ 2 ∨ s.dataDrained = false → exec .ckptStreamDone s = .next s) ∧
    (s.caravan.restoring = none → exec .ckptRestoreDone s = .next s) ∧
    (∀ r p t, s.caravan.restoring = some r → s.caravan.plan = some p → s.caravan.tenant = some t →
      exec .ckptRestoreDone s = .next ((s.restoreAll p t r.gen).finishRollback r)) ∧
    (s.caravan.snapCopy = none → exec .snapshotCopyDone s = .next s) ∧
    (∀ gen id target p t, s.caravan.snapCopy = some (gen, id, target) → s.caravan.plan = some p → s.caravan.tenant = some t →
      let r := s.snapWrite p t gen target
      (s.snapSent t target = false → exec .snapshotCopyDone s = .next s) ∧
      (s.snapSent t target = true → exec .snapshotCopyDone s =
        .next ((r.1.modCaravan fun c => { c with snapCopy := none }).noticeUp 0x11 [id, b2n !r.2]))) ∧
    (∀ t u hs, s.snapSent t (.here u hs) = true))

/-- Kiln queues open and close; samples are accepted, start, end or fail in their slots; batches close, are taken and copied (R392, R394, R395, R396, R402, R403, R404, R406, R407, R408, R409). -/
def Obligations.KilnFillsClosesAndCopiesBatches : Prop :=
  (∀ (m : Fin 64) (t : Nat) (s : State), s.up = true → s.cfg.funcTenant (s.svc m).func = some t →
    let b := (s.svc m).body
    (s.asked m 5 = true → let k := 16 * t + df b 1 3 0
      (kilnRecordOk b = false → exec (.kilnOpen m) s = .next (s.endSvc m 0x0003)) ∧
      (s.kilnRefusal t b ≠ 0 → exec (.kilnOpen m) s = .next (s.endSvc m (s.kilnRefusal t b))) ∧
      (sound s → s.kilnRefusal t b = 0 → ∃ u, exec (.kilnOpen m) s = .next u ∧
        u.kq k = { KQueue.init with isOpen := true, record := b, gamma := s.gammaWords t (kqGamma b) } ∧
        (∀ j, j ≠ k → u.kq j = s.kq j) ∧ u.reg .klnQhead k = 0 ∧ u.reg .klnQtail k = 0 ∧ u.reg .klnQoldest k = kqFirst b ∧
        u.rfld .klnQstatus k 31 30 = 1 ∧ u.rfld .klnQstatus k 29 28 = kqCls b ∧ (u.svc m).result = some 0 ∧ u.mem = s.mem ∧
        sameRegs (fun r i => r = .thColdcnt ∨
          ((r = .klnQhead ∨ r = .klnQtail ∨ r = .klnQoldest ∨ r = .klnQstatus) ∧ i = k)) s u)) ∧
    (s.asked m 6 = true → let k := 16 * t + df b 0 3 0
      ((s.kq k).isOpen = false → exec (.kilnClose m) s = .next (s.endSvc m 0x0003)) ∧
      ((s.kq k).isOpen = true → (∀ x ∈ (s.kq k).batches, x.take = none) → ∃ u, exec (.kilnClose m) s = .next u ∧
        u.kq k = KQueue.init ∧ (∀ j, j ≠ k → u.kq j = s.kq j) ∧ u.rfld .klnQstatus k 31 30 = 0 ∧ (u.svc m).result = some 0 ∧
        u.mem = s.mem ∧ u.homes = s.homes ∧ sameRegs (fun r i => r = .klnQstatus ∧ i = k) s u))) ∧
  (∀ (f : Fin 9) (t : Fin 8) (k : Fin 16) (v : W32) (s : State), s.served = true → let i := 16 * t.val + k.val
    let r := s.write f .klnQtail i true v
    let n := postedBy (s.rfld .klnQhead i 15 0) v
    (r.2 = false → exec (.kilnTailWrite f t k v) s = .next r.1) ∧
    (r.2 = true → (s.kq i).isOpen = true → 2 ^ kqRingLog (s.kq i).record < n →
      exec (.kilnTailWrite f t k v) s = .next (s.countWrap .klnQdrop i 1)) ∧
    (r.2 = true → n ≤ 2 ^ kqRingLog (s.kq i).record → ∃ u, exec (.kilnTailWrite f t k v) s = .next u ∧
      u.rfld .klnQtail i 15 0 = fld v 15 0 ∧ u.kiln = s.kiln ∧ u.mem = s.mem ∧
      sameRegs (fun q j => q = .klnQtail ∧ j = i) s u)) ∧
  (∀ (t : Fin 8) (k : Fin 16) (d p : List W32) (s : State), s.up = true → sound s → let i := 16 * t.val + k.val
    let q := s.kq i
    let head := s.rfld .klnQhead i 15 0
    let open1 := q.isOpen = true ∧ q.samples.length < 4 ∧ s.kilnSamples < 64 ∧ head ≠ s.rfld .klnQtail i 15 0 ∧
      s.canRead t = true
    let moved (u : State) := u.rfld .klnQhead i 15 0 = (head + 1) % 65536 ∧ u.mem = s.mem ∧ u.homes = s.homes
    let id := kdBatch d
    (¬ open1 → exec (.kilnAccept t k d p) s = .next s) ∧
    (kqSlots q.record ≤ s.batchOff i id → s.batchOff i id < 2 ^ 31 → (q.batch id).done = false →
      exec (.kilnAccept t k d p) s = .next s) ∧
    (open1 → 2 ^ 31 ≤ s.batchOff i id → ∃ u, exec (.kilnAccept t k d p) s = .next u ∧ moved u ∧ u.kiln = s.kiln ∧
      u.reg .klnQdrop i = wrapAdd32 (s.reg .klnQdrop i) 1) ∧
    (open1 → s.batchOff i id < kqSlots q.record → s.batchOff i id < 2 ^ 31 → q.batch? id = none → kdSlot d < kqB q.record →
      (kqCls q.record ≠ 0 → kdKind d ≠ 1 → s.sampleOk i d p = true → ∃ u x, exec (.kilnAccept t k d p) s = .next u ∧ moved u ∧
        (u.kq i).samples = q.samples ++ [x] ∧ x.desc = d ∧ x.params = p ∧ x.started = false ∧ x.frames = 0 ∧
        ((u.kq i).batch id).slot (kdSlot d) = slotOf d 0 0 false ∧ ((u.kq i).batch id).deadline = some (kdDeadline d) ∧
        sameRegs (fun r j => r = .klnQhead ∧ j = i) s u) ∧
      (kqCls q.record = 0 → s.sampleOk i d p = false → ∃ u, exec (.kilnAccept t k d p) s = .next u ∧ moved u ∧
        ((u.kq i).batch id).code = 0x10 ∧ bit (u.reg .klnFault0 t) 31 = true ∧
        (bit (s.reg .klnFault0 t) 31 = false → u.rfld .klnFault0 t 19 16 = 1 ∧ u.rfld .klnFault0 t 23 20 = k ∧
          u.reg .klnFault1 t = id)))) ∧
  (∀ (t : Fin 8) (k : Fin 16) (pos : Fin 4) (host : List (Nat × List Byte)) (s : State), s.up = true →
    let i := 16 * t.val + k.val
    let q := s.kq i
    (∀ x, q.samples[pos.val]? = some x →
      (x.started = true ∨ ∃ y ∈ q.samples.take pos, y.started = false) → exec (.kilnSampleStart t k pos host) s = .next s) ∧
    (∀ x, q.samples[pos.val]? = some x → x.started = false → (∀ y ∈ q.samples.take pos, y.started = true) →
      s.held (.kiln i) = false →
      (kdKind x.desc = 0 → s.canRead t = true → kpMeshEn x.params = false →
        ∃ u y, exec (.kilnSampleStart t k pos host) s = .next u ∧ (u.kq i).samples[pos.val]? = some y ∧
          y = { x with started := true, host := hostMap host, bases := y.bases, xlate := none, cold := false, mesh := [],
                       mx := 0, my := 0 } ∧
          y.bases = (List.range (kdTs x.desc)).map (s.frameBase t x.desc) ∧
          (∀ j, j ≠ pos.val → (u.kq i).samples[j]? = q.samples[j]?) ∧ (u.kq i).batches = q.batches ∧
          u.regs = s.regs ∧ u.mem = s.mem ∧ u.homes = s.homes) ∧
      (kdKind x.desc = 1 → kdRoute x.desc ≠ 0x1FFF → (s.route (kdRoute x.desc)).st = 0 → kqCls q.record ≠ 0 →
        ∃ u, exec (.kilnSampleStart t k pos host) s = .next u ∧ (u.kq i).samples = q.samples.eraseIdx pos ∧
          ((u.kq i).batch (kdBatch x.desc)).slot (kdSlot x.desc) = slotOf x.desc 2 8 false ∧ u.regs = s.regs ∧
          u.mem = s.mem ∧ u.homes = s.homes)) ∧
    (∀ x, q.samples[pos.val]? = some x → (x.started = false ∨ x.frames < kdTs x.desc) →
      exec (.kilnSampleEnd t k pos) s = .next s) ∧
    (∀ x, q.samples[pos.val]? = some x → x.started = true → kdTs x.desc ≤ x.frames → kdSlot x.desc < kqB q.record →
      let r := q.record
      let b := (q.batch (kdBatch x.desc)).setSlot (kdSlot x.desc) (slotOf x.desc 1 0 x.sat)
      ∃ u, exec (.kilnSampleEnd t k pos) s = .next u ∧ (u.kq i).samples = q.samples.eraseIdx pos ∧
        (u.kq i).batch (kdBatch x.desc) =
          { b with closed := b.closed || (decide (b.code = 0) && decide (b.filled = kqB r)) } ∧
        u.reg .klnQfill i = wrapAdd32 (s.reg .klnQfill i) 1 ∧ u.homes = s.homes ∧
        u.bytesAt (kqStaging r (kdBatch x.desc) + kqBatchBytes r + 32 * kdSlot x.desc) 32 =
          slotRecord (slotOf x.desc 1 0 x.sat)) ∧
    (q.samples.length ≤ pos → exec (.kilnSampleStart t k pos host) s = .next s ∧ exec (.kilnSampleEnd t k pos) s = .next s)) ∧
  (∀ (t : Fin 8) (k : Fin 16) (id : W32) (s : State), s.up = true → let i := 16 * t.val + k.val
    let q := s.kq i
    (q.batch? id = none → exec (.kilnDeadline t k id) s = .next s) ∧
    (∀ b, q.batch? id = some b → b.deadline = none ∨ b.deadline = some 0 → exec (.kilnDeadline t k id) s = .next s) ∧
    (∀ b n, q.batch? id = some b → b.deadline = some (n + 1) → b.closed = true →
      exec (.kilnDeadline t k id) s = .next (s.untilBeat (n + 1))) ∧
    (∀ b n, q.batch? id = some b → b.deadline = some (n + 1) → b.closed = false → kqCls q.record ≠ 0 →
      ∃ u, exec (.kilnDeadline t k id) s = .next u ∧ u.clock = (s.untilBeat (n + 1)).clock ∧
        (u.kq i).samples = q.samples.filter (fun x => !decide (kdBatch x.desc = id)) ∧ ((u.kq i).batch id).closed = true ∧
        (∀ x ∈ q.samples, kdBatch x.desc = id → (((u.kq i).batch id).slot (kdSlot x.desc)).st = 3) ∧
        u.reg .klnQlate i = wrapAdd32 (s.reg .klnQlate i) (q.samples.filter fun x => decide (kdBatch x.desc = id)).length ∧
        u.reg .klnQpad i = wrapAdd32 (s.reg .klnQpad i) (kqB q.record - ((u.kq i).batch id).filled) ∧ u.mem = s.mem ∧
        u.homes = s.homes)) ∧
  (∀ (t : Fin 8) (q : Fin 16) (w : Nat) (d : List W32) (s : State), mayIssue s (16 * t + q) d →
    let k := 16 * t.val + q.val
    let u := (s.startTask k w).1
    let x := (s.startTask k w).2
    let i := 16 * t.val + df d 5 3 0
    let id := wordAt d 4 + s.reg .carStep0 0
    (dType d ≠ 9 → exec (.kilnTake t q w) s = .next s) ∧
    (dType d = 9 → s.filling t (dDst d) = false → s.filling t (df d 6 23 0) = false →
      let code := u.takeCode i (s.queue k).cls t id d
      (code ≠ 0 → exec (.kilnTake t q w) s = .next (u.abortTask k x.serial code)) ∧
      (code = 0 → ((s.kq i).batch id).code = 0 → ∃ v, exec (.kilnTake t q w) s = .next v ∧
        ((v.kq i).batch id).take = some (k, x.serial) ∧ ((v.kq i).batch id).slots = ((s.kq i).batch id).slots ∧
        ∀ dl, ((s.kq i).batch id).deadline = some dl → ((v.kq i).batch id).deadline = some dl))) ∧
  (∀ (t : Fin 8) (k : Fin 16) (s : State), s.up = true → let i := 16 * t.val + k.val
    let q := s.kq i
    let found := q.batches.find? fun b => b.closed && !b.done && decide (b.code = 0) && b.take.isSome
    (found = none → exec (.kilnBatchCopy t k) s = .next s) ∧
    (∀ b own, found = some b → b.take = some own → s.task? own.1 own.2 = none →
      exec (.kilnBatchCopy t k) s = .next (s.batchDone i (BitVec.ofNat 32 b.id))) ∧
    (∀ b own tk a m, found = some b → b.take = some own → s.task? own.1 own.2 = some tk →
      s.taskAddr own.1 own.2 (dDst tk.desc) = some a → s.taskAddr own.1 own.2 (df tk.desc 6 23 0) = some m →
      let id : W32 := BitVec.ofNat 32 b.id
      let r := s.copyBatch q.record id b a m
      exec (.kilnBatchCopy t k) s = .next ((if r.2 then r.1.landTask own.1 own.2 else r.1.abortTask own.1 own.2 0x50).batchDone
        i id)) ∧
    (∀ id : W32, s.reg .klnQoldest i = id → (q.batch (id + 1)).done = false → let u := s.batchDone i id
      u.reg .klnQoldest i = id + 1 ∧ (u.kq i).batch? id = none ∧ sameRegs (fun r j => r = .klnQoldest ∧ j = i) s u ∧
      u.mem = s.mem) ∧
    (∀ r id b a m n, n < kqB r → (b.slot n).st ≠ 1 →
      (∀ i tok j, i < kqB r → tok < kqNt r → j < kqDp r / 32 → a + kqChunk r i tok j + 64 ≤ m) → let u := (s.copyBatch r id b a m).1
      u.bytesAt (m + 32 * n) 32 = slotRecord (b.slot n)))

/-- Codec contexts open and close, admit frames, output pictures in their slots, run encode passes and take commits (R417, R419, R420, R423, R424, R425, R428, R429, R430, R433, R435, R436). -/
def Obligations.CodecContextsDecodeAndEncode : Prop :=
  (∀ (m : Fin 64) (cfg : List W32) (t : Nat) (s : State), s.up = true → s.cfg.funcTenant (s.svc m).func = some t →
    let b := (s.svc m).body
    (s.asked m 7 = true → t < 8 →
      (wordAt b 0 ≠ 0x43455655#32 → s.decRefusal t b ≠ 0 →
        exec (.codecOpen m cfg) s = .next (s.endSvc m (s.decRefusal t b))) ∧
      (wordAt b 0 ≠ 0x43455655#32 → decRecordOk b = false → exec (.codecOpen m cfg) s = .next (s.endSvc m 0x0003)) ∧
      (let c := df b 1 7 0;
        sound s → wordAt b 0 ≠ 0x43455655#32 → s.decRefusal t b = 0 → ∃ u, exec (.codecOpen m cfg) s = .next u ∧
          u.dec c = { DecCtx.init with isOpen := true, record := b } ∧ (∀ j, j ≠ c → u.dec j = s.dec j) ∧ u.decSt c = 1 ∧
          u.decOwner c = t ∧ u.reg .cdcDhead c = 0 ∧ u.reg .cdcDtail c = 0 ∧ u.reg .cdcDout c = 0 ∧
          u.reg .cdcDrelease c = 0 ∧ (u.svc m).result = some 0 ∧ u.mem = s.mem ∧ u.homes = s.homes) ∧
      (wordAt b 0 = 0x43455655#32 → s.canRead t = true → s.encRefusal t b cfg ≠ 0 →
        exec (.codecOpen m cfg) s = .next (s.endSvc m (s.encRefusal t b cfg))) ∧
      (let e := df b 1 5 0;
        sound s → wordAt b 0 = 0x43455655#32 → s.canRead t = true → s.encRefusal t b cfg = 0 →
          ∃ u, exec (.codecOpen m cfg) s = .next u ∧
          u.enc e = { EncCtx.init with isOpen := true, record := b, config := cfg, buf0 := gBufsize cfg,
                                       fullness := gInitfull cfg } ∧ (∀ j, j ≠ e → u.enc j = s.enc j) ∧ u.encSt e = 1 ∧
          u.encOwner e = t ∧ u.reg .cdcEhead e = 0 ∧ u.reg .cdcEtail e = 0 ∧ u.reg .cdcEgen e = 0 ∧ u.reg .cdcEframe e = 0 ∧
          u.reg .cdcErel e = 0 ∧ (u.svc m).result = some 0 ∧ u.mem = s.mem ∧ u.homes = s.homes)) ∧
    (s.asked m 8 = true → let n := (wordAt b 1).toNat
      (wordAt b 0 = 0 → s.decTenant n ≠ some t → exec (.codecClose m) s = .next (s.endSvc m 0x0004)) ∧
      (wordAt b 0 = 0 → s.decTenant n = some t → (s.dec n).pipe ≠ none → exec (.codecClose m) s = .next s) ∧
      (wordAt b 0 = 0 → s.decTenant n = some t → (s.dec n).pipe = none → ∃ u, exec (.codecClose m) s = .next u ∧
        u.dec n = DecCtx.init ∧ u.decSt n = 0 ∧ (∀ j, j ≠ n → u.dec j = s.dec j) ∧ (u.svc m).result = some 0 ∧ u.mem = s.mem ∧
        sameRegs (fun r i => (r = .cdcDstat ∧ i = n) ∨ (r = .cdcMode ∧ i = 0)) s u) ∧
      (wordAt b 0 = 1 → s.encTenant n = some t → (s.enc n).frame = none → ∃ u, exec (.codecClose m) s = .next u ∧
        u.enc n = EncCtx.init ∧ u.encSt n = 0 ∧ (∀ j, j ≠ n → u.enc j = s.enc j) ∧ (u.svc m).result = some 0 ∧ u.mem = s.mem ∧
        sameRegs (fun r i => (r = .cdcEstat ∧ i = n) ∨ (r = .cdcMode ∧ i = 0)) s u))) ∧
  (∀ (f : Fin 9) (v : W32) (s : State), s.served = true →
    (∀ c : Fin 256, let r := s.write f .cdcDtail c true v
      let n := postedBy (s.rfld .cdcDhead c 15 0) v
      (r.2 = false → exec (.decodeTailWrite f c v) s = .next r.1) ∧
      (r.2 = true → (s.dec c).isOpen = true → exec (.decodeTailWrite f c v) s = .next
        (if 2 ^ dRingLog (s.dec c).record < n then s.countWrap .cdcDrop 0 1
         else r.1.setDec c { s.dec c with posts := repost (s.dec c).posts n s.beat })) ∧
      (r.2 = true → r.1.rfld .cdcDtail c 15 0 = fld v 15 0)) ∧
    (∀ e : Fin 64, let r := s.write f .cdcEtail e true v
      let n := postedBy (s.rfld .cdcEhead e 15 0) v
      let ps := (s.enc e).posts.take n ++ List.replicate (n - (s.enc e).posts.length) s.beat
      (r.2 = false → exec (.encodeTailWrite f e v) s = .next r.1) ∧
      (r.2 = true → (s.enc e).isOpen = true → exec (.encodeTailWrite f e v) s = .next
        (if 2 ^ eRingLog (s.enc e).record < n then s.countWrap .cdcDrop 0 1
         else r.1.setEnc e { s.enc e with posts := ps }))) ∧
    (∀ c : Fin 256, let r := s.write f .cdcDrelease c true v
      let used (q : Nat) := ∃ z ∈ s.kiln.queues, z.1 / 16 = s.decOwner c ∧ ∃ x ∈ z.2.samples, x.reads c q = true
      (r.2 = false → exec (.decodeReleaseWrite f c v) s = .next r.1) ∧
      (r.2 = true → ∃ u, exec (.decodeReleaseWrite f c v) s = .next u ∧ u.reg .cdcDrelease c = v ∧ u.mem = s.mem ∧
        (∀ p, p ∈ (u.dec c).pics ↔ p ∈ (s.dec c).pics ∧ (v.toNat ≤ p.num ∨ used p.num)) ∧
        sameRegs (fun q i => q = .cdcDrelease ∧ i = c.val) s u)) ∧
    (∀ e : Fin 64, let r := s.write f .cdcErel e true v
      exec (.encodeReleaseWrite f e v) s = .next r.1 ∧ (r.2 = true → r.1.reg .cdcErel e = v)) ∧
    (let r := s.write f .cdcMode 0 true v;
      exec (.codecModeRequest f v) s = .next r.1 ∧ (r.2 = true → r.1.rfld .cdcMode 0 1 0 = fld v 1 0) ∧
      (fld v 1 0 = 3 ∨ (fld v 1 0 = 2 ∧ bit (s.reg .hubStatus 0) 30 = false) → r.2 = false ∧ sameRegs errorLog s r.1)) ∧
    (∀ (e : Fin 64) block, let r := s.write f .cdcEcommit e true v
      let x := s.enc e
      (r.2 = false → exec (.encodeCommit f e v block) s = .next r.1) ∧
      (r.2 = true → bit v 31 = false → exec (.encodeCommit f e v block) s = .next r.1) ∧
      (sound s → r.2 = true → bit v 31 = true → x.isOpen = true → s.canRead (s.encOwner e) = false →
        ∃ u, exec (.encodeCommit f e v block) s = .next u ∧ bit (u.reg .cdcEcommit e) 31 = false ∧ u.mem = s.mem ∧
        u.enc e = x ∧ bit (u.reg .cdcEstat e) 22 = true) ∧
      (sound s → r.2 = true → bit v 31 = true → x.isOpen = true → s.canRead (s.encOwner e) = true →
        ∃ u, exec (.encodeCommit f e v block) s = .next u ∧
        bit (u.reg .cdcEcommit e) 31 = false ∧ u.mem = s.mem ∧
        .hostRead (s.cfg.tenant (s.encOwner e)).func (addr64 x.record (if bit v 0 then 12 else 10)) 128 ∈ u.sent ∧
        if configOk x.record block && decide (gBufsize block ≤ x.buf0) then u.enc e = { x with nextConfig := some block } ∧
          sameRegs (fun q i => q = .cdcEcommit ∧ i = e.val) s u
        else u.enc e = x ∧ bit (u.reg .cdcEstat e) 22 = true))) ∧
  (∀ (p : Fin 8) (entries : List (List W32)) (roi : List W32) (more : Bool) (s : State), s.up = true → sound s → s.staged = [] →
    let l := (s.encReqs entries).filter fun y => s.withinDepth true y.1
    let c := exec (.codecFrameAdmit p entries roi more) s
    (p.val < 4 → s.chooseCtx p s.codec.lastDec (s.decReqs.filter (s.withinDepth false)) = none → c = .next s) ∧
    (4 ≤ p.val → s.chooseCtx p s.codec.lastEnc (l.map (·.1)) = none → c = .next s) ∧
    (∀ r y e0, p.val < 4 → s.chooseCtx p s.codec.lastDec (s.decReqs.filter (s.withinDepth false)) = some (r, y) →
      entries = [e0] → (s.dec r.ctx).endSeen = false → 0 < postCount (s.dec r.ctx).posts →
      ∃ u, c = .next u ∧ (u.dec r.ctx).pipe = some p.val ∧ (u.dec r.ctx).endSeen = bit (wordAt e0 3) 0 ∧
        u.rfld .cdcDhead r.ctx 15 0 = (s.rfld .cdcDhead r.ctx 15 0 + 1) % 65536 ∧ u.rfld .cdcMode 0 5 4 = s.pipeMode p ∧
        u.codec.lastDec = r.ctx ∧ (∀ j, j ≠ r.ctx → u.dec j = s.dec j) ∧ u.mem = s.mem ∧ u.homes = s.homes) ∧
    (∀ r y, 4 ≤ p.val → s.chooseCtx p s.codec.lastEnc (l.map (·.1)) = some (r, y) → (s.enc r.ctx).nextConfig = none →
      ∃ u fr, c = .next u ∧ (u.enc r.ctx).frame = some fr ∧ fr.pipe = p.val ∧ fr.pass = (if fr.failed then 4 else 1) ∧
        (u.enc r.ctx).admitted = (s.enc r.ctx).admitted + 1 ∧ (u.enc r.ctx).config = (s.enc r.ctx).config ∧
        ((s.enc r.ctx).admitted = 0 → fr.key = true ∧ fr.first = true) ∧ u.codec.lastEnc = r.ctx ∧
        u.rfld .cdcEhead r.ctx 15 0 = (s.rfld .cdcEhead r.ctx 15 0 + 1) % 65536 ∧
        (∀ j, j ≠ r.ctx → u.enc j = s.enc j) ∧ u.mem = s.mem ∧ u.homes = s.homes)) ∧
  (∀ (c : Fin 256) (pic : Option PicHdr) (ends last : Bool) (s : State), s.up = true → let x := s.dec c
    let n := (s.reg .cdcDout c).toNat
    let i := Instr.decodePictureOutput c pic ends last
    (s.decSt c ≠ 1 ∨ (x.pipe = none ∧ x.endSeen = false) → exec i s = .next s) ∧
    (pic ≠ none → (∃ p ∈ ((s.freePics c).dec c).pics, p.num + dPool x.record = n) → exec i s = .next s) ∧
    (pic = none → s.decSt c = 1 → x.pipe ≠ none ∨ x.endSeen = true → s.codec.held.contains (false, c.val) = false →
      ∃ u, exec i s = .next u ∧ u.mem = s.mem ∧ u.homes = s.homes ∧ u.reg .cdcDout c = s.reg .cdcDout c ∧
        (u.dec c).pipe = (if ends then none else x.pipe) ∧
        (u.decSt c = 2 ↔ last = true ∧ x.endSeen = true ∧ x.more = none ∧ (ends = true ∨ x.pipe = none))) ∧
    (∀ h, pic = some h → s.decSt c = 1 → x.pipe ≠ none ∨ x.endSeen = true → s.codec.held.contains (false, c.val) = false →
      (∀ p ∈ x.pics, p.num + dPool x.record ≠ n) → let bad := x.badPic h
      let q := fitPic x.record h
      ∃ u, exec i s = .next u ∧ u.reg .cdcDout c = BitVec.ofNat 32 (n + 1) ∧
        u.reg .cdcDbad c = wrapAdd32 (s.reg .cdcDbad c) (b2n bad) ∧
        u.bytesAt (cWork x.record 8 + n % dPool x.record * dSlotBytes x.record) 256 = picRecord n (dPitch x.record) q bad ∧
        (x.badPic h = true ↔ h.bad = true ∨ x.badNext = true ∨ picFits x.record h = false ∨
          (h.irap = false ∧ ∃ m ∈ h.refs, m ∈ x.bads)) ∧
        (u.dec c).bads = (if h.irap then [] else x.bads) ++ (if bad then [n] else []) ∧
        (⟨n, q.width, q.height, q.ten, bad⟩ : Pic) ∈ (u.dec c).pics ∧ (u.dec c).pipe = (if ends then none else x.pipe) ∧
        u.homes = s.homes ∧
        (u.decSt c = 2 ↔ last = true ∧ x.endSeen = true ∧ x.more = none ∧ (ends = true ∨ x.pipe = none)))) ∧
  (∀ (e : Fin 64) (qp bits : Nat) (s : State), s.up = true → let x := s.enc e
    (x.frame = none → exec (.encodePassDone e qp bits) s = .next s) ∧
    (∀ f0, x.frame = some f0 → s.codec.held.contains (true, e.val) = false →
      let q1 := Nat.max (gQpmin x.config) (Nat.min qp (gQpmax x.config))
      (f0.pass = 1 → x.fullness < bits → eDlskip x.record = false → ∀ p, nextPass x.record x.config 1 q1 = some p →
        let f : EFrame := { f0 with qp1 := q1, pass := p, qp := passQp x.record x.config q1 p }
        exec (.encodePassDone e qp bits) s = .next (s.setEnc e { x with frame := some f })) ∧
      (f0.pass = 3 → x.fullness < bits → f0.first = true → f0.key = true → exec (.encodePassDone e qp bits) s =
        .next ((s.countWrap .cdcEreenc e 1).setEnc e { x with frame := some { f0 with pass := 5, qp := qpTop x.record } })) ∧
      (f0.pass = 3 → x.fullness < bits → f0.first = false → exec (.encodePassDone e qp bits) s =
        .next ((s.countWrap .cdcEreenc e 1).setEnc e { x with frame := some { f0 with pass := 4 } })) ∧
      (f0.pass = 1 → bits ≤ x.fullness → let filler := fillerBits x.record x.config x.fullness bits
        let next := x.fullness - bits - filler + arrivals x.record x.config
        ∃ u, exec (.encodePassDone e qp bits) s = .next u ∧
          u.enc e = { x with frame := none, fullness := if gVbr x.config then Nat.min next (gBufsize x.config) else next,
                             coded := (u.enc e).coded } ∧
          u.reg .cdcEframe e = BitVec.ofNat 32 ((s.reg .cdcEframe e).toNat + 1) ∧
          (u.encSt e = if x.lastSeen then 2 else s.encSt e) ∧ (∀ j, j ≠ e.val → u.enc j = s.enc j) ∧ u.codec.dec = s.codec.dec) ∧
      (4 ≤ f0.pass → ∃ u, exec (.encodePassDone e qp bits) s = .next u ∧ (u.enc e).frame = none ∧
        u.reg .cdcEframe e = BitVec.ofNat 32 ((s.reg .cdcEframe e).toNat + 1) ∧
        u.reg .cdcEskip e = wrapAdd32 (s.reg .cdcEskip e) (b2n (decide (f0.pass = 6))) ∧
        ((u.enc e).keyNext = (x.keyNext || (f0.key && decide (f0.pass ≠ 5)))) ∧ (∀ j, j ≠ e.val → u.enc j = s.enc j)))) ∧
  (∀ (p : Fin 8) (s : State), s.up = true → ∃ u, exec (.pipeFault p) s = .next u ∧ u.codec.dec = s.codec.dec ∧
    (∀ c, c < 256 → (s.dec c).pipe = some p.val → (false, c) ∈ u.codec.recover) ∧
    (∀ e f, e < 64 → (s.enc e).frame = some f → if f.pipe = p.val then (true, e) ∈ u.codec.recover ∧
      (u.enc e).frame = some { f with pass := if f.failed then 4 else 1 } else (u.enc e).frame = some f) ∧
    u.reg .cdcPipeflt 0 = wrapAdd32 (s.reg .cdcPipeflt 0) 1 ∧ u.mem = s.mem ∧ u.homes = s.homes ∧
    sameRegs (fun r i => (r = .cdcPipeflt ∨ r = .cdcMode) ∧ i = 0) s u)
end

