-- ==== Sys2Proof/Laws/Bits.lean ====
section
/-! SUPPORT. Laws of bit fields: a field reads what was put into it and disjoint fields are left alone. -/
namespace Sys2Proof.Machine

/-- The mask of field [hi:lo], bit by bit. -/
theorem getLsbD_mask (hi lo j : Nat) (hj : j < 32) :
    (BitVec.ofNat 32 ((2 ^ (hi + 1 - lo) - 1) * 2 ^ lo)).getLsbD j = (decide (lo ≤ j) && decide (j < lo + (hi + 1 - lo))) := by
  rw [BitVec.getLsbD_ofNat]
  simp only [hj, decide_true, Bool.true_and]
  rw [Nat.testBit_mul_two_pow, Nat.testBit_two_pow_sub_one]
  by_cases h : lo ≤ j
  · simp [h]; omega
  · simp [h]

/-- A word with a field replaced, bit by bit. -/
theorem getLsbD_setFld (w : W32) (hi lo v j : Nat) (hj : j < 32) :
    (setFld w hi lo v).getLsbD j =
      if lo ≤ j ∧ j < lo + (hi + 1 - lo) then v.testBit (j - lo) else w.getLsbD j := by
  unfold setFld
  simp only [BitVec.getLsbD_or, BitVec.getLsbD_and, BitVec.getLsbD_not, getLsbD_mask hi lo j hj]
  rw [BitVec.getLsbD_ofNat, Nat.testBit_mul_two_pow]
  by_cases h : lo ≤ j ∧ j < lo + (hi + 1 - lo)
  · simp [h, hj]
  · rw [if_neg h]
    have : (decide (lo ≤ j) && decide (j < lo + (hi + 1 - lo))) = false := by
      simp only [Bool.and_eq_false_iff, decide_eq_false_iff_not]; omega
    rw [this]; simp [hj]

theorem testBit_fld (w : W32) (hi lo j : Nat) :
    (fld w hi lo).testBit j = (decide (j < hi + 1 - lo) && w.getLsbD (lo + j)) := by
  unfold fld
  rw [Nat.testBit_mod_two_pow, Nat.testBit_div_two_pow, Nat.add_comm j lo]
  rfl

/-- A field reads the value put into it, cut to its width. -/
theorem fld_setFld_same (w : W32) (hi lo v : Nat) (h : hi < 32) :
    fld (setFld w hi lo v) hi lo = v % 2 ^ (hi + 1 - lo) := by
  apply Nat.eq_of_testBit_eq
  intro j
  rw [testBit_fld, Nat.testBit_mod_two_pow]
  by_cases hj : j < hi + 1 - lo
  · rw [getLsbD_setFld _ _ _ _ _ (by omega), if_pos (by omega)]
    simp
  · simp [hj]

/-- A disjoint field is left alone. -/
theorem fld_setFld_other (w : W32) (hi lo v hi' lo' : Nat) (h' : hi' < 32) (hd : hi' < lo ∨ hi < lo') :
    fld (setFld w hi lo v) hi' lo' = fld w hi' lo' := by
  apply Nat.eq_of_testBit_eq
  intro j
  rw [testBit_fld, testBit_fld]
  by_cases hj : j < hi' + 1 - lo'
  · rw [getLsbD_setFld _ _ _ _ _ (by omega), if_neg (by omega)]
  · simp [hj]

theorem bit_setFld (w : W32) (hi lo v i : Nat) (hi' : i < 32) :
    bit (setFld w hi lo v) i = if lo ≤ i ∧ i ≤ hi then v.testBit (i - lo) else bit w i := by
  unfold bit
  rw [getLsbD_setFld _ _ _ _ _ hi']
  by_cases h : lo ≤ i ∧ i ≤ hi
  · rw [if_pos h, if_pos (by omega)]
  · rw [if_neg h, if_neg (by omega)]

@[simp] theorem fld_zero (hi lo : Nat) : fld 0 hi lo = 0 := by simp [fld]
@[simp] theorem bit_zero (i : Nat) : bit 0 i = false := by simp [bit]

theorem fld_lt (w : W32) (hi lo : Nat) : fld w hi lo < 2 ^ (hi + 1 - lo) := Nat.mod_lt _ (Nat.two_pow_pos _)

/-- A counter that stops at its maximum never falls. -/
theorem satAdd32_toNat (w : W32) (n : Nat) : (satAdd32 w n).toNat = Nat.min (w.toNat + n) 0xFFFFFFFF := by
  unfold satAdd32
  rw [BitVec.toNat_ofNat]
  apply Nat.mod_eq_of_lt
  exact lt_of_le_of_lt (Nat.min_le_right (w.toNat + n) 0xFFFFFFFF) (by decide)

theorem wrapAdd32_toNat (w : W32) (n : Nat) : (wrapAdd32 w n).toNat = (w.toNat + n) % 2 ^ 32 := by
  simp [wrapAdd32, BitVec.toNat_ofNat]

end Sys2Proof.Machine
end

