-- ==== Sys2Proof/Laws/Map.lean ====
section
/-! SUPPORT. Laws of the sparse maps: a read after a write, and that a write keeps the canonical form. -/
namespace Sys2Proof.Machine

variable {α : Type}

@[simp] theorem mget_nil (d : α) (k : Nat) : mget d [] k = d := rfl

theorem mget_cons (d : α) (p : Nat × α) (t : SMap α) (k : Nat) :
    mget d (p :: t) k = if k = p.1 then p.2 else mget d t k := rfl

@[simp] theorem mget_mdel_same (d : α) (m : SMap α) (k : Nat) : mget d (mdel m k) k = d := by
  induction m with
  | nil => rfl
  | cons p t ih =>
    by_cases h : k = p.1
    · rw [mdel, if_pos h]; exact ih
    · rw [mdel, if_neg h, mget_cons, if_neg h]; exact ih

theorem mget_mdel_other (d : α) (m : SMap α) {k j : Nat} (hj : j ≠ k) : mget d (mdel m k) j = mget d m j := by
  induction m with
  | nil => rfl
  | cons p t ih =>
    by_cases h : k = p.1
    · have : j ≠ p.1 := h ▸ hj
      rw [mdel, if_pos h, mget_cons, if_neg this]; exact ih
    · rw [mdel, if_neg h, mget_cons, mget_cons, ih]

theorem mget_minsert_same (d v : α) (m : SMap α) (k : Nat) (h : ∀ p ∈ m, p.1 ≠ k) : mget d (minsert k v m) k = v := by
  induction m with
  | nil => simp [minsert, mget_cons]
  | cons p t ih =>
    have hp : k ≠ p.1 := fun e => h p (by simp) e.symm
    unfold minsert
    split
    · simp [mget_cons]
    · rw [mget_cons, if_neg hp]; exact ih fun q hq => h q (by simp [hq])

theorem mget_minsert_other (d v : α) (m : SMap α) {k j : Nat} (hj : j ≠ k) :
    mget d (minsert k v m) j = mget d m j := by
  induction m with
  | nil => simp [minsert, mget_cons, hj]
  | cons p t ih =>
    unfold minsert
    split
    · rw [mget_cons, if_neg hj]
    · rw [mget_cons, mget_cons, ih]

theorem mdel_keys (m : SMap α) (k : Nat) : ∀ p ∈ mdel m k, p.1 ≠ k := by
  induction m with
  | nil => intro p hp; cases hp
  | cons q t ih =>
    intro p hp
    unfold mdel at hp
    split at hp
    · exact ih p hp
    · rcases List.mem_cons.1 hp with rfl | h
      · intro e; exact absurd e.symm (by assumption)
      · exact ih p h

/-- A read after a write of the same key gives the value written. -/
@[simp] theorem mget_mset_same [DecidableEq α] (d v : α) (m : SMap α) (k : Nat) : mget d (mset d m k v) k = v := by
  unfold mset
  split
  · rw [mget_mdel_same]; exact (by assumption : v = d).symm
  · exact mget_minsert_same d v _ k (mdel_keys m k)

/-- A write leaves every other key alone. -/
theorem mget_mset_other [DecidableEq α] (d v : α) (m : SMap α) {k j : Nat} (hj : j ≠ k) :
    mget d (mset d m k v) j = mget d m j := by
  unfold mset
  split
  · exact mget_mdel_other d m hj
  · rw [mget_minsert_other d v _ hj, mget_mdel_other d m hj]

/-- The same whatever the default of the write: another key reads as before. -/
theorem mget_mset_other' [DecidableEq α] (d e v : α) (m : SMap α) {k j : Nat} (hj : j ≠ k) :
    mget d (mset e m k v) j = mget d m j := by
  unfold mset
  split
  · exact mget_mdel_other d m hj
  · rw [mget_minsert_other d v _ hj, mget_mdel_other d m hj]

theorem mget_mset [DecidableEq α] (d v : α) (m : SMap α) (k j : Nat) :
    mget d (mset d m k v) j = if j = k then v else mget d m j := by
  split
  · subst_vars; simp
  · exact mget_mset_other d v m (by assumption)

theorem mget_mmod [DecidableEq α] (d : α) (m : SMap α) (k j : Nat) (f : α → α) :
    mget d (mmod d m k f) j = if j = k then f (mget d m k) else mget d m j := mget_mset d _ m k j

/-- Consecutive keys read the list that was written; the others read as before. -/
theorem mget_msetList [DecidableEq α] (d : α) (l : List α) : ∀ (m : SMap α) (k j : Nat),
    mget d (msetList d m k l) j = if k ≤ j ∧ j < k + l.length then (l[j - k]?).getD d else mget d m j := by
  induction l with
  | nil => intro m k j; simp [msetList]
  | cons v t ih =>
    intro m k j
    rw [msetList, ih, mget_mset]
    by_cases h1 : j = k
    · subst h1; simp
    · by_cases h2 : k + 1 ≤ j ∧ j < k + 1 + t.length
      · have h3 : k ≤ j ∧ j < k + (v :: t).length := by simp; omega
        have h4 : j - k = (j - (k + 1)) + 1 := by omega
        rw [if_pos h2, if_pos h3, h4]; simp
      · have h3 : ¬ (k ≤ j ∧ j < k + (v :: t).length) := by simp; omega
        rw [if_neg h2, if_neg h3, if_neg h1]

/-! The canonical form. -/

theorem mapWfFrom_mono [DecidableEq α] {d : Nat → α} {lo lo' : Nat} (h : lo' ≤ lo) {m : SMap α}
    (hm : mapWfFrom d lo m = true) : mapWfFrom d lo' m = true := by
  cases m with
  | nil => rfl
  | cons p t =>
    simp only [mapWfFrom, Bool.and_eq_true, decide_eq_true_eq] at hm ⊢
    exact ⟨⟨by omega, hm.1.2⟩, hm.2⟩

theorem mapWfFrom_mdel [DecidableEq α] {d : Nat → α} (k : Nat) : ∀ {m : SMap α} {lo : Nat},
    mapWfFrom d lo m = true → mapWfFrom d lo (mdel m k) = true
  | [], _, _ => rfl
  | p :: t, lo, h => by
    simp only [mapWfFrom, Bool.and_eq_true, decide_eq_true_eq] at h
    unfold mdel
    split
    · exact mapWfFrom_mono (by omega) (mapWfFrom_mdel k h.2)
    · simp only [mapWfFrom, Bool.and_eq_true, decide_eq_true_eq]
      exact ⟨h.1, mapWfFrom_mdel k h.2⟩

theorem mapWfFrom_minsert [DecidableEq α] {d : Nat → α} {k : Nat} {v : α} (hv : v ≠ d k) : ∀ {m : SMap α} {lo : Nat},
    lo ≤ k → (∀ p ∈ m, p.1 ≠ k) → mapWfFrom d lo m = true → mapWfFrom d lo (minsert k v m) = true
  | [], lo, hlo, _, _ => by simp [minsert, mapWfFrom, hlo, hv]
  | p :: t, lo, hlo, hk, h => by
    simp only [mapWfFrom, Bool.and_eq_true, decide_eq_true_eq] at h
    have hp : p.1 ≠ k := hk p (by simp)
    unfold minsert
    split
    · simp only [mapWfFrom, Bool.and_eq_true, decide_eq_true_eq]
      refine ⟨⟨hlo, by simp [hv]⟩, ⟨by omega, h.1.2⟩, h.2⟩
    · simp only [mapWfFrom, Bool.and_eq_true, decide_eq_true_eq]
      exact ⟨h.1, mapWfFrom_minsert hv (by omega) (fun q hq => hk q (by simp [hq])) h.2⟩

/-- A write keeps the canonical form of a map whose key `k` reads as `d k` when it is unlisted. -/
theorem mapWf_mset [DecidableEq α] {d : Nat → α} {m : SMap α} (h : mapWf d m = true) (k : Nat) (v : α) :
    mapWf d (mset (d k) m k v) = true := by
  unfold mset mapWf at *
  split
  · exact mapWfFrom_mdel k h
  · exact mapWfFrom_minsert (by assumption) (Nat.zero_le _) (mdel_keys m k) (mapWfFrom_mdel k h)

theorem mapWf_msetList [DecidableEq α] {d : α} (l : List α) : ∀ {m : SMap α} (k : Nat),
    mapWf (fun _ => d) m = true → mapWf (fun _ => d) (msetList d m k l) = true := by
  induction l with
  | nil => intro m k h; exact h
  | cons v t ih => intro m k h; exact ih (k + 1) (mapWf_mset (d := fun _ => d) h k v)

/-- A map changed by a function that keeps the default. -/
theorem mget_mmap [DecidableEq α] (d : α) (m : SMap α) (f : Nat → α → α) (k : Nat) (h : f k d = d) :
    mget d (mmap d m f) k = f k (mget d m k) := by
  induction m with
  | nil => simp [mmap, h]
  | cons p t ih =>
    have e : mmap d (p :: t) f = mset d (mmap d t f) p.1 (f p.1 p.2) := rfl
    rw [e, mget_mset, mget_cons]
    split
    · subst_vars; rfl
    · exact ih

/-! Dense pieces. -/

@[simp] theorem dense_length (d : α) : ∀ (n : Nat) (m : SMap α) (lo : Nat), (dense d m lo n).length = n
  | 0, _, _ => by simp [dense]
  | n + 1, [], lo => by simp [dense, dense_length d n]
  | n + 1, (k, v) :: t, lo => by
    unfold dense
    split <;> simp [dense_length d n]

theorem sparse_keys [DecidableEq α] (d : α) : ∀ (l : List α) (k : Nat), ∀ p ∈ sparse d k l, k ≤ p.1 ∧ p.1 < k + l.length
  | [], k, p, h => by simp [sparse] at h
  | v :: t, k, p, h => by
    unfold sparse at h
    split at h
    · have := sparse_keys d t (k + 1) p h; simp; omega
    · rcases List.mem_cons.1 h with rfl | h
      · simp
      · have := sparse_keys d t (k + 1) p h; simp; omega

theorem dense_sparse_from [DecidableEq α] (d : α) : ∀ (l : List α) (k : Nat), dense d (sparse d k l) k l.length = l
  | [], k => by simp [dense]
  | v :: t, k => by
    have ih := dense_sparse_from d t (k + 1)
    unfold sparse
    split
    · rename_i hv
      cases hs : sparse d (k + 1) t with
      | nil => rw [List.length_cons, dense, ← hs, ih, hv]
      | cons p u =>
        have hp := sparse_keys d t (k + 1) p (by rw [hs]; simp)
        obtain ⟨a, b⟩ := p
        rw [List.length_cons, dense, if_neg (by simp at hp; omega), ← hs, ih, hv]
    · rw [List.length_cons, dense, if_pos rfl, ih]

theorem mslice_sparse_same [DecidableEq α] (d : α) (l : List α) (lo : Nat) :
    mslice (sparse d lo l) lo l.length = sparse d lo l := by
  unfold mslice
  apply List.filter_eq_self.2
  intro p hp
  have := sparse_keys d l lo p hp
  simp; omega

/-- The part of a map that a replacement wrote is the list, and nothing else of it is left. -/
theorem mslice_mreplace_same [DecidableEq α] (d : α) (m : SMap α) (l : List α) (lo : Nat) :
    mslice (mreplace d m lo l) lo l.length = sparse d lo l := by
  have h := mslice_sparse_same d l lo
  unfold mslice mreplace at *
  rw [List.filter_append, List.filter_append, h, List.filter_filter, List.filter_filter]
  have e1 : (m.filter fun p => (decide (lo ≤ p.1) && decide (p.1 < lo + l.length)) && decide (p.1 < lo)) = [] := by
    apply List.filter_eq_nil_iff.2; intro p _; simp; omega
  have e2 : (m.filter fun p => (decide (lo ≤ p.1) && decide (p.1 < lo + l.length)) && decide (lo + l.length ≤ p.1)) = [] := by
    apply List.filter_eq_nil_iff.2; intro p _; simp
  rw [e1, e2]; simp

theorem dense_mreplace_same [DecidableEq α] (d : α) (m : SMap α) (l : List α) (lo n : Nat) (h : l.length = n) :
    dense d (mslice (mreplace d m lo l) lo n) lo n = l := by
  subst h; rw [mslice_mreplace_same, dense_sparse_from]

/-- A part that the replacement does not touch is as before. -/
theorem mslice_mreplace_other [DecidableEq α] (d : α) (m : SMap α) (l : List α) (lo lo' n : Nat)
    (h : lo' + n ≤ lo ∨ lo + l.length ≤ lo') : mslice (mreplace d m lo l) lo' n = mslice m lo' n := by
  unfold mslice mreplace
  rw [List.filter_append, List.filter_append, List.filter_filter, List.filter_filter]
  have es : ((sparse d lo l).filter fun p => decide (lo' ≤ p.1) && decide (p.1 < lo' + n)) = [] := by
    apply List.filter_eq_nil_iff.2; intro p hp
    have := sparse_keys d l lo p hp; simp; omega
  rw [es]
  rcases h with h | h
  · have e1 : (m.filter fun p => (decide (lo' ≤ p.1) && decide (p.1 < lo' + n)) && decide (p.1 < lo)) =
        m.filter fun p => decide (lo' ≤ p.1) && decide (p.1 < lo' + n) := by
      apply List.filter_congr; intro p _
      rw [Bool.eq_iff_iff]; simp; omega
    have e2 : (m.filter fun p => (decide (lo' ≤ p.1) && decide (p.1 < lo' + n)) && decide (lo + l.length ≤ p.1)) = [] := by
      apply List.filter_eq_nil_iff.2; intro p _; simp; omega
    rw [e1, e2]; simp
  · have e1 : (m.filter fun p => (decide (lo' ≤ p.1) && decide (p.1 < lo' + n)) && decide (p.1 < lo)) = [] := by
      apply List.filter_eq_nil_iff.2; intro p _; simp; omega
    have e2 : (m.filter fun p => (decide (lo' ≤ p.1) && decide (p.1 < lo' + n)) && decide (lo + l.length ≤ p.1)) =
        m.filter fun p => decide (lo' ≤ p.1) && decide (p.1 < lo' + n) := by
      apply List.filter_congr; intro p _
      rw [Bool.eq_iff_iff]; simp; omega
    rw [e1, e2]; simp

end Sys2Proof.Machine
end

