-- ==== Sys2Proof/Laws/State.lean ====
section
/-! SUPPORT. What each elementary update of a state changes, field by field, and reads after writes of registers, tables
and memory. -/
namespace Sys2Proof.Machine

/-! setReg changes regs alone. -/

@[simp] theorem State.setReg_pending (s : State) (r : Reg) (i : Nat) (v : W32) : (s.setReg r i v).pending = s.pending := rfl
@[simp] theorem State.setReg_power (s : State) (r : Reg) (i : Nat) (v : W32) : (s.setReg r i v).power = s.power := rfl
@[simp] theorem State.setReg_clock (s : State) (r : Reg) (i : Nat) (v : W32) : (s.setReg r i v).clock = s.clock := rfl
@[simp] theorem State.setReg_flash (s : State) (r : Reg) (i : Nat) (v : W32) : (s.setReg r i v).flash = s.flash := rfl
@[simp] theorem State.setReg_mon (s : State) (r : Reg) (i : Nat) (v : W32) : (s.setReg r i v).mon = s.mon := rfl
@[simp] theorem State.setReg_staged (s : State) (r : Reg) (i : Nat) (v : W32) : (s.setReg r i v).staged = s.staged := rfl
@[simp] theorem State.setReg_parity (s : State) (r : Reg) (i : Nat) (v : W32) : (s.setReg r i v).parity = s.parity := rfl
@[simp] theorem State.setReg_mem (s : State) (r : Reg) (i : Nat) (v : W32) : (s.setReg r i v).mem = s.mem := rfl
@[simp] theorem State.setReg_homes (s : State) (r : Reg) (i : Nat) (v : W32) : (s.setReg r i v).homes = s.homes := rfl
@[simp] theorem State.setReg_fills (s : State) (r : Reg) (i : Nat) (v : W32) : (s.setReg r i v).fills = s.fills := rfl
@[simp] theorem State.setReg_moves (s : State) (r : Reg) (i : Nat) (v : W32) : (s.setReg r i v).moves = s.moves := rfl
@[simp] theorem State.setReg_coreMap (s : State) (r : Reg) (i : Nat) (v : W32) : (s.setReg r i v).coreMap = s.coreMap := rfl
@[simp] theorem State.setReg_cores (s : State) (r : Reg) (i : Nat) (v : W32) : (s.setReg r i v).cores = s.cores := rfl
@[simp] theorem State.setReg_queues (s : State) (r : Reg) (i : Nat) (v : W32) : (s.setReg r i v).queues = s.queues := rfl
@[simp] theorem State.setReg_units (s : State) (r : Reg) (i : Nat) (v : W32) : (s.setReg r i v).units = s.units := rfl
@[simp] theorem State.setReg_ports (s : State) (r : Reg) (i : Nat) (v : W32) : (s.setReg r i v).ports = s.ports := rfl
@[simp] theorem State.setReg_tunil (s : State) (r : Reg) (i : Nat) (v : W32) : (s.setReg r i v).tunil = s.tunil := rfl
@[simp] theorem State.setReg_caravan (s : State) (r : Reg) (i : Nat) (v : W32) : (s.setReg r i v).caravan = s.caravan := rfl
@[simp] theorem State.setReg_kiln (s : State) (r : Reg) (i : Nat) (v : W32) : (s.setReg r i v).kiln = s.kiln := rfl
@[simp] theorem State.setReg_codec (s : State) (r : Reg) (i : Nat) (v : W32) : (s.setReg r i v).codec = s.codec := rfl
@[simp] theorem State.setReg_host (s : State) (r : Reg) (i : Nat) (v : W32) : (s.setReg r i v).host = s.host := rfl
@[simp] theorem State.setReg_cfg (s : State) (r : Reg) (i : Nat) (v : W32) : (s.setReg r i v).cfg = s.cfg := rfl
@[simp] theorem State.setReg_serial (s : State) (r : Reg) (i : Nat) (v : W32) : (s.setReg r i v).serial = s.serial := rfl
@[simp] theorem State.setReg_freeCtr (s : State) (r : Reg) (i : Nat) (v : W32) : (s.setReg r i v).freeCtr = s.freeCtr := rfl
@[simp] theorem State.setReg_sent (s : State) (r : Reg) (i : Nat) (v : W32) : (s.setReg r i v).sent = s.sent := rfl

/-! emit changes sent alone. -/

@[simp] theorem State.emit_pending (s : State) (e : Emit) : (s.emit e).pending = s.pending := rfl
@[simp] theorem State.emit_power (s : State) (e : Emit) : (s.emit e).power = s.power := rfl
@[simp] theorem State.emit_clock (s : State) (e : Emit) : (s.emit e).clock = s.clock := rfl
@[simp] theorem State.emit_flash (s : State) (e : Emit) : (s.emit e).flash = s.flash := rfl
@[simp] theorem State.emit_mon (s : State) (e : Emit) : (s.emit e).mon = s.mon := rfl
@[simp] theorem State.emit_staged (s : State) (e : Emit) : (s.emit e).staged = s.staged := rfl
@[simp] theorem State.emit_parity (s : State) (e : Emit) : (s.emit e).parity = s.parity := rfl
@[simp] theorem State.emit_regs (s : State) (e : Emit) : (s.emit e).regs = s.regs := rfl
@[simp] theorem State.emit_mem (s : State) (e : Emit) : (s.emit e).mem = s.mem := rfl
@[simp] theorem State.emit_homes (s : State) (e : Emit) : (s.emit e).homes = s.homes := rfl
@[simp] theorem State.emit_fills (s : State) (e : Emit) : (s.emit e).fills = s.fills := rfl
@[simp] theorem State.emit_moves (s : State) (e : Emit) : (s.emit e).moves = s.moves := rfl
@[simp] theorem State.emit_coreMap (s : State) (e : Emit) : (s.emit e).coreMap = s.coreMap := rfl
@[simp] theorem State.emit_cores (s : State) (e : Emit) : (s.emit e).cores = s.cores := rfl
@[simp] theorem State.emit_queues (s : State) (e : Emit) : (s.emit e).queues = s.queues := rfl
@[simp] theorem State.emit_units (s : State) (e : Emit) : (s.emit e).units = s.units := rfl
@[simp] theorem State.emit_ports (s : State) (e : Emit) : (s.emit e).ports = s.ports := rfl
@[simp] theorem State.emit_tunil (s : State) (e : Emit) : (s.emit e).tunil = s.tunil := rfl
@[simp] theorem State.emit_caravan (s : State) (e : Emit) : (s.emit e).caravan = s.caravan := rfl
@[simp] theorem State.emit_kiln (s : State) (e : Emit) : (s.emit e).kiln = s.kiln := rfl
@[simp] theorem State.emit_codec (s : State) (e : Emit) : (s.emit e).codec = s.codec := rfl
@[simp] theorem State.emit_host (s : State) (e : Emit) : (s.emit e).host = s.host := rfl
@[simp] theorem State.emit_cfg (s : State) (e : Emit) : (s.emit e).cfg = s.cfg := rfl
@[simp] theorem State.emit_serial (s : State) (e : Emit) : (s.emit e).serial = s.serial := rfl
@[simp] theorem State.emit_freeCtr (s : State) (e : Emit) : (s.emit e).freeCtr = s.freeCtr := rfl

/-! setCore changes cores alone. -/

@[simp] theorem State.setCore_pending (s : State) (n : Nat) (c : Core) : (s.setCore n c).pending = s.pending := rfl
@[simp] theorem State.setCore_power (s : State) (n : Nat) (c : Core) : (s.setCore n c).power = s.power := rfl
@[simp] theorem State.setCore_clock (s : State) (n : Nat) (c : Core) : (s.setCore n c).clock = s.clock := rfl
@[simp] theorem State.setCore_flash (s : State) (n : Nat) (c : Core) : (s.setCore n c).flash = s.flash := rfl
@[simp] theorem State.setCore_mon (s : State) (n : Nat) (c : Core) : (s.setCore n c).mon = s.mon := rfl
@[simp] theorem State.setCore_staged (s : State) (n : Nat) (c : Core) : (s.setCore n c).staged = s.staged := rfl
@[simp] theorem State.setCore_parity (s : State) (n : Nat) (c : Core) : (s.setCore n c).parity = s.parity := rfl
@[simp] theorem State.setCore_regs (s : State) (n : Nat) (c : Core) : (s.setCore n c).regs = s.regs := rfl
@[simp] theorem State.setCore_mem (s : State) (n : Nat) (c : Core) : (s.setCore n c).mem = s.mem := rfl
@[simp] theorem State.setCore_homes (s : State) (n : Nat) (c : Core) : (s.setCore n c).homes = s.homes := rfl
@[simp] theorem State.setCore_fills (s : State) (n : Nat) (c : Core) : (s.setCore n c).fills = s.fills := rfl
@[simp] theorem State.setCore_moves (s : State) (n : Nat) (c : Core) : (s.setCore n c).moves = s.moves := rfl
@[simp] theorem State.setCore_coreMap (s : State) (n : Nat) (c : Core) : (s.setCore n c).coreMap = s.coreMap := rfl
@[simp] theorem State.setCore_queues (s : State) (n : Nat) (c : Core) : (s.setCore n c).queues = s.queues := rfl
@[simp] theorem State.setCore_units (s : State) (n : Nat) (c : Core) : (s.setCore n c).units = s.units := rfl
@[simp] theorem State.setCore_ports (s : State) (n : Nat) (c : Core) : (s.setCore n c).ports = s.ports := rfl
@[simp] theorem State.setCore_tunil (s : State) (n : Nat) (c : Core) : (s.setCore n c).tunil = s.tunil := rfl
@[simp] theorem State.setCore_caravan (s : State) (n : Nat) (c : Core) : (s.setCore n c).caravan = s.caravan := rfl
@[simp] theorem State.setCore_kiln (s : State) (n : Nat) (c : Core) : (s.setCore n c).kiln = s.kiln := rfl
@[simp] theorem State.setCore_codec (s : State) (n : Nat) (c : Core) : (s.setCore n c).codec = s.codec := rfl
@[simp] theorem State.setCore_host (s : State) (n : Nat) (c : Core) : (s.setCore n c).host = s.host := rfl
@[simp] theorem State.setCore_cfg (s : State) (n : Nat) (c : Core) : (s.setCore n c).cfg = s.cfg := rfl
@[simp] theorem State.setCore_serial (s : State) (n : Nat) (c : Core) : (s.setCore n c).serial = s.serial := rfl
@[simp] theorem State.setCore_freeCtr (s : State) (n : Nat) (c : Core) : (s.setCore n c).freeCtr = s.freeCtr := rfl
@[simp] theorem State.setCore_sent (s : State) (n : Nat) (c : Core) : (s.setCore n c).sent = s.sent := rfl

/-! setQueue changes queues alone. -/

@[simp] theorem State.setQueue_pending (s : State) (k : Nat) (q : Queue) : (s.setQueue k q).pending = s.pending := rfl
@[simp] theorem State.setQueue_power (s : State) (k : Nat) (q : Queue) : (s.setQueue k q).power = s.power := rfl
@[simp] theorem State.setQueue_clock (s : State) (k : Nat) (q : Queue) : (s.setQueue k q).clock = s.clock := rfl
@[simp] theorem State.setQueue_flash (s : State) (k : Nat) (q : Queue) : (s.setQueue k q).flash = s.flash := rfl
@[simp] theorem State.setQueue_mon (s : State) (k : Nat) (q : Queue) : (s.setQueue k q).mon = s.mon := rfl
@[simp] theorem State.setQueue_staged (s : State) (k : Nat) (q : Queue) : (s.setQueue k q).staged = s.staged := rfl
@[simp] theorem State.setQueue_parity (s : State) (k : Nat) (q : Queue) : (s.setQueue k q).parity = s.parity := rfl
@[simp] theorem State.setQueue_regs (s : State) (k : Nat) (q : Queue) : (s.setQueue k q).regs = s.regs := rfl
@[simp] theorem State.setQueue_mem (s : State) (k : Nat) (q : Queue) : (s.setQueue k q).mem = s.mem := rfl
@[simp] theorem State.setQueue_homes (s : State) (k : Nat) (q : Queue) : (s.setQueue k q).homes = s.homes := rfl
@[simp] theorem State.setQueue_fills (s : State) (k : Nat) (q : Queue) : (s.setQueue k q).fills = s.fills := rfl
@[simp] theorem State.setQueue_moves (s : State) (k : Nat) (q : Queue) : (s.setQueue k q).moves = s.moves := rfl
@[simp] theorem State.setQueue_coreMap (s : State) (k : Nat) (q : Queue) : (s.setQueue k q).coreMap = s.coreMap := rfl
@[simp] theorem State.setQueue_cores (s : State) (k : Nat) (q : Queue) : (s.setQueue k q).cores = s.cores := rfl
@[simp] theorem State.setQueue_units (s : State) (k : Nat) (q : Queue) : (s.setQueue k q).units = s.units := rfl
@[simp] theorem State.setQueue_ports (s : State) (k : Nat) (q : Queue) : (s.setQueue k q).ports = s.ports := rfl
@[simp] theorem State.setQueue_tunil (s : State) (k : Nat) (q : Queue) : (s.setQueue k q).tunil = s.tunil := rfl
@[simp] theorem State.setQueue_caravan (s : State) (k : Nat) (q : Queue) : (s.setQueue k q).caravan = s.caravan := rfl
@[simp] theorem State.setQueue_kiln (s : State) (k : Nat) (q : Queue) : (s.setQueue k q).kiln = s.kiln := rfl
@[simp] theorem State.setQueue_codec (s : State) (k : Nat) (q : Queue) : (s.setQueue k q).codec = s.codec := rfl
@[simp] theorem State.setQueue_host (s : State) (k : Nat) (q : Queue) : (s.setQueue k q).host = s.host := rfl
@[simp] theorem State.setQueue_cfg (s : State) (k : Nat) (q : Queue) : (s.setQueue k q).cfg = s.cfg := rfl
@[simp] theorem State.setQueue_serial (s : State) (k : Nat) (q : Queue) : (s.setQueue k q).serial = s.serial := rfl
@[simp] theorem State.setQueue_freeCtr (s : State) (k : Nat) (q : Queue) : (s.setQueue k q).freeCtr = s.freeCtr := rfl
@[simp] theorem State.setQueue_sent (s : State) (k : Nat) (q : Queue) : (s.setQueue k q).sent = s.sent := rfl

/-! setUnit changes units alone. -/

@[simp] theorem State.setUnit_pending (s : State) (u : Nat) (x : SharedUnit) : (s.setUnit u x).pending = s.pending := rfl
@[simp] theorem State.setUnit_power (s : State) (u : Nat) (x : SharedUnit) : (s.setUnit u x).power = s.power := rfl
@[simp] theorem State.setUnit_clock (s : State) (u : Nat) (x : SharedUnit) : (s.setUnit u x).clock = s.clock := rfl
@[simp] theorem State.setUnit_flash (s : State) (u : Nat) (x : SharedUnit) : (s.setUnit u x).flash = s.flash := rfl
@[simp] theorem State.setUnit_mon (s : State) (u : Nat) (x : SharedUnit) : (s.setUnit u x).mon = s.mon := rfl
@[simp] theorem State.setUnit_staged (s : State) (u : Nat) (x : SharedUnit) : (s.setUnit u x).staged = s.staged := rfl
@[simp] theorem State.setUnit_parity (s : State) (u : Nat) (x : SharedUnit) : (s.setUnit u x).parity = s.parity := rfl
@[simp] theorem State.setUnit_regs (s : State) (u : Nat) (x : SharedUnit) : (s.setUnit u x).regs = s.regs := rfl
@[simp] theorem State.setUnit_mem (s : State) (u : Nat) (x : SharedUnit) : (s.setUnit u x).mem = s.mem := rfl
@[simp] theorem State.setUnit_homes (s : State) (u : Nat) (x : SharedUnit) : (s.setUnit u x).homes = s.homes := rfl
@[simp] theorem State.setUnit_fills (s : State) (u : Nat) (x : SharedUnit) : (s.setUnit u x).fills = s.fills := rfl
@[simp] theorem State.setUnit_moves (s : State) (u : Nat) (x : SharedUnit) : (s.setUnit u x).moves = s.moves := rfl
@[simp] theorem State.setUnit_coreMap (s : State) (u : Nat) (x : SharedUnit) : (s.setUnit u x).coreMap = s.coreMap := rfl
@[simp] theorem State.setUnit_cores (s : State) (u : Nat) (x : SharedUnit) : (s.setUnit u x).cores = s.cores := rfl
@[simp] theorem State.setUnit_queues (s : State) (u : Nat) (x : SharedUnit) : (s.setUnit u x).queues = s.queues := rfl
@[simp] theorem State.setUnit_ports (s : State) (u : Nat) (x : SharedUnit) : (s.setUnit u x).ports = s.ports := rfl
@[simp] theorem State.setUnit_tunil (s : State) (u : Nat) (x : SharedUnit) : (s.setUnit u x).tunil = s.tunil := rfl
@[simp] theorem State.setUnit_caravan (s : State) (u : Nat) (x : SharedUnit) : (s.setUnit u x).caravan = s.caravan := rfl
@[simp] theorem State.setUnit_kiln (s : State) (u : Nat) (x : SharedUnit) : (s.setUnit u x).kiln = s.kiln := rfl
@[simp] theorem State.setUnit_codec (s : State) (u : Nat) (x : SharedUnit) : (s.setUnit u x).codec = s.codec := rfl
@[simp] theorem State.setUnit_host (s : State) (u : Nat) (x : SharedUnit) : (s.setUnit u x).host = s.host := rfl
@[simp] theorem State.setUnit_cfg (s : State) (u : Nat) (x : SharedUnit) : (s.setUnit u x).cfg = s.cfg := rfl
@[simp] theorem State.setUnit_serial (s : State) (u : Nat) (x : SharedUnit) : (s.setUnit u x).serial = s.serial := rfl
@[simp] theorem State.setUnit_freeCtr (s : State) (u : Nat) (x : SharedUnit) : (s.setUnit u x).freeCtr = s.freeCtr := rfl
@[simp] theorem State.setUnit_sent (s : State) (u : Nat) (x : SharedUnit) : (s.setUnit u x).sent = s.sent := rfl

/-! setPort changes ports alone. -/

@[simp] theorem State.setPort_pending (s : State) (p : Nat) (x : Port) : (s.setPort p x).pending = s.pending := rfl
@[simp] theorem State.setPort_power (s : State) (p : Nat) (x : Port) : (s.setPort p x).power = s.power := rfl
@[simp] theorem State.setPort_clock (s : State) (p : Nat) (x : Port) : (s.setPort p x).clock = s.clock := rfl
@[simp] theorem State.setPort_flash (s : State) (p : Nat) (x : Port) : (s.setPort p x).flash = s.flash := rfl
@[simp] theorem State.setPort_mon (s : State) (p : Nat) (x : Port) : (s.setPort p x).mon = s.mon := rfl
@[simp] theorem State.setPort_staged (s : State) (p : Nat) (x : Port) : (s.setPort p x).staged = s.staged := rfl
@[simp] theorem State.setPort_parity (s : State) (p : Nat) (x : Port) : (s.setPort p x).parity = s.parity := rfl
@[simp] theorem State.setPort_regs (s : State) (p : Nat) (x : Port) : (s.setPort p x).regs = s.regs := rfl
@[simp] theorem State.setPort_mem (s : State) (p : Nat) (x : Port) : (s.setPort p x).mem = s.mem := rfl
@[simp] theorem State.setPort_homes (s : State) (p : Nat) (x : Port) : (s.setPort p x).homes = s.homes := rfl
@[simp] theorem State.setPort_fills (s : State) (p : Nat) (x : Port) : (s.setPort p x).fills = s.fills := rfl
@[simp] theorem State.setPort_moves (s : State) (p : Nat) (x : Port) : (s.setPort p x).moves = s.moves := rfl
@[simp] theorem State.setPort_coreMap (s : State) (p : Nat) (x : Port) : (s.setPort p x).coreMap = s.coreMap := rfl
@[simp] theorem State.setPort_cores (s : State) (p : Nat) (x : Port) : (s.setPort p x).cores = s.cores := rfl
@[simp] theorem State.setPort_queues (s : State) (p : Nat) (x : Port) : (s.setPort p x).queues = s.queues := rfl
@[simp] theorem State.setPort_units (s : State) (p : Nat) (x : Port) : (s.setPort p x).units = s.units := rfl
@[simp] theorem State.setPort_tunil (s : State) (p : Nat) (x : Port) : (s.setPort p x).tunil = s.tunil := rfl
@[simp] theorem State.setPort_caravan (s : State) (p : Nat) (x : Port) : (s.setPort p x).caravan = s.caravan := rfl
@[simp] theorem State.setPort_kiln (s : State) (p : Nat) (x : Port) : (s.setPort p x).kiln = s.kiln := rfl
@[simp] theorem State.setPort_codec (s : State) (p : Nat) (x : Port) : (s.setPort p x).codec = s.codec := rfl
@[simp] theorem State.setPort_host (s : State) (p : Nat) (x : Port) : (s.setPort p x).host = s.host := rfl
@[simp] theorem State.setPort_cfg (s : State) (p : Nat) (x : Port) : (s.setPort p x).cfg = s.cfg := rfl
@[simp] theorem State.setPort_serial (s : State) (p : Nat) (x : Port) : (s.setPort p x).serial = s.serial := rfl
@[simp] theorem State.setPort_freeCtr (s : State) (p : Nat) (x : Port) : (s.setPort p x).freeCtr = s.freeCtr := rfl
@[simp] theorem State.setPort_sent (s : State) (p : Nat) (x : Port) : (s.setPort p x).sent = s.sent := rfl

/-! setRoute changes tunil alone. -/

@[simp] theorem State.setRoute_pending (s : State) (k : Nat) (x : Route) : (s.setRoute k x).pending = s.pending := rfl
@[simp] theorem State.setRoute_power (s : State) (k : Nat) (x : Route) : (s.setRoute k x).power = s.power := rfl
@[simp] theorem State.setRoute_clock (s : State) (k : Nat) (x : Route) : (s.setRoute k x).clock = s.clock := rfl
@[simp] theorem State.setRoute_flash (s : State) (k : Nat) (x : Route) : (s.setRoute k x).flash = s.flash := rfl
@[simp] theorem State.setRoute_mon (s : State) (k : Nat) (x : Route) : (s.setRoute k x).mon = s.mon := rfl
@[simp] theorem State.setRoute_staged (s : State) (k : Nat) (x : Route) : (s.setRoute k x).staged = s.staged := rfl
@[simp] theorem State.setRoute_parity (s : State) (k : Nat) (x : Route) : (s.setRoute k x).parity = s.parity := rfl
@[simp] theorem State.setRoute_regs (s : State) (k : Nat) (x : Route) : (s.setRoute k x).regs = s.regs := rfl
@[simp] theorem State.setRoute_mem (s : State) (k : Nat) (x : Route) : (s.setRoute k x).mem = s.mem := rfl
@[simp] theorem State.setRoute_homes (s : State) (k : Nat) (x : Route) : (s.setRoute k x).homes = s.homes := rfl
@[simp] theorem State.setRoute_fills (s : State) (k : Nat) (x : Route) : (s.setRoute k x).fills = s.fills := rfl
@[simp] theorem State.setRoute_moves (s : State) (k : Nat) (x : Route) : (s.setRoute k x).moves = s.moves := rfl
@[simp] theorem State.setRoute_coreMap (s : State) (k : Nat) (x : Route) : (s.setRoute k x).coreMap = s.coreMap := rfl
@[simp] theorem State.setRoute_cores (s : State) (k : Nat) (x : Route) : (s.setRoute k x).cores = s.cores := rfl
@[simp] theorem State.setRoute_queues (s : State) (k : Nat) (x : Route) : (s.setRoute k x).queues = s.queues := rfl
@[simp] theorem State.setRoute_units (s : State) (k : Nat) (x : Route) : (s.setRoute k x).units = s.units := rfl
@[simp] theorem State.setRoute_ports (s : State) (k : Nat) (x : Route) : (s.setRoute k x).ports = s.ports := rfl
@[simp] theorem State.setRoute_caravan (s : State) (k : Nat) (x : Route) : (s.setRoute k x).caravan = s.caravan := rfl
@[simp] theorem State.setRoute_kiln (s : State) (k : Nat) (x : Route) : (s.setRoute k x).kiln = s.kiln := rfl
@[simp] theorem State.setRoute_codec (s : State) (k : Nat) (x : Route) : (s.setRoute k x).codec = s.codec := rfl
@[simp] theorem State.setRoute_host (s : State) (k : Nat) (x : Route) : (s.setRoute k x).host = s.host := rfl
@[simp] theorem State.setRoute_cfg (s : State) (k : Nat) (x : Route) : (s.setRoute k x).cfg = s.cfg := rfl
@[simp] theorem State.setRoute_serial (s : State) (k : Nat) (x : Route) : (s.setRoute k x).serial = s.serial := rfl
@[simp] theorem State.setRoute_freeCtr (s : State) (k : Nat) (x : Route) : (s.setRoute k x).freeCtr = s.freeCtr := rfl
@[simp] theorem State.setRoute_sent (s : State) (k : Nat) (x : Route) : (s.setRoute k x).sent = s.sent := rfl

/-! setKq changes kiln alone. -/

@[simp] theorem State.setKq_pending (s : State) (k : Nat) (x : KQueue) : (s.setKq k x).pending = s.pending := rfl
@[simp] theorem State.setKq_power (s : State) (k : Nat) (x : KQueue) : (s.setKq k x).power = s.power := rfl
@[simp] theorem State.setKq_clock (s : State) (k : Nat) (x : KQueue) : (s.setKq k x).clock = s.clock := rfl
@[simp] theorem State.setKq_flash (s : State) (k : Nat) (x : KQueue) : (s.setKq k x).flash = s.flash := rfl
@[simp] theorem State.setKq_mon (s : State) (k : Nat) (x : KQueue) : (s.setKq k x).mon = s.mon := rfl
@[simp] theorem State.setKq_staged (s : State) (k : Nat) (x : KQueue) : (s.setKq k x).staged = s.staged := rfl
@[simp] theorem State.setKq_parity (s : State) (k : Nat) (x : KQueue) : (s.setKq k x).parity = s.parity := rfl
@[simp] theorem State.setKq_regs (s : State) (k : Nat) (x : KQueue) : (s.setKq k x).regs = s.regs := rfl
@[simp] theorem State.setKq_mem (s : State) (k : Nat) (x : KQueue) : (s.setKq k x).mem = s.mem := rfl
@[simp] theorem State.setKq_homes (s : State) (k : Nat) (x : KQueue) : (s.setKq k x).homes = s.homes := rfl
@[simp] theorem State.setKq_fills (s : State) (k : Nat) (x : KQueue) : (s.setKq k x).fills = s.fills := rfl
@[simp] theorem State.setKq_moves (s : State) (k : Nat) (x : KQueue) : (s.setKq k x).moves = s.moves := rfl
@[simp] theorem State.setKq_coreMap (s : State) (k : Nat) (x : KQueue) : (s.setKq k x).coreMap = s.coreMap := rfl
@[simp] theorem State.setKq_cores (s : State) (k : Nat) (x : KQueue) : (s.setKq k x).cores = s.cores := rfl
@[simp] theorem State.setKq_queues (s : State) (k : Nat) (x : KQueue) : (s.setKq k x).queues = s.queues := rfl
@[simp] theorem State.setKq_units (s : State) (k : Nat) (x : KQueue) : (s.setKq k x).units = s.units := rfl
@[simp] theorem State.setKq_ports (s : State) (k : Nat) (x : KQueue) : (s.setKq k x).ports = s.ports := rfl
@[simp] theorem State.setKq_tunil (s : State) (k : Nat) (x : KQueue) : (s.setKq k x).tunil = s.tunil := rfl
@[simp] theorem State.setKq_caravan (s : State) (k : Nat) (x : KQueue) : (s.setKq k x).caravan = s.caravan := rfl
@[simp] theorem State.setKq_codec (s : State) (k : Nat) (x : KQueue) : (s.setKq k x).codec = s.codec := rfl
@[simp] theorem State.setKq_host (s : State) (k : Nat) (x : KQueue) : (s.setKq k x).host = s.host := rfl
@[simp] theorem State.setKq_cfg (s : State) (k : Nat) (x : KQueue) : (s.setKq k x).cfg = s.cfg := rfl
@[simp] theorem State.setKq_serial (s : State) (k : Nat) (x : KQueue) : (s.setKq k x).serial = s.serial := rfl
@[simp] theorem State.setKq_freeCtr (s : State) (k : Nat) (x : KQueue) : (s.setKq k x).freeCtr = s.freeCtr := rfl
@[simp] theorem State.setKq_sent (s : State) (k : Nat) (x : KQueue) : (s.setKq k x).sent = s.sent := rfl

/-! setDec changes codec alone. -/

@[simp] theorem State.setDec_pending (s : State) (c : Nat) (x : DecCtx) : (s.setDec c x).pending = s.pending := rfl
@[simp] theorem State.setDec_power (s : State) (c : Nat) (x : DecCtx) : (s.setDec c x).power = s.power := rfl
@[simp] theorem State.setDec_clock (s : State) (c : Nat) (x : DecCtx) : (s.setDec c x).clock = s.clock := rfl
@[simp] theorem State.setDec_flash (s : State) (c : Nat) (x : DecCtx) : (s.setDec c x).flash = s.flash := rfl
@[simp] theorem State.setDec_mon (s : State) (c : Nat) (x : DecCtx) : (s.setDec c x).mon = s.mon := rfl
@[simp] theorem State.setDec_staged (s : State) (c : Nat) (x : DecCtx) : (s.setDec c x).staged = s.staged := rfl
@[simp] theorem State.setDec_parity (s : State) (c : Nat) (x : DecCtx) : (s.setDec c x).parity = s.parity := rfl
@[simp] theorem State.setDec_regs (s : State) (c : Nat) (x : DecCtx) : (s.setDec c x).regs = s.regs := rfl
@[simp] theorem State.setDec_mem (s : State) (c : Nat) (x : DecCtx) : (s.setDec c x).mem = s.mem := rfl
@[simp] theorem State.setDec_homes (s : State) (c : Nat) (x : DecCtx) : (s.setDec c x).homes = s.homes := rfl
@[simp] theorem State.setDec_fills (s : State) (c : Nat) (x : DecCtx) : (s.setDec c x).fills = s.fills := rfl
@[simp] theorem State.setDec_moves (s : State) (c : Nat) (x : DecCtx) : (s.setDec c x).moves = s.moves := rfl
@[simp] theorem State.setDec_coreMap (s : State) (c : Nat) (x : DecCtx) : (s.setDec c x).coreMap = s.coreMap := rfl
@[simp] theorem State.setDec_cores (s : State) (c : Nat) (x : DecCtx) : (s.setDec c x).cores = s.cores := rfl
@[simp] theorem State.setDec_queues (s : State) (c : Nat) (x : DecCtx) : (s.setDec c x).queues = s.queues := rfl
@[simp] theorem State.setDec_units (s : State) (c : Nat) (x : DecCtx) : (s.setDec c x).units = s.units := rfl
@[simp] theorem State.setDec_ports (s : State) (c : Nat) (x : DecCtx) : (s.setDec c x).ports = s.ports := rfl
@[simp] theorem State.setDec_tunil (s : State) (c : Nat) (x : DecCtx) : (s.setDec c x).tunil = s.tunil := rfl
@[simp] theorem State.setDec_caravan (s : State) (c : Nat) (x : DecCtx) : (s.setDec c x).caravan = s.caravan := rfl
@[simp] theorem State.setDec_kiln (s : State) (c : Nat) (x : DecCtx) : (s.setDec c x).kiln = s.kiln := rfl
@[simp] theorem State.setDec_host (s : State) (c : Nat) (x : DecCtx) : (s.setDec c x).host = s.host := rfl
@[simp] theorem State.setDec_cfg (s : State) (c : Nat) (x : DecCtx) : (s.setDec c x).cfg = s.cfg := rfl
@[simp] theorem State.setDec_serial (s : State) (c : Nat) (x : DecCtx) : (s.setDec c x).serial = s.serial := rfl
@[simp] theorem State.setDec_freeCtr (s : State) (c : Nat) (x : DecCtx) : (s.setDec c x).freeCtr = s.freeCtr := rfl
@[simp] theorem State.setDec_sent (s : State) (c : Nat) (x : DecCtx) : (s.setDec c x).sent = s.sent := rfl

/-! setEnc changes codec alone. -/

@[simp] theorem State.setEnc_pending (s : State) (e : Nat) (x : EncCtx) : (s.setEnc e x).pending = s.pending := rfl
@[simp] theorem State.setEnc_power (s : State) (e : Nat) (x : EncCtx) : (s.setEnc e x).power = s.power := rfl
@[simp] theorem State.setEnc_clock (s : State) (e : Nat) (x : EncCtx) : (s.setEnc e x).clock = s.clock := rfl
@[simp] theorem State.setEnc_flash (s : State) (e : Nat) (x : EncCtx) : (s.setEnc e x).flash = s.flash := rfl
@[simp] theorem State.setEnc_mon (s : State) (e : Nat) (x : EncCtx) : (s.setEnc e x).mon = s.mon := rfl
@[simp] theorem State.setEnc_staged (s : State) (e : Nat) (x : EncCtx) : (s.setEnc e x).staged = s.staged := rfl
@[simp] theorem State.setEnc_parity (s : State) (e : Nat) (x : EncCtx) : (s.setEnc e x).parity = s.parity := rfl
@[simp] theorem State.setEnc_regs (s : State) (e : Nat) (x : EncCtx) : (s.setEnc e x).regs = s.regs := rfl
@[simp] theorem State.setEnc_mem (s : State) (e : Nat) (x : EncCtx) : (s.setEnc e x).mem = s.mem := rfl
@[simp] theorem State.setEnc_homes (s : State) (e : Nat) (x : EncCtx) : (s.setEnc e x).homes = s.homes := rfl
@[simp] theorem State.setEnc_fills (s : State) (e : Nat) (x : EncCtx) : (s.setEnc e x).fills = s.fills := rfl
@[simp] theorem State.setEnc_moves (s : State) (e : Nat) (x : EncCtx) : (s.setEnc e x).moves = s.moves := rfl
@[simp] theorem State.setEnc_coreMap (s : State) (e : Nat) (x : EncCtx) : (s.setEnc e x).coreMap = s.coreMap := rfl
@[simp] theorem State.setEnc_cores (s : State) (e : Nat) (x : EncCtx) : (s.setEnc e x).cores = s.cores := rfl
@[simp] theorem State.setEnc_queues (s : State) (e : Nat) (x : EncCtx) : (s.setEnc e x).queues = s.queues := rfl
@[simp] theorem State.setEnc_units (s : State) (e : Nat) (x : EncCtx) : (s.setEnc e x).units = s.units := rfl
@[simp] theorem State.setEnc_ports (s : State) (e : Nat) (x : EncCtx) : (s.setEnc e x).ports = s.ports := rfl
@[simp] theorem State.setEnc_tunil (s : State) (e : Nat) (x : EncCtx) : (s.setEnc e x).tunil = s.tunil := rfl
@[simp] theorem State.setEnc_caravan (s : State) (e : Nat) (x : EncCtx) : (s.setEnc e x).caravan = s.caravan := rfl
@[simp] theorem State.setEnc_kiln (s : State) (e : Nat) (x : EncCtx) : (s.setEnc e x).kiln = s.kiln := rfl
@[simp] theorem State.setEnc_host (s : State) (e : Nat) (x : EncCtx) : (s.setEnc e x).host = s.host := rfl
@[simp] theorem State.setEnc_cfg (s : State) (e : Nat) (x : EncCtx) : (s.setEnc e x).cfg = s.cfg := rfl
@[simp] theorem State.setEnc_serial (s : State) (e : Nat) (x : EncCtx) : (s.setEnc e x).serial = s.serial := rfl
@[simp] theorem State.setEnc_freeCtr (s : State) (e : Nat) (x : EncCtx) : (s.setEnc e x).freeCtr = s.freeCtr := rfl
@[simp] theorem State.setEnc_sent (s : State) (e : Nat) (x : EncCtx) : (s.setEnc e x).sent = s.sent := rfl

/-! setHome changes homes alone. -/

@[simp] theorem State.setHome_pending (s : State) (t h : Nat) (e : HEntry) : (s.setHome t h e).pending = s.pending := rfl
@[simp] theorem State.setHome_power (s : State) (t h : Nat) (e : HEntry) : (s.setHome t h e).power = s.power := rfl
@[simp] theorem State.setHome_clock (s : State) (t h : Nat) (e : HEntry) : (s.setHome t h e).clock = s.clock := rfl
@[simp] theorem State.setHome_flash (s : State) (t h : Nat) (e : HEntry) : (s.setHome t h e).flash = s.flash := rfl
@[simp] theorem State.setHome_mon (s : State) (t h : Nat) (e : HEntry) : (s.setHome t h e).mon = s.mon := rfl
@[simp] theorem State.setHome_staged (s : State) (t h : Nat) (e : HEntry) : (s.setHome t h e).staged = s.staged := rfl
@[simp] theorem State.setHome_parity (s : State) (t h : Nat) (e : HEntry) : (s.setHome t h e).parity = s.parity := rfl
@[simp] theorem State.setHome_regs (s : State) (t h : Nat) (e : HEntry) : (s.setHome t h e).regs = s.regs := rfl
@[simp] theorem State.setHome_mem (s : State) (t h : Nat) (e : HEntry) : (s.setHome t h e).mem = s.mem := rfl
@[simp] theorem State.setHome_fills (s : State) (t h : Nat) (e : HEntry) : (s.setHome t h e).fills = s.fills := rfl
@[simp] theorem State.setHome_moves (s : State) (t h : Nat) (e : HEntry) : (s.setHome t h e).moves = s.moves := rfl
@[simp] theorem State.setHome_coreMap (s : State) (t h : Nat) (e : HEntry) : (s.setHome t h e).coreMap = s.coreMap := rfl
@[simp] theorem State.setHome_cores (s : State) (t h : Nat) (e : HEntry) : (s.setHome t h e).cores = s.cores := rfl
@[simp] theorem State.setHome_queues (s : State) (t h : Nat) (e : HEntry) : (s.setHome t h e).queues = s.queues := rfl
@[simp] theorem State.setHome_units (s : State) (t h : Nat) (e : HEntry) : (s.setHome t h e).units = s.units := rfl
@[simp] theorem State.setHome_ports (s : State) (t h : Nat) (e : HEntry) : (s.setHome t h e).ports = s.ports := rfl
@[simp] theorem State.setHome_tunil (s : State) (t h : Nat) (e : HEntry) : (s.setHome t h e).tunil = s.tunil := rfl
@[simp] theorem State.setHome_caravan (s : State) (t h : Nat) (e : HEntry) : (s.setHome t h e).caravan = s.caravan := rfl
@[simp] theorem State.setHome_kiln (s : State) (t h : Nat) (e : HEntry) : (s.setHome t h e).kiln = s.kiln := rfl
@[simp] theorem State.setHome_codec (s : State) (t h : Nat) (e : HEntry) : (s.setHome t h e).codec = s.codec := rfl
@[simp] theorem State.setHome_host (s : State) (t h : Nat) (e : HEntry) : (s.setHome t h e).host = s.host := rfl
@[simp] theorem State.setHome_cfg (s : State) (t h : Nat) (e : HEntry) : (s.setHome t h e).cfg = s.cfg := rfl
@[simp] theorem State.setHome_serial (s : State) (t h : Nat) (e : HEntry) : (s.setHome t h e).serial = s.serial := rfl
@[simp] theorem State.setHome_freeCtr (s : State) (t h : Nat) (e : HEntry) : (s.setHome t h e).freeCtr = s.freeCtr := rfl
@[simp] theorem State.setHome_sent (s : State) (t h : Nat) (e : HEntry) : (s.setHome t h e).sent = s.sent := rfl

/-! setSvc changes host alone. -/

@[simp] theorem State.setSvc_pending (s : State) (m : Nat) (x : Svc) : (s.setSvc m x).pending = s.pending := rfl
@[simp] theorem State.setSvc_power (s : State) (m : Nat) (x : Svc) : (s.setSvc m x).power = s.power := rfl
@[simp] theorem State.setSvc_clock (s : State) (m : Nat) (x : Svc) : (s.setSvc m x).clock = s.clock := rfl
@[simp] theorem State.setSvc_flash (s : State) (m : Nat) (x : Svc) : (s.setSvc m x).flash = s.flash := rfl
@[simp] theorem State.setSvc_mon (s : State) (m : Nat) (x : Svc) : (s.setSvc m x).mon = s.mon := rfl
@[simp] theorem State.setSvc_staged (s : State) (m : Nat) (x : Svc) : (s.setSvc m x).staged = s.staged := rfl
@[simp] theorem State.setSvc_parity (s : State) (m : Nat) (x : Svc) : (s.setSvc m x).parity = s.parity := rfl
@[simp] theorem State.setSvc_regs (s : State) (m : Nat) (x : Svc) : (s.setSvc m x).regs = s.regs := rfl
@[simp] theorem State.setSvc_mem (s : State) (m : Nat) (x : Svc) : (s.setSvc m x).mem = s.mem := rfl
@[simp] theorem State.setSvc_homes (s : State) (m : Nat) (x : Svc) : (s.setSvc m x).homes = s.homes := rfl
@[simp] theorem State.setSvc_fills (s : State) (m : Nat) (x : Svc) : (s.setSvc m x).fills = s.fills := rfl
@[simp] theorem State.setSvc_moves (s : State) (m : Nat) (x : Svc) : (s.setSvc m x).moves = s.moves := rfl
@[simp] theorem State.setSvc_coreMap (s : State) (m : Nat) (x : Svc) : (s.setSvc m x).coreMap = s.coreMap := rfl
@[simp] theorem State.setSvc_cores (s : State) (m : Nat) (x : Svc) : (s.setSvc m x).cores = s.cores := rfl
@[simp] theorem State.setSvc_queues (s : State) (m : Nat) (x : Svc) : (s.setSvc m x).queues = s.queues := rfl
@[simp] theorem State.setSvc_units (s : State) (m : Nat) (x : Svc) : (s.setSvc m x).units = s.units := rfl
@[simp] theorem State.setSvc_ports (s : State) (m : Nat) (x : Svc) : (s.setSvc m x).ports = s.ports := rfl
@[simp] theorem State.setSvc_tunil (s : State) (m : Nat) (x : Svc) : (s.setSvc m x).tunil = s.tunil := rfl
@[simp] theorem State.setSvc_caravan (s : State) (m : Nat) (x : Svc) : (s.setSvc m x).caravan = s.caravan := rfl
@[simp] theorem State.setSvc_kiln (s : State) (m : Nat) (x : Svc) : (s.setSvc m x).kiln = s.kiln := rfl
@[simp] theorem State.setSvc_codec (s : State) (m : Nat) (x : Svc) : (s.setSvc m x).codec = s.codec := rfl
@[simp] theorem State.setSvc_cfg (s : State) (m : Nat) (x : Svc) : (s.setSvc m x).cfg = s.cfg := rfl
@[simp] theorem State.setSvc_serial (s : State) (m : Nat) (x : Svc) : (s.setSvc m x).serial = s.serial := rfl
@[simp] theorem State.setSvc_freeCtr (s : State) (m : Nat) (x : Svc) : (s.setSvc m x).freeCtr = s.freeCtr := rfl
@[simp] theorem State.setSvc_sent (s : State) (m : Nat) (x : Svc) : (s.setSvc m x).sent = s.sent := rfl

/-! repair changes parity alone. -/

@[simp] theorem State.repair_pending (s : State) (key : Nat) : (s.repair key).pending = s.pending := rfl
@[simp] theorem State.repair_power (s : State) (key : Nat) : (s.repair key).power = s.power := rfl
@[simp] theorem State.repair_clock (s : State) (key : Nat) : (s.repair key).clock = s.clock := rfl
@[simp] theorem State.repair_flash (s : State) (key : Nat) : (s.repair key).flash = s.flash := rfl
@[simp] theorem State.repair_mon (s : State) (key : Nat) : (s.repair key).mon = s.mon := rfl
@[simp] theorem State.repair_staged (s : State) (key : Nat) : (s.repair key).staged = s.staged := rfl
@[simp] theorem State.repair_regs (s : State) (key : Nat) : (s.repair key).regs = s.regs := rfl
@[simp] theorem State.repair_mem (s : State) (key : Nat) : (s.repair key).mem = s.mem := rfl
@[simp] theorem State.repair_homes (s : State) (key : Nat) : (s.repair key).homes = s.homes := rfl
@[simp] theorem State.repair_fills (s : State) (key : Nat) : (s.repair key).fills = s.fills := rfl
@[simp] theorem State.repair_moves (s : State) (key : Nat) : (s.repair key).moves = s.moves := rfl
@[simp] theorem State.repair_coreMap (s : State) (key : Nat) : (s.repair key).coreMap = s.coreMap := rfl
@[simp] theorem State.repair_cores (s : State) (key : Nat) : (s.repair key).cores = s.cores := rfl
@[simp] theorem State.repair_queues (s : State) (key : Nat) : (s.repair key).queues = s.queues := rfl
@[simp] theorem State.repair_units (s : State) (key : Nat) : (s.repair key).units = s.units := rfl
@[simp] theorem State.repair_ports (s : State) (key : Nat) : (s.repair key).ports = s.ports := rfl
@[simp] theorem State.repair_tunil (s : State) (key : Nat) : (s.repair key).tunil = s.tunil := rfl
@[simp] theorem State.repair_caravan (s : State) (key : Nat) : (s.repair key).caravan = s.caravan := rfl
@[simp] theorem State.repair_kiln (s : State) (key : Nat) : (s.repair key).kiln = s.kiln := rfl
@[simp] theorem State.repair_codec (s : State) (key : Nat) : (s.repair key).codec = s.codec := rfl
@[simp] theorem State.repair_host (s : State) (key : Nat) : (s.repair key).host = s.host := rfl
@[simp] theorem State.repair_cfg (s : State) (key : Nat) : (s.repair key).cfg = s.cfg := rfl
@[simp] theorem State.repair_serial (s : State) (key : Nat) : (s.repair key).serial = s.serial := rfl
@[simp] theorem State.repair_freeCtr (s : State) (key : Nat) : (s.repair key).freeCtr = s.freeCtr := rfl
@[simp] theorem State.repair_sent (s : State) (key : Nat) : (s.repair key).sent = s.sent := rfl

/-! stage changes staged alone. -/

@[simp] theorem State.stage_pending (s : State) (r : Reg) (i : Nat) : (s.stage r i).pending = s.pending := rfl
@[simp] theorem State.stage_power (s : State) (r : Reg) (i : Nat) : (s.stage r i).power = s.power := rfl
@[simp] theorem State.stage_clock (s : State) (r : Reg) (i : Nat) : (s.stage r i).clock = s.clock := rfl
@[simp] theorem State.stage_flash (s : State) (r : Reg) (i : Nat) : (s.stage r i).flash = s.flash := rfl
@[simp] theorem State.stage_mon (s : State) (r : Reg) (i : Nat) : (s.stage r i).mon = s.mon := rfl
@[simp] theorem State.stage_parity (s : State) (r : Reg) (i : Nat) : (s.stage r i).parity = s.parity := rfl
@[simp] theorem State.stage_regs (s : State) (r : Reg) (i : Nat) : (s.stage r i).regs = s.regs := rfl
@[simp] theorem State.stage_mem (s : State) (r : Reg) (i : Nat) : (s.stage r i).mem = s.mem := rfl
@[simp] theorem State.stage_homes (s : State) (r : Reg) (i : Nat) : (s.stage r i).homes = s.homes := rfl
@[simp] theorem State.stage_fills (s : State) (r : Reg) (i : Nat) : (s.stage r i).fills = s.fills := rfl
@[simp] theorem State.stage_moves (s : State) (r : Reg) (i : Nat) : (s.stage r i).moves = s.moves := rfl
@[simp] theorem State.stage_coreMap (s : State) (r : Reg) (i : Nat) : (s.stage r i).coreMap = s.coreMap := rfl
@[simp] theorem State.stage_cores (s : State) (r : Reg) (i : Nat) : (s.stage r i).cores = s.cores := rfl
@[simp] theorem State.stage_queues (s : State) (r : Reg) (i : Nat) : (s.stage r i).queues = s.queues := rfl
@[simp] theorem State.stage_units (s : State) (r : Reg) (i : Nat) : (s.stage r i).units = s.units := rfl
@[simp] theorem State.stage_ports (s : State) (r : Reg) (i : Nat) : (s.stage r i).ports = s.ports := rfl
@[simp] theorem State.stage_tunil (s : State) (r : Reg) (i : Nat) : (s.stage r i).tunil = s.tunil := rfl
@[simp] theorem State.stage_caravan (s : State) (r : Reg) (i : Nat) : (s.stage r i).caravan = s.caravan := rfl
@[simp] theorem State.stage_kiln (s : State) (r : Reg) (i : Nat) : (s.stage r i).kiln = s.kiln := rfl
@[simp] theorem State.stage_codec (s : State) (r : Reg) (i : Nat) : (s.stage r i).codec = s.codec := rfl
@[simp] theorem State.stage_host (s : State) (r : Reg) (i : Nat) : (s.stage r i).host = s.host := rfl
@[simp] theorem State.stage_cfg (s : State) (r : Reg) (i : Nat) : (s.stage r i).cfg = s.cfg := rfl
@[simp] theorem State.stage_serial (s : State) (r : Reg) (i : Nat) : (s.stage r i).serial = s.serial := rfl
@[simp] theorem State.stage_freeCtr (s : State) (r : Reg) (i : Nat) : (s.stage r i).freeCtr = s.freeCtr := rfl
@[simp] theorem State.stage_sent (s : State) (r : Reg) (i : Nat) : (s.stage r i).sent = s.sent := rfl

/-! putBytes changes mem alone. -/

@[simp] theorem State.putBytes_pending (s : State) (a : Nat) (bs : List Byte) : (s.putBytes a bs).pending = s.pending := rfl
@[simp] theorem State.putBytes_power (s : State) (a : Nat) (bs : List Byte) : (s.putBytes a bs).power = s.power := rfl
@[simp] theorem State.putBytes_clock (s : State) (a : Nat) (bs : List Byte) : (s.putBytes a bs).clock = s.clock := rfl
@[simp] theorem State.putBytes_flash (s : State) (a : Nat) (bs : List Byte) : (s.putBytes a bs).flash = s.flash := rfl
@[simp] theorem State.putBytes_mon (s : State) (a : Nat) (bs : List Byte) : (s.putBytes a bs).mon = s.mon := rfl
@[simp] theorem State.putBytes_staged (s : State) (a : Nat) (bs : List Byte) : (s.putBytes a bs).staged = s.staged := rfl
@[simp] theorem State.putBytes_parity (s : State) (a : Nat) (bs : List Byte) : (s.putBytes a bs).parity = s.parity := rfl
@[simp] theorem State.putBytes_regs (s : State) (a : Nat) (bs : List Byte) : (s.putBytes a bs).regs = s.regs := rfl
@[simp] theorem State.putBytes_homes (s : State) (a : Nat) (bs : List Byte) : (s.putBytes a bs).homes = s.homes := rfl
@[simp] theorem State.putBytes_fills (s : State) (a : Nat) (bs : List Byte) : (s.putBytes a bs).fills = s.fills := rfl
@[simp] theorem State.putBytes_moves (s : State) (a : Nat) (bs : List Byte) : (s.putBytes a bs).moves = s.moves := rfl
@[simp] theorem State.putBytes_coreMap (s : State) (a : Nat) (bs : List Byte) : (s.putBytes a bs).coreMap = s.coreMap := rfl
@[simp] theorem State.putBytes_cores (s : State) (a : Nat) (bs : List Byte) : (s.putBytes a bs).cores = s.cores := rfl
@[simp] theorem State.putBytes_queues (s : State) (a : Nat) (bs : List Byte) : (s.putBytes a bs).queues = s.queues := rfl
@[simp] theorem State.putBytes_units (s : State) (a : Nat) (bs : List Byte) : (s.putBytes a bs).units = s.units := rfl
@[simp] theorem State.putBytes_ports (s : State) (a : Nat) (bs : List Byte) : (s.putBytes a bs).ports = s.ports := rfl
@[simp] theorem State.putBytes_tunil (s : State) (a : Nat) (bs : List Byte) : (s.putBytes a bs).tunil = s.tunil := rfl
@[simp] theorem State.putBytes_caravan (s : State) (a : Nat) (bs : List Byte) : (s.putBytes a bs).caravan = s.caravan := rfl
@[simp] theorem State.putBytes_kiln (s : State) (a : Nat) (bs : List Byte) : (s.putBytes a bs).kiln = s.kiln := rfl
@[simp] theorem State.putBytes_codec (s : State) (a : Nat) (bs : List Byte) : (s.putBytes a bs).codec = s.codec := rfl
@[simp] theorem State.putBytes_host (s : State) (a : Nat) (bs : List Byte) : (s.putBytes a bs).host = s.host := rfl
@[simp] theorem State.putBytes_cfg (s : State) (a : Nat) (bs : List Byte) : (s.putBytes a bs).cfg = s.cfg := rfl
@[simp] theorem State.putBytes_serial (s : State) (a : Nat) (bs : List Byte) : (s.putBytes a bs).serial = s.serial := rfl
@[simp] theorem State.putBytes_freeCtr (s : State) (a : Nat) (bs : List Byte) : (s.putBytes a bs).freeCtr = s.freeCtr := rfl
@[simp] theorem State.putBytes_sent (s : State) (a : Nat) (bs : List Byte) : (s.putBytes a bs).sent = s.sent := rfl

/-! setPoison changes mem alone. -/

@[simp] theorem State.setPoison_pending (s : State) (cw : Nat) (b : Bool) : (s.setPoison cw b).pending = s.pending := rfl
@[simp] theorem State.setPoison_power (s : State) (cw : Nat) (b : Bool) : (s.setPoison cw b).power = s.power := rfl
@[simp] theorem State.setPoison_clock (s : State) (cw : Nat) (b : Bool) : (s.setPoison cw b).clock = s.clock := rfl
@[simp] theorem State.setPoison_flash (s : State) (cw : Nat) (b : Bool) : (s.setPoison cw b).flash = s.flash := rfl
@[simp] theorem State.setPoison_mon (s : State) (cw : Nat) (b : Bool) : (s.setPoison cw b).mon = s.mon := rfl
@[simp] theorem State.setPoison_staged (s : State) (cw : Nat) (b : Bool) : (s.setPoison cw b).staged = s.staged := rfl
@[simp] theorem State.setPoison_parity (s : State) (cw : Nat) (b : Bool) : (s.setPoison cw b).parity = s.parity := rfl
@[simp] theorem State.setPoison_regs (s : State) (cw : Nat) (b : Bool) : (s.setPoison cw b).regs = s.regs := rfl
@[simp] theorem State.setPoison_homes (s : State) (cw : Nat) (b : Bool) : (s.setPoison cw b).homes = s.homes := rfl
@[simp] theorem State.setPoison_fills (s : State) (cw : Nat) (b : Bool) : (s.setPoison cw b).fills = s.fills := rfl
@[simp] theorem State.setPoison_moves (s : State) (cw : Nat) (b : Bool) : (s.setPoison cw b).moves = s.moves := rfl
@[simp] theorem State.setPoison_coreMap (s : State) (cw : Nat) (b : Bool) : (s.setPoison cw b).coreMap = s.coreMap := rfl
@[simp] theorem State.setPoison_cores (s : State) (cw : Nat) (b : Bool) : (s.setPoison cw b).cores = s.cores := rfl
@[simp] theorem State.setPoison_queues (s : State) (cw : Nat) (b : Bool) : (s.setPoison cw b).queues = s.queues := rfl
@[simp] theorem State.setPoison_units (s : State) (cw : Nat) (b : Bool) : (s.setPoison cw b).units = s.units := rfl
@[simp] theorem State.setPoison_ports (s : State) (cw : Nat) (b : Bool) : (s.setPoison cw b).ports = s.ports := rfl
@[simp] theorem State.setPoison_tunil (s : State) (cw : Nat) (b : Bool) : (s.setPoison cw b).tunil = s.tunil := rfl
@[simp] theorem State.setPoison_caravan (s : State) (cw : Nat) (b : Bool) : (s.setPoison cw b).caravan = s.caravan := rfl
@[simp] theorem State.setPoison_kiln (s : State) (cw : Nat) (b : Bool) : (s.setPoison cw b).kiln = s.kiln := rfl
@[simp] theorem State.setPoison_codec (s : State) (cw : Nat) (b : Bool) : (s.setPoison cw b).codec = s.codec := rfl
@[simp] theorem State.setPoison_host (s : State) (cw : Nat) (b : Bool) : (s.setPoison cw b).host = s.host := rfl
@[simp] theorem State.setPoison_cfg (s : State) (cw : Nat) (b : Bool) : (s.setPoison cw b).cfg = s.cfg := rfl
@[simp] theorem State.setPoison_serial (s : State) (cw : Nat) (b : Bool) : (s.setPoison cw b).serial = s.serial := rfl
@[simp] theorem State.setPoison_freeCtr (s : State) (cw : Nat) (b : Bool) : (s.setPoison cw b).freeCtr = s.freeCtr := rfl
@[simp] theorem State.setPoison_sent (s : State) (cw : Nat) (b : Bool) : (s.setPoison cw b).sent = s.sent := rfl

/-! setLatent changes mem alone. -/

@[simp] theorem State.setLatent_pending (s : State) (cw : Nat) (e : List (Nat × Nat)) : (s.setLatent cw e).pending = s.pending := rfl
@[simp] theorem State.setLatent_power (s : State) (cw : Nat) (e : List (Nat × Nat)) : (s.setLatent cw e).power = s.power := rfl
@[simp] theorem State.setLatent_clock (s : State) (cw : Nat) (e : List (Nat × Nat)) : (s.setLatent cw e).clock = s.clock := rfl
@[simp] theorem State.setLatent_flash (s : State) (cw : Nat) (e : List (Nat × Nat)) : (s.setLatent cw e).flash = s.flash := rfl
@[simp] theorem State.setLatent_mon (s : State) (cw : Nat) (e : List (Nat × Nat)) : (s.setLatent cw e).mon = s.mon := rfl
@[simp] theorem State.setLatent_staged (s : State) (cw : Nat) (e : List (Nat × Nat)) : (s.setLatent cw e).staged = s.staged := rfl
@[simp] theorem State.setLatent_parity (s : State) (cw : Nat) (e : List (Nat × Nat)) : (s.setLatent cw e).parity = s.parity := rfl
@[simp] theorem State.setLatent_regs (s : State) (cw : Nat) (e : List (Nat × Nat)) : (s.setLatent cw e).regs = s.regs := rfl
@[simp] theorem State.setLatent_homes (s : State) (cw : Nat) (e : List (Nat × Nat)) : (s.setLatent cw e).homes = s.homes := rfl
@[simp] theorem State.setLatent_fills (s : State) (cw : Nat) (e : List (Nat × Nat)) : (s.setLatent cw e).fills = s.fills := rfl
@[simp] theorem State.setLatent_moves (s : State) (cw : Nat) (e : List (Nat × Nat)) : (s.setLatent cw e).moves = s.moves := rfl
@[simp] theorem State.setLatent_coreMap (s : State) (cw : Nat) (e : List (Nat × Nat)) : (s.setLatent cw e).coreMap = s.coreMap := rfl
@[simp] theorem State.setLatent_cores (s : State) (cw : Nat) (e : List (Nat × Nat)) : (s.setLatent cw e).cores = s.cores := rfl
@[simp] theorem State.setLatent_queues (s : State) (cw : Nat) (e : List (Nat × Nat)) : (s.setLatent cw e).queues = s.queues := rfl
@[simp] theorem State.setLatent_units (s : State) (cw : Nat) (e : List (Nat × Nat)) : (s.setLatent cw e).units = s.units := rfl
@[simp] theorem State.setLatent_ports (s : State) (cw : Nat) (e : List (Nat × Nat)) : (s.setLatent cw e).ports = s.ports := rfl
@[simp] theorem State.setLatent_tunil (s : State) (cw : Nat) (e : List (Nat × Nat)) : (s.setLatent cw e).tunil = s.tunil := rfl
@[simp] theorem State.setLatent_caravan (s : State) (cw : Nat) (e : List (Nat × Nat)) : (s.setLatent cw e).caravan = s.caravan := rfl
@[simp] theorem State.setLatent_kiln (s : State) (cw : Nat) (e : List (Nat × Nat)) : (s.setLatent cw e).kiln = s.kiln := rfl
@[simp] theorem State.setLatent_codec (s : State) (cw : Nat) (e : List (Nat × Nat)) : (s.setLatent cw e).codec = s.codec := rfl
@[simp] theorem State.setLatent_host (s : State) (cw : Nat) (e : List (Nat × Nat)) : (s.setLatent cw e).host = s.host := rfl
@[simp] theorem State.setLatent_cfg (s : State) (cw : Nat) (e : List (Nat × Nat)) : (s.setLatent cw e).cfg = s.cfg := rfl
@[simp] theorem State.setLatent_serial (s : State) (cw : Nat) (e : List (Nat × Nat)) : (s.setLatent cw e).serial = s.serial := rfl
@[simp] theorem State.setLatent_freeCtr (s : State) (cw : Nat) (e : List (Nat × Nat)) : (s.setLatent cw e).freeCtr = s.freeCtr := rfl
@[simp] theorem State.setLatent_sent (s : State) (cw : Nat) (e : List (Nat × Nat)) : (s.setLatent cw e).sent = s.sent := rfl

/-! Registers. -/

theorem Reg.ctorIdx_lt (r : Reg) : r.ctorIdx < 256 := by cases r <;> decide

theorem Reg.ctorIdx_inj {r r' : Reg} (h : r.ctorIdx = r'.ctorIdx) : r = r' := by
  have := congrArg Reg.ofNat h
  rwa [Reg.ofNat_ctorIdx, Reg.ofNat_ctorIdx] at this

/-- Keys of registers are told apart. -/
theorem rkey_inj {r r' : Reg} {i i' : Nat} : rkey r i = rkey r' i' ↔ r = r' ∧ i = i' := by
  constructor
  · intro h
    unfold rkey at h
    have a := Reg.ctorIdx_lt r
    have b := Reg.ctorIdx_lt r'
    exact ⟨Reg.ctorIdx_inj (by omega), by omega⟩
  · rintro ⟨rfl, rfl⟩; rfl

@[simp] theorem runkey_rkey (r : Reg) (i : Nat) : runkey (rkey r i) = (r, i) := by
  unfold runkey rkey
  have a := Reg.ctorIdx_lt r
  have h1 : (256 * i + r.ctorIdx) % 256 = r.ctorIdx := by omega
  have h2 : (256 * i + r.ctorIdx) / 256 = i := by omega
  rw [h1, h2, Reg.ofNat_ctorIdx]

@[simp] theorem State.reg_setReg_same (s : State) (r : Reg) (i : Nat) (v : W32) : (s.setReg r i v).reg r i = v :=
  mget_mset_same _ _ _ _

theorem State.reg_setReg_other (s : State) {r r' : Reg} {i i' : Nat} (v : W32) (h : ¬ (r' = r ∧ i' = i)) :
    (s.setReg r i v).reg r' i' = s.reg r' i' :=
  mget_mset_other' _ _ _ _ fun e => h (rkey_inj.1 e)

/-- A register read after a write. -/
theorem State.reg_setReg (s : State) (r r' : Reg) (i i' : Nat) (v : W32) :
    (s.setReg r i v).reg r' i' = if r' = r ∧ i' = i then v else s.reg r' i' := by
  split
  · rename_i h; obtain ⟨rfl, rfl⟩ := h; simp
  · exact s.reg_setReg_other v (by assumption)

/-- A write of another register. -/
@[simp] theorem State.reg_setReg_ne (s : State) {r r' : Reg} (i i' : Nat) (v : W32) (h : r' ≠ r) :
    (s.setReg r i v).reg r' i' = s.reg r' i' := s.reg_setReg_other v fun e => h e.1

theorem State.reg_congr {s t : State} (h : t.regs = s.regs) (r : Reg) (i : Nat) : t.reg r i = s.reg r i := by
  unfold State.reg; rw [h]

theorem State.setRfld_eq (s : State) (r : Reg) (i hi lo v : Nat) :
    s.setRfld r i hi lo v = s.setReg r i (setFld (s.reg r i) hi lo v) := rfl
theorem State.countWrap_eq (s : State) (r : Reg) (i n : Nat) :
    s.countWrap r i n = s.setReg r i (wrapAdd32 (s.reg r i) n) := rfl
theorem State.countSat_eq (s : State) (r : Reg) (i n : Nat) :
    s.countSat r i n = s.setReg r i (satAdd32 (s.reg r i) n) := rfl

/-- A field read after a write of it. -/
theorem State.rfld_setRfld_same (s : State) (r : Reg) (i hi lo v : Nat) (h : hi < 32) :
    (s.setRfld r i hi lo v).rfld r i hi lo = v % 2 ^ (hi + 1 - lo) := by
  unfold State.rfld State.setRfld
  rw [State.reg_setReg_same, fld_setFld_same _ _ _ _ h]

theorem State.rfld_setRfld_other (s : State) (r : Reg) (i hi lo v hi' lo' : Nat) (h : hi' < 32) (hd : hi' < lo ∨ hi < lo') :
    (s.setRfld r i hi lo v).rfld r i hi' lo' = s.rfld r i hi' lo' := by
  unfold State.rfld State.setRfld
  rw [State.reg_setReg_same, fld_setFld_other _ _ _ _ _ _ h hd]

/-- Resetting a list of registers leaves the others alone. -/
theorem State.resetReg_reg (s : State) (r r' : Reg) (i i' : Nat) :
    (s.resetReg r i).reg r' i' = if r' = r ∧ i' = i then r.reset i else s.reg r' i' := s.reg_setReg r r' i i' _

/-! Tables. -/

@[simp] theorem State.core_setCore_same (s : State) (n : Nat) (c : Core) : (s.setCore n c).core n = c := mget_mset_same _ _ _ _
theorem State.core_setCore_other (s : State) {n m : Nat} (c : Core) (h : m ≠ n) : (s.setCore n c).core m = s.core m :=
  mget_mset_other _ _ _ h
@[simp] theorem State.queue_setQueue_same (s : State) (k : Nat) (q : Queue) : (s.setQueue k q).queue k = q := mget_mset_same _ _ _ _
theorem State.queue_setQueue_other (s : State) {k j : Nat} (q : Queue) (h : j ≠ k) : (s.setQueue k q).queue j = s.queue j :=
  mget_mset_other _ _ _ h
@[simp] theorem State.unit_setUnit_same (s : State) (u : Nat) (x : SharedUnit) : (s.setUnit u x).unit u = x := mget_mset_same _ _ _ _
theorem State.unit_setUnit_other (s : State) {u w : Nat} (x : SharedUnit) (h : w ≠ u) : (s.setUnit u x).unit w = s.unit w :=
  mget_mset_other _ _ _ h
@[simp] theorem State.port_setPort_same (s : State) (p : Nat) (x : Port) : (s.setPort p x).port p = x := mget_mset_same _ _ _ _
theorem State.port_setPort_other (s : State) {p q : Nat} (x : Port) (h : q ≠ p) : (s.setPort p x).port q = s.port q :=
  mget_mset_other _ _ _ h
@[simp] theorem State.route_setRoute_same (s : State) (k : Nat) (x : Route) : (s.setRoute k x).route k = x := mget_mset_same _ _ _ _
theorem State.route_setRoute_other (s : State) {k j : Nat} (x : Route) (h : j ≠ k) : (s.setRoute k x).route j = s.route j :=
  mget_mset_other _ _ _ h
@[simp] theorem State.kq_setKq_same (s : State) (k : Nat) (x : KQueue) : (s.setKq k x).kq k = x := mget_mset_same _ _ _ _
@[simp] theorem State.dec_setDec_same (s : State) (c : Nat) (x : DecCtx) : (s.setDec c x).dec c = x := mget_mset_same _ _ _ _
@[simp] theorem State.enc_setEnc_same (s : State) (e : Nat) (x : EncCtx) : (s.setEnc e x).enc e = x := mget_mset_same _ _ _ _
@[simp] theorem State.svc_setSvc_same (s : State) (m : Nat) (x : Svc) : (s.setSvc m x).svc m = x := mget_mset_same _ _ _ _
@[simp] theorem State.home_setHome_same (s : State) (t h : Nat) (e : HEntry) : (s.setHome t h e).home t h = e :=
  mget_mset_same _ _ _ _

/-! Memory. -/

/-- A byte read after a store of bytes. -/
theorem State.byte_putBytes (s : State) (a j : Nat) (bs : List Byte) :
    (s.putBytes a bs).byte j = if a ≤ j ∧ j < a + bs.length then (bs[j - a]?).getD 0 else s.byte j :=
  mget_msetList 0 bs _ a j

/-- The bytes outside a store are as before. -/
theorem State.byte_putBytes_other (s : State) (a j : Nat) (bs : List Byte) (h : j < a ∨ a + bs.length ≤ j) :
    (s.putBytes a bs).byte j = s.byte j := by
  rw [State.byte_putBytes, if_neg (by omega)]

theorem State.byte_congr {s t : State} (h : t.mem.bytes = s.mem.bytes) (a : Nat) : t.byte a = s.byte a := by
  unfold State.byte; rw [h]

/-! Canonical forms. -/

/-- A store of bytes keeps memory in its canonical form. -/
theorem State.putBytes_wf {s : State} (h : s.mem.wf = true) (a : Nat) (bs : List Byte) : (s.putBytes a bs).mem.wf = true :=
  mapWf_msetList bs a h

/-- The other memory operations do not touch the bytes. -/
theorem Mem.wf_congr {m m' : Mem} (h : m'.bytes = m.bytes) (hw : m.wf = true) : m'.wf = true := by
  unfold Mem.wf at *; rw [h]; exact hw

theorem State.setPoison_wf {s : State} (h : s.mem.wf = true) (cw : Nat) (b : Bool) : (s.setPoison cw b).mem.wf = true :=
  Mem.wf_congr (m := s.mem) rfl h

theorem State.initGranule_bytes (s : State) (a : Nat) : (s.initGranule a).mem.bytes = s.mem.bytes := by
  unfold State.initGranule
  split
  · rfl
  · split <;> rfl

theorem State.initGranule_wf {s : State} (h : s.mem.wf = true) (a : Nat) : (s.initGranule a).mem.wf = true :=
  Mem.wf_congr (s.initGranule_bytes a) h

/-- A store of whole codewords keeps memory in its canonical form. -/
theorem State.putUnits_wf {s : State} (h : s.mem.wf = true) (a : Nat) (bs : List Byte) : (s.putUnits a bs).mem.wf = true := by
  unfold State.putUnits
  apply State.putBytes_wf
  generalize codewords a bs.length = l
  induction l generalizing s with
  | nil => exact h
  | cons c t ih => exact ih (State.setPoison_wf (State.initGranule_wf h c) c false)

/-- A write of a register keeps the registers in their canonical form. -/
theorem State.setReg_wf {s : State} (h : regsWf s.regs = true) (r : Reg) (i : Nat) (v : W32) :
    regsWf (s.setReg r i v).regs = true := by
  have := mapWf_mset (d := fun k => (runkey k).1.reset (runkey k).2) h (rkey r i) v
  simpa [regsWf, State.setReg] using this

/-- A write of a tensor home keeps the tables in their canonical form. -/
theorem State.setHome_wf {s : State} (h : homesWf s.homes = true) (t n : Nat) (e : HEntry) :
    homesWf (s.setHome t n e).homes = true := mapWf_mset (d := fun _ => HEntry.free) h (hkey t n) e

/-- The module right after reset is in canonical form. -/
theorem State.reset_canonical : State.reset.canonical = true := by rfl

end Sys2Proof.Machine
end

