-- ==== Sys2Proof/Laws/Ops.lean ====
section
/-! SUPPORT. What each shared operation may change: one frame equation for each, with the fields that stay; and what the
checks of configuration parity do in a module without faults. -/
namespace Sys2Proof.Machine

/-- sendVec changes host and sent alone. -/
theorem State.sendVec_frame (s : State) (f v : Nat) : s.sendVec f v =
    { s with host := (s.sendVec f v).host, sent := (s.sendVec f v).sent } := by
  unfold State.sendVec State.emit; (repeat' split) <;> rfl
@[simp] theorem State.sendVec_pending (s : State) (f v : Nat) : (s.sendVec f v).pending = s.pending := by
  rw [State.sendVec_frame]
@[simp] theorem State.sendVec_power (s : State) (f v : Nat) : (s.sendVec f v).power = s.power := by
  rw [State.sendVec_frame]
@[simp] theorem State.sendVec_clock (s : State) (f v : Nat) : (s.sendVec f v).clock = s.clock := by
  rw [State.sendVec_frame]
@[simp] theorem State.sendVec_flash (s : State) (f v : Nat) : (s.sendVec f v).flash = s.flash := by
  rw [State.sendVec_frame]
@[simp] theorem State.sendVec_mon (s : State) (f v : Nat) : (s.sendVec f v).mon = s.mon := by
  rw [State.sendVec_frame]
@[simp] theorem State.sendVec_staged (s : State) (f v : Nat) : (s.sendVec f v).staged = s.staged := by
  rw [State.sendVec_frame]
@[simp] theorem State.sendVec_parity (s : State) (f v : Nat) : (s.sendVec f v).parity = s.parity := by
  rw [State.sendVec_frame]
@[simp] theorem State.sendVec_regs (s : State) (f v : Nat) : (s.sendVec f v).regs = s.regs := by
  rw [State.sendVec_frame]
@[simp] theorem State.sendVec_mem (s : State) (f v : Nat) : (s.sendVec f v).mem = s.mem := by
  rw [State.sendVec_frame]
@[simp] theorem State.sendVec_homes (s : State) (f v : Nat) : (s.sendVec f v).homes = s.homes := by
  rw [State.sendVec_frame]
@[simp] theorem State.sendVec_fills (s : State) (f v : Nat) : (s.sendVec f v).fills = s.fills := by
  rw [State.sendVec_frame]
@[simp] theorem State.sendVec_moves (s : State) (f v : Nat) : (s.sendVec f v).moves = s.moves := by
  rw [State.sendVec_frame]
@[simp] theorem State.sendVec_coreMap (s : State) (f v : Nat) : (s.sendVec f v).coreMap = s.coreMap := by
  rw [State.sendVec_frame]
@[simp] theorem State.sendVec_cores (s : State) (f v : Nat) : (s.sendVec f v).cores = s.cores := by
  rw [State.sendVec_frame]
@[simp] theorem State.sendVec_queues (s : State) (f v : Nat) : (s.sendVec f v).queues = s.queues := by
  rw [State.sendVec_frame]
@[simp] theorem State.sendVec_units (s : State) (f v : Nat) : (s.sendVec f v).units = s.units := by
  rw [State.sendVec_frame]
@[simp] theorem State.sendVec_ports (s : State) (f v : Nat) : (s.sendVec f v).ports = s.ports := by
  rw [State.sendVec_frame]
@[simp] theorem State.sendVec_tunil (s : State) (f v : Nat) : (s.sendVec f v).tunil = s.tunil := by
  rw [State.sendVec_frame]
@[simp] theorem State.sendVec_caravan (s : State) (f v : Nat) : (s.sendVec f v).caravan = s.caravan := by
  rw [State.sendVec_frame]
@[simp] theorem State.sendVec_kiln (s : State) (f v : Nat) : (s.sendVec f v).kiln = s.kiln := by
  rw [State.sendVec_frame]
@[simp] theorem State.sendVec_codec (s : State) (f v : Nat) : (s.sendVec f v).codec = s.codec := by
  rw [State.sendVec_frame]
@[simp] theorem State.sendVec_cfg (s : State) (f v : Nat) : (s.sendVec f v).cfg = s.cfg := by
  rw [State.sendVec_frame]
@[simp] theorem State.sendVec_serial (s : State) (f v : Nat) : (s.sendVec f v).serial = s.serial := by
  rw [State.sendVec_frame]
@[simp] theorem State.sendVec_freeCtr (s : State) (f v : Nat) : (s.sendVec f v).freeCtr = s.freeCtr := by
  rw [State.sendVec_frame]

/-- raise changes host and sent alone. -/
theorem State.raise_frame (s : State) (f n : Nat) : s.raise f n =
    { s with host := (s.raise f n).host, sent := (s.raise f n).sent } := by
  unfold State.raise; dsimp only; split
  · exact State.sendVec_frame ..
  · rfl
@[simp] theorem State.raise_pending (s : State) (f n : Nat) : (s.raise f n).pending = s.pending := by
  rw [State.raise_frame]
@[simp] theorem State.raise_power (s : State) (f n : Nat) : (s.raise f n).power = s.power := by
  rw [State.raise_frame]
@[simp] theorem State.raise_clock (s : State) (f n : Nat) : (s.raise f n).clock = s.clock := by
  rw [State.raise_frame]
@[simp] theorem State.raise_flash (s : State) (f n : Nat) : (s.raise f n).flash = s.flash := by
  rw [State.raise_frame]
@[simp] theorem State.raise_mon (s : State) (f n : Nat) : (s.raise f n).mon = s.mon := by
  rw [State.raise_frame]
@[simp] theorem State.raise_staged (s : State) (f n : Nat) : (s.raise f n).staged = s.staged := by
  rw [State.raise_frame]
@[simp] theorem State.raise_parity (s : State) (f n : Nat) : (s.raise f n).parity = s.parity := by
  rw [State.raise_frame]
@[simp] theorem State.raise_regs (s : State) (f n : Nat) : (s.raise f n).regs = s.regs := by
  rw [State.raise_frame]
@[simp] theorem State.raise_mem (s : State) (f n : Nat) : (s.raise f n).mem = s.mem := by
  rw [State.raise_frame]
@[simp] theorem State.raise_homes (s : State) (f n : Nat) : (s.raise f n).homes = s.homes := by
  rw [State.raise_frame]
@[simp] theorem State.raise_fills (s : State) (f n : Nat) : (s.raise f n).fills = s.fills := by
  rw [State.raise_frame]
@[simp] theorem State.raise_moves (s : State) (f n : Nat) : (s.raise f n).moves = s.moves := by
  rw [State.raise_frame]
@[simp] theorem State.raise_coreMap (s : State) (f n : Nat) : (s.raise f n).coreMap = s.coreMap := by
  rw [State.raise_frame]
@[simp] theorem State.raise_cores (s : State) (f n : Nat) : (s.raise f n).cores = s.cores := by
  rw [State.raise_frame]
@[simp] theorem State.raise_queues (s : State) (f n : Nat) : (s.raise f n).queues = s.queues := by
  rw [State.raise_frame]
@[simp] theorem State.raise_units (s : State) (f n : Nat) : (s.raise f n).units = s.units := by
  rw [State.raise_frame]
@[simp] theorem State.raise_ports (s : State) (f n : Nat) : (s.raise f n).ports = s.ports := by
  rw [State.raise_frame]
@[simp] theorem State.raise_tunil (s : State) (f n : Nat) : (s.raise f n).tunil = s.tunil := by
  rw [State.raise_frame]
@[simp] theorem State.raise_caravan (s : State) (f n : Nat) : (s.raise f n).caravan = s.caravan := by
  rw [State.raise_frame]
@[simp] theorem State.raise_kiln (s : State) (f n : Nat) : (s.raise f n).kiln = s.kiln := by
  rw [State.raise_frame]
@[simp] theorem State.raise_codec (s : State) (f n : Nat) : (s.raise f n).codec = s.codec := by
  rw [State.raise_frame]
@[simp] theorem State.raise_cfg (s : State) (f n : Nat) : (s.raise f n).cfg = s.cfg := by
  rw [State.raise_frame]
@[simp] theorem State.raise_serial (s : State) (f n : Nat) : (s.raise f n).serial = s.serial := by
  rw [State.raise_frame]
@[simp] theorem State.raise_freeCtr (s : State) (f n : Nat) : (s.raise f n).freeCtr = s.freeCtr := by
  rw [State.raise_frame]

/-- raiseTenant changes host and sent alone. -/
theorem State.raiseTenant_frame (s : State) (t n : Nat) : s.raiseTenant t n =
    { s with host := (s.raiseTenant t n).host, sent := (s.raiseTenant t n).sent } := by
  unfold State.raiseTenant; split
  · exact State.raise_frame ..
  · rfl
@[simp] theorem State.raiseTenant_pending (s : State) (t n : Nat) : (s.raiseTenant t n).pending = s.pending := by
  rw [State.raiseTenant_frame]
@[simp] theorem State.raiseTenant_power (s : State) (t n : Nat) : (s.raiseTenant t n).power = s.power := by
  rw [State.raiseTenant_frame]
@[simp] theorem State.raiseTenant_clock (s : State) (t n : Nat) : (s.raiseTenant t n).clock = s.clock := by
  rw [State.raiseTenant_frame]
@[simp] theorem State.raiseTenant_flash (s : State) (t n : Nat) : (s.raiseTenant t n).flash = s.flash := by
  rw [State.raiseTenant_frame]
@[simp] theorem State.raiseTenant_mon (s : State) (t n : Nat) : (s.raiseTenant t n).mon = s.mon := by
  rw [State.raiseTenant_frame]
@[simp] theorem State.raiseTenant_staged (s : State) (t n : Nat) : (s.raiseTenant t n).staged = s.staged := by
  rw [State.raiseTenant_frame]
@[simp] theorem State.raiseTenant_parity (s : State) (t n : Nat) : (s.raiseTenant t n).parity = s.parity := by
  rw [State.raiseTenant_frame]
@[simp] theorem State.raiseTenant_regs (s : State) (t n : Nat) : (s.raiseTenant t n).regs = s.regs := by
  rw [State.raiseTenant_frame]
@[simp] theorem State.raiseTenant_mem (s : State) (t n : Nat) : (s.raiseTenant t n).mem = s.mem := by
  rw [State.raiseTenant_frame]
@[simp] theorem State.raiseTenant_homes (s : State) (t n : Nat) : (s.raiseTenant t n).homes = s.homes := by
  rw [State.raiseTenant_frame]
@[simp] theorem State.raiseTenant_fills (s : State) (t n : Nat) : (s.raiseTenant t n).fills = s.fills := by
  rw [State.raiseTenant_frame]
@[simp] theorem State.raiseTenant_moves (s : State) (t n : Nat) : (s.raiseTenant t n).moves = s.moves := by
  rw [State.raiseTenant_frame]
@[simp] theorem State.raiseTenant_coreMap (s : State) (t n : Nat) : (s.raiseTenant t n).coreMap = s.coreMap := by
  rw [State.raiseTenant_frame]
@[simp] theorem State.raiseTenant_cores (s : State) (t n : Nat) : (s.raiseTenant t n).cores = s.cores := by
  rw [State.raiseTenant_frame]
@[simp] theorem State.raiseTenant_queues (s : State) (t n : Nat) : (s.raiseTenant t n).queues = s.queues := by
  rw [State.raiseTenant_frame]
@[simp] theorem State.raiseTenant_units (s : State) (t n : Nat) : (s.raiseTenant t n).units = s.units := by
  rw [State.raiseTenant_frame]
@[simp] theorem State.raiseTenant_ports (s : State) (t n : Nat) : (s.raiseTenant t n).ports = s.ports := by
  rw [State.raiseTenant_frame]
@[simp] theorem State.raiseTenant_tunil (s : State) (t n : Nat) : (s.raiseTenant t n).tunil = s.tunil := by
  rw [State.raiseTenant_frame]
@[simp] theorem State.raiseTenant_caravan (s : State) (t n : Nat) : (s.raiseTenant t n).caravan = s.caravan := by
  rw [State.raiseTenant_frame]
@[simp] theorem State.raiseTenant_kiln (s : State) (t n : Nat) : (s.raiseTenant t n).kiln = s.kiln := by
  rw [State.raiseTenant_frame]
@[simp] theorem State.raiseTenant_codec (s : State) (t n : Nat) : (s.raiseTenant t n).codec = s.codec := by
  rw [State.raiseTenant_frame]
@[simp] theorem State.raiseTenant_cfg (s : State) (t n : Nat) : (s.raiseTenant t n).cfg = s.cfg := by
  rw [State.raiseTenant_frame]
@[simp] theorem State.raiseTenant_serial (s : State) (t n : Nat) : (s.raiseTenant t n).serial = s.serial := by
  rw [State.raiseTenant_frame]
@[simp] theorem State.raiseTenant_freeCtr (s : State) (t n : Nat) : (s.raiseTenant t n).freeCtr = s.freeCtr := by
  rw [State.raiseTenant_frame]

/-- log changes flash and regs alone. -/
theorem State.log_frame (s : State) (k : Nat) (w : List Nat) : s.log k w =
    { s with flash := (s.log k w).flash, regs := (s.log k w).regs } := by
  unfold State.log State.countWrap State.setReg; dsimp only; (repeat' split) <;> rfl
@[simp] theorem State.log_pending (s : State) (k : Nat) (w : List Nat) : (s.log k w).pending = s.pending := by
  rw [State.log_frame]
@[simp] theorem State.log_power (s : State) (k : Nat) (w : List Nat) : (s.log k w).power = s.power := by
  rw [State.log_frame]
@[simp] theorem State.log_clock (s : State) (k : Nat) (w : List Nat) : (s.log k w).clock = s.clock := by
  rw [State.log_frame]
@[simp] theorem State.log_mon (s : State) (k : Nat) (w : List Nat) : (s.log k w).mon = s.mon := by
  rw [State.log_frame]
@[simp] theorem State.log_staged (s : State) (k : Nat) (w : List Nat) : (s.log k w).staged = s.staged := by
  rw [State.log_frame]
@[simp] theorem State.log_parity (s : State) (k : Nat) (w : List Nat) : (s.log k w).parity = s.parity := by
  rw [State.log_frame]
@[simp] theorem State.log_mem (s : State) (k : Nat) (w : List Nat) : (s.log k w).mem = s.mem := by
  rw [State.log_frame]
@[simp] theorem State.log_homes (s : State) (k : Nat) (w : List Nat) : (s.log k w).homes = s.homes := by
  rw [State.log_frame]
@[simp] theorem State.log_fills (s : State) (k : Nat) (w : List Nat) : (s.log k w).fills = s.fills := by
  rw [State.log_frame]
@[simp] theorem State.log_moves (s : State) (k : Nat) (w : List Nat) : (s.log k w).moves = s.moves := by
  rw [State.log_frame]
@[simp] theorem State.log_coreMap (s : State) (k : Nat) (w : List Nat) : (s.log k w).coreMap = s.coreMap := by
  rw [State.log_frame]
@[simp] theorem State.log_cores (s : State) (k : Nat) (w : List Nat) : (s.log k w).cores = s.cores := by
  rw [State.log_frame]
@[simp] theorem State.log_queues (s : State) (k : Nat) (w : List Nat) : (s.log k w).queues = s.queues := by
  rw [State.log_frame]
@[simp] theorem State.log_units (s : State) (k : Nat) (w : List Nat) : (s.log k w).units = s.units := by
  rw [State.log_frame]
@[simp] theorem State.log_ports (s : State) (k : Nat) (w : List Nat) : (s.log k w).ports = s.ports := by
  rw [State.log_frame]
@[simp] theorem State.log_tunil (s : State) (k : Nat) (w : List Nat) : (s.log k w).tunil = s.tunil := by
  rw [State.log_frame]
@[simp] theorem State.log_caravan (s : State) (k : Nat) (w : List Nat) : (s.log k w).caravan = s.caravan := by
  rw [State.log_frame]
@[simp] theorem State.log_kiln (s : State) (k : Nat) (w : List Nat) : (s.log k w).kiln = s.kiln := by
  rw [State.log_frame]
@[simp] theorem State.log_codec (s : State) (k : Nat) (w : List Nat) : (s.log k w).codec = s.codec := by
  rw [State.log_frame]
@[simp] theorem State.log_host (s : State) (k : Nat) (w : List Nat) : (s.log k w).host = s.host := by
  rw [State.log_frame]
@[simp] theorem State.log_cfg (s : State) (k : Nat) (w : List Nat) : (s.log k w).cfg = s.cfg := by
  rw [State.log_frame]
@[simp] theorem State.log_serial (s : State) (k : Nat) (w : List Nat) : (s.log k w).serial = s.serial := by
  rw [State.log_frame]
@[simp] theorem State.log_freeCtr (s : State) (k : Nat) (w : List Nat) : (s.log k w).freeCtr = s.freeCtr := by
  rw [State.log_frame]
@[simp] theorem State.log_sent (s : State) (k : Nat) (w : List Nat) : (s.log k w).sent = s.sent := by
  rw [State.log_frame]

/-- queueNotice changes host and regs alone. -/
theorem State.queueNotice_frame (s : State) (m : Nat) (n : Notice) : s.queueNotice m n =
    { s with host := (s.queueNotice m n).host, regs := (s.queueNotice m n).regs } := by
  unfold State.queueNotice State.setRfld State.setReg; dsimp only; split <;> rfl
@[simp] theorem State.queueNotice_pending (s : State) (m : Nat) (n : Notice) : (s.queueNotice m n).pending = s.pending := by
  rw [State.queueNotice_frame]
@[simp] theorem State.queueNotice_power (s : State) (m : Nat) (n : Notice) : (s.queueNotice m n).power = s.power := by
  rw [State.queueNotice_frame]
@[simp] theorem State.queueNotice_clock (s : State) (m : Nat) (n : Notice) : (s.queueNotice m n).clock = s.clock := by
  rw [State.queueNotice_frame]
@[simp] theorem State.queueNotice_flash (s : State) (m : Nat) (n : Notice) : (s.queueNotice m n).flash = s.flash := by
  rw [State.queueNotice_frame]
@[simp] theorem State.queueNotice_mon (s : State) (m : Nat) (n : Notice) : (s.queueNotice m n).mon = s.mon := by
  rw [State.queueNotice_frame]
@[simp] theorem State.queueNotice_staged (s : State) (m : Nat) (n : Notice) : (s.queueNotice m n).staged = s.staged := by
  rw [State.queueNotice_frame]
@[simp] theorem State.queueNotice_parity (s : State) (m : Nat) (n : Notice) : (s.queueNotice m n).parity = s.parity := by
  rw [State.queueNotice_frame]
@[simp] theorem State.queueNotice_mem (s : State) (m : Nat) (n : Notice) : (s.queueNotice m n).mem = s.mem := by
  rw [State.queueNotice_frame]
@[simp] theorem State.queueNotice_homes (s : State) (m : Nat) (n : Notice) : (s.queueNotice m n).homes = s.homes := by
  rw [State.queueNotice_frame]
@[simp] theorem State.queueNotice_fills (s : State) (m : Nat) (n : Notice) : (s.queueNotice m n).fills = s.fills := by
  rw [State.queueNotice_frame]
@[simp] theorem State.queueNotice_moves (s : State) (m : Nat) (n : Notice) : (s.queueNotice m n).moves = s.moves := by
  rw [State.queueNotice_frame]
@[simp] theorem State.queueNotice_coreMap (s : State) (m : Nat) (n : Notice) : (s.queueNotice m n).coreMap = s.coreMap := by
  rw [State.queueNotice_frame]
@[simp] theorem State.queueNotice_cores (s : State) (m : Nat) (n : Notice) : (s.queueNotice m n).cores = s.cores := by
  rw [State.queueNotice_frame]
@[simp] theorem State.queueNotice_queues (s : State) (m : Nat) (n : Notice) : (s.queueNotice m n).queues = s.queues := by
  rw [State.queueNotice_frame]
@[simp] theorem State.queueNotice_units (s : State) (m : Nat) (n : Notice) : (s.queueNotice m n).units = s.units := by
  rw [State.queueNotice_frame]
@[simp] theorem State.queueNotice_ports (s : State) (m : Nat) (n : Notice) : (s.queueNotice m n).ports = s.ports := by
  rw [State.queueNotice_frame]
@[simp] theorem State.queueNotice_tunil (s : State) (m : Nat) (n : Notice) : (s.queueNotice m n).tunil = s.tunil := by
  rw [State.queueNotice_frame]
@[simp] theorem State.queueNotice_caravan (s : State) (m : Nat) (n : Notice) : (s.queueNotice m n).caravan = s.caravan := by
  rw [State.queueNotice_frame]
@[simp] theorem State.queueNotice_kiln (s : State) (m : Nat) (n : Notice) : (s.queueNotice m n).kiln = s.kiln := by
  rw [State.queueNotice_frame]
@[simp] theorem State.queueNotice_codec (s : State) (m : Nat) (n : Notice) : (s.queueNotice m n).codec = s.codec := by
  rw [State.queueNotice_frame]
@[simp] theorem State.queueNotice_cfg (s : State) (m : Nat) (n : Notice) : (s.queueNotice m n).cfg = s.cfg := by
  rw [State.queueNotice_frame]
@[simp] theorem State.queueNotice_serial (s : State) (m : Nat) (n : Notice) : (s.queueNotice m n).serial = s.serial := by
  rw [State.queueNotice_frame]
@[simp] theorem State.queueNotice_freeCtr (s : State) (m : Nat) (n : Notice) : (s.queueNotice m n).freeCtr = s.freeCtr := by
  rw [State.queueNotice_frame]
@[simp] theorem State.queueNotice_sent (s : State) (m : Nat) (n : Notice) : (s.queueNotice m n).sent = s.sent := by
  rw [State.queueNotice_frame]

/-- noticeTenant changes host and regs alone. -/
theorem State.noticeTenant_frame (s : State) (t c : Nat) (b : List W32) : s.noticeTenant t c b =
    { s with host := (s.noticeTenant t c b).host, regs := (s.noticeTenant t c b).regs } := by
  unfold State.noticeTenant; split
  · rfl
  · split
    · exact State.queueNotice_frame ..
    · rfl
@[simp] theorem State.noticeTenant_pending (s : State) (t c : Nat) (b : List W32) : (s.noticeTenant t c b).pending = s.pending := by
  rw [State.noticeTenant_frame]
@[simp] theorem State.noticeTenant_power (s : State) (t c : Nat) (b : List W32) : (s.noticeTenant t c b).power = s.power := by
  rw [State.noticeTenant_frame]
@[simp] theorem State.noticeTenant_clock (s : State) (t c : Nat) (b : List W32) : (s.noticeTenant t c b).clock = s.clock := by
  rw [State.noticeTenant_frame]
@[simp] theorem State.noticeTenant_flash (s : State) (t c : Nat) (b : List W32) : (s.noticeTenant t c b).flash = s.flash := by
  rw [State.noticeTenant_frame]
@[simp] theorem State.noticeTenant_mon (s : State) (t c : Nat) (b : List W32) : (s.noticeTenant t c b).mon = s.mon := by
  rw [State.noticeTenant_frame]
@[simp] theorem State.noticeTenant_staged (s : State) (t c : Nat) (b : List W32) : (s.noticeTenant t c b).staged = s.staged := by
  rw [State.noticeTenant_frame]
@[simp] theorem State.noticeTenant_parity (s : State) (t c : Nat) (b : List W32) : (s.noticeTenant t c b).parity = s.parity := by
  rw [State.noticeTenant_frame]
@[simp] theorem State.noticeTenant_mem (s : State) (t c : Nat) (b : List W32) : (s.noticeTenant t c b).mem = s.mem := by
  rw [State.noticeTenant_frame]
@[simp] theorem State.noticeTenant_homes (s : State) (t c : Nat) (b : List W32) : (s.noticeTenant t c b).homes = s.homes := by
  rw [State.noticeTenant_frame]
@[simp] theorem State.noticeTenant_fills (s : State) (t c : Nat) (b : List W32) : (s.noticeTenant t c b).fills = s.fills := by
  rw [State.noticeTenant_frame]
@[simp] theorem State.noticeTenant_moves (s : State) (t c : Nat) (b : List W32) : (s.noticeTenant t c b).moves = s.moves := by
  rw [State.noticeTenant_frame]
@[simp] theorem State.noticeTenant_coreMap (s : State) (t c : Nat) (b : List W32) : (s.noticeTenant t c b).coreMap = s.coreMap := by
  rw [State.noticeTenant_frame]
@[simp] theorem State.noticeTenant_cores (s : State) (t c : Nat) (b : List W32) : (s.noticeTenant t c b).cores = s.cores := by
  rw [State.noticeTenant_frame]
@[simp] theorem State.noticeTenant_queues (s : State) (t c : Nat) (b : List W32) : (s.noticeTenant t c b).queues = s.queues := by
  rw [State.noticeTenant_frame]
@[simp] theorem State.noticeTenant_units (s : State) (t c : Nat) (b : List W32) : (s.noticeTenant t c b).units = s.units := by
  rw [State.noticeTenant_frame]
@[simp] theorem State.noticeTenant_ports (s : State) (t c : Nat) (b : List W32) : (s.noticeTenant t c b).ports = s.ports := by
  rw [State.noticeTenant_frame]
@[simp] theorem State.noticeTenant_tunil (s : State) (t c : Nat) (b : List W32) : (s.noticeTenant t c b).tunil = s.tunil := by
  rw [State.noticeTenant_frame]
@[simp] theorem State.noticeTenant_caravan (s : State) (t c : Nat) (b : List W32) : (s.noticeTenant t c b).caravan = s.caravan := by
  rw [State.noticeTenant_frame]
@[simp] theorem State.noticeTenant_kiln (s : State) (t c : Nat) (b : List W32) : (s.noticeTenant t c b).kiln = s.kiln := by
  rw [State.noticeTenant_frame]
@[simp] theorem State.noticeTenant_codec (s : State) (t c : Nat) (b : List W32) : (s.noticeTenant t c b).codec = s.codec := by
  rw [State.noticeTenant_frame]
@[simp] theorem State.noticeTenant_cfg (s : State) (t c : Nat) (b : List W32) : (s.noticeTenant t c b).cfg = s.cfg := by
  rw [State.noticeTenant_frame]
@[simp] theorem State.noticeTenant_serial (s : State) (t c : Nat) (b : List W32) : (s.noticeTenant t c b).serial = s.serial := by
  rw [State.noticeTenant_frame]
@[simp] theorem State.noticeTenant_freeCtr (s : State) (t c : Nat) (b : List W32) : (s.noticeTenant t c b).freeCtr = s.freeCtr := by
  rw [State.noticeTenant_frame]
@[simp] theorem State.noticeTenant_sent (s : State) (t c : Nat) (b : List W32) : (s.noticeTenant t c b).sent = s.sent := by
  rw [State.noticeTenant_frame]

/-- noticeHost changes host and regs alone. -/
theorem State.noticeHost_frame (s : State) (c : Nat) (b : List Nat) : s.noticeHost c b =
    { s with host := (s.noticeHost c b).host, regs := (s.noticeHost c b).regs } := by
  unfold State.noticeHost; split
  · exact State.noticeTenant_frame ..
  · rfl
@[simp] theorem State.noticeHost_pending (s : State) (c : Nat) (b : List Nat) : (s.noticeHost c b).pending = s.pending := by
  rw [State.noticeHost_frame]
@[simp] theorem State.noticeHost_power (s : State) (c : Nat) (b : List Nat) : (s.noticeHost c b).power = s.power := by
  rw [State.noticeHost_frame]
@[simp] theorem State.noticeHost_clock (s : State) (c : Nat) (b : List Nat) : (s.noticeHost c b).clock = s.clock := by
  rw [State.noticeHost_frame]
@[simp] theorem State.noticeHost_flash (s : State) (c : Nat) (b : List Nat) : (s.noticeHost c b).flash = s.flash := by
  rw [State.noticeHost_frame]
@[simp] theorem State.noticeHost_mon (s : State) (c : Nat) (b : List Nat) : (s.noticeHost c b).mon = s.mon := by
  rw [State.noticeHost_frame]
@[simp] theorem State.noticeHost_staged (s : State) (c : Nat) (b : List Nat) : (s.noticeHost c b).staged = s.staged := by
  rw [State.noticeHost_frame]
@[simp] theorem State.noticeHost_parity (s : State) (c : Nat) (b : List Nat) : (s.noticeHost c b).parity = s.parity := by
  rw [State.noticeHost_frame]
@[simp] theorem State.noticeHost_mem (s : State) (c : Nat) (b : List Nat) : (s.noticeHost c b).mem = s.mem := by
  rw [State.noticeHost_frame]
@[simp] theorem State.noticeHost_homes (s : State) (c : Nat) (b : List Nat) : (s.noticeHost c b).homes = s.homes := by
  rw [State.noticeHost_frame]
@[simp] theorem State.noticeHost_fills (s : State) (c : Nat) (b : List Nat) : (s.noticeHost c b).fills = s.fills := by
  rw [State.noticeHost_frame]
@[simp] theorem State.noticeHost_moves (s : State) (c : Nat) (b : List Nat) : (s.noticeHost c b).moves = s.moves := by
  rw [State.noticeHost_frame]
@[simp] theorem State.noticeHost_coreMap (s : State) (c : Nat) (b : List Nat) : (s.noticeHost c b).coreMap = s.coreMap := by
  rw [State.noticeHost_frame]
@[simp] theorem State.noticeHost_cores (s : State) (c : Nat) (b : List Nat) : (s.noticeHost c b).cores = s.cores := by
  rw [State.noticeHost_frame]
@[simp] theorem State.noticeHost_queues (s : State) (c : Nat) (b : List Nat) : (s.noticeHost c b).queues = s.queues := by
  rw [State.noticeHost_frame]
@[simp] theorem State.noticeHost_units (s : State) (c : Nat) (b : List Nat) : (s.noticeHost c b).units = s.units := by
  rw [State.noticeHost_frame]
@[simp] theorem State.noticeHost_ports (s : State) (c : Nat) (b : List Nat) : (s.noticeHost c b).ports = s.ports := by
  rw [State.noticeHost_frame]
@[simp] theorem State.noticeHost_tunil (s : State) (c : Nat) (b : List Nat) : (s.noticeHost c b).tunil = s.tunil := by
  rw [State.noticeHost_frame]
@[simp] theorem State.noticeHost_caravan (s : State) (c : Nat) (b : List Nat) : (s.noticeHost c b).caravan = s.caravan := by
  rw [State.noticeHost_frame]
@[simp] theorem State.noticeHost_kiln (s : State) (c : Nat) (b : List Nat) : (s.noticeHost c b).kiln = s.kiln := by
  rw [State.noticeHost_frame]
@[simp] theorem State.noticeHost_codec (s : State) (c : Nat) (b : List Nat) : (s.noticeHost c b).codec = s.codec := by
  rw [State.noticeHost_frame]
@[simp] theorem State.noticeHost_cfg (s : State) (c : Nat) (b : List Nat) : (s.noticeHost c b).cfg = s.cfg := by
  rw [State.noticeHost_frame]
@[simp] theorem State.noticeHost_serial (s : State) (c : Nat) (b : List Nat) : (s.noticeHost c b).serial = s.serial := by
  rw [State.noticeHost_frame]
@[simp] theorem State.noticeHost_freeCtr (s : State) (c : Nat) (b : List Nat) : (s.noticeHost c b).freeCtr = s.freeCtr := by
  rw [State.noticeHost_frame]
@[simp] theorem State.noticeHost_sent (s : State) (c : Nat) (b : List Nat) : (s.noticeHost c b).sent = s.sent := by
  rw [State.noticeHost_frame]

/-- notice changes sent alone. -/
theorem State.notice_frame (s : State) (c n : Nat) (b : List Nat) : s.notice c n b =
    { s with sent := (s.notice c n b).sent } := by
  rfl
@[simp] theorem State.notice_pending (s : State) (c n : Nat) (b : List Nat) : (s.notice c n b).pending = s.pending := by
  rw [State.notice_frame]
@[simp] theorem State.notice_power (s : State) (c n : Nat) (b : List Nat) : (s.notice c n b).power = s.power := by
  rw [State.notice_frame]
@[simp] theorem State.notice_clock (s : State) (c n : Nat) (b : List Nat) : (s.notice c n b).clock = s.clock := by
  rw [State.notice_frame]
@[simp] theorem State.notice_flash (s : State) (c n : Nat) (b : List Nat) : (s.notice c n b).flash = s.flash := by
  rw [State.notice_frame]
@[simp] theorem State.notice_mon (s : State) (c n : Nat) (b : List Nat) : (s.notice c n b).mon = s.mon := by
  rw [State.notice_frame]
@[simp] theorem State.notice_staged (s : State) (c n : Nat) (b : List Nat) : (s.notice c n b).staged = s.staged := by
  rw [State.notice_frame]
@[simp] theorem State.notice_parity (s : State) (c n : Nat) (b : List Nat) : (s.notice c n b).parity = s.parity := by
  rw [State.notice_frame]
@[simp] theorem State.notice_regs (s : State) (c n : Nat) (b : List Nat) : (s.notice c n b).regs = s.regs := by
  rw [State.notice_frame]
@[simp] theorem State.notice_mem (s : State) (c n : Nat) (b : List Nat) : (s.notice c n b).mem = s.mem := by
  rw [State.notice_frame]
@[simp] theorem State.notice_homes (s : State) (c n : Nat) (b : List Nat) : (s.notice c n b).homes = s.homes := by
  rw [State.notice_frame]
@[simp] theorem State.notice_fills (s : State) (c n : Nat) (b : List Nat) : (s.notice c n b).fills = s.fills := by
  rw [State.notice_frame]
@[simp] theorem State.notice_moves (s : State) (c n : Nat) (b : List Nat) : (s.notice c n b).moves = s.moves := by
  rw [State.notice_frame]
@[simp] theorem State.notice_coreMap (s : State) (c n : Nat) (b : List Nat) : (s.notice c n b).coreMap = s.coreMap := by
  rw [State.notice_frame]
@[simp] theorem State.notice_cores (s : State) (c n : Nat) (b : List Nat) : (s.notice c n b).cores = s.cores := by
  rw [State.notice_frame]
@[simp] theorem State.notice_queues (s : State) (c n : Nat) (b : List Nat) : (s.notice c n b).queues = s.queues := by
  rw [State.notice_frame]
@[simp] theorem State.notice_units (s : State) (c n : Nat) (b : List Nat) : (s.notice c n b).units = s.units := by
  rw [State.notice_frame]
@[simp] theorem State.notice_ports (s : State) (c n : Nat) (b : List Nat) : (s.notice c n b).ports = s.ports := by
  rw [State.notice_frame]
@[simp] theorem State.notice_tunil (s : State) (c n : Nat) (b : List Nat) : (s.notice c n b).tunil = s.tunil := by
  rw [State.notice_frame]
@[simp] theorem State.notice_caravan (s : State) (c n : Nat) (b : List Nat) : (s.notice c n b).caravan = s.caravan := by
  rw [State.notice_frame]
@[simp] theorem State.notice_kiln (s : State) (c n : Nat) (b : List Nat) : (s.notice c n b).kiln = s.kiln := by
  rw [State.notice_frame]
@[simp] theorem State.notice_codec (s : State) (c n : Nat) (b : List Nat) : (s.notice c n b).codec = s.codec := by
  rw [State.notice_frame]
@[simp] theorem State.notice_host (s : State) (c n : Nat) (b : List Nat) : (s.notice c n b).host = s.host := by
  rw [State.notice_frame]
@[simp] theorem State.notice_cfg (s : State) (c n : Nat) (b : List Nat) : (s.notice c n b).cfg = s.cfg := by
  rw [State.notice_frame]
@[simp] theorem State.notice_serial (s : State) (c n : Nat) (b : List Nat) : (s.notice c n b).serial = s.serial := by
  rw [State.notice_frame]
@[simp] theorem State.notice_freeCtr (s : State) (c n : Nat) (b : List Nat) : (s.notice c n b).freeCtr = s.freeCtr := by
  rw [State.notice_frame]

/-- noticeUp changes sent alone. -/
theorem State.noticeUp_frame (s : State) (c : Nat) (b : List Nat) : s.noticeUp c b =
    { s with sent := (s.noticeUp c b).sent } := by
  unfold State.noticeUp; split <;> rfl
@[simp] theorem State.noticeUp_pending (s : State) (c : Nat) (b : List Nat) : (s.noticeUp c b).pending = s.pending := by
  rw [State.noticeUp_frame]
@[simp] theorem State.noticeUp_power (s : State) (c : Nat) (b : List Nat) : (s.noticeUp c b).power = s.power := by
  rw [State.noticeUp_frame]
@[simp] theorem State.noticeUp_clock (s : State) (c : Nat) (b : List Nat) : (s.noticeUp c b).clock = s.clock := by
  rw [State.noticeUp_frame]
@[simp] theorem State.noticeUp_flash (s : State) (c : Nat) (b : List Nat) : (s.noticeUp c b).flash = s.flash := by
  rw [State.noticeUp_frame]
@[simp] theorem State.noticeUp_mon (s : State) (c : Nat) (b : List Nat) : (s.noticeUp c b).mon = s.mon := by
  rw [State.noticeUp_frame]
@[simp] theorem State.noticeUp_staged (s : State) (c : Nat) (b : List Nat) : (s.noticeUp c b).staged = s.staged := by
  rw [State.noticeUp_frame]
@[simp] theorem State.noticeUp_parity (s : State) (c : Nat) (b : List Nat) : (s.noticeUp c b).parity = s.parity := by
  rw [State.noticeUp_frame]
@[simp] theorem State.noticeUp_regs (s : State) (c : Nat) (b : List Nat) : (s.noticeUp c b).regs = s.regs := by
  rw [State.noticeUp_frame]
@[simp] theorem State.noticeUp_mem (s : State) (c : Nat) (b : List Nat) : (s.noticeUp c b).mem = s.mem := by
  rw [State.noticeUp_frame]
@[simp] theorem State.noticeUp_homes (s : State) (c : Nat) (b : List Nat) : (s.noticeUp c b).homes = s.homes := by
  rw [State.noticeUp_frame]
@[simp] theorem State.noticeUp_fills (s : State) (c : Nat) (b : List Nat) : (s.noticeUp c b).fills = s.fills := by
  rw [State.noticeUp_frame]
@[simp] theorem State.noticeUp_moves (s : State) (c : Nat) (b : List Nat) : (s.noticeUp c b).moves = s.moves := by
  rw [State.noticeUp_frame]
@[simp] theorem State.noticeUp_coreMap (s : State) (c : Nat) (b : List Nat) : (s.noticeUp c b).coreMap = s.coreMap := by
  rw [State.noticeUp_frame]
@[simp] theorem State.noticeUp_cores (s : State) (c : Nat) (b : List Nat) : (s.noticeUp c b).cores = s.cores := by
  rw [State.noticeUp_frame]
@[simp] theorem State.noticeUp_queues (s : State) (c : Nat) (b : List Nat) : (s.noticeUp c b).queues = s.queues := by
  rw [State.noticeUp_frame]
@[simp] theorem State.noticeUp_units (s : State) (c : Nat) (b : List Nat) : (s.noticeUp c b).units = s.units := by
  rw [State.noticeUp_frame]
@[simp] theorem State.noticeUp_ports (s : State) (c : Nat) (b : List Nat) : (s.noticeUp c b).ports = s.ports := by
  rw [State.noticeUp_frame]
@[simp] theorem State.noticeUp_tunil (s : State) (c : Nat) (b : List Nat) : (s.noticeUp c b).tunil = s.tunil := by
  rw [State.noticeUp_frame]
@[simp] theorem State.noticeUp_caravan (s : State) (c : Nat) (b : List Nat) : (s.noticeUp c b).caravan = s.caravan := by
  rw [State.noticeUp_frame]
@[simp] theorem State.noticeUp_kiln (s : State) (c : Nat) (b : List Nat) : (s.noticeUp c b).kiln = s.kiln := by
  rw [State.noticeUp_frame]
@[simp] theorem State.noticeUp_codec (s : State) (c : Nat) (b : List Nat) : (s.noticeUp c b).codec = s.codec := by
  rw [State.noticeUp_frame]
@[simp] theorem State.noticeUp_host (s : State) (c : Nat) (b : List Nat) : (s.noticeUp c b).host = s.host := by
  rw [State.noticeUp_frame]
@[simp] theorem State.noticeUp_cfg (s : State) (c : Nat) (b : List Nat) : (s.noticeUp c b).cfg = s.cfg := by
  rw [State.noticeUp_frame]
@[simp] theorem State.noticeUp_serial (s : State) (c : Nat) (b : List Nat) : (s.noticeUp c b).serial = s.serial := by
  rw [State.noticeUp_frame]
@[simp] theorem State.noticeUp_freeCtr (s : State) (c : Nat) (b : List Nat) : (s.noticeUp c b).freeCtr = s.freeCtr := by
  rw [State.noticeUp_frame]

/-- relay changes sent alone. -/
theorem State.relay_frame (s : State) (h : NoteHdr) (c n : Nat) (b : List Nat) : s.relay h c n b =
    { s with sent := (s.relay h c n b).sent } := by
  rfl
@[simp] theorem State.relay_pending (s : State) (h : NoteHdr) (c n : Nat) (b : List Nat) : (s.relay h c n b).pending = s.pending := by
  rw [State.relay_frame]
@[simp] theorem State.relay_power (s : State) (h : NoteHdr) (c n : Nat) (b : List Nat) : (s.relay h c n b).power = s.power := by
  rw [State.relay_frame]
@[simp] theorem State.relay_clock (s : State) (h : NoteHdr) (c n : Nat) (b : List Nat) : (s.relay h c n b).clock = s.clock := by
  rw [State.relay_frame]
@[simp] theorem State.relay_flash (s : State) (h : NoteHdr) (c n : Nat) (b : List Nat) : (s.relay h c n b).flash = s.flash := by
  rw [State.relay_frame]
@[simp] theorem State.relay_mon (s : State) (h : NoteHdr) (c n : Nat) (b : List Nat) : (s.relay h c n b).mon = s.mon := by
  rw [State.relay_frame]
@[simp] theorem State.relay_staged (s : State) (h : NoteHdr) (c n : Nat) (b : List Nat) : (s.relay h c n b).staged = s.staged := by
  rw [State.relay_frame]
@[simp] theorem State.relay_parity (s : State) (h : NoteHdr) (c n : Nat) (b : List Nat) : (s.relay h c n b).parity = s.parity := by
  rw [State.relay_frame]
@[simp] theorem State.relay_regs (s : State) (h : NoteHdr) (c n : Nat) (b : List Nat) : (s.relay h c n b).regs = s.regs := by
  rw [State.relay_frame]
@[simp] theorem State.relay_mem (s : State) (h : NoteHdr) (c n : Nat) (b : List Nat) : (s.relay h c n b).mem = s.mem := by
  rw [State.relay_frame]
@[simp] theorem State.relay_homes (s : State) (h : NoteHdr) (c n : Nat) (b : List Nat) : (s.relay h c n b).homes = s.homes := by
  rw [State.relay_frame]
@[simp] theorem State.relay_fills (s : State) (h : NoteHdr) (c n : Nat) (b : List Nat) : (s.relay h c n b).fills = s.fills := by
  rw [State.relay_frame]
@[simp] theorem State.relay_moves (s : State) (h : NoteHdr) (c n : Nat) (b : List Nat) : (s.relay h c n b).moves = s.moves := by
  rw [State.relay_frame]
@[simp] theorem State.relay_coreMap (s : State) (h : NoteHdr) (c n : Nat) (b : List Nat) : (s.relay h c n b).coreMap = s.coreMap := by
  rw [State.relay_frame]
@[simp] theorem State.relay_cores (s : State) (h : NoteHdr) (c n : Nat) (b : List Nat) : (s.relay h c n b).cores = s.cores := by
  rw [State.relay_frame]
@[simp] theorem State.relay_queues (s : State) (h : NoteHdr) (c n : Nat) (b : List Nat) : (s.relay h c n b).queues = s.queues := by
  rw [State.relay_frame]
@[simp] theorem State.relay_units (s : State) (h : NoteHdr) (c n : Nat) (b : List Nat) : (s.relay h c n b).units = s.units := by
  rw [State.relay_frame]
@[simp] theorem State.relay_ports (s : State) (h : NoteHdr) (c n : Nat) (b : List Nat) : (s.relay h c n b).ports = s.ports := by
  rw [State.relay_frame]
@[simp] theorem State.relay_tunil (s : State) (h : NoteHdr) (c n : Nat) (b : List Nat) : (s.relay h c n b).tunil = s.tunil := by
  rw [State.relay_frame]
@[simp] theorem State.relay_caravan (s : State) (h : NoteHdr) (c n : Nat) (b : List Nat) : (s.relay h c n b).caravan = s.caravan := by
  rw [State.relay_frame]
@[simp] theorem State.relay_kiln (s : State) (h : NoteHdr) (c n : Nat) (b : List Nat) : (s.relay h c n b).kiln = s.kiln := by
  rw [State.relay_frame]
@[simp] theorem State.relay_codec (s : State) (h : NoteHdr) (c n : Nat) (b : List Nat) : (s.relay h c n b).codec = s.codec := by
  rw [State.relay_frame]
@[simp] theorem State.relay_host (s : State) (h : NoteHdr) (c n : Nat) (b : List Nat) : (s.relay h c n b).host = s.host := by
  rw [State.relay_frame]
@[simp] theorem State.relay_cfg (s : State) (h : NoteHdr) (c n : Nat) (b : List Nat) : (s.relay h c n b).cfg = s.cfg := by
  rw [State.relay_frame]
@[simp] theorem State.relay_serial (s : State) (h : NoteHdr) (c n : Nat) (b : List Nat) : (s.relay h c n b).serial = s.serial := by
  rw [State.relay_frame]
@[simp] theorem State.relay_freeCtr (s : State) (h : NoteHdr) (c n : Nat) (b : List Nat) : (s.relay h c n b).freeCtr = s.freeCtr := by
  rw [State.relay_frame]

/-- passUp changes sent alone. -/
theorem State.passUp_frame (s : State) (h : NoteHdr) (c : Nat) (b : List Nat) : s.passUp h c b =
    { s with sent := (s.passUp h c b).sent } := by
  unfold State.passUp; split <;> rfl
@[simp] theorem State.passUp_pending (s : State) (h : NoteHdr) (c : Nat) (b : List Nat) : (s.passUp h c b).pending = s.pending := by
  rw [State.passUp_frame]
@[simp] theorem State.passUp_power (s : State) (h : NoteHdr) (c : Nat) (b : List Nat) : (s.passUp h c b).power = s.power := by
  rw [State.passUp_frame]
@[simp] theorem State.passUp_clock (s : State) (h : NoteHdr) (c : Nat) (b : List Nat) : (s.passUp h c b).clock = s.clock := by
  rw [State.passUp_frame]
@[simp] theorem State.passUp_flash (s : State) (h : NoteHdr) (c : Nat) (b : List Nat) : (s.passUp h c b).flash = s.flash := by
  rw [State.passUp_frame]
@[simp] theorem State.passUp_mon (s : State) (h : NoteHdr) (c : Nat) (b : List Nat) : (s.passUp h c b).mon = s.mon := by
  rw [State.passUp_frame]
@[simp] theorem State.passUp_staged (s : State) (h : NoteHdr) (c : Nat) (b : List Nat) : (s.passUp h c b).staged = s.staged := by
  rw [State.passUp_frame]
@[simp] theorem State.passUp_parity (s : State) (h : NoteHdr) (c : Nat) (b : List Nat) : (s.passUp h c b).parity = s.parity := by
  rw [State.passUp_frame]
@[simp] theorem State.passUp_regs (s : State) (h : NoteHdr) (c : Nat) (b : List Nat) : (s.passUp h c b).regs = s.regs := by
  rw [State.passUp_frame]
@[simp] theorem State.passUp_mem (s : State) (h : NoteHdr) (c : Nat) (b : List Nat) : (s.passUp h c b).mem = s.mem := by
  rw [State.passUp_frame]
@[simp] theorem State.passUp_homes (s : State) (h : NoteHdr) (c : Nat) (b : List Nat) : (s.passUp h c b).homes = s.homes := by
  rw [State.passUp_frame]
@[simp] theorem State.passUp_fills (s : State) (h : NoteHdr) (c : Nat) (b : List Nat) : (s.passUp h c b).fills = s.fills := by
  rw [State.passUp_frame]
@[simp] theorem State.passUp_moves (s : State) (h : NoteHdr) (c : Nat) (b : List Nat) : (s.passUp h c b).moves = s.moves := by
  rw [State.passUp_frame]
@[simp] theorem State.passUp_coreMap (s : State) (h : NoteHdr) (c : Nat) (b : List Nat) : (s.passUp h c b).coreMap = s.coreMap := by
  rw [State.passUp_frame]
@[simp] theorem State.passUp_cores (s : State) (h : NoteHdr) (c : Nat) (b : List Nat) : (s.passUp h c b).cores = s.cores := by
  rw [State.passUp_frame]
@[simp] theorem State.passUp_queues (s : State) (h : NoteHdr) (c : Nat) (b : List Nat) : (s.passUp h c b).queues = s.queues := by
  rw [State.passUp_frame]
@[simp] theorem State.passUp_units (s : State) (h : NoteHdr) (c : Nat) (b : List Nat) : (s.passUp h c b).units = s.units := by
  rw [State.passUp_frame]
@[simp] theorem State.passUp_ports (s : State) (h : NoteHdr) (c : Nat) (b : List Nat) : (s.passUp h c b).ports = s.ports := by
  rw [State.passUp_frame]
@[simp] theorem State.passUp_tunil (s : State) (h : NoteHdr) (c : Nat) (b : List Nat) : (s.passUp h c b).tunil = s.tunil := by
  rw [State.passUp_frame]
@[simp] theorem State.passUp_caravan (s : State) (h : NoteHdr) (c : Nat) (b : List Nat) : (s.passUp h c b).caravan = s.caravan := by
  rw [State.passUp_frame]
@[simp] theorem State.passUp_kiln (s : State) (h : NoteHdr) (c : Nat) (b : List Nat) : (s.passUp h c b).kiln = s.kiln := by
  rw [State.passUp_frame]
@[simp] theorem State.passUp_codec (s : State) (h : NoteHdr) (c : Nat) (b : List Nat) : (s.passUp h c b).codec = s.codec := by
  rw [State.passUp_frame]
@[simp] theorem State.passUp_host (s : State) (h : NoteHdr) (c : Nat) (b : List Nat) : (s.passUp h c b).host = s.host := by
  rw [State.passUp_frame]
@[simp] theorem State.passUp_cfg (s : State) (h : NoteHdr) (c : Nat) (b : List Nat) : (s.passUp h c b).cfg = s.cfg := by
  rw [State.passUp_frame]
@[simp] theorem State.passUp_serial (s : State) (h : NoteHdr) (c : Nat) (b : List Nat) : (s.passUp h c b).serial = s.serial := by
  rw [State.passUp_frame]
@[simp] theorem State.passUp_freeCtr (s : State) (h : NoteHdr) (c : Nat) (b : List Nat) : (s.passUp h c b).freeCtr = s.freeCtr := by
  rw [State.passUp_frame]

/-- setCarState changes host and regs and sent alone. -/
theorem State.setCarState_frame (s : State) (v : Nat) : s.setCarState v =
    { s with host := (s.setCarState v).host, regs := (s.setCarState v).regs, sent := (s.setCarState v).sent } := by
  unfold State.setCarState; split
  · rfl
  · rw [State.raise_frame]; rfl
@[simp] theorem State.setCarState_pending (s : State) (v : Nat) : (s.setCarState v).pending = s.pending := by
  rw [State.setCarState_frame]
@[simp] theorem State.setCarState_power (s : State) (v : Nat) : (s.setCarState v).power = s.power := by
  rw [State.setCarState_frame]
@[simp] theorem State.setCarState_clock (s : State) (v : Nat) : (s.setCarState v).clock = s.clock := by
  rw [State.setCarState_frame]
@[simp] theorem State.setCarState_flash (s : State) (v : Nat) : (s.setCarState v).flash = s.flash := by
  rw [State.setCarState_frame]
@[simp] theorem State.setCarState_mon (s : State) (v : Nat) : (s.setCarState v).mon = s.mon := by
  rw [State.setCarState_frame]
@[simp] theorem State.setCarState_staged (s : State) (v : Nat) : (s.setCarState v).staged = s.staged := by
  rw [State.setCarState_frame]
@[simp] theorem State.setCarState_parity (s : State) (v : Nat) : (s.setCarState v).parity = s.parity := by
  rw [State.setCarState_frame]
@[simp] theorem State.setCarState_mem (s : State) (v : Nat) : (s.setCarState v).mem = s.mem := by
  rw [State.setCarState_frame]
@[simp] theorem State.setCarState_homes (s : State) (v : Nat) : (s.setCarState v).homes = s.homes := by
  rw [State.setCarState_frame]
@[simp] theorem State.setCarState_fills (s : State) (v : Nat) : (s.setCarState v).fills = s.fills := by
  rw [State.setCarState_frame]
@[simp] theorem State.setCarState_moves (s : State) (v : Nat) : (s.setCarState v).moves = s.moves := by
  rw [State.setCarState_frame]
@[simp] theorem State.setCarState_coreMap (s : State) (v : Nat) : (s.setCarState v).coreMap = s.coreMap := by
  rw [State.setCarState_frame]
@[simp] theorem State.setCarState_cores (s : State) (v : Nat) : (s.setCarState v).cores = s.cores := by
  rw [State.setCarState_frame]
@[simp] theorem State.setCarState_queues (s : State) (v : Nat) : (s.setCarState v).queues = s.queues := by
  rw [State.setCarState_frame]
@[simp] theorem State.setCarState_units (s : State) (v : Nat) : (s.setCarState v).units = s.units := by
  rw [State.setCarState_frame]
@[simp] theorem State.setCarState_ports (s : State) (v : Nat) : (s.setCarState v).ports = s.ports := by
  rw [State.setCarState_frame]
@[simp] theorem State.setCarState_tunil (s : State) (v : Nat) : (s.setCarState v).tunil = s.tunil := by
  rw [State.setCarState_frame]
@[simp] theorem State.setCarState_caravan (s : State) (v : Nat) : (s.setCarState v).caravan = s.caravan := by
  rw [State.setCarState_frame]
@[simp] theorem State.setCarState_kiln (s : State) (v : Nat) : (s.setCarState v).kiln = s.kiln := by
  rw [State.setCarState_frame]
@[simp] theorem State.setCarState_codec (s : State) (v : Nat) : (s.setCarState v).codec = s.codec := by
  rw [State.setCarState_frame]
@[simp] theorem State.setCarState_cfg (s : State) (v : Nat) : (s.setCarState v).cfg = s.cfg := by
  rw [State.setCarState_frame]
@[simp] theorem State.setCarState_serial (s : State) (v : Nat) : (s.setCarState v).serial = s.serial := by
  rw [State.setCarState_frame]
@[simp] theorem State.setCarState_freeCtr (s : State) (v : Nat) : (s.setCarState v).freeCtr = s.freeCtr := by
  rw [State.setCarState_frame]

/-- request changes units alone. -/
theorem State.request_frame (s : State) (u : Nat) (r : Req) : s.request u r =
    { s with units := (s.request u r).units } := by
  unfold State.request State.setUnit; dsimp only; (repeat' split) <;> rfl
@[simp] theorem State.request_pending (s : State) (u : Nat) (r : Req) : (s.request u r).pending = s.pending := by
  rw [State.request_frame]
@[simp] theorem State.request_power (s : State) (u : Nat) (r : Req) : (s.request u r).power = s.power := by
  rw [State.request_frame]
@[simp] theorem State.request_clock (s : State) (u : Nat) (r : Req) : (s.request u r).clock = s.clock := by
  rw [State.request_frame]
@[simp] theorem State.request_flash (s : State) (u : Nat) (r : Req) : (s.request u r).flash = s.flash := by
  rw [State.request_frame]
@[simp] theorem State.request_mon (s : State) (u : Nat) (r : Req) : (s.request u r).mon = s.mon := by
  rw [State.request_frame]
@[simp] theorem State.request_staged (s : State) (u : Nat) (r : Req) : (s.request u r).staged = s.staged := by
  rw [State.request_frame]
@[simp] theorem State.request_parity (s : State) (u : Nat) (r : Req) : (s.request u r).parity = s.parity := by
  rw [State.request_frame]
@[simp] theorem State.request_regs (s : State) (u : Nat) (r : Req) : (s.request u r).regs = s.regs := by
  rw [State.request_frame]
@[simp] theorem State.request_mem (s : State) (u : Nat) (r : Req) : (s.request u r).mem = s.mem := by
  rw [State.request_frame]
@[simp] theorem State.request_homes (s : State) (u : Nat) (r : Req) : (s.request u r).homes = s.homes := by
  rw [State.request_frame]
@[simp] theorem State.request_fills (s : State) (u : Nat) (r : Req) : (s.request u r).fills = s.fills := by
  rw [State.request_frame]
@[simp] theorem State.request_moves (s : State) (u : Nat) (r : Req) : (s.request u r).moves = s.moves := by
  rw [State.request_frame]
@[simp] theorem State.request_coreMap (s : State) (u : Nat) (r : Req) : (s.request u r).coreMap = s.coreMap := by
  rw [State.request_frame]
@[simp] theorem State.request_cores (s : State) (u : Nat) (r : Req) : (s.request u r).cores = s.cores := by
  rw [State.request_frame]
@[simp] theorem State.request_queues (s : State) (u : Nat) (r : Req) : (s.request u r).queues = s.queues := by
  rw [State.request_frame]
@[simp] theorem State.request_ports (s : State) (u : Nat) (r : Req) : (s.request u r).ports = s.ports := by
  rw [State.request_frame]
@[simp] theorem State.request_tunil (s : State) (u : Nat) (r : Req) : (s.request u r).tunil = s.tunil := by
  rw [State.request_frame]
@[simp] theorem State.request_caravan (s : State) (u : Nat) (r : Req) : (s.request u r).caravan = s.caravan := by
  rw [State.request_frame]
@[simp] theorem State.request_kiln (s : State) (u : Nat) (r : Req) : (s.request u r).kiln = s.kiln := by
  rw [State.request_frame]
@[simp] theorem State.request_codec (s : State) (u : Nat) (r : Req) : (s.request u r).codec = s.codec := by
  rw [State.request_frame]
@[simp] theorem State.request_host (s : State) (u : Nat) (r : Req) : (s.request u r).host = s.host := by
  rw [State.request_frame]
@[simp] theorem State.request_cfg (s : State) (u : Nat) (r : Req) : (s.request u r).cfg = s.cfg := by
  rw [State.request_frame]
@[simp] theorem State.request_serial (s : State) (u : Nat) (r : Req) : (s.request u r).serial = s.serial := by
  rw [State.request_frame]
@[simp] theorem State.request_freeCtr (s : State) (u : Nat) (r : Req) : (s.request u r).freeCtr = s.freeCtr := by
  rw [State.request_frame]
@[simp] theorem State.request_sent (s : State) (u : Nat) (r : Req) : (s.request u r).sent = s.sent := by
  rw [State.request_frame]

/-- dropRequests changes units alone. -/
theorem State.dropRequests_frame (s : State) (u : Nat) (p : Req → Bool) : s.dropRequests u p =
    { s with units := (s.dropRequests u p).units } := by
  rfl
@[simp] theorem State.dropRequests_pending (s : State) (u : Nat) (p : Req → Bool) : (s.dropRequests u p).pending = s.pending := by
  rw [State.dropRequests_frame]
@[simp] theorem State.dropRequests_power (s : State) (u : Nat) (p : Req → Bool) : (s.dropRequests u p).power = s.power := by
  rw [State.dropRequests_frame]
@[simp] theorem State.dropRequests_clock (s : State) (u : Nat) (p : Req → Bool) : (s.dropRequests u p).clock = s.clock := by
  rw [State.dropRequests_frame]
@[simp] theorem State.dropRequests_flash (s : State) (u : Nat) (p : Req → Bool) : (s.dropRequests u p).flash = s.flash := by
  rw [State.dropRequests_frame]
@[simp] theorem State.dropRequests_mon (s : State) (u : Nat) (p : Req → Bool) : (s.dropRequests u p).mon = s.mon := by
  rw [State.dropRequests_frame]
@[simp] theorem State.dropRequests_staged (s : State) (u : Nat) (p : Req → Bool) : (s.dropRequests u p).staged = s.staged := by
  rw [State.dropRequests_frame]
@[simp] theorem State.dropRequests_parity (s : State) (u : Nat) (p : Req → Bool) : (s.dropRequests u p).parity = s.parity := by
  rw [State.dropRequests_frame]
@[simp] theorem State.dropRequests_regs (s : State) (u : Nat) (p : Req → Bool) : (s.dropRequests u p).regs = s.regs := by
  rw [State.dropRequests_frame]
@[simp] theorem State.dropRequests_mem (s : State) (u : Nat) (p : Req → Bool) : (s.dropRequests u p).mem = s.mem := by
  rw [State.dropRequests_frame]
@[simp] theorem State.dropRequests_homes (s : State) (u : Nat) (p : Req → Bool) : (s.dropRequests u p).homes = s.homes := by
  rw [State.dropRequests_frame]
@[simp] theorem State.dropRequests_fills (s : State) (u : Nat) (p : Req → Bool) : (s.dropRequests u p).fills = s.fills := by
  rw [State.dropRequests_frame]
@[simp] theorem State.dropRequests_moves (s : State) (u : Nat) (p : Req → Bool) : (s.dropRequests u p).moves = s.moves := by
  rw [State.dropRequests_frame]
@[simp] theorem State.dropRequests_coreMap (s : State) (u : Nat) (p : Req → Bool) : (s.dropRequests u p).coreMap = s.coreMap := by
  rw [State.dropRequests_frame]
@[simp] theorem State.dropRequests_cores (s : State) (u : Nat) (p : Req → Bool) : (s.dropRequests u p).cores = s.cores := by
  rw [State.dropRequests_frame]
@[simp] theorem State.dropRequests_queues (s : State) (u : Nat) (p : Req → Bool) : (s.dropRequests u p).queues = s.queues := by
  rw [State.dropRequests_frame]
@[simp] theorem State.dropRequests_ports (s : State) (u : Nat) (p : Req → Bool) : (s.dropRequests u p).ports = s.ports := by
  rw [State.dropRequests_frame]
@[simp] theorem State.dropRequests_tunil (s : State) (u : Nat) (p : Req → Bool) : (s.dropRequests u p).tunil = s.tunil := by
  rw [State.dropRequests_frame]
@[simp] theorem State.dropRequests_caravan (s : State) (u : Nat) (p : Req → Bool) : (s.dropRequests u p).caravan = s.caravan := by
  rw [State.dropRequests_frame]
@[simp] theorem State.dropRequests_kiln (s : State) (u : Nat) (p : Req → Bool) : (s.dropRequests u p).kiln = s.kiln := by
  rw [State.dropRequests_frame]
@[simp] theorem State.dropRequests_codec (s : State) (u : Nat) (p : Req → Bool) : (s.dropRequests u p).codec = s.codec := by
  rw [State.dropRequests_frame]
@[simp] theorem State.dropRequests_host (s : State) (u : Nat) (p : Req → Bool) : (s.dropRequests u p).host = s.host := by
  rw [State.dropRequests_frame]
@[simp] theorem State.dropRequests_cfg (s : State) (u : Nat) (p : Req → Bool) : (s.dropRequests u p).cfg = s.cfg := by
  rw [State.dropRequests_frame]
@[simp] theorem State.dropRequests_serial (s : State) (u : Nat) (p : Req → Bool) : (s.dropRequests u p).serial = s.serial := by
  rw [State.dropRequests_frame]
@[simp] theorem State.dropRequests_freeCtr (s : State) (u : Nat) (p : Req → Bool) : (s.dropRequests u p).freeCtr = s.freeCtr := by
  rw [State.dropRequests_frame]
@[simp] theorem State.dropRequests_sent (s : State) (u : Nat) (p : Req → Bool) : (s.dropRequests u p).sent = s.sent := by
  rw [State.dropRequests_frame]

/-- grantNext changes units alone. -/
theorem State.grantNext_frame (s : State) (u : Nat) : s.grantNext u =
    { s with units := (s.grantNext u).units } := by
  unfold State.grantNext State.setUnit; dsimp only; (repeat' split) <;> rfl
@[simp] theorem State.grantNext_pending (s : State) (u : Nat) : (s.grantNext u).pending = s.pending := by
  rw [State.grantNext_frame]
@[simp] theorem State.grantNext_power (s : State) (u : Nat) : (s.grantNext u).power = s.power := by
  rw [State.grantNext_frame]
@[simp] theorem State.grantNext_clock (s : State) (u : Nat) : (s.grantNext u).clock = s.clock := by
  rw [State.grantNext_frame]
@[simp] theorem State.grantNext_flash (s : State) (u : Nat) : (s.grantNext u).flash = s.flash := by
  rw [State.grantNext_frame]
@[simp] theorem State.grantNext_mon (s : State) (u : Nat) : (s.grantNext u).mon = s.mon := by
  rw [State.grantNext_frame]
@[simp] theorem State.grantNext_staged (s : State) (u : Nat) : (s.grantNext u).staged = s.staged := by
  rw [State.grantNext_frame]
@[simp] theorem State.grantNext_parity (s : State) (u : Nat) : (s.grantNext u).parity = s.parity := by
  rw [State.grantNext_frame]
@[simp] theorem State.grantNext_regs (s : State) (u : Nat) : (s.grantNext u).regs = s.regs := by
  rw [State.grantNext_frame]
@[simp] theorem State.grantNext_mem (s : State) (u : Nat) : (s.grantNext u).mem = s.mem := by
  rw [State.grantNext_frame]
@[simp] theorem State.grantNext_homes (s : State) (u : Nat) : (s.grantNext u).homes = s.homes := by
  rw [State.grantNext_frame]
@[simp] theorem State.grantNext_fills (s : State) (u : Nat) : (s.grantNext u).fills = s.fills := by
  rw [State.grantNext_frame]
@[simp] theorem State.grantNext_moves (s : State) (u : Nat) : (s.grantNext u).moves = s.moves := by
  rw [State.grantNext_frame]
@[simp] theorem State.grantNext_coreMap (s : State) (u : Nat) : (s.grantNext u).coreMap = s.coreMap := by
  rw [State.grantNext_frame]
@[simp] theorem State.grantNext_cores (s : State) (u : Nat) : (s.grantNext u).cores = s.cores := by
  rw [State.grantNext_frame]
@[simp] theorem State.grantNext_queues (s : State) (u : Nat) : (s.grantNext u).queues = s.queues := by
  rw [State.grantNext_frame]
@[simp] theorem State.grantNext_ports (s : State) (u : Nat) : (s.grantNext u).ports = s.ports := by
  rw [State.grantNext_frame]
@[simp] theorem State.grantNext_tunil (s : State) (u : Nat) : (s.grantNext u).tunil = s.tunil := by
  rw [State.grantNext_frame]
@[simp] theorem State.grantNext_caravan (s : State) (u : Nat) : (s.grantNext u).caravan = s.caravan := by
  rw [State.grantNext_frame]
@[simp] theorem State.grantNext_kiln (s : State) (u : Nat) : (s.grantNext u).kiln = s.kiln := by
  rw [State.grantNext_frame]
@[simp] theorem State.grantNext_codec (s : State) (u : Nat) : (s.grantNext u).codec = s.codec := by
  rw [State.grantNext_frame]
@[simp] theorem State.grantNext_host (s : State) (u : Nat) : (s.grantNext u).host = s.host := by
  rw [State.grantNext_frame]
@[simp] theorem State.grantNext_cfg (s : State) (u : Nat) : (s.grantNext u).cfg = s.cfg := by
  rw [State.grantNext_frame]
@[simp] theorem State.grantNext_serial (s : State) (u : Nat) : (s.grantNext u).serial = s.serial := by
  rw [State.grantNext_frame]
@[simp] theorem State.grantNext_freeCtr (s : State) (u : Nat) : (s.grantNext u).freeCtr = s.freeCtr := by
  rw [State.grantNext_frame]
@[simp] theorem State.grantNext_sent (s : State) (u : Nat) : (s.grantNext u).sent = s.sent := by
  rw [State.grantNext_frame]

/-- untilBeat changes clock alone. -/
theorem State.untilBeat_frame (s : State) (d : Nat) : s.untilBeat d =
    { s with clock := (s.untilBeat d).clock } := by
  unfold State.untilBeat; dsimp only; split <;> rfl
@[simp] theorem State.untilBeat_pending (s : State) (d : Nat) : (s.untilBeat d).pending = s.pending := by
  rw [State.untilBeat_frame]
@[simp] theorem State.untilBeat_power (s : State) (d : Nat) : (s.untilBeat d).power = s.power := by
  rw [State.untilBeat_frame]
@[simp] theorem State.untilBeat_flash (s : State) (d : Nat) : (s.untilBeat d).flash = s.flash := by
  rw [State.untilBeat_frame]
@[simp] theorem State.untilBeat_mon (s : State) (d : Nat) : (s.untilBeat d).mon = s.mon := by
  rw [State.untilBeat_frame]
@[simp] theorem State.untilBeat_staged (s : State) (d : Nat) : (s.untilBeat d).staged = s.staged := by
  rw [State.untilBeat_frame]
@[simp] theorem State.untilBeat_parity (s : State) (d : Nat) : (s.untilBeat d).parity = s.parity := by
  rw [State.untilBeat_frame]
@[simp] theorem State.untilBeat_regs (s : State) (d : Nat) : (s.untilBeat d).regs = s.regs := by
  rw [State.untilBeat_frame]
@[simp] theorem State.untilBeat_mem (s : State) (d : Nat) : (s.untilBeat d).mem = s.mem := by
  rw [State.untilBeat_frame]
@[simp] theorem State.untilBeat_homes (s : State) (d : Nat) : (s.untilBeat d).homes = s.homes := by
  rw [State.untilBeat_frame]
@[simp] theorem State.untilBeat_fills (s : State) (d : Nat) : (s.untilBeat d).fills = s.fills := by
  rw [State.untilBeat_frame]
@[simp] theorem State.untilBeat_moves (s : State) (d : Nat) : (s.untilBeat d).moves = s.moves := by
  rw [State.untilBeat_frame]
@[simp] theorem State.untilBeat_coreMap (s : State) (d : Nat) : (s.untilBeat d).coreMap = s.coreMap := by
  rw [State.untilBeat_frame]
@[simp] theorem State.untilBeat_cores (s : State) (d : Nat) : (s.untilBeat d).cores = s.cores := by
  rw [State.untilBeat_frame]
@[simp] theorem State.untilBeat_queues (s : State) (d : Nat) : (s.untilBeat d).queues = s.queues := by
  rw [State.untilBeat_frame]
@[simp] theorem State.untilBeat_units (s : State) (d : Nat) : (s.untilBeat d).units = s.units := by
  rw [State.untilBeat_frame]
@[simp] theorem State.untilBeat_ports (s : State) (d : Nat) : (s.untilBeat d).ports = s.ports := by
  rw [State.untilBeat_frame]
@[simp] theorem State.untilBeat_tunil (s : State) (d : Nat) : (s.untilBeat d).tunil = s.tunil := by
  rw [State.untilBeat_frame]
@[simp] theorem State.untilBeat_caravan (s : State) (d : Nat) : (s.untilBeat d).caravan = s.caravan := by
  rw [State.untilBeat_frame]
@[simp] theorem State.untilBeat_kiln (s : State) (d : Nat) : (s.untilBeat d).kiln = s.kiln := by
  rw [State.untilBeat_frame]
@[simp] theorem State.untilBeat_codec (s : State) (d : Nat) : (s.untilBeat d).codec = s.codec := by
  rw [State.untilBeat_frame]
@[simp] theorem State.untilBeat_host (s : State) (d : Nat) : (s.untilBeat d).host = s.host := by
  rw [State.untilBeat_frame]
@[simp] theorem State.untilBeat_cfg (s : State) (d : Nat) : (s.untilBeat d).cfg = s.cfg := by
  rw [State.untilBeat_frame]
@[simp] theorem State.untilBeat_serial (s : State) (d : Nat) : (s.untilBeat d).serial = s.serial := by
  rw [State.untilBeat_frame]
@[simp] theorem State.untilBeat_freeCtr (s : State) (d : Nat) : (s.untilBeat d).freeCtr = s.freeCtr := by
  rw [State.untilBeat_frame]
@[simp] theorem State.untilBeat_sent (s : State) (d : Nat) : (s.untilBeat d).sent = s.sent := by
  rw [State.untilBeat_frame]

/-- setSt changes homes alone. -/
theorem State.setSt_frame (s : State) (t h st : Nat) : s.setSt t h st =
    { s with homes := (s.setSt t h st).homes } := by
  rfl
@[simp] theorem State.setSt_pending (s : State) (t h st : Nat) : (s.setSt t h st).pending = s.pending := by
  rw [State.setSt_frame]
@[simp] theorem State.setSt_power (s : State) (t h st : Nat) : (s.setSt t h st).power = s.power := by
  rw [State.setSt_frame]
@[simp] theorem State.setSt_clock (s : State) (t h st : Nat) : (s.setSt t h st).clock = s.clock := by
  rw [State.setSt_frame]
@[simp] theorem State.setSt_flash (s : State) (t h st : Nat) : (s.setSt t h st).flash = s.flash := by
  rw [State.setSt_frame]
@[simp] theorem State.setSt_mon (s : State) (t h st : Nat) : (s.setSt t h st).mon = s.mon := by
  rw [State.setSt_frame]
@[simp] theorem State.setSt_staged (s : State) (t h st : Nat) : (s.setSt t h st).staged = s.staged := by
  rw [State.setSt_frame]
@[simp] theorem State.setSt_parity (s : State) (t h st : Nat) : (s.setSt t h st).parity = s.parity := by
  rw [State.setSt_frame]
@[simp] theorem State.setSt_regs (s : State) (t h st : Nat) : (s.setSt t h st).regs = s.regs := by
  rw [State.setSt_frame]
@[simp] theorem State.setSt_mem (s : State) (t h st : Nat) : (s.setSt t h st).mem = s.mem := by
  rw [State.setSt_frame]
@[simp] theorem State.setSt_fills (s : State) (t h st : Nat) : (s.setSt t h st).fills = s.fills := by
  rw [State.setSt_frame]
@[simp] theorem State.setSt_moves (s : State) (t h st : Nat) : (s.setSt t h st).moves = s.moves := by
  rw [State.setSt_frame]
@[simp] theorem State.setSt_coreMap (s : State) (t h st : Nat) : (s.setSt t h st).coreMap = s.coreMap := by
  rw [State.setSt_frame]
@[simp] theorem State.setSt_cores (s : State) (t h st : Nat) : (s.setSt t h st).cores = s.cores := by
  rw [State.setSt_frame]
@[simp] theorem State.setSt_queues (s : State) (t h st : Nat) : (s.setSt t h st).queues = s.queues := by
  rw [State.setSt_frame]
@[simp] theorem State.setSt_units (s : State) (t h st : Nat) : (s.setSt t h st).units = s.units := by
  rw [State.setSt_frame]
@[simp] theorem State.setSt_ports (s : State) (t h st : Nat) : (s.setSt t h st).ports = s.ports := by
  rw [State.setSt_frame]
@[simp] theorem State.setSt_tunil (s : State) (t h st : Nat) : (s.setSt t h st).tunil = s.tunil := by
  rw [State.setSt_frame]
@[simp] theorem State.setSt_caravan (s : State) (t h st : Nat) : (s.setSt t h st).caravan = s.caravan := by
  rw [State.setSt_frame]
@[simp] theorem State.setSt_kiln (s : State) (t h st : Nat) : (s.setSt t h st).kiln = s.kiln := by
  rw [State.setSt_frame]
@[simp] theorem State.setSt_codec (s : State) (t h st : Nat) : (s.setSt t h st).codec = s.codec := by
  rw [State.setSt_frame]
@[simp] theorem State.setSt_host (s : State) (t h st : Nat) : (s.setSt t h st).host = s.host := by
  rw [State.setSt_frame]
@[simp] theorem State.setSt_cfg (s : State) (t h st : Nat) : (s.setSt t h st).cfg = s.cfg := by
  rw [State.setSt_frame]
@[simp] theorem State.setSt_serial (s : State) (t h st : Nat) : (s.setSt t h st).serial = s.serial := by
  rw [State.setSt_frame]
@[simp] theorem State.setSt_freeCtr (s : State) (t h st : Nat) : (s.setSt t h st).freeCtr = s.freeCtr := by
  rw [State.setSt_frame]
@[simp] theorem State.setSt_sent (s : State) (t h st : Nat) : (s.setSt t h st).sent = s.sent := by
  rw [State.setSt_frame]

/-- coldRead changes regs alone. -/
theorem State.coldRead_frame (s : State) (t h : Nat) : s.coldRead t h =
    { s with regs := (s.coldRead t h).regs } := by
  unfold State.coldRead; split <;> rfl
@[simp] theorem State.coldRead_pending (s : State) (t h : Nat) : (s.coldRead t h).pending = s.pending := by
  rw [State.coldRead_frame]
@[simp] theorem State.coldRead_power (s : State) (t h : Nat) : (s.coldRead t h).power = s.power := by
  rw [State.coldRead_frame]
@[simp] theorem State.coldRead_clock (s : State) (t h : Nat) : (s.coldRead t h).clock = s.clock := by
  rw [State.coldRead_frame]
@[simp] theorem State.coldRead_flash (s : State) (t h : Nat) : (s.coldRead t h).flash = s.flash := by
  rw [State.coldRead_frame]
@[simp] theorem State.coldRead_mon (s : State) (t h : Nat) : (s.coldRead t h).mon = s.mon := by
  rw [State.coldRead_frame]
@[simp] theorem State.coldRead_staged (s : State) (t h : Nat) : (s.coldRead t h).staged = s.staged := by
  rw [State.coldRead_frame]
@[simp] theorem State.coldRead_parity (s : State) (t h : Nat) : (s.coldRead t h).parity = s.parity := by
  rw [State.coldRead_frame]
@[simp] theorem State.coldRead_mem (s : State) (t h : Nat) : (s.coldRead t h).mem = s.mem := by
  rw [State.coldRead_frame]
@[simp] theorem State.coldRead_homes (s : State) (t h : Nat) : (s.coldRead t h).homes = s.homes := by
  rw [State.coldRead_frame]
@[simp] theorem State.coldRead_fills (s : State) (t h : Nat) : (s.coldRead t h).fills = s.fills := by
  rw [State.coldRead_frame]
@[simp] theorem State.coldRead_moves (s : State) (t h : Nat) : (s.coldRead t h).moves = s.moves := by
  rw [State.coldRead_frame]
@[simp] theorem State.coldRead_coreMap (s : State) (t h : Nat) : (s.coldRead t h).coreMap = s.coreMap := by
  rw [State.coldRead_frame]
@[simp] theorem State.coldRead_cores (s : State) (t h : Nat) : (s.coldRead t h).cores = s.cores := by
  rw [State.coldRead_frame]
@[simp] theorem State.coldRead_queues (s : State) (t h : Nat) : (s.coldRead t h).queues = s.queues := by
  rw [State.coldRead_frame]
@[simp] theorem State.coldRead_units (s : State) (t h : Nat) : (s.coldRead t h).units = s.units := by
  rw [State.coldRead_frame]
@[simp] theorem State.coldRead_ports (s : State) (t h : Nat) : (s.coldRead t h).ports = s.ports := by
  rw [State.coldRead_frame]
@[simp] theorem State.coldRead_tunil (s : State) (t h : Nat) : (s.coldRead t h).tunil = s.tunil := by
  rw [State.coldRead_frame]
@[simp] theorem State.coldRead_caravan (s : State) (t h : Nat) : (s.coldRead t h).caravan = s.caravan := by
  rw [State.coldRead_frame]
@[simp] theorem State.coldRead_kiln (s : State) (t h : Nat) : (s.coldRead t h).kiln = s.kiln := by
  rw [State.coldRead_frame]
@[simp] theorem State.coldRead_codec (s : State) (t h : Nat) : (s.coldRead t h).codec = s.codec := by
  rw [State.coldRead_frame]
@[simp] theorem State.coldRead_host (s : State) (t h : Nat) : (s.coldRead t h).host = s.host := by
  rw [State.coldRead_frame]
@[simp] theorem State.coldRead_cfg (s : State) (t h : Nat) : (s.coldRead t h).cfg = s.cfg := by
  rw [State.coldRead_frame]
@[simp] theorem State.coldRead_serial (s : State) (t h : Nat) : (s.coldRead t h).serial = s.serial := by
  rw [State.coldRead_frame]
@[simp] theorem State.coldRead_freeCtr (s : State) (t h : Nat) : (s.coldRead t h).freeCtr = s.freeCtr := by
  rw [State.coldRead_frame]
@[simp] theorem State.coldRead_sent (s : State) (t h : Nat) : (s.coldRead t h).sent = s.sent := by
  rw [State.coldRead_frame]

/-- modMaster changes caravan alone. -/
theorem State.modMaster_frame (s : State) (g : Master → Master) : s.modMaster g =
    { s with caravan := (s.modMaster g).caravan } := by
  rfl
@[simp] theorem State.modMaster_pending (s : State) (g : Master → Master) : (s.modMaster g).pending = s.pending := by
  rw [State.modMaster_frame]
@[simp] theorem State.modMaster_power (s : State) (g : Master → Master) : (s.modMaster g).power = s.power := by
  rw [State.modMaster_frame]
@[simp] theorem State.modMaster_clock (s : State) (g : Master → Master) : (s.modMaster g).clock = s.clock := by
  rw [State.modMaster_frame]
@[simp] theorem State.modMaster_flash (s : State) (g : Master → Master) : (s.modMaster g).flash = s.flash := by
  rw [State.modMaster_frame]
@[simp] theorem State.modMaster_mon (s : State) (g : Master → Master) : (s.modMaster g).mon = s.mon := by
  rw [State.modMaster_frame]
@[simp] theorem State.modMaster_staged (s : State) (g : Master → Master) : (s.modMaster g).staged = s.staged := by
  rw [State.modMaster_frame]
@[simp] theorem State.modMaster_parity (s : State) (g : Master → Master) : (s.modMaster g).parity = s.parity := by
  rw [State.modMaster_frame]
@[simp] theorem State.modMaster_regs (s : State) (g : Master → Master) : (s.modMaster g).regs = s.regs := by
  rw [State.modMaster_frame]
@[simp] theorem State.modMaster_mem (s : State) (g : Master → Master) : (s.modMaster g).mem = s.mem := by
  rw [State.modMaster_frame]
@[simp] theorem State.modMaster_homes (s : State) (g : Master → Master) : (s.modMaster g).homes = s.homes := by
  rw [State.modMaster_frame]
@[simp] theorem State.modMaster_fills (s : State) (g : Master → Master) : (s.modMaster g).fills = s.fills := by
  rw [State.modMaster_frame]
@[simp] theorem State.modMaster_moves (s : State) (g : Master → Master) : (s.modMaster g).moves = s.moves := by
  rw [State.modMaster_frame]
@[simp] theorem State.modMaster_coreMap (s : State) (g : Master → Master) : (s.modMaster g).coreMap = s.coreMap := by
  rw [State.modMaster_frame]
@[simp] theorem State.modMaster_cores (s : State) (g : Master → Master) : (s.modMaster g).cores = s.cores := by
  rw [State.modMaster_frame]
@[simp] theorem State.modMaster_queues (s : State) (g : Master → Master) : (s.modMaster g).queues = s.queues := by
  rw [State.modMaster_frame]
@[simp] theorem State.modMaster_units (s : State) (g : Master → Master) : (s.modMaster g).units = s.units := by
  rw [State.modMaster_frame]
@[simp] theorem State.modMaster_ports (s : State) (g : Master → Master) : (s.modMaster g).ports = s.ports := by
  rw [State.modMaster_frame]
@[simp] theorem State.modMaster_tunil (s : State) (g : Master → Master) : (s.modMaster g).tunil = s.tunil := by
  rw [State.modMaster_frame]
@[simp] theorem State.modMaster_kiln (s : State) (g : Master → Master) : (s.modMaster g).kiln = s.kiln := by
  rw [State.modMaster_frame]
@[simp] theorem State.modMaster_codec (s : State) (g : Master → Master) : (s.modMaster g).codec = s.codec := by
  rw [State.modMaster_frame]
@[simp] theorem State.modMaster_host (s : State) (g : Master → Master) : (s.modMaster g).host = s.host := by
  rw [State.modMaster_frame]
@[simp] theorem State.modMaster_cfg (s : State) (g : Master → Master) : (s.modMaster g).cfg = s.cfg := by
  rw [State.modMaster_frame]
@[simp] theorem State.modMaster_serial (s : State) (g : Master → Master) : (s.modMaster g).serial = s.serial := by
  rw [State.modMaster_frame]
@[simp] theorem State.modMaster_freeCtr (s : State) (g : Master → Master) : (s.modMaster g).freeCtr = s.freeCtr := by
  rw [State.modMaster_frame]
@[simp] theorem State.modMaster_sent (s : State) (g : Master → Master) : (s.modMaster g).sent = s.sent := by
  rw [State.modMaster_frame]

/-- modCaravan changes caravan alone. -/
theorem State.modCaravan_frame (s : State) (g : Caravan → Caravan) : s.modCaravan g =
    { s with caravan := (s.modCaravan g).caravan } := by
  rfl
@[simp] theorem State.modCaravan_pending (s : State) (g : Caravan → Caravan) : (s.modCaravan g).pending = s.pending := by
  rw [State.modCaravan_frame]
@[simp] theorem State.modCaravan_power (s : State) (g : Caravan → Caravan) : (s.modCaravan g).power = s.power := by
  rw [State.modCaravan_frame]
@[simp] theorem State.modCaravan_clock (s : State) (g : Caravan → Caravan) : (s.modCaravan g).clock = s.clock := by
  rw [State.modCaravan_frame]
@[simp] theorem State.modCaravan_flash (s : State) (g : Caravan → Caravan) : (s.modCaravan g).flash = s.flash := by
  rw [State.modCaravan_frame]
@[simp] theorem State.modCaravan_mon (s : State) (g : Caravan → Caravan) : (s.modCaravan g).mon = s.mon := by
  rw [State.modCaravan_frame]
@[simp] theorem State.modCaravan_staged (s : State) (g : Caravan → Caravan) : (s.modCaravan g).staged = s.staged := by
  rw [State.modCaravan_frame]
@[simp] theorem State.modCaravan_parity (s : State) (g : Caravan → Caravan) : (s.modCaravan g).parity = s.parity := by
  rw [State.modCaravan_frame]
@[simp] theorem State.modCaravan_regs (s : State) (g : Caravan → Caravan) : (s.modCaravan g).regs = s.regs := by
  rw [State.modCaravan_frame]
@[simp] theorem State.modCaravan_mem (s : State) (g : Caravan → Caravan) : (s.modCaravan g).mem = s.mem := by
  rw [State.modCaravan_frame]
@[simp] theorem State.modCaravan_homes (s : State) (g : Caravan → Caravan) : (s.modCaravan g).homes = s.homes := by
  rw [State.modCaravan_frame]
@[simp] theorem State.modCaravan_fills (s : State) (g : Caravan → Caravan) : (s.modCaravan g).fills = s.fills := by
  rw [State.modCaravan_frame]
@[simp] theorem State.modCaravan_moves (s : State) (g : Caravan → Caravan) : (s.modCaravan g).moves = s.moves := by
  rw [State.modCaravan_frame]
@[simp] theorem State.modCaravan_coreMap (s : State) (g : Caravan → Caravan) : (s.modCaravan g).coreMap = s.coreMap := by
  rw [State.modCaravan_frame]
@[simp] theorem State.modCaravan_cores (s : State) (g : Caravan → Caravan) : (s.modCaravan g).cores = s.cores := by
  rw [State.modCaravan_frame]
@[simp] theorem State.modCaravan_queues (s : State) (g : Caravan → Caravan) : (s.modCaravan g).queues = s.queues := by
  rw [State.modCaravan_frame]
@[simp] theorem State.modCaravan_units (s : State) (g : Caravan → Caravan) : (s.modCaravan g).units = s.units := by
  rw [State.modCaravan_frame]
@[simp] theorem State.modCaravan_ports (s : State) (g : Caravan → Caravan) : (s.modCaravan g).ports = s.ports := by
  rw [State.modCaravan_frame]
@[simp] theorem State.modCaravan_tunil (s : State) (g : Caravan → Caravan) : (s.modCaravan g).tunil = s.tunil := by
  rw [State.modCaravan_frame]
@[simp] theorem State.modCaravan_kiln (s : State) (g : Caravan → Caravan) : (s.modCaravan g).kiln = s.kiln := by
  rw [State.modCaravan_frame]
@[simp] theorem State.modCaravan_codec (s : State) (g : Caravan → Caravan) : (s.modCaravan g).codec = s.codec := by
  rw [State.modCaravan_frame]
@[simp] theorem State.modCaravan_host (s : State) (g : Caravan → Caravan) : (s.modCaravan g).host = s.host := by
  rw [State.modCaravan_frame]
@[simp] theorem State.modCaravan_cfg (s : State) (g : Caravan → Caravan) : (s.modCaravan g).cfg = s.cfg := by
  rw [State.modCaravan_frame]
@[simp] theorem State.modCaravan_serial (s : State) (g : Caravan → Caravan) : (s.modCaravan g).serial = s.serial := by
  rw [State.modCaravan_frame]
@[simp] theorem State.modCaravan_freeCtr (s : State) (g : Caravan → Caravan) : (s.modCaravan g).freeCtr = s.freeCtr := by
  rw [State.modCaravan_frame]
@[simp] theorem State.modCaravan_sent (s : State) (g : Caravan → Caravan) : (s.modCaravan g).sent = s.sent := by
  rw [State.modCaravan_frame]

/-- endSvc changes host alone. -/
theorem State.endSvc_frame (s : State) (m c : Nat) : s.endSvc m c =
    { s with host := (s.endSvc m c).host } := by
  rfl
@[simp] theorem State.endSvc_pending (s : State) (m c : Nat) : (s.endSvc m c).pending = s.pending := by
  rw [State.endSvc_frame]
@[simp] theorem State.endSvc_power (s : State) (m c : Nat) : (s.endSvc m c).power = s.power := by
  rw [State.endSvc_frame]
@[simp] theorem State.endSvc_clock (s : State) (m c : Nat) : (s.endSvc m c).clock = s.clock := by
  rw [State.endSvc_frame]
@[simp] theorem State.endSvc_flash (s : State) (m c : Nat) : (s.endSvc m c).flash = s.flash := by
  rw [State.endSvc_frame]
@[simp] theorem State.endSvc_mon (s : State) (m c : Nat) : (s.endSvc m c).mon = s.mon := by
  rw [State.endSvc_frame]
@[simp] theorem State.endSvc_staged (s : State) (m c : Nat) : (s.endSvc m c).staged = s.staged := by
  rw [State.endSvc_frame]
@[simp] theorem State.endSvc_parity (s : State) (m c : Nat) : (s.endSvc m c).parity = s.parity := by
  rw [State.endSvc_frame]
@[simp] theorem State.endSvc_regs (s : State) (m c : Nat) : (s.endSvc m c).regs = s.regs := by
  rw [State.endSvc_frame]
@[simp] theorem State.endSvc_mem (s : State) (m c : Nat) : (s.endSvc m c).mem = s.mem := by
  rw [State.endSvc_frame]
@[simp] theorem State.endSvc_homes (s : State) (m c : Nat) : (s.endSvc m c).homes = s.homes := by
  rw [State.endSvc_frame]
@[simp] theorem State.endSvc_fills (s : State) (m c : Nat) : (s.endSvc m c).fills = s.fills := by
  rw [State.endSvc_frame]
@[simp] theorem State.endSvc_moves (s : State) (m c : Nat) : (s.endSvc m c).moves = s.moves := by
  rw [State.endSvc_frame]
@[simp] theorem State.endSvc_coreMap (s : State) (m c : Nat) : (s.endSvc m c).coreMap = s.coreMap := by
  rw [State.endSvc_frame]
@[simp] theorem State.endSvc_cores (s : State) (m c : Nat) : (s.endSvc m c).cores = s.cores := by
  rw [State.endSvc_frame]
@[simp] theorem State.endSvc_queues (s : State) (m c : Nat) : (s.endSvc m c).queues = s.queues := by
  rw [State.endSvc_frame]
@[simp] theorem State.endSvc_units (s : State) (m c : Nat) : (s.endSvc m c).units = s.units := by
  rw [State.endSvc_frame]
@[simp] theorem State.endSvc_ports (s : State) (m c : Nat) : (s.endSvc m c).ports = s.ports := by
  rw [State.endSvc_frame]
@[simp] theorem State.endSvc_tunil (s : State) (m c : Nat) : (s.endSvc m c).tunil = s.tunil := by
  rw [State.endSvc_frame]
@[simp] theorem State.endSvc_caravan (s : State) (m c : Nat) : (s.endSvc m c).caravan = s.caravan := by
  rw [State.endSvc_frame]
@[simp] theorem State.endSvc_kiln (s : State) (m c : Nat) : (s.endSvc m c).kiln = s.kiln := by
  rw [State.endSvc_frame]
@[simp] theorem State.endSvc_codec (s : State) (m c : Nat) : (s.endSvc m c).codec = s.codec := by
  rw [State.endSvc_frame]
@[simp] theorem State.endSvc_cfg (s : State) (m c : Nat) : (s.endSvc m c).cfg = s.cfg := by
  rw [State.endSvc_frame]
@[simp] theorem State.endSvc_serial (s : State) (m c : Nat) : (s.endSvc m c).serial = s.serial := by
  rw [State.endSvc_frame]
@[simp] theorem State.endSvc_freeCtr (s : State) (m c : Nat) : (s.endSvc m c).freeCtr = s.freeCtr := by
  rw [State.endSvc_frame]
@[simp] theorem State.endSvc_sent (s : State) (m c : Nat) : (s.endSvc m c).sent = s.sent := by
  rw [State.endSvc_frame]

/-- beginSvc changes host alone. -/
theorem State.beginSvc_frame (s : State) (m : Nat) : s.beginSvc m =
    { s with host := (s.beginSvc m).host } := by
  rfl
@[simp] theorem State.beginSvc_pending (s : State) (m : Nat) : (s.beginSvc m).pending = s.pending := by
  rw [State.beginSvc_frame]
@[simp] theorem State.beginSvc_power (s : State) (m : Nat) : (s.beginSvc m).power = s.power := by
  rw [State.beginSvc_frame]
@[simp] theorem State.beginSvc_clock (s : State) (m : Nat) : (s.beginSvc m).clock = s.clock := by
  rw [State.beginSvc_frame]
@[simp] theorem State.beginSvc_flash (s : State) (m : Nat) : (s.beginSvc m).flash = s.flash := by
  rw [State.beginSvc_frame]
@[simp] theorem State.beginSvc_mon (s : State) (m : Nat) : (s.beginSvc m).mon = s.mon := by
  rw [State.beginSvc_frame]
@[simp] theorem State.beginSvc_staged (s : State) (m : Nat) : (s.beginSvc m).staged = s.staged := by
  rw [State.beginSvc_frame]
@[simp] theorem State.beginSvc_parity (s : State) (m : Nat) : (s.beginSvc m).parity = s.parity := by
  rw [State.beginSvc_frame]
@[simp] theorem State.beginSvc_regs (s : State) (m : Nat) : (s.beginSvc m).regs = s.regs := by
  rw [State.beginSvc_frame]
@[simp] theorem State.beginSvc_mem (s : State) (m : Nat) : (s.beginSvc m).mem = s.mem := by
  rw [State.beginSvc_frame]
@[simp] theorem State.beginSvc_homes (s : State) (m : Nat) : (s.beginSvc m).homes = s.homes := by
  rw [State.beginSvc_frame]
@[simp] theorem State.beginSvc_fills (s : State) (m : Nat) : (s.beginSvc m).fills = s.fills := by
  rw [State.beginSvc_frame]
@[simp] theorem State.beginSvc_moves (s : State) (m : Nat) : (s.beginSvc m).moves = s.moves := by
  rw [State.beginSvc_frame]
@[simp] theorem State.beginSvc_coreMap (s : State) (m : Nat) : (s.beginSvc m).coreMap = s.coreMap := by
  rw [State.beginSvc_frame]
@[simp] theorem State.beginSvc_cores (s : State) (m : Nat) : (s.beginSvc m).cores = s.cores := by
  rw [State.beginSvc_frame]
@[simp] theorem State.beginSvc_queues (s : State) (m : Nat) : (s.beginSvc m).queues = s.queues := by
  rw [State.beginSvc_frame]
@[simp] theorem State.beginSvc_units (s : State) (m : Nat) : (s.beginSvc m).units = s.units := by
  rw [State.beginSvc_frame]
@[simp] theorem State.beginSvc_ports (s : State) (m : Nat) : (s.beginSvc m).ports = s.ports := by
  rw [State.beginSvc_frame]
@[simp] theorem State.beginSvc_tunil (s : State) (m : Nat) : (s.beginSvc m).tunil = s.tunil := by
  rw [State.beginSvc_frame]
@[simp] theorem State.beginSvc_caravan (s : State) (m : Nat) : (s.beginSvc m).caravan = s.caravan := by
  rw [State.beginSvc_frame]
@[simp] theorem State.beginSvc_kiln (s : State) (m : Nat) : (s.beginSvc m).kiln = s.kiln := by
  rw [State.beginSvc_frame]
@[simp] theorem State.beginSvc_codec (s : State) (m : Nat) : (s.beginSvc m).codec = s.codec := by
  rw [State.beginSvc_frame]
@[simp] theorem State.beginSvc_cfg (s : State) (m : Nat) : (s.beginSvc m).cfg = s.cfg := by
  rw [State.beginSvc_frame]
@[simp] theorem State.beginSvc_serial (s : State) (m : Nat) : (s.beginSvc m).serial = s.serial := by
  rw [State.beginSvc_frame]
@[simp] theorem State.beginSvc_freeCtr (s : State) (m : Nat) : (s.beginSvc m).freeCtr = s.freeCtr := by
  rw [State.beginSvc_frame]
@[simp] theorem State.beginSvc_sent (s : State) (m : Nat) : (s.beginSvc m).sent = s.sent := by
  rw [State.beginSvc_frame]

/-- modTask changes queues alone. -/
theorem State.modTask_frame (s : State) (k n : Nat) (g : Task → Task) : s.modTask k n g =
    { s with queues := (s.modTask k n g).queues } := by
  rfl
@[simp] theorem State.modTask_pending (s : State) (k n : Nat) (g : Task → Task) : (s.modTask k n g).pending = s.pending := by
  rw [State.modTask_frame]
@[simp] theorem State.modTask_power (s : State) (k n : Nat) (g : Task → Task) : (s.modTask k n g).power = s.power := by
  rw [State.modTask_frame]
@[simp] theorem State.modTask_clock (s : State) (k n : Nat) (g : Task → Task) : (s.modTask k n g).clock = s.clock := by
  rw [State.modTask_frame]
@[simp] theorem State.modTask_flash (s : State) (k n : Nat) (g : Task → Task) : (s.modTask k n g).flash = s.flash := by
  rw [State.modTask_frame]
@[simp] theorem State.modTask_mon (s : State) (k n : Nat) (g : Task → Task) : (s.modTask k n g).mon = s.mon := by
  rw [State.modTask_frame]
@[simp] theorem State.modTask_staged (s : State) (k n : Nat) (g : Task → Task) : (s.modTask k n g).staged = s.staged := by
  rw [State.modTask_frame]
@[simp] theorem State.modTask_parity (s : State) (k n : Nat) (g : Task → Task) : (s.modTask k n g).parity = s.parity := by
  rw [State.modTask_frame]
@[simp] theorem State.modTask_regs (s : State) (k n : Nat) (g : Task → Task) : (s.modTask k n g).regs = s.regs := by
  rw [State.modTask_frame]
@[simp] theorem State.modTask_mem (s : State) (k n : Nat) (g : Task → Task) : (s.modTask k n g).mem = s.mem := by
  rw [State.modTask_frame]
@[simp] theorem State.modTask_homes (s : State) (k n : Nat) (g : Task → Task) : (s.modTask k n g).homes = s.homes := by
  rw [State.modTask_frame]
@[simp] theorem State.modTask_fills (s : State) (k n : Nat) (g : Task → Task) : (s.modTask k n g).fills = s.fills := by
  rw [State.modTask_frame]
@[simp] theorem State.modTask_moves (s : State) (k n : Nat) (g : Task → Task) : (s.modTask k n g).moves = s.moves := by
  rw [State.modTask_frame]
@[simp] theorem State.modTask_coreMap (s : State) (k n : Nat) (g : Task → Task) : (s.modTask k n g).coreMap = s.coreMap := by
  rw [State.modTask_frame]
@[simp] theorem State.modTask_cores (s : State) (k n : Nat) (g : Task → Task) : (s.modTask k n g).cores = s.cores := by
  rw [State.modTask_frame]
@[simp] theorem State.modTask_units (s : State) (k n : Nat) (g : Task → Task) : (s.modTask k n g).units = s.units := by
  rw [State.modTask_frame]
@[simp] theorem State.modTask_ports (s : State) (k n : Nat) (g : Task → Task) : (s.modTask k n g).ports = s.ports := by
  rw [State.modTask_frame]
@[simp] theorem State.modTask_tunil (s : State) (k n : Nat) (g : Task → Task) : (s.modTask k n g).tunil = s.tunil := by
  rw [State.modTask_frame]
@[simp] theorem State.modTask_caravan (s : State) (k n : Nat) (g : Task → Task) : (s.modTask k n g).caravan = s.caravan := by
  rw [State.modTask_frame]
@[simp] theorem State.modTask_kiln (s : State) (k n : Nat) (g : Task → Task) : (s.modTask k n g).kiln = s.kiln := by
  rw [State.modTask_frame]
@[simp] theorem State.modTask_codec (s : State) (k n : Nat) (g : Task → Task) : (s.modTask k n g).codec = s.codec := by
  rw [State.modTask_frame]
@[simp] theorem State.modTask_host (s : State) (k n : Nat) (g : Task → Task) : (s.modTask k n g).host = s.host := by
  rw [State.modTask_frame]
@[simp] theorem State.modTask_cfg (s : State) (k n : Nat) (g : Task → Task) : (s.modTask k n g).cfg = s.cfg := by
  rw [State.modTask_frame]
@[simp] theorem State.modTask_serial (s : State) (k n : Nat) (g : Task → Task) : (s.modTask k n g).serial = s.serial := by
  rw [State.modTask_frame]
@[simp] theorem State.modTask_freeCtr (s : State) (k n : Nat) (g : Task → Task) : (s.modTask k n g).freeCtr = s.freeCtr := by
  rw [State.modTask_frame]
@[simp] theorem State.modTask_sent (s : State) (k n : Nat) (g : Task → Task) : (s.modTask k n g).sent = s.sent := by
  rw [State.modTask_frame]

/-- setQst changes regs alone. -/
theorem State.setQst_frame (s : State) (k v : Nat) : s.setQst k v =
    { s with regs := (s.setQst k v).regs } := by
  rfl
@[simp] theorem State.setQst_pending (s : State) (k v : Nat) : (s.setQst k v).pending = s.pending := by
  rw [State.setQst_frame]
@[simp] theorem State.setQst_power (s : State) (k v : Nat) : (s.setQst k v).power = s.power := by
  rw [State.setQst_frame]
@[simp] theorem State.setQst_clock (s : State) (k v : Nat) : (s.setQst k v).clock = s.clock := by
  rw [State.setQst_frame]
@[simp] theorem State.setQst_flash (s : State) (k v : Nat) : (s.setQst k v).flash = s.flash := by
  rw [State.setQst_frame]
@[simp] theorem State.setQst_mon (s : State) (k v : Nat) : (s.setQst k v).mon = s.mon := by
  rw [State.setQst_frame]
@[simp] theorem State.setQst_staged (s : State) (k v : Nat) : (s.setQst k v).staged = s.staged := by
  rw [State.setQst_frame]
@[simp] theorem State.setQst_parity (s : State) (k v : Nat) : (s.setQst k v).parity = s.parity := by
  rw [State.setQst_frame]
@[simp] theorem State.setQst_mem (s : State) (k v : Nat) : (s.setQst k v).mem = s.mem := by
  rw [State.setQst_frame]
@[simp] theorem State.setQst_homes (s : State) (k v : Nat) : (s.setQst k v).homes = s.homes := by
  rw [State.setQst_frame]
@[simp] theorem State.setQst_fills (s : State) (k v : Nat) : (s.setQst k v).fills = s.fills := by
  rw [State.setQst_frame]
@[simp] theorem State.setQst_moves (s : State) (k v : Nat) : (s.setQst k v).moves = s.moves := by
  rw [State.setQst_frame]
@[simp] theorem State.setQst_coreMap (s : State) (k v : Nat) : (s.setQst k v).coreMap = s.coreMap := by
  rw [State.setQst_frame]
@[simp] theorem State.setQst_cores (s : State) (k v : Nat) : (s.setQst k v).cores = s.cores := by
  rw [State.setQst_frame]
@[simp] theorem State.setQst_queues (s : State) (k v : Nat) : (s.setQst k v).queues = s.queues := by
  rw [State.setQst_frame]
@[simp] theorem State.setQst_units (s : State) (k v : Nat) : (s.setQst k v).units = s.units := by
  rw [State.setQst_frame]
@[simp] theorem State.setQst_ports (s : State) (k v : Nat) : (s.setQst k v).ports = s.ports := by
  rw [State.setQst_frame]
@[simp] theorem State.setQst_tunil (s : State) (k v : Nat) : (s.setQst k v).tunil = s.tunil := by
  rw [State.setQst_frame]
@[simp] theorem State.setQst_caravan (s : State) (k v : Nat) : (s.setQst k v).caravan = s.caravan := by
  rw [State.setQst_frame]
@[simp] theorem State.setQst_kiln (s : State) (k v : Nat) : (s.setQst k v).kiln = s.kiln := by
  rw [State.setQst_frame]
@[simp] theorem State.setQst_codec (s : State) (k v : Nat) : (s.setQst k v).codec = s.codec := by
  rw [State.setQst_frame]
@[simp] theorem State.setQst_host (s : State) (k v : Nat) : (s.setQst k v).host = s.host := by
  rw [State.setQst_frame]
@[simp] theorem State.setQst_cfg (s : State) (k v : Nat) : (s.setQst k v).cfg = s.cfg := by
  rw [State.setQst_frame]
@[simp] theorem State.setQst_serial (s : State) (k v : Nat) : (s.setQst k v).serial = s.serial := by
  rw [State.setQst_frame]
@[simp] theorem State.setQst_freeCtr (s : State) (k v : Nat) : (s.setQst k v).freeCtr = s.freeCtr := by
  rw [State.setQst_frame]
@[simp] theorem State.setQst_sent (s : State) (k v : Nat) : (s.setQst k v).sent = s.sent := by
  rw [State.setQst_frame]

theorem State.initGranule_eq (s : State) (a : Nat) : s.initGranule a = { s with mem := (s.initGranule a).mem } := by
  unfold State.initGranule; (repeat' split) <;> rfl

theorem foldGranules_eq (l : List Nat) : ∀ s : State, ∃ m, l.foldl (fun x cw => (x.initGranule cw).cleanCw cw) s =
    { s with mem := m } ∧ m.bytes = s.mem.bytes := by
  induction l with
  | nil => intro s; exact ⟨s.mem, rfl, rfl⟩
  | cons c t ih =>
    intro s
    obtain ⟨m, h, hb⟩ := ih ((s.initGranule c).cleanCw c)
    refine ⟨m, ?_, ?_⟩
    · rw [List.foldl_cons, h, State.initGranule_eq]; rfl
    · rw [hb]; exact State.initGranule_bytes s c

/-- putUnits changes mem alone. -/
theorem State.putUnits_frame (s : State) (a : Nat) (bs : List Byte) : s.putUnits a bs =
    { s with mem := (s.putUnits a bs).mem } := by
  unfold State.putUnits
  obtain ⟨m, h, -⟩ := foldGranules_eq (codewords a bs.length) s
  rw [h]; rfl
@[simp] theorem State.putUnits_pending (s : State) (a : Nat) (bs : List Byte) : (s.putUnits a bs).pending = s.pending := by
  rw [State.putUnits_frame]
@[simp] theorem State.putUnits_power (s : State) (a : Nat) (bs : List Byte) : (s.putUnits a bs).power = s.power := by
  rw [State.putUnits_frame]
@[simp] theorem State.putUnits_clock (s : State) (a : Nat) (bs : List Byte) : (s.putUnits a bs).clock = s.clock := by
  rw [State.putUnits_frame]
@[simp] theorem State.putUnits_flash (s : State) (a : Nat) (bs : List Byte) : (s.putUnits a bs).flash = s.flash := by
  rw [State.putUnits_frame]
@[simp] theorem State.putUnits_mon (s : State) (a : Nat) (bs : List Byte) : (s.putUnits a bs).mon = s.mon := by
  rw [State.putUnits_frame]
@[simp] theorem State.putUnits_staged (s : State) (a : Nat) (bs : List Byte) : (s.putUnits a bs).staged = s.staged := by
  rw [State.putUnits_frame]
@[simp] theorem State.putUnits_parity (s : State) (a : Nat) (bs : List Byte) : (s.putUnits a bs).parity = s.parity := by
  rw [State.putUnits_frame]
@[simp] theorem State.putUnits_regs (s : State) (a : Nat) (bs : List Byte) : (s.putUnits a bs).regs = s.regs := by
  rw [State.putUnits_frame]
@[simp] theorem State.putUnits_homes (s : State) (a : Nat) (bs : List Byte) : (s.putUnits a bs).homes = s.homes := by
  rw [State.putUnits_frame]
@[simp] theorem State.putUnits_fills (s : State) (a : Nat) (bs : List Byte) : (s.putUnits a bs).fills = s.fills := by
  rw [State.putUnits_frame]
@[simp] theorem State.putUnits_moves (s : State) (a : Nat) (bs : List Byte) : (s.putUnits a bs).moves = s.moves := by
  rw [State.putUnits_frame]
@[simp] theorem State.putUnits_coreMap (s : State) (a : Nat) (bs : List Byte) : (s.putUnits a bs).coreMap = s.coreMap := by
  rw [State.putUnits_frame]
@[simp] theorem State.putUnits_cores (s : State) (a : Nat) (bs : List Byte) : (s.putUnits a bs).cores = s.cores := by
  rw [State.putUnits_frame]
@[simp] theorem State.putUnits_queues (s : State) (a : Nat) (bs : List Byte) : (s.putUnits a bs).queues = s.queues := by
  rw [State.putUnits_frame]
@[simp] theorem State.putUnits_units (s : State) (a : Nat) (bs : List Byte) : (s.putUnits a bs).units = s.units := by
  rw [State.putUnits_frame]
@[simp] theorem State.putUnits_ports (s : State) (a : Nat) (bs : List Byte) : (s.putUnits a bs).ports = s.ports := by
  rw [State.putUnits_frame]
@[simp] theorem State.putUnits_tunil (s : State) (a : Nat) (bs : List Byte) : (s.putUnits a bs).tunil = s.tunil := by
  rw [State.putUnits_frame]
@[simp] theorem State.putUnits_caravan (s : State) (a : Nat) (bs : List Byte) : (s.putUnits a bs).caravan = s.caravan := by
  rw [State.putUnits_frame]
@[simp] theorem State.putUnits_kiln (s : State) (a : Nat) (bs : List Byte) : (s.putUnits a bs).kiln = s.kiln := by
  rw [State.putUnits_frame]
@[simp] theorem State.putUnits_codec (s : State) (a : Nat) (bs : List Byte) : (s.putUnits a bs).codec = s.codec := by
  rw [State.putUnits_frame]
@[simp] theorem State.putUnits_host (s : State) (a : Nat) (bs : List Byte) : (s.putUnits a bs).host = s.host := by
  rw [State.putUnits_frame]
@[simp] theorem State.putUnits_cfg (s : State) (a : Nat) (bs : List Byte) : (s.putUnits a bs).cfg = s.cfg := by
  rw [State.putUnits_frame]
@[simp] theorem State.putUnits_serial (s : State) (a : Nat) (bs : List Byte) : (s.putUnits a bs).serial = s.serial := by
  rw [State.putUnits_frame]
@[simp] theorem State.putUnits_freeCtr (s : State) (a : Nat) (bs : List Byte) : (s.putUnits a bs).freeCtr = s.freeCtr := by
  rw [State.putUnits_frame]
@[simp] theorem State.putUnits_sent (s : State) (a : Nat) (bs : List Byte) : (s.putUnits a bs).sent = s.sent := by
  rw [State.putUnits_frame]

/-- notices sends one notice to each node, the last one latest. -/
theorem State.notices_eq (c : Nat) (b : List Nat) : ∀ (l : List Nat) (s : State), s.notices c l b =
    { s with sent := (l.map fun n => s.noticeOf c n b).reverse ++ s.sent }
  | [], _ => rfl
  | n :: t, s => by
    have := State.notices_eq c b t (s.notice c n b)
    unfold State.notices at *
    rw [List.foldl_cons, this, List.map_cons, List.reverse_cons, List.append_assoc]; rfl

/-- passDown sends one notice to each member. -/
theorem State.passDown_eq (s : State) (h : NoteHdr) (c : Nat) (b : List Nat) : s.passDown h c b =
    { s with sent := (s.memberNodes.map fun n => s.relayed h c n b).reverse ++ s.sent } := by
  unfold State.passDown
  generalize s.memberNodes = l
  induction l generalizing s with
  | nil => rfl
  | cons n t ih => rw [List.foldl_cons, ih, List.map_cons, List.reverse_cons, List.append_assoc]; rfl

/-- A store of whole codewords, byte by byte. -/
theorem State.byte_putUnits (s : State) (a j : Nat) (bs : List Byte) :
    (s.putUnits a bs).byte j = if a ≤ j ∧ j < a + bs.length then (bs[j - a]?).getD 0 else s.byte j := by
  unfold State.putUnits
  obtain ⟨m, h, hb⟩ := foldGranules_eq (codewords a bs.length) s
  rw [h, State.byte_putBytes]
  split
  · rfl
  · exact State.byte_congr hb j

/-! Configuration parity in a sound module. -/

theorem State.useReg_sound {s : State} (h : sound s) (r : Reg) (i : Nat) : s.useReg r i = s := by
  unfold State.useReg; rw [h.1]; rfl

theorem State.useRegs_sound {s : State} (h : sound s) (l : List (Reg × Nat)) : s.useRegs l = s := by
  unfold State.useRegs
  induction l with
  | nil => rfl
  | cons p t ih => rw [List.foldl_cons, State.useReg_sound h]; exact ih

theorem State.faulty_sound {s : State} (h : sound s) (r : Reg) (i : Nat) : s.faulty r i = false := by
  unfold State.faulty; rw [h.2]; rfl

theorem State.held_sound {s : State} (h : sound s) (o : Owner) : s.held o = false := by
  unfold State.held; rw [h.2]; rfl

theorem State.hwSet_sound {s : State} (h : sound s) (r : Reg) (i : Nat) (v : W32) : s.hwSet r i v = s.setReg r i v := by
  unfold State.hwSet; dsimp only; rw [State.useReg_sound h, State.faulty_sound h]; rfl

theorem State.hwFld_sound {s : State} (h : sound s) (r : Reg) (i hi lo v : Nat) :
    s.hwFld r i hi lo v = s.setRfld r i hi lo v := State.hwSet_sound h ..

/-- A boundary of a register that nothing has staged changes nothing. -/
theorem State.boundary_none {s : State} (h : s.staged = []) (r : Reg) (i u : Nat) : s.boundary r i u = s := by
  unfold State.boundary; rw [h]; rfl

/-- A register applies as it reads when nothing is staged. -/
theorem State.applied_none {s : State} (h : s.staged = []) (r : Reg) (i u : Nat) : s.applied r i u = s.reg r i := by
  unfold State.applied; rw [h]; rfl

theorem sound_congr {s t : State} (h : t.parity = s.parity) : sound t ↔ sound s := by unfold sound; rw [h]

/-! Commands that act in one mode of the module. -/

theorem whenUp_up {s : State} (h : s.up = true) (f : State → State) : whenUp s f = .next (f s) := by
  unfold whenUp; rw [if_pos h]

theorem whenUp_down {s : State} (h : s.up = false) (f : State → State) : whenUp s f = .next s := by
  unfold whenUp; rw [h]; rfl

theorem whenServed_up {s : State} (h : s.served = true) (f : State → State) : whenServed s f = .next (f s) := by
  unfold whenServed; rw [if_pos h]

theorem whenServed_down {s : State} (h : s.served = false) (f : State → State) : whenServed s f = .next s := by
  unfold whenServed; rw [h]; rfl

theorem whenClocked_on {s : State} (h : s.clocked = true) (f : State → State) : whenClocked s f = .next (f s) := by
  unfold whenClocked; rw [if_pos h]

theorem whenClocked_off {s : State} (h : s.clocked = false) (f : State → State) : whenClocked s f = .next s := by
  unfold whenClocked; rw [h]; rfl

/-! Services. -/

theorem State.serve_asked {s : State} {m c t : Nat} (h : s.asked m c = true) (ht : s.cfg.funcTenant (s.svc m).func = some t)
    (f : Nat → List W32 → State) : s.serve m c f = f t (s.svc m).body := by
  unfold State.serve; rw [if_pos h, ht]

theorem State.serve_not {s : State} {m c : Nat} (h : s.asked m c = false) (f : Nat → List W32 → State) :
    s.serve m c f = s := by
  unfold State.serve; rw [h]; rfl

@[simp] theorem State.svc_endSvc (s : State) (m c : Nat) : (s.endSvc m c).svc m = { s.svc m with result := some c } := by
  unfold State.endSvc State.svc State.setSvc; simp

/-! Notices of a master at the term that the module has seen. -/

theorem State.fromAbove_old {s : State} {h : NoteHdr} (ht : h.term < s.carTerm) (f : State → State) :
    s.fromAbove h f = { s with sent := s.noticeOf 0x0E h.sender (s.heartbeatBody s.caravan.restore) :: s.sent } := by
  unfold State.fromAbove; rw [if_pos ht]; rfl

theorem State.fromAbove_same {s : State} {h : NoteHdr} (ht : h.term = s.carTerm) (f : State → State) :
    s.fromAbove h f = f s := by
  unfold State.fromAbove State.hearTerm
  rw [ht, if_neg (Nat.lt_irrefl _), if_neg (Nat.lt_irrefl _)]

theorem State.fromMaster_same {s : State} {h : NoteHdr} (ht : h.term = s.carTerm) (f : State → State) :
    s.fromMaster h f = f (s.heard h) := State.fromAbove_same ht _

end Sys2Proof.Machine
end

