-- ==== Sys2Proof/Tests/Slice0.lean ====
section
/-! SUPPORT. The model's own tests: ill-formed terms that `Instr.wf` refuses, and for each statement that has hypotheses
concrete states and operands that meet them together. Expected values are those of the spec's tables and rules. -/
namespace Sys2Proof.Machine.Test

/-- Reset, with the module in phase p and its clocks running. -/
def inPhase (p : Phase) : State :=
  { State.reset with power := { State.reset.power with phase := p, pwrgd := true, perst := false } }

/-- A module that runs its schedule. -/
def ready : State := inPhase .ready

/-- A module that runs its schedule, with an image. -/
def run (im : Image) : State := { ready with cfg := im }

/-- Tenant 0 on function 0, the class-0 tenant with core 0, and tenant 1 on function 1 with core 1. -/
def twoTenants : Image :=
  { Image.blank with tenants := [
      { TenantRec.none with cl0 := true, thSize := 1, cores := 1, fastWin := [⟨0, 1⟩], decCtx := 1, encCtx := 1,
                            sch := List.replicate 11 0x00100010 },
      { TenantRec.none with tenant := 1, func := 1, thSize := 1, cores := 2, fastWin := [⟨1, 1⟩],
                            sch := List.replicate 11 0x00100010 }] }

/-- A register holds v. -/
def put (s : State) (r : Reg) (i : Nat) (v : W32) : State := s.setReg r i v

/-! ### Ill-formed commands are refused -/

/-- A segment that keeps Table 13-2, and a notice header that keeps R349. -/
def goodSeg : Seg :=
  { typ := 1, cls := 0, tenant := 0, retx := false, move := false, fw := false, epoch := 0, srcNode := 0, dstNode := 0,
    route := 0, segIdx := 0, segCnt := 1, seq := 0, msgNo := 0, handle := 0, offset := 0, step := 0, tstamp := 0,
    aux := 0, payload := [] }
def goodHdr : NoteHdr := ⟨0, 0, 0, 0⟩
def goodFrame : RxFrame :=
  { pcp := 0, len := 64, fcsOk := true, addrOk := true, tagOk := true, fragmentOk := false, pause := false,
    macsecOk := true, lldpOrPtp := false, tunilOk := true, route := none }

/-- Every field of a segment, at the first value beyond its width (Table 13-2, R317). -/
theorem test_wf_segment : goodSeg.wf = true ∧ ∀ g ∈ [
    { goodSeg with typ := 0 }, { goodSeg with typ := 12 }, { goodSeg with cls := 3 },
    { goodSeg with tenant := 8 }, { goodSeg with epoch := 2 ^ 16 }, { goodSeg with srcNode := 2 ^ 16 },
    { goodSeg with dstNode := 2 ^ 16 }, { goodSeg with route := 2 ^ 16 }, { goodSeg with segIdx := 2 ^ 16 },
    { goodSeg with segCnt := 2 ^ 16 }, { goodSeg with seq := 2 ^ 32 }, { goodSeg with msgNo := 2 ^ 32 },
    { goodSeg with handle := 2 ^ 24 }, { goodSeg with offset := 2 ^ 32 }, { goodSeg with step := 2 ^ 48 },
    { goodSeg with tstamp := 2 ^ 32 }, { goodSeg with aux := 2 ^ 32 }], (g : Seg).wf = false := by decide

theorem test_wf_payload : { goodSeg with payload := List.replicate 8192 0 }.wf = true ∧
    { goodSeg with payload := List.replicate 8193 0 }.wf = false := by
  constructor <;> simp only [Seg.wf, goodSeg, List.length_replicate] <;> decide

/-- The common fields of a notice, and a map entry (R349, Table 14-2). -/
theorem test_wf_header : goodHdr.wf = true ∧ ∀ h ∈ [({ goodHdr with step := 2 ^ 48 } : NoteHdr),
    { goodHdr with sender := 2 ^ 16 }, { goodHdr with term := 2 ^ 32 }, { goodHdr with mapGen := 2 ^ 32 }],
    h.wf = false := by decide

theorem test_wf_mapEntry : (⟨0, 0, 15, 63, 0, 0⟩ : MapEntry).wf = true ∧ ∀ e ∈ [(⟨65536, 0, 0, 0, 0, 0⟩ : MapEntry),
    ⟨0, 65536, 0, 0, 0, 0⟩, ⟨0, 0, 9, 0, 0, 0⟩, ⟨0, 0, 16, 0, 0, 0⟩, ⟨0, 0, 0, 64, 0, 0⟩, ⟨0, 0, 0, 0, 2 ^ 128, 0⟩,
    ⟨0, 0, 0, 0, 0, 2 ^ 64⟩], e.wf = false := by decide

/-- Commands with segments. -/
theorem test_wf_segments : ∀ f ∈ [Instr.data 0, .ack 0, .notReady 0, .participantReset 0, .openSeg 0, .openAck 0, .commit 0,
    .refused 0, .busy 0, .routeFail 0], (f goodSeg).wf = true ∧ (f { goodSeg with typ := 0 }).wf = false := by decide

/-- Notices: a header of 49 bits of STEP, each at good operands. -/
theorem test_wf_notices : ∀ f ∈ [fun h => Instr.join h 0 0 0 0 0 0, .stageDone, fun h => .bondDone h 0 0,
    fun h => .stepGo h 0 0 false 0, fun h => .lateManifest h 0 0 0, fun h => .haltReport h 0 0 0 0 0,
    fun h => .replace h 0, fun h => .portState h 0 0, .probe, fun h => .alive h 0 0, fun h => .rollback h 0 false 0,
    fun h => .mapUpdate h [] true, fun h => .ckptDone h 0 false true, fun h => .heartbeat h 0 none,
    fun h => .takeover h false 0, fun h => .snapshot h 0 0 (.here 0 []), fun h => .snapDone h 0 true,
    fun h => .caravanHalt h 0],
    (f goodHdr).wf = true ∧ (f { goodHdr with step := 2 ^ 48 }).wf = false := by decide

/-- Operands of the notices, at the first value beyond their width. -/
theorem test_wf_noticeOperands : ∀ i ∈ [Instr.join goodHdr (2 ^ 64) 0 0 0 0 0, .join goodHdr 0 65536 0 0 0 0,
    .join goodHdr 0 0 9 0 0 0, .join goodHdr 0 0 0 3 0 0, .join goodHdr 0 0 0 0 0 (2 ^ 128), .bondDone goodHdr 65536 0,
    .bondDone goodHdr 0 512, .stepGo goodHdr (2 ^ 48) 0 false 0, .stepGo goodHdr 0 (2 ^ 48) false 0,
    .stepGo goodHdr 0 0 false 65536, .lateManifest goodHdr 16 0 0, .lateManifest goodHdr 0 16 0,
    .lateManifest goodHdr 0 0 (2 ^ 32), .haltReport goodHdr 256 0 0 0 0, .haltReport goodHdr 0 16 0 0 0,
    .haltReport goodHdr 0 0 16 0 0, .haltReport goodHdr 0 0 0 65536 0, .replace goodHdr 4, .portState goodHdr 32 0,
    .portState goodHdr 0 6, .probeWaitExpiry 65536, .rollback goodHdr (2 ^ 48) false 0, .rollback goodHdr 0 false 65536,
    .mapUpdate goodHdr [⟨0, 0, 9, 0, 0, 0⟩] true, .ckptDone goodHdr 65536 false true, .heartbeat goodHdr (2 ^ 48) none,
    .takeover goodHdr false (2 ^ 48), .snapshot goodHdr 65536 0 (.here 0 []), .caravanHalt goodHdr 256],
    i.wf = false := by decide

/-- Codeword errors, lanes, addresses, readings, offsets and word lists. -/
theorem test_wf_operands : ∀ i ∈ [Instr.memoryTrainingDone [(255, 72)], .memoryTrainingDone [(256, 64)], .laneErasure 0 72,
    .sensorSample [(0, 32768)], .sensorSample [(0, -32769)], .voltageSample [(0, 65536)], .processMonitorRead [(0, 65536)],
    .registerWrite 0 false 2 true 0, .registerCrossingTimeout 0 1 true, .apertureRead 0 0 0 [],
    .apertureRead 0 0 4 [{ addr := 2 ^ 48, symbols := [] }], .apertureWrite 0 0 [] [], .apertureWrite 0 0 [some 0] [{ addr := 0, symbols := [72] }],
    .prefetchLand 0 0 [{ addr := 0, symbols := [72] }], .maintenanceBurst 0 [{ addr := 0, symbols := [72] }], .sharedUnitGrant 0 [{ addr := 0, symbols := [72] }],
    .rowRetirement 69632 0, .refresh 69632 false, .frameReceive 0 { goodFrame with len := 9217 },
    .codecFrameAdmit 0 [List.replicate 17 0] [] false, .kilnAccept 0 0 (List.replicate 17 0) [],
    .kilnAccept 0 0 [] (List.replicate 17 0), .encodeCommit 0 0 0 (List.replicate 33 0),
    .codecOpen 0 (List.replicate 33 0)], i.wf = false := by decide

/-- Address, SecTAG and datagram of a frame, widths of a PTP message and of an LLDP frame's chassis ID. -/
theorem test_wf_portOperands : ∀ i ∈ [Instr.frameReceive 0 { goodFrame with dst := some (2 ^ 48) },
    .frameReceive 0 { goodFrame with sec := some (4, 0) }, .frameReceive 0 { goodFrame with sec := some (0, 2 ^ 64) },
    .frameReceive 0 { goodFrame with datagram := some (List.replicate 65 0) }, .lldpReceive 0 ⟨2 ^ 64, 0⟩ 0 0,
    .ptpMessage 0 ⟨.sync, 256, 0, []⟩ true, .ptpMessage 0 ⟨.announce, 0, 0, List.replicate 10 0⟩ true], i.wf = false := by decide

theorem test_wf_portGood : ∀ i ∈ [
    Instr.frameReceive 0 { goodFrame with dst := some (2 ^ 48 - 1), sec := some (3, 2 ^ 64 - 1) },
    .frameReceive 0 { goodFrame with datagram := some (List.replicate 64 0) }, .lldpReceive 0 ⟨2 ^ 64 - 1, 0⟩ 15 31,
    .ptpMessage 31 ⟨.announce, 255, 0, List.replicate 9 0⟩ false], i.wf = true := by decide

/-- The same commands at the last value that they admit. -/
theorem test_wf_good : ∀ i ∈ [Instr.memoryTrainingDone [(255, 71), (256, 63)], .laneErasure 271 63,
    .sensorSample [(0, 32767), (1, -32768)], .voltageSample [(48, 65535)], .registerWrite 0 false 4 true 0,
    .apertureRead 0 0 1 [{ addr := 2 ^ 48 - 1, symbols := [0, 71], values := [255, 1] }], .rowRetirement 69631 0, .frameReceive 0 { goodFrame with len := 9216 },
    .inputPowerUp], i.wf = true := by decide

/-! ### States that meet the hypotheses of the statements: power, start-up, registers and mailboxes -/

/-- EmptyQueueLetsTimePass, UnpoweredAtReset, UnpoweredStaysUnpowered, ShutdownHasNoEffects. -/
theorem witness_unpowered : State.reset.pending = [] ∧ unpowered State.reset ∧
    unpowered { inPhase .disconnected with pending := [.refclkLoss] } ∧ (inPhase .shutdown).power.phase = .shutdown ∧
    (inPhase .dark).power.phase = .dark := by
  simp only [unpowered]; decide

/-- RegisterMapRoundTrip: the last one of a register of each BAR. -/
theorem witness_registerMap : 48 < regCount .monClkstep ∧ 63 < regCount .mbxPost ∧ inBar2 .mbxPost = true ∧
    inBar2 .klnQtail = false ∧ 127 < regCount .klnQtail := by decide

/-- RailsComeUpAndGo: each phase that a clause starts from, and a sensor of a stack that has failed. -/
theorem witness_rails : State.reset.power.phase = .off ∧ (inPhase .rails).power.phase = .rails ∧
    (inPhase .idle).power.pwrgd = true ∧ (inPhase .shutdown).power.phase = .shutdown ∧
    (ready.power.phase ≠ .off ∧ ready.power.phase ≠ .disconnected) ∧
    bit ((inPhase .rails).reg .monTemp 18) 29 = false ∧ bit ((inPhase .rails).reg .monTemp 25) 29 = false := by decide

/-- ResetsKeepWhatTheyMust. -/
theorem witness_resets : ready.power.phase ≠ .off ∧ ((inPhase .idle).sampling = true ∧ (inPhase .idle).power.pwrgd = true) ∧
    ready.clocked = true := by decide

/-- StartTakesTheFirstGoodCopy. -/
theorem witness_start : (inPhase .idle).power.phase = .idle ∧ (inPhase .idle).power.pwrgd = true ∧
    (inPhase .idle).flash.current.seq + 1 < 2 ^ 32 := by decide

/-- TrainingEndsReadyOrFailed and PortsStartInGroups, at the first and the last group. -/
theorem witness_training : (let s : State := { inPhase .starting with power := { (inPhase .starting).power with training := true } };
    s.clocked = true ∧ s.power.training = true ∧ (∀ n, n < 272 → s.erased n = []) ∧ ∀ p, p < 32 → s.portSt p = 0) :=
  ⟨by decide, by decide, fun _ _ => rfl, by decide⟩

theorem witness_starting :
    (inPhase .starting).power.groups = (0 : Fin 8).val ∧ (inPhase .starting).power.groups ≠ (7 : Fin 8).val ∧
    (let s : State := { inPhase .starting with power := { (inPhase .starting).power with groups := 7 } };
      s.power.groups = (7 : Fin 8).val ∧ (put s .portCfg 31 0x101).portUsed 31 = true ∧ s.portUsed 31 = false) := by decide

theorem witness_readiness : ∃ s : State, s.power.phase = .starting ∧ s.power.clocksStopped = false ∧ s.trained = true ∧
    s.portsSettled = true ∧ s.cfg.caravan = none ∧ s.flash.current.trial = false ∧ s.faulty .cdcMode 0 = false ∧
    s.parity.latent.contains (rkey .cdcMode 0, false) = false :=
  ⟨put { inPhase .starting with power := { (inPhase .starting).power with groups := 8 } } .memStatus 0 0x80000000, by decide⟩

/-- ShutdownStopsEveryClock, with FAULT_IN_N under FAULTACT 2. -/
theorem witness_shutdown : (let s := put ready .monSbcfg 0 2;
    s.sampling = true ∧ s.rfld .monSbcfg 0 1 0 = 2 ∧ bit (s.reg .monSbstat 0) 29 = false ∧ s.mon.fault.lastActed = none ∧
      s.clocked = true) ∧
    (let s : State := { ready with clock := { ready.clock with since := 1000000000 } };
      s.clocked = true ∧ s.flash.logSecond ≠ s.clock.since / 1000000000) ∧ 18 ≤ (18 : Fin 49).val := by decide

/-- SamplesAreShownWithTheirLevels, with the second sample in a row at the critical level taken (R506). -/
theorem witness_samples :
    (let s : State := { ready with mon := { ready.mon with hot := [(18, 2)] } };
      s.sampling = true ∧ (∀ j, j < 32 → j ≠ (18 : Fin 32).val → mget 0 s.mon.hot j < 3) ∧ s.tempFailed 18 = false ∧
        2 ≤ mget 0 s.mon.hot 18 ∧ reaches 18 3 32767 = true) ∧
    (let s := put ready .monTemp 31 0x20000000; s.sampling = true ∧ s.tempFailed 31 = true ∧ mget 0 s.mon.hot 31 < 3) ∧
    ready.clocked = true ∧
    (let s : State := { ready with clock := { ready.clock with since := 1000000000 } };
      s.flash.logSecond ≠ s.clock.since / 1000000000) := by decide

/-- ClockStepsMoveByOne: an island at its throttle level with room above 4, one that has cooled, a rail below 5 percent,
a rail back within 3 percent. -/
theorem witness_stepDown : ∀ i : Fin 49, (let s := put (put ready .monTemp (sensorOf i) 0x80000000) .monClkstep i 0x10051010;
    s.sampling = true ∧ s.governing i = some (0, true) ∧ 4 < s.therm i) := by decide

theorem witness_stepUp : (let s := put ready .monClkstep 48 0x100F1010;
    s.governing 48 = some (0, false) ∧ (∃ x, limitOf (sensorOf 48) 2 = some x ∧ 0 < x - 48) ∧ s.mon.forced = false ∧
      s.therm 48 < s.thermCap 48) := by
  refine ⟨by decide, ⟨_, rfl, by decide⟩, by decide, by decide⟩

theorem witness_railSteps : (let s := put (put ready .monVolt 0 712) .monClkstep 0 0x10101010;
      railBelow 0 (s.mv 0) 5 = true ∧ 4 < s.voltStep 0) ∧
    (let s := put (put ready .monVolt 0 728) .monClkstep 0 0x10100F10; railMv 0 * 97 < s.mv 0 * 100 ∧ s.voltStep 0 < 16) := by
  decide

theorem witness_powerSteps : (run twoTenants).up = true ∧ (run twoTenants).activeCores = [0, 1] ∧
    (run twoTenants).activeCores.Nodup ∧ 4 < (run twoTenants).powerStep 0 ∧
    (put (run twoTenants) .monClkstep 0 0x0F10100F).powerStep 0 < 16 := by decide

/-- SidebandInputsAreTakenOnce. -/
theorem witness_sideband : ready.sampling = true ∧ bit (ready.reg .monSbstat 0) 13 = false ∧ ready.mon.sync.lastActed = none ∧
    bit ((put ready .monSbstat 0 0x2000).reg .monSbstat 0) 13 = true ∧
    (∀ sync, bit ((put ready .monSbstat 0 0x20002000).reg .monSbstat 0) (sbLevel sync) = true ∧ (ready.side sync).held = false) ∧
    (let s := put ready .monSbcfg 0 1;
      bit (s.reg .monSbstat 0) 29 = false ∧ s.mon.fault.lastActed = none ∧ s.rfld .monSbcfg 0 1 0 = 1) := by decide

/-- CoreFaultStopsItsCore: the first and the last core in use, a substitution of each die, the first and the last hub sensor. -/
theorem witness_coreFault : ready.clocked = true ∧ ready.logical 0 = some 0 ∧ ready.logical 16 = some 15 ∧ ready.queuesOn 15 = [] ∧
    ready.mon.subst = [] ∧ ready.spareLeft (dieOf 0) = true ∧ ready.spareLeft (dieOf 16) = true := by decide

def failing (d : Nat) : State := { ready with mon := { ready.mon with subst := [(d, 8 * d, 9 * d, [])] } }

theorem witness_substitution : (∀ d : Fin 2, (let s := failing d.val;
    s.clocked = true ∧ 8 * d.val < 16 ∧ 8 * d.val / 8 = d.val ∧ 9 * d.val < 18 ∧ s.mon.subst = [(d.val, 8 * d.val, 9 * d.val, [])] ∧ s.queuesOn (8 * d.val) = [] ∧
      s.homes = [] ∧ s.moves = [] ∧ s.mon.waiting = [] ∧ s.carState = 0)) ∧
    ready.tempFailed 26 = false ∧ ready.tempFailed 29 = false :=
  ⟨fun d => ⟨rfl, by revert d; decide, by revert d; decide, by revert d; decide, rfl, by revert d; decide, rfl, rfl, rfl, by revert d; decide⟩, by decide⟩

/-- RegisterWritesLandOrAreLogged: a write that lands, one of a part of a word, one outside the map. -/
theorem witness_registerWrite : ready.served = true ∧
    (let p := (regPlace .monSbcfg 0).2.2.2;
      ready.target 0 false p = some (.monSbcfg, 0) ∧ ready.inView 0 .monSbcfg 0 = true ∧ plainReg .monSbcfg = true ∧
        ready.writeKind 0 .monSbcfg 0 true 1 = none ∧ (ready.writeKind 0 .monSbcfg 0 false 1).isSome = true) ∧
    ready.target 0 false 0xFFFFFC = none := by decide

/-- LockLatchesAndCrossings. -/
theorem witness_lock : ready.served = true ∧ ready.power.lockWritten = false ∧
    ({ ready with power := { ready.power with lockWritten := true } } : State).power.lockWritten = true ∧
    (let p := (regPlace .coreVecissue 0).2.2.2; ready.regOf 0 false p = some (.coreVecissue, 0) ∧ ready.inEndpoint .coreVecissue 0 = false) ∧
    (∃ r i, ready.inEndpoint r i = true ∧ ready.regOf 0 false (regPlace r i).2.2.2 = some (r, i)) := by
  refine ⟨by decide, by decide, by decide, by decide, .hubId, 0, by decide, by decide⟩

/-- ParityFaultsAreFoundAndRepaired. -/
theorem witness_parity : ready.clocked = true ∧ ready.parity.latent = [] ∧ Flip.counts ⟨rkey .monSbcfg 0, false, true⟩ = true := by
  decide

/-- ConfigurationRequests, for function 0 and for function 8 with and without VF Enable. -/
theorem witness_config : ((inPhase .starting).clocked = true ∧ (inPhase .starting).served = false) ∧
    ready.served = true ∧ ready.power.phase ≠ .recovery ∧ ready.power.vfEnable = false ∧ (8 : Fin 9) ≠ 0 ∧
    (inPhase .recovery).served = true ∧
    ({ ready with power := { ready.power with vfEnable := true } } : State).power.vfEnable = true := by decide

/-- MailboxLocksHaveOneHolder: free, held by this function, held by another. -/
theorem witness_mailboxLock : ∀ m : Fin 64, (let s : State := run { twoTenants with mailboxes := List.replicate 64 (false, 511) };
    s.served = true ∧ s.boxView 0 m = true ∧ s.isD2h m = false ∧ s.rfld .mbxLock m 3 0 = 0 ∧
      (put s .mbxLock m 1).rfld .mbxLock m 3 0 = 1 ∧ (put s .mbxLock m 2).rfld .mbxLock m 3 0 ≠ (0 : Fin 9).val + 1) := by decide

theorem witness_sound : sound ready := by simp only [sound]; decide

/-! ### Mailboxes, apertures, function and tenant resets, services -/

/-- A running module whose 64 mailboxes take notices from every function; bits of `d2h` name device mailboxes. -/
def boxes (d2h : Bool) : State :=
  { run { twoTenants with mailboxes := List.replicate 64 (d2h, 511) } with host := { ready.host with busMaster := [(0, true), (1, true)] } }

/-- Mailbox m carries a service request of function f. -/
def asking (s : State) (m f code : Nat) (body : List W32) : State := s.setSvc m ⟨true, f, code, body, false, none⟩

/-- MailboxNoticesGoThroughTheirStates: a post into a free and into a full mailbox, a take, an acknowledgement. -/
theorem witness_notices : ∀ m : Fin 64, (let s := boxes false;
    s.served = true ∧ s.isD2h m = false ∧ s.inView 0 .mbxPost m = true ∧ s.boxParty 0 .mbxPost m = true ∧
      bit (0x80000000 : W32) 31 = true ∧ s.boxSt m ≠ 1 ∧ s.boxSt m ≠ 2) := by decide

theorem witness_noticeTaken : ∀ m : Fin 64, (let s := put (boxes false) .mbxStatus m 0x20000000;
    s.isD2h m = false ∧ s.boxSt m = 1 ∧ bit (s.reg .mbxPtrhi m) 31 = false ∧ mget false s.host.busMaster (s.posterOf m) = true) := by
  decide

theorem witness_noticeEnded : ∀ m : Fin 64, (let s := (put (boxes false) .mbxStatus m 0x40000000).setSvc m ⟨true, 0, 1, [], true, some 65535⟩;
    s.served = true ∧ s.isD2h m = false ∧ (s.svc m).active = true ∧ (s.svc m).result = some 65535 ∧ s.boxSt m = 2) := by decide

/-- DeviceNoticesAndVectors. -/
def deviceBox : State :=
  put (put { boxes true with host := { (boxes true).host with d2h := [(63, [⟨1, [7]⟩])] } } .mbxStatus 63 0x04000000) .mbxRxbuf0 63 0x1000

theorem witness_deviceNotice : deviceBox.served = true ∧ deviceBox.isD2h 63 = true ∧ deviceBox.boxSt 63 ≠ 1 ∧
    deviceBox.reg64 .mbxRxbuf0 .mbxRxbuf1 63 ≠ 0 ∧ mget [] deviceBox.host.d2h 63 = ⟨1, [7]⟩ :: [] ∧ deviceBox.parity.latent = [] ∧
    deviceBox.parity.faulted = [] ∧ mget false deviceBox.host.busMaster (deviceBox.boxFunc 63) = true ∧
    mget false ({ deviceBox.host with busMaster := [] } : HostLink).busMaster (deviceBox.boxFunc 63) = false ∧
    (let s := put deviceBox .mbxStatus 63 0x24000000; s.isD2h 63 = true ∧ s.inView 0 .mbxAck 63 = true ∧ s.boxSt 63 = 1) ∧
    (255 : Fin 256).val < vectorsOf 0 ∧ (223 : Fin 256).val < vectorsOf 8 ∧
    (let s := put (boxes false) .mbxStatus 0 0x20000000; s.isD2h 0 = false ∧ s.boxSt 0 = 1) := by decide

/-- ApertureReadsAndWritesBytes: inside and outside, for function 0 (anywhere but the home tables) and function 1 (its window). -/
theorem witness_aperture : (let s : State := run { twoTenants with thBase := 8 };
    s.up = true ∧ s.apOut 0 (s.apAddr 0 0) 64 = false ∧ s.apOut 1 (s.apAddr 1 0x10000000) 64 = false ∧
      (∀ cw ∈ codewords (s.apAddr 0 0) 64, s.poisoned cw = false) ∧ s.apAddr 0 0 % 64 = 0 ∧
      s.apOut 0 (s.apAddr 0 0x80000000) 4 = true ∧ s.apOut 1 (s.apAddr 1 0) 4 = true ∧ s.apOut 8 (s.apAddr 8 0) 4 = true) ∧
    (∀ n, (run twoTenants).erased n = []) := ⟨by decide, fun _ => rfl⟩

/-- FunctionResets and TenantResetClearsTheTenant. -/
theorem witness_resetsOfFunctions : (run twoTenants).up = true ∧ (run twoTenants).cfg.funcTenant (8 : Fin 9) = none ∧
    (let s : State := { run { twoTenants with tenants := [] } with power := { ready.power with vfEnable := true } };
      s.power.vfEnable = true ∧ ∀ f, f < 9 → 1 ≤ f → f ≤ 8 → s.cfg.funcTenant f = none) ∧
    (let s := put (boxes false) .mbxLock 3 9; s.isD2h 3 = false ∧ s.rfld .mbxLock 3 3 0 = (8 : Fin 9).val + 1) ∧
    (let s : State := put { boxes false with host := { (boxes false).host with poster := [(3, 8)] } } .mbxStatus 3 0x20000000;
      s.isD2h 3 = false ∧ s.posterOf 3 = 8 ∧ s.boxSt 3 = 1) ∧
    (deviceBox.isD2h 63 = true ∧ deviceBox.maskHas 63 8 = true) := by decide

theorem witness_tenantReset : (let s := asking (boxes false) 5 0 0x0A [1];
    s.up = true ∧ s.substituting 1 = false ∧ s.askedReset 1 = some 5 ∧ (s.svc 5).func = 0 ∧
      wordAt (s.svc 5).body 0 = BitVec.ofNat 32 1 ∧ (s.cfg.tenant? 1).isSome = true ∧ s.cfg.funcTenant 1 = some 1) := by decide

/-- QueueServices: a QUEUE_OPEN of queue 2 on core 0 with an image in the window, a QUEUE_CLOSE of a closed and of a
running queue, a load that has nothing to load. -/
theorem witness_queueOpen : (let s := asking (boxes false) 4 0 1 [0x20000, 0x1000, 0, 0x100, 0];
    s.up = true ∧ s.cfg.funcTenant (s.svc 4).func = some 0 ∧ s.asked 4 1 = true ∧ s.inWindows 0 0x1000 0x100 = true ∧
      isFast 0x1000 = true ∧ s.openRefusal 0 2 0
        { Queue.init with lcore := 0, img := s.readImage 0x1000 0x100, imgAddr := 0x1000, imgLen := 0x100, mailbox := some 4,
                          loading := true } = 0) := by decide

theorem witness_queueClose : (let s := asking (boxes false) 4 0 2 [2];
    s.asked 4 2 = true ∧ s.qst 2 ≠ 2 ∧ (put s .queStatus 2 0x20000).qst 2 = 2 ∧ (s.queue 2).loading = false ∧
      (s.queue 2).tasks = [] ∧ (s.core (s.queue 2).lcore).slots = []) ∧
    (let s := ready.setQueue 127 { Queue.init with loading := true, mailbox := some 4 };
      s.up = true ∧ (s.queue (16 * 7 + 15)).loading = true ∧ (s.queue (16 * 7 + 15)).goHeld = false ∧
        (s.loadFail 127).isSome = true) := by decide

/-- RouteServices. -/
theorem witness_routes : (let s := asking (boxes false) 4 0 3 [0, 0, 0, 0];
    s.up = true ∧ s.asked 4 3 = true ∧ bit (s.reg .tunFinj 0) 31 = false) ∧
    (let s := (asking (boxes false) 4 0 4 [8191]).setRoute 8191 { Route.init with st := 2 };
      s.cfg.funcTenant (s.svc 4).func = some 0 ∧ s.asked 4 4 = true ∧ (s.svc 4).body = [8191] ∧ (8191 : W32).toNat < 8192 ∧ (s.route 8191).tenant = 0 ∧
        (s.route 8191).st = 2 ∧ (s.route 8191).mailbox = none ∧ (s.route 8191).msgs = [] ∧ s.queues = [] ∧ s.moves = []) := by decide

/-- SecureServices. -/
theorem witness_secure : (let s := asking (boxes false) 60 0 0x81 (List.replicate 17 0);
      s.up = true ∧ s.asked 60 0x81 = true ∧ (s.svc 60).body.length = 17 ∧ saOk (s.svc 60).body = true ∧ s.saInUse (saOf (s.svc 60).body) = false) ∧
    (let s := asking (boxes false) 60 0 0x82 [31, 1, 3];
      s.asked 60 0x82 = true ∧ (s.svc 60).body.length = 3 ∧ saOk (s.svc 60).body = true ∧ s.saInUse (saOf (s.svc 60).body) = false) ∧
    (asking (boxes false) 60 0 0x83 []).asked 60 0x83 = true ∧
    (let s := asking (boxes false) 60 0 0x84 [0x1000, 0];
      s.asked 60 0x84 = true ∧ (s.svc 60).body.length = 2 ∧ mget false s.host.busMaster 0 = true) ∧
    (let s := asking (boxes false) 4 0 0x0B [1, 0, 4096, 0x1000, 0];
      s.asked 4 0x0B = true ∧ (s.svc 4).func = 0 ∧ (s.svc 4).body.length = 5 ∧ (wordAt (s.svc 4).body 0).toNat ≤ 1 ∧
        0 < (wordAt (s.svc 4).body 2).toNat ∧ (wordAt (s.svc 4).body 2).toNat ≤ 4096 ∧ mget false s.host.busMaster 0 = true) := by decide

/-- RouteServices: a route to node 5 over a switch port that is up. -/
def routed : State :=
  let s := (put (put (boxes false) .portCfg 0 0x201) .portStatus 0 0x40000000)
  { s with caravan := { s.caravan with map := [⟨5, 1, 0, 0, 0, 0⟩] } }

theorem witness_routeOpen : routed.routeRefusal 0 [0x00010003, 0x00400005, 1, 0] = 0 ∧ [0x00010003, 0x00400005, 1, (0 : W32)].length = 4 ∧
    routed.pickPort (rtPorts [0x00010003, 0x00400005, 1, 0]) (ackPcp (rtClass [0x00010003, 0x00400005, 1, 0])) none = some 0 := by
  decide

/-! ### Queues and tasks -/

/-- A queue of a class with descriptors and prefetch entries. -/
def queueOf (cls : Nat) (descs prefs : List (List W32)) : Queue :=
  let counts := BitVec.ofNat 32 (descs.length + 65536 * prefs.length);
  { Queue.init with img := [0, 0, BitVec.ofNat 32 cls, counts] ++ List.replicate 60 0 ++ descs.flatten ++ prefs.flatten }

/-- Sixteen words, the first ones given. -/
def words (l : List W32) : List W32 := l ++ List.replicate (16 - l.length) 0

/-- Queue 0 of tenant 0 runs on core 0. -/
def running (q : Queue) : State := put ((run twoTenants).setQueue 0 q) .queStatus 0 0x20000

/-- IssueRunsTheTaskOfItsType and StartedTaskIsInFlight, for every type of task and operation of a REDUCE. -/
theorem witness_mayIssue : ∀ d : W32, d ∈ ([1, 2, 3, 4, 5, 6, 7, 8, 10, 11, 12] : List W32) →
    mayIssue (running (queueOf 0 [words [d]] [])) 0 (words [d]) := by
  intro d h
  refine ⟨rfl, ⟨rfl, rfl⟩, rfl, rfl, rfl, ?_, ?_, ?_, fun x hx => nomatch hx⟩
  all_goals
    simp only [List.mem_cons, List.not_mem_nil, or_false] at h
    rcases h with rfl | rfl | rfl | rfl | rfl | rfl | rfl | rfl | rfl | rfl | rfl <;> decide

theorem witness_unitsReady : (running (queueOf 0 [words [1]] [])).matmulReady 0 (words [1]) = true ∧
    (running (queueOf 0 [words [2]] [])).fusedReady 0 (words [2]) = true ∧
    (running (queueOf 0 [words [3]] [])).convReady 0 (words [3]) = true ∧
    vKind (words [5, 0, 0, 0, 0, 3]) = 3 ∧ vKind (words [5]) ≠ 3 ∧
    ∀ o : Fin 4, rOp (words [8, 0, 0, 0, BitVec.ofNat 32 o.val]) = o.val := by decide

/-- SequencerTasksTakeEffect. -/
theorem witness_sequencer : (let s := running (queueOf 0 [words [11]] []); s.caravan.tenant = none) ∧
    wRest (words [12]) = false ∧ wRest (words [12, 0, 0, 0, 0, 0, 0, 0, 1]) = true ∧
    (running (queueOf 0 [words [12]] [])).restOf 0 = none ∧
    (let s := running (queueOf 0 [words [4]] []);
      (s.core 0).vec.running = false ∧ s.progCode 0 0 (s.yardAddr 0 0) = 0 ∧ s.regionCount (s.yardAddr 0 0) = 0) := by decide

/-- A VALID tensor of 256 bytes in the fast tier under handle 1 of tenant 0, and a MOVE of it to 0x1000. -/
def tensor : HEntry := ⟨0x00000212, 0, 0, 1, 64, 1, 0x00010001, 1⟩
def moved : List W32 := words [5, 0, 0, 0, 1, 1, 0x1000]

theorem witness_move : (let s := put ((running (queueOf 0 [moved] [])).setHome 0 1 tensor) .thCfg 0 0x100;
    dType moved = 5 ∧ vKind moved ≠ 3 ∧ vPack moved = false ∧ s.filling 0 (df moved 4 23 0) = false ∧ s.moveSource 0 1 = 0 ∧
      (s.home 0 1).st ≠ stUnwritten ∧ s.homeAddr (s.home 0 1) = some 0 ∧
      (let g := (moveRec 0 s.serial moved (s.home 0 1) 0 0).entry (s.home 0 1);
        ¬ (g.kind = (s.home 0 1).kind ∧ g.w1 = (s.home 0 1).w1 ∧ g.w2 = (s.home 0 1).w2) ∧ g.unpopulated = false ∧ s.homeOk 0 g = true ∧
          s.homeAddr g = some 0x1000)) := by decide

/-- A landed task with a signal entry. -/
def landed (d : List W32) : Task :=
  { serial := 0, index := 0, iter := 0, desc := d, params := [], xlates := [], trap := false, sat := 1, flush := 2, nan := 3,
    waited := 0, landed := true, progress := 0, msg := 0, windowEnd := none, step := 0, count := 0, issued := 0 }

/-- TasksCompleteInTheirRecords. -/
theorem witness_complete : (let s := running { queueOf 0 [words [1], words [1]] [] with tasks := [landed (words [1, 0, 0x200])], next := 1 };
    s.up = true ∧ (s.queue 0).tasks[(0 : Fin 8).val]? = some (landed (words [1, 0, 0x200])) ∧ releaseEntries (words [1, 0, 0x200]) = [] ∧
      dSigValid (words [1, 0, 0x200]) = true ∧ dIrq (words [1, 0, 0x200]) = false ∧ ((s.queue 0).tasks.map (·.serial)).Nodup ∧
      s.inWindows 0 ((s.applied .queRingbase 0 0).toNat * 32768 + 32 * s.rfld .queRinghead 0 9 0) 32 = true ∧
      isFast ((s.applied .queRingbase 0 0).toNat * 32768 + 32 * s.rfld .queRinghead 0 9 0) = true ∧
      (s.queue 0).next < (s.queue 0).descCount ∧ s.caravan.tenant = none) := by decide

theorem witness_late : (let s := put (running (queueOf 0 [] [])) .queSlip 0 1;
      s.qOpen 0 = true ∧ (s.queue 0).cls = 0 ∧ (s.queue 0).slack < (s.reg .queSlip 0).toNat ∧
      s.caravan.tenant ≠ some (0 / 16) ∧ (s.queue 0).lateSent = false) ∧
    (let s := put (running { queueOf 0 [] [] with lateSent := true }) .queSlip 0 1;
      s.qOpen 0 = true ∧ (s.queue 0).cls = 0 ∧ (s.queue 0).slack < (s.reg .queSlip 0).toNat ∧ (s.queue 0).lateSent = true) ∧
    (∀ w, (ready.modCore 15 fun c => { c with rest := some ⟨127, 5, w⟩ }).core 15 = { Core.init with rest := some ⟨127, 5, w⟩ }) := by
  decide

/-- PrefetchFillsItsEntry: an entry whose source is FREE fails; a VALID one lands; a slot that writes zeros. -/
def pref : List W32 := [0, 1, 0, 0, 1, 0, 5, 0]

theorem witness_prefetch : (let s := running { queueOf 0 [words [1]] [pref] with eligible := [(0, 0)] };
      s.up = true ∧ s.prefQueue 0 = some 0 ∧ (s.queue 0).firstPref = some (0, 0) ∧ (s.queue 0).pref 0 = pref ∧
      s.prefCode 0 pref (pOffset pref 0) ≠ 0) ∧
    (let s := put ((running { queueOf 0 [words [1]] [pref] with eligible := [(0, 0)] }).setHome 0 1 tensor) .thCfg 0 0x100;
      s.prefQueue 0 = some 0 ∧ s.prefCode 0 pref (pOffset pref 0) = 0 ∧ (s.queue 0).lcore = (0 : Fin 16).val) ∧
    (let s := ready.modCore 0 fun c => { c with slots := [⟨0, 0, 0, 1, 0, true, 0, 256, 0, 5, false⟩] };
      (∃ p, (s.core 0).slots[(0 : Fin 6).val]? = some p ∧ p.zeros = true ∧ (s.queue (16 * p.tenant + p.queue)).lcore = (0 : Fin 16).val)) := by
  refine ⟨by decide, by decide, ⟨_, rfl, by decide⟩⟩

/-- GoAndStopMoveTheQueue: from LOADED, HALTED and RUNNING. -/
theorem witness_go : (run twoTenants).served = true ∧ (run twoTenants).inView 0 .queCtrl 127 = true ∧
    (put (run twoTenants) .queStatus 127 0x10000).qst 127 = 1 ∧ (put (run twoTenants) .queStatus 127 0x30000).qst 127 = 3 ∧
    (put (run twoTenants) .queStatus 127 0x20000).qst 127 = 2 ∧ ((run twoTenants).queue 127).goHeld = false := by decide

/-! ### Banks, loaders and row functions -/

/-- A task of queue 0 is in flight, and core 0 is as f makes it. -/
def flying (d : List W32) (f : Core → Core) : State :=
  (running { queueOf 0 [d] [] with tasks := [{ landed d with landed := false }] }).modCore 0 f

/-- BanksLandDrainAndRelease: a sweep, a landed bank that drains to the engine (with and without a free buffer), to the yard
with and without ACC, and a drain. -/
theorem witness_banks : (let s := flying (words [1, 0, 0, 0, 0, 0, 0, 0, 0, 0x18]) fun c => c.setBank 3 3 { Bank.init with use := .sweep };
      s.up = true ∧ s.task? ((s.core 0).bank 3 3).owner.1 ((s.core 0).bank 3 3).owner.2 = some { landed (words [1, 0, 0, 0, 0, 0, 0, 0, 0, 0x18]) with landed := false } ∧
      ((s.core 0).bank 3 3).use = .sweep ∧ (s.core 0).arr = none) ∧
    (let s := flying (words [1, 0, 0, 0, 0, 0, 0, 0, 0, 0x18]) fun c => c.setBank 0 0 { Bank.init with use := .landed };
      ((s.core 0).bank 0 0).use = .landed ∧ drainTo (words [1, 0, 0, 0, 0, 0, 0, 0, 0, 0x18]) 0 0 = .engine ∧
        (s.core 0).freeLanding = some 0) ∧
    (let s := flying (words [1, 0, 0, 0, 0, 0, 0, 0, 0, 0x18]) fun c => { c.setBank 0 0 { Bank.init with use := .landed } with
        landings := [(0, { Landing.init with full := true }), (1, { Landing.init with full := true })] };
      ((s.core 0).bank 0 0).use = .landed ∧ (s.core 0).freeLanding = none) := by decide

theorem witness_drains : (∀ acc : Bool, (let d := words [1, 0, 0, 0, 0, 0, 0, 0, 0, if acc then 0x10 else 8];
      let s := flying d fun c => c.setBank 0 0 { Bank.init with use := .landed };
      ((s.core 0).bank 0 0).use = .landed ∧ drainTo d 0 0 = .yard acc ∧ s.filling 0 (dDst d) = false ∧ s.accWaits 0 0 d = false)) ∧
    (let s := flying (words [1]) fun c => c.setBank 0 0 { Bank.init with use := .drain };
      ((s.core 0).bank 0 0).use = .drain ∧ (s.core 0).arr = none) := by decide

/-- LoadersFillHalvesAndBooks: the tile prologue, and swaps with one and with two tiles left. -/
def yardTensor : HEntry := ⟨0x00000202, 0, 0, 1, 64, 1, 0x00010001, 1⟩
def product : List W32 := words [1, 0, 0, 0, 1, 0, 0x10000000, 0, 32, 0, 0, 32]

theorem witness_prologue : (let s := put ((running (queueOf 0 [product] [])).setHome 0 1 yardTensor) .thCfg 0 0x100;
    s.patched 0 0 = product ∧ dType product = 1 ∧ mBricks product = false ∧ s.qst 0 = 2 ∧ s.queueHeld 0 = false ∧ (s.queue 0).next < (s.queue 0).descCount ∧
      (s.queue 0).fence = none ∧ s.waitsReady 0 product = true ∧ s.filling 0 (df product 4 23 0) = false ∧
      s.yardReadCode 0 0 (df product 4 23 0) (df product 6 24 0) 0 = 0 ∧
      (s.firstTiles 0 0 product).map (·.1) = [0] ∧ ((s.core 0).edge 0).shadow.full = false ∧ (s.core 0).arr = none) := by decide

theorem witness_swap : ∀ left ∈ [1, 2], (let j := { ArrJob.start (0, 0) product with left0 := left };
    let s := flying product fun c => { c.setEdge 0 { EdgeFile.init with shadow := { EdgeHalf.init with full := true } } with arr := some j };
    (s.core 0).arr = some j ∧ dType j.desc = 1 ∧ 0 < j.left 0 ∧ ((s.core 0).edge 0).shadow.full = true) := by decide

/-- A drain program, also of ProgramsStartWithClearedRegisters. -/
theorem witness_drainProgram : (let s := flying (words [1]) fun c => c.setLanding 1 { Landing.init with full := true };
    let lb := (s.core 0).landing 1;
    s.task? lb.owner.1 lb.owner.2 = some { landed (words [1]) with landed := false } ∧ lb.full = true ∧ lb.taken = 0 ∧
      (s.core 0).drainVec.running = false ∧ s.regionCount (s.yardAddr 0 (df (words [1]) 12 24 0)) = 0 ∧
      s.progCode lb.owner.1 0 (s.yardAddr 0 (df (words [1]) 12 24 0)) = 0) := by decide

/-- RowFunctionsWriteTheIntermediate: a chunk that has landed whole and one that has not, for every row function. -/
theorem witness_rows : ∀ fn : Fin 5, (let d := words [2, 0, 0, 0, 0, 0, 0, 0, 0, 0, 0, 1024, BitVec.ofNat 32 fn.val];
    let j := ArrJob.start (0, 0) d;
    let s := flying d fun c => { c with arr := some j };
    s.up = true ∧ (s.core 0).arr = some j ∧ s.task? j.owner.1 j.owner.2 = some { landed d with landed := false } ∧ dType j.desc = 2 ∧
      fFn j.desc = fn.val ∧ j.phase = 0 ∧ (s.takeLandings 0 j).2.whole = false ∧
      (let g := { j with got := [(0, []), (1, []), (2, []), (3, [])] }; (s.takeLandings 0 g).2.whole = true) ∧ j.chunk + 1 < fChunks d) := by decide

/-! Codebook images and bricks whose CRC is right, and a codebook image whose CRC is wrong: all zero but for the CRC. -/

/-- Byte i of word v. -/
def byteOf (v : W32) (i : Nat) : Byte := BitVec.ofNat 8 (v.toNat / 256 ^ i)

/-- A MATMUL of K = 32 whose operand B, handle 2, is bricks of row 3 of Table 9-1 in core 0's yard. -/
def bricks : List W32 := words [1, 0, 0, 0, 1, 0x02000002, 0x10000000, 0, 32]

/-- Core 0's yard is zero but for word v at offset 60; a codebook of form 0 loads from offset 0; the MATMUL of bricks runs. -/
def book (v : W32) : State :=
  let s := (flying bricks fun c => { c.setCb 3 1 { CbBank.init with loading := true, chosen := (0, 5) } with
    arr := some (ArrJob.start (0, 0) bricks) }).setHome 0 2 { HEntry.free with w0 := 0x00035102 };
  { s with mem := { s.mem with bytes := [(yardBase + 60, byteOf v 0), (yardBase + 61, byteOf v 1), (yardBase + 62, byteOf v 2), (yardBase + 63, byteOf v 3)] } }

theorem book_yard (v : W32) (o : Nat) : (book v).yard 0 false o =
    if o = 60 then byteOf v 0 else if o = 61 then byteOf v 1 else if o = 62 then byteOf v 2 else if o = 63 then byteOf v 3 else 0 := by
  have h : (book v).yardAddr 0 o = yardBase + o := by
    have h1 : (book v).phys 0 = some 0 := rfl
    simp [State.yardAddr, h1]
  simp only [State.yard, h]
  simp only [State.byte, book, mget]
  simp only [Nat.add_left_cancel_iff]
  rfl

theorem book_zero (v : W32) (o : Nat) (h : o < 60 ∨ 64 ≤ o) : (book v).yard 0 false o = 0 := by
  rw [book_yard, if_neg (by omega), if_neg (by omega), if_neg (by omega), if_neg (by omega)]

theorem book_crc (v : W32) : rd32 ((book v).yard 0 false) 60 = v.toNat := by
  simp only [rd32, rd16, book_yard, byteOf]
  simp
  omega

/-- The bytes that the CRC covers. -/
theorem book_bytes (v : W32) (m : Nat) : ((List.range 60).map fun i => (book v).yard 0 false i) ++
    ((List.range m).map fun i => (book v).yard 0 false (64 + i)) = List.replicate (60 + m) 0 := by
  rw [List.eq_replicate_iff]
  refine ⟨by simp, fun b hb => ?_⟩
  simp only [List.mem_append, List.mem_map, List.mem_range] at hb
  rcases hb with ⟨i, hi, rfl⟩ | ⟨i, hi, rfl⟩
  · exact book_zero v i (.inl hi)
  · exact book_zero v _ (.inr (by omega))

theorem book_end (v : W32) : (book v).bookEnd 0 0 0 = if v = crc32c (List.replicate 4156 0) then 0 else 5 := by
  have hb := book_bytes v 4096
  have hz : ∀ i, i < 2048 → finite16 (rd16 (fun o => (book v).yard 0 false o) (64 + 2 * i)) = true := fun i _ => by
    have : rd16 (fun o => (book v).yard 0 false o) (64 + 2 * i) = 0 := by
      simp only [rd16, book_zero v _ (.inr (show 64 ≤ 64 + 2 * i by omega)), book_zero v _ (.inr (show 64 ≤ 64 + 2 * i + 1 by omega))]
      rfl
    rw [this]; rfl
  have he : entryBytes 0 = 4096 := rfl
  unfold State.bookEnd
  simp only [Nat.zero_add, he, hb, book_crc]
  by_cases h : v = crc32c (List.replicate 4156 0)
  · subst h
    simp only [ne_eq, not_true, if_false, if_true]
    have : ((List.range (4096 / 2)).all fun i => finite16 (rd16 (fun o => (book (crc32c (List.replicate 4156 0))).yard 0 false o) (64 + 2 * i))) = true := by
      rw [List.all_eq_true]; intro i hi; exact hz i (List.mem_range.mp hi)
    simp only [this]; rfl
  · rw [if_pos (fun e => h (BitVec.eq_of_toNat_eq e.symm)), if_neg h]

/-- LoadersFillHalvesAndBooks: a codebook that loads, with a right and a wrong CRC, no longer in the queue's next task. -/
theorem witness_books : (∃ v, (book v).bookEnd 0 0 0 = 0) ∧ (∃ v, (book v).bookEnd 0 0 0 ≠ 0) ∧
    ∀ v, (book v).up = true ∧ (List.range 2).find? (fun i => (((book v).core 0).cbBank 3 i).loading) = some 1 ∧
      (((book v).core 0).cbBank 3 1).form = 0 ∧ (((book v).core 0).cbBank 3 1).addr = 0 ∧
      ((book v).queue (((book v).core 0).cbBank 3 1).chosen.1).next ≠ (((book v).core 0).cbBank 3 1).chosen.2 ∧
      bit ((book v).reg .coreBrkfault0 0) 31 = false := by
  refine ⟨⟨_, by rw [book_end, if_pos rfl]⟩, ⟨crc32c (List.replicate 4156 0) + 1, ?_⟩, fun v => ⟨rfl, rfl, rfl, rfl, show (0 : Nat) ≠ 5 by decide, show bit ((flying bricks id).reg .coreBrkfault0 0) 31 = false by decide⟩⟩
  rw [book_end, if_neg]
  · decide
  · generalize crc32c (List.replicate 4156 0) = c
    bv_omega

/-- A brick of row 3 at yard offset 0 whose CRC is right passes its checks, and the MATMUL of bricks reads it first. -/
theorem witness_brick : (∃ v, brickCheck ((book v).yard 0 false) 0 3 3 0 0 none = 0) ∧
    ∀ v, (book v).up = true ∧ ((book v).core 0).arr = some (ArrJob.start (0, 0) bricks) ∧ dType bricks = 1 ∧ mBricks bricks = true ∧
      0 < mK bricks / 32 ∧ (usesOf (mTile bricks) (mMask bricks)).find? (fun w => decide (w.array = 0)) = some ⟨0, 0, 0⟩ ∧
      (book v).task? 0 0 = some { landed bricks with landed := false } ∧ (book v).cold 0 (df bricks 5 23 0) = false ∧
      ((book v).home 0 (df bricks 5 23 0)).bform = 3 ∧ ((book v).core 0).bookBank 0 0 = none ∧
      brickAddr (df bricks 7 24 0) (streamsOf (mTile bricks) (mMask bricks)) 3 0 0 = 0 := by
  refine ⟨⟨crc32c (List.replicate (60 + 2048) 0), ?_⟩, fun v => ⟨rfl, rfl, rfl, rfl, by decide, rfl, rfl,
    show decide (HEntry.st _ = stUnwritten) = false from
      (by decide : decide (HEntry.st { HEntry.free with w0 := 0x00035102 } = stUnwritten) = false),
    show (HEntry.bform _) = 3 from (by decide : HEntry.bform { HEntry.free with w0 := 0x00035102 } = 3), rfl, by decide⟩⟩
  generalize hv : crc32c (List.replicate (60 + 2048) 0) = v
  have hw : rd32 ((book v).yard 0 false) 0 = 0 := by
    simp only [rd32, rd16]
    simp [book_zero v]
  have h16 : ∀ a, a < 59 → rd16 ((book v).yard 0 false) a = 0 := fun a h => by
    simp only [rd16, book_zero v a (.inl (by omega)), book_zero v (a + 1) (.inl (by omega))]; rfl
  have hr : ((List.range 48).all fun i => decide ((book v).yard 0 false (0 + 12 + i) = 0)) = true := by
    rw [List.all_eq_true]; intro i hi
    simp only [decide_eq_true_eq]
    exact book_zero v _ (.inl (by have := List.mem_range.mp hi; omega))
  have hb := book_bytes v 2048
  have hf : codeBytes (brickForm (0 / 2 ^ 16 % 4) (0 / 2 ^ 18 % 2)) = 2048 := by decide
  unfold brickCheck
  simp only [hw, hf, hr, brickScale, brickCbid, brickCblk, h16 _ (show 0 + 6 < 59 by omega), h16 _ (show 0 + 4 < 59 by omega),
    h16 _ (show 0 < 59 by omega), h16 _ (show 0 + 10 < 59 by omega)]
  simp only [Nat.zero_add, hb, hv, book_crc]
  rw [if_neg (by decide), if_neg (by simp), if_neg (by decide), if_neg (by decide)]

/-! ### The vector engine -/

/-- Core 0 runs a program of `count` instructions whose first is (lo, imm), with region 0 the 8,192 bytes of handle 1. -/
def engine (lo imm : W32) (count : Nat) (c : VecCtx) : State :=
  let s := put ((flying (words [4]) fun x => { x with vec := c }).setHome 0 1 { yardTensor with w3 := 32 }) .thCfg 0 0x100
  (((s.putBytes 8 (leBytes 4 (count + 0x10000))).putBytes 0x40 (leBytes 4 0x03000001)).putBytes 0x48 (leBytes 4 8192)).putBytes 0x140
    (leBytes 4 lo.toNat ++ leBytes 4 imm.toNat)

def atStart : VecCtx := { VecCtx.init with running := true }

/-- Every opcode of the lane, mask, scalar, memory and REP instructions can stand at the front of a program that goes on. -/
theorem witness_opcode : ∀ op ∈ ([0x01, 0x02, 0x03, 0x04, 0x05, 0x06, 0x07, 0x08, 0x09, 0x0A, 0x0B, 0x0C, 0x10, 0x11, 0x12, 0x13,
    0x14, 0x15, 0x18, 0x19, 0x1A, 0x20, 0x21, 0x22, 0x28, 0x29, 0x2A, 0x2B, 0x2C, 0x2D, 0x2E, 0x2F, 0x30, 0x31, 0x32, 0x33, 0x38,
    0x39, 0x40, 0x41, 0x42, 0x43, 0x44, 0x45, 0x46, 0x47, 0x48, 0x49, 0x50, 0x51, 0x52, 0x60] : List Nat),
    ((engine (BitVec.ofNat 32 op) 0 2 atStart).nextInsn atStart).op = op ∧
      atStart.pc + 1 < (engine (BitVec.ofNat 32 op) 0 2 atStart).insnCount 0 := by decide

/-- LaneInstructionsComputeEachLane, UniformNoiseLiesStrictlyBetween and the givesScalar clauses. -/
theorem witness_vecAt : ∀ op ∈ ([0x01, 0x02, 0x03, 0x04, 0x05, 0x06, 0x07, 0x08, 0x09, 0x0A, 0x0B, 0x0C, 0x10, 0x11, 0x12, 0x13,
    0x14, 0x15, 0x18, 0x19, 0x1A, 0x20, 0x21, 0x22, 0x28, 0x29, 0x2A, 0x2B, 0x2C, 0x2D, 0x2E, 0x2F, 0x30, 0x31, 0x32, 0x33, 0x38,
    0x39, 0x40, 0x41, 0x42, 0x43, 0x44, 0x45, 0x46, 0x47, 0x48, 0x49, 0x50, 0x51, 0x52, 0x60] : List Nat),
    (engine (BitVec.ofNat 32 op) 0 2 atStart).vecAt 0 op false atStart := fun op h =>
  ⟨rfl, rfl, (witness_opcode op h).1, rfl, (witness_opcode op h).2, fun t ht => by cases ht; rfl⟩

/-- ReductionsAndConversions: the largest segment, each conversion with a scale, and VC apart from VD. -/
theorem witness_conversions : ∀ imm ∈ ([6, 0x32, 0x23, 0x42, 0x24, 0x11] : List W32),
    ((engine 0x120 imm 2 atStart).nextInsn atStart).imm = imm := by
  intro imm h
  simp only [List.mem_cons, List.not_mem_nil, or_false] at h
  rcases h with rfl | rfl | rfl | rfl | rfl | rfl <;> decide

theorem witness_conversionRegs : (insnOf 0x120 0).op = 0x20 ∧ (insnOf 0x120 0).vc ≠ (insnOf 0x120 0).vd ∧ fld (6 : W32) 2 0 ≤ 6 := by
  decide

theorem mask0 : atStart.mask 0 = List.replicate 2048 true := rfl

theorem mask1 : atStart.mask 1 = List.replicate 2048 false := by
  have h (n : Nat) : ∀ lo, dense false [] lo n = List.replicate n false := by
    induction n with
    | zero => exact fun _ => rfl
    | succ n ih => exact fun lo => by rw [dense, ih]; rfl
  exact h 2048 _

theorem witness_mask0 (l : Nat) (h : l < 2048) : atStart.bitAt 0 l = true := by
  rw [VecCtx.bitAt, mask0, List.getElem?_replicate, if_pos h]; rfl

/-- VectorMemoryInstructions: off the alignment, inside the region, past its end; no active lane. -/
theorem witness_region : ∀ wr : Bool, (engine 0x40 4 2 atStart).regionAt 0 atStart 0 wr = .at 0 8192 false := by decide

theorem witness_memOff : (memOff atStart (insnOf 0x40 4)).2 % 256 ≠ 0 ∧ memOff atStart (insnOf 0x40 0x100) = (0, 256) ∧
    (insnOf 0x40 0x100).mask = 0 := by decide

theorem witness_pastEnd : pastEnd (atStart.mask 0) 0 4 8192 = false ∧ pastEnd (atStart.mask 0) 256 4 8192 = true ∧
    (atStart.mask 0).contains true = true ∧ (atStart.mask 1).contains true = false := by
  rw [mask0, mask1]
  refine ⟨?_, ?_, ?_, ?_⟩
  · rw [pastEnd, List.any_eq_false]
    rintro ⟨a, i⟩ hp
    have := (List.mem_zipIdx hp).2.1
    rw [List.length_replicate] at this
    simp only [Bool.and_eq_true, decide_eq_true_eq]
    omega
  · rw [pastEnd, List.any_eq_true]
    refine ⟨(true, 2047), ?_, by decide⟩
    rw [List.mem_zipIdx_iff_getElem?, List.getElem?_replicate, if_pos (by decide)]
  · rw [List.contains_iff_mem, List.mem_replicate]; decide
  · rw [← Bool.not_eq_true, List.contains_iff_mem, List.mem_replicate]; decide

/-- A gather with its lanes inside the region, and with one below it. -/
theorem witness_gather (l : Nat) (h : l < 2048) : atStart.lane 0 l = 0 := by
  have h' (n : Nat) : ∀ lo, dense (0 : W32) [] lo n = List.replicate n 0 := by
    induction n with
    | zero => exact fun _ => rfl
    | succ n ih => exact fun lo => by rw [dense, ih]; rfl
  have : atStart.vec 0 = List.replicate 2048 0 := h' 2048 _
  rw [VecCtx.lane, this, List.getElem?_replicate, if_pos h]; rfl

theorem witness_gatherBelow : (({ atStart with v := [(0, 0xFFFFFFFF)] } : VecCtx).lane 0 0).toInt < 0 := by
  rw [show ({ atStart with v := [(0, 0xFFFFFFFF)] } : VecCtx).lane 0 0 = 0xFFFFFFFF from rfl]; decide

/-- STE with a half that is free and one that is full; LDL with a full buffer. -/
theorem witness_ste : ((engine 0x49 0 2 atStart).core 0).edge 0 = EdgeFile.init ∧
    (let e := (((engine 0x49 0 2 atStart).modCore 0 fun c => c.setEdge 1 { EdgeFile.init with shadow := { EdgeHalf.init with full := true } }).core 0).edge 1;
      e.shadow.full = true ∧ e.shadow.fromEngine = false) ∧
    (let lb := (((engine 0x48 0 2 atStart).modCore 0 fun c => c.setLanding 1 { Landing.init with full := true, taken := 31 }).core 0).landing 1;
      (true && lb.full && decide (lb.taken < 32)) = true) := by decide

/-- ScalarsLoopsAndProgramEnd: a body, a count of 0, the end of a body, the end of the program. -/
theorem witness_rep : (let i := (engine 0x60 0x00010001 3 atStart).nextInsn atStart; fld i.imm 27 16 = 1 ∧ fld i.imm 15 0 = 1) ∧
    (let i := (engine 0x60 0x00010000 3 atStart).nextInsn atStart;
      fld i.imm 15 0 = 0 ∧ (atStart.sc i.va).toNat = 0 ∧ atStart.pc + 1 + fld i.imm 27 16 < (engine 0x60 0x00010000 3 atStart).insnCount 0) ∧
    (let c := { atStart with reps := [(0, 1, 3)] }; c.reps = [(0, c.pc + 1, 3)] ∧ c.pc + 1 < (engine 0x50 0 2 c).insnCount 0 ∧
      ((engine 0x50 0 2 c).nextInsn c).op = 0x50) ∧
    (engine 0x50 0 1 atStart).insnCount 0 ≤ atStart.pc + 1 := by decide

/-! ### Halos, memory controllers, the home table, fills, MOVEs and grants -/

/-- Cores 0 and 1 hold CONVs with the given HALO words of queues 0 and 1, of given phase, tokens and state. -/
def halos (d e : List W32) (started : Bool) (phase : Nat) (rdy tok tok' : List Nat) : State :=
  let h := Halo.mk (0, 0) d 0 rdy tok [] [] started phase false
  let p := Halo.mk (1, 0) e 0 [] tok' [] [] started phase false
  ((flying d fun c => { c with halo := some h }).setQueue 1 { queueOf 0 [e] [] with lcore := 1, tasks := [landed e] }).modCore 1
    fun c => { c with halo := some p }

/-- CONVs that exchange with the east (bit 2) and the west (bit 3) core; W extents 1, slabs one apart. -/
def east : List W32 := words [3, 0, 0, 0, 0, 0, 0, 0, 0x80, 0, 0, 4]
def west (org : W32) : List W32 := words [3, 0, 0, 0, 0, 0, 0, 0, 0x80, 0, org, 8]

theorem witness_haloStart : (let s := halos east (west 0) false 0 [] [] [];
    s.up = true ∧ ((s.core 0).halo).map (·.started) = some false ∧ ((s.queue 0).tasks.head?).map (·.serial) = some 0) := by decide

theorem witness_haloToken : (let s := halos east (west 0) true 2 [] [] [];
    meshPartner 0 2 = some 1 ∧ ((s.core 1).halo).map (·.started) = some true ∧ (haloLinks (west 0)).contains (meshBack 2) = true ∧
      (haloLinks east).contains 2 = true ∧ (s.queue 1).cls = (s.queue 0).cls) ∧
    (let s := halos east (west 0) true 2 [] [] []; s.tokenOk ⟨(0, 0), east, 0, [], [], [], [], true, 2, false⟩ ⟨(1, 0), west 0, 0, [], [], [], [], true, 2, false⟩ 2 = false) ∧
    (let s := halos east (west 1) true 2 [] [] []; s.tokenOk ⟨(0, 0), east, 0, [], [], [], [], true, 2, false⟩ ⟨(1, 0), west 1, 0, [], [], [], [], true, 2, false⟩ 2 = true) := by
  decide

theorem witness_haloInbound : (let s := halos east (west 1) true 2 [2] [2] [3];
    phaseLinks east 2 = [2] ∧ ((s.core 0).halo).map (·.tokens) = some [2] ∧ ((s.core 1).halo).map (·.tokens) = some [meshBack 2] ∧
      (s.queue 0).lcore = (0 : Fin 16).val ∧ (s.task? 0 0).map (·.trap) = some false) ∧
    (let s := (halos east (west 1) true 2 [2] [2] [3]).modCore 1 fun c => { c with halo := none };
      ((s.core 0).halo).map (·.tokens) = some [2] ∧ (s.core 1).halo = none) := by decide

theorem witness_mortar : (meshPartner 0 1).isSome = true ∧ meshPartner 0 0 = none ∧ meshPartner 15 2 = none ∧ meshPartner 15 0 = some 11 ∧
    ready.phys 15 = some 16 ∧ ready.logical 16 = some 15 ∧ ready.queuesOn 15 = [] ∧ ready.queuesOn 11 = [] ∧ ready.mon.subst = [] ∧
    ready.spareLeft (dieOf 16) = true := by decide

/-- TierControllersKeepTheData. -/
def trained : State := put ready .memStatus 0 0x80000000

theorem witness_tiers : trained.clocked = true ∧ trained.trained = true ∧ mget [] trained.mem.writeBack 271 = [] ∧
    (let s : State := { trained with mem := { trained.mem with writeBack := [(0, [0])] } };
      mget [] s.mem.writeBack 0 = 0 :: [] ∧ s.poisoned 0 = false) ∧
    (let s : State := { trained with mem := { trained.mem with writeBack := [(0, [0])], poison := [(0, true)], initNext := 1 } };
      chanOf 0 = some (0 : Fin 272).val ∧ s.inited 0 = true ∧ s.poisoned 0 = true ∧ s.moves = []) := by decide

theorem witness_retire : trained.memRest = true ∧
    (let s : State := { trained with mem := { trained.mem with retireQ := [(69631, 5)] } };
      s.memRest = true ∧ (69631, 5) ∈ s.mem.retireQ ∧ 5 ∉ mget [] s.mem.retired 69631 ∧ 69631 / 256 < 272 ∧
        (mget [] s.mem.retired 69631).length < 1) ∧
    (let s : State := { trained with mem := { trained.mem with history := [(0, List.replicate 16 [71])] } };
      16 ≤ s.laneHits 0 71 ∧ 71 ∉ s.erased 0 ∧ s.laneHits 0 70 < 16) ∧
    trained.mem.initNext < 1048576 ∧
    1048576 ≤ ({ trained with mem := { trained.mem with initNext := 1048576 } } : State).mem.initNext := by decide

theorem witness_clean : (∀ j, trained.erased j = []) ∧ ∀ cw, trained.poisoned cw = false := ⟨fun _ => rfl, fun _ => rfl⟩

/-- EntryCommandsChangeTheirEntry: handle 0, an entry in each state, an image that passes, fails its form, and fails its home. -/
def homeCase (e im : HEntry) : State :=
  let s := put ((run twoTenants).setHome 0 1 e) .thCfg 0 0x100
  put (put (put (put (put (put (put (put s .thEntry 0 im.w0) .thEntry 1 im.w1) .thEntry 2 im.w2) .thEntry 3 im.w3) .thEntry 4 im.w4)
    .thEntry 5 im.w5) .thEntry 6 im.w6) .thEntry 7 im.w7

theorem witness_entry : (let s := homeCase .free tensor;
    s.served = true ∧ s.inView 0 .thCmd 0 = true ∧ s.handleOk 0 0 = false ∧ s.handleOk 0 1 = true ∧ s.filling 0 1 = false ∧
      (s.home 0 1).st = stFree ∧ s.entryImage 0 = tensor ∧ tensor.packed = false ∧ tensor.imageOk = true ∧ s.homeOk 0 tensor = true) := by
  decide

theorem witness_entryRefused : (let im := { tensor with w2 := 1 }; im.imageOk = true ∧ (homeCase .free im).entryImage 0 = im ∧ (homeCase .free im).homeOk 0 im = false) ∧
    { tensor with w4 := 100000 }.imageOk = false ∧ (∀ st ∈ [stUnwritten, stValid, stVoid, stPoisoned, stMoving],
      (tensor.withSt st).st = st) ∧
    (let e := tensor.withSt stVoid; tensor.fmt = e.fmt ∧ tensor.layout = e.layout ∧ tensor.bform = e.bform) := by decide

/-- FillsMovesAndGrants. -/
theorem witness_fill : (let s : State := { homeCase (tensor.withSt stUnwritten) .free with fills := [⟨0, 1, 0, 256⟩] };
    s.up = true ∧ s.fills.find? (fun x => decide (x.tenant = 0) && decide (x.handle = 1)) = some ⟨0, 1, 0, 256⟩ ∧
      (s.home 0 1).bytes ≤ 256 ∧ s.homeAddr (s.home 0 1) = some 0 ∧ s.filling 0 2 = false) := by decide

/-- A MOVE of handle 1, copied or not, switched or not. -/
def moveOf (next : Nat) (switched : Bool) : MoveRec := ⟨0, 0, 0, 1, 0, 3, 0, 0, 5, 7, false, 0, 0, next, 256, switched, true, false⟩

theorem witness_moveStages : ∀ sw : Bool, (let s : State := { flying moved id with homes := (homeCase (tensor.withSt stMoving) .free).homes, moves := [moveOf 256 sw] };
    s.moveOf 0 1 = some (moveOf 256 sw) ∧ (moveOf 256 sw).copied = true ∧ (moveOf 0 sw).copied = false ∧
      s.oldHeld 0 1 (moveOf 256 sw).gen (moveOf 256 sw).task = false ∧ (s.home 0 1).gen = (moveOf 256 sw).gen ∧ (s.home 0 1).st = stMoving ∧
      (s.task? 0 0).isSome = true ∧ s.moveOf 0 2 = none) := by decide

theorem witness_grants : (let s := ready.setUnit 0 { SharedUnit.init with queue := [⟨0, 2, 0, 0, 0⟩, ⟨7, 1, 9, 0, 0⟩, ⟨1, 1, 5, 0, 0⟩] };
      s.staged = [] ∧ s.fills = [] ∧ s.moves = [] ∧ (s.unit 0).holder = none ∧ (s.unit 0).queue ≠ [] ∧
      (∀ r ∈ (s.unit 0).queue, r.cls ≤ 2 ∧ r.tenant < 8) ∧ (∀ x ∈ (s.unit 0).queue, x.cls ≠ 0) ∧ (∃ x ∈ (s.unit 0).queue, x.cls = 1)) ∧
    (let s : State := { homeCase (tensor.withSt stUnwritten) .free with fills := [⟨0, 1, 0, 0⟩], units := [(0, { SharedUnit.init with holder := some ⟨0, 0, 0, 0, 1⟩ })] };
      (s.unit 0).holder = some ⟨0, 0, 0, 0, 1⟩ ∧ (s.unit 0).discard = false ∧
        s.fills.find? (fun x => decide (x.tenant = 0) && decide (x.handle = 1)) = some ⟨0, 1, 0, 0⟩ ∧ s.homeAddr (s.home 0 1) = some 0) := by
  decide

/-! ### Ports, frames, segments and routes -/

/-- Port 0 in a given state and role, mode 1. -/
def portIn (st role : Nat) : State :=
  put (put ready .portCfg 0 (BitVec.ofNat 32 (256 * role + 1))) .portStatus 0 (BitVec.ofNat 32 (st * 2 ^ 29))

/-- PortsMoveBetweenTheirStates: every state, with and without a held retrain request, failed attempts and verifications. -/
theorem witness_ports : ∀ st ∈ [0, 1, 2, 3, 4, 5], ∀ role ∈ [0, 1, 2], (let s := portIn st role;
    s.clocked = true ∧ s.portSt 0 = st ∧ s.portRole 0 = role ∧ s.portUsed 0 = decide (role ≠ 0) ∧ bit (s.reg .portCtrl 0) 31 = false ∧
      (s.port 0).fails + 1 < 8 ∧ (s.port 0).matched = false ∧ s.inView 0 .portCtrl 0 = true) := by decide

theorem witness_portDetails : (let s := (put (portIn 1 0) .portCtrl 0 0x80000000).modPort 0 fun x => { x with fails := 7 };
      bit (s.reg .portCtrl 0) 31 = true ∧ 8 ≤ (s.port 0).fails + 1 ∧ 0 < (s.port 0).fails ∧ s.tunil.held = none) ∧
    (let s := put (portIn 0 2) .portCtrl 0 0x40000000; bit (s.reg .portCtrl 0) 30 = true ∧ s.portUsed 0 = true) ∧
    (let s := put (portIn 2 0) .portCfg 0 0x80001;
      bit (s.reg .portCfg 0) 19 = true ∧ bit (s.reg .portStatus 0) 28 = false ∧ (s.port 0).verifyFails < 3) := by decide

/-- PortsCarryFrames: shares of class 1 on port 0, PFC on priority 4. -/
def shared : State :=
  let im := { Image.blank with ports := [{ PortRec.none with share0 := 1, share1 := 1, share2 := 1, xoff := 1 }] }
  { put (portIn 2 2) .portCfg 0 0x10000201 with cfg := im }

theorem witness_frames : (let s := shared;
    s.portUsable 0 = true ∧ s.frameClass none 4 = 1 ∧ (s.port 0).used 1 + 9216 ≤ s.shareSize 0 1 ∧ s.pfcOn 0 (sharePcp 1) = true ∧
      s.xoffAt 0 < (s.port 0).used 1 + 9216 ∧ (s.port 0).xoff 1 = false ∧ (s.port 0).used 1 ≤ s.xoffAt 0) ∧
    (let s := shared.modPort 0 fun x => { x with used1 := 65536 };
      s.shareSize 0 1 < (s.port 0).used 1 + 64 ∧ s.xoffAt 0 < (s.port 0).used 1) ∧
    bit ((put (portIn 2 2) .portCfg 0 0x20201).reg .portCfg 0) 17 = true ∧ (put (portIn 2 2) .portCfg 0 0x20201).txAn 0 = none ∧
    (portIn 2 1).portUsable 0 = false := by decide

/-- A frame of a route at priority 4, alone and behind one of priority 6. -/
def frame (pcp : Nat) : TxFrame := ⟨pcp, false, 3, goodSeg, none⟩

theorem witness_transmit : (let s := shared.modPort 0 fun x => { x with txq := [frame 4, frame 6] };
      s.portUsable 0 = true ∧ bit (s.reg .portCfg 0) 17 = false ∧ bit (s.reg .portFinj 0) 31 = false ∧ (s.port 0).held = [] ∧
      (∃ g ∈ (s.port 0).txq, g.pcp = 6) ∧ (∃ g ∈ (s.port 0).txq, g.pcp = 4 ∧ (s.port 0).paused4 = false)) ∧
    (let s := shared.modPort 0 fun x => { x with txq := [frame 4], paused4 := true };
      ∀ g ∈ (s.port 0).txq, ¬ (g.pcp = 6 ∨ (g.pcp = 4 ∧ (s.port 0).paused4 = false) ∨ (g.pcp = 2 ∧ (s.port 0).paused2 = false))) ∧
    ((shared.modPort 0 fun x => { x with held := [.mac 2 7, .tunil (frame 4) []] }).port 0).held = .mac 2 7 :: [.tunil (frame 4) []] := by decide

/-- Route 3 of tenant 0 with the peer of node 5, on a port that receives, in a ready module. -/
def opened (r : Route) : State :=
  let s := put (put (put (put (put ((run twoTenants).setRoute 3 r) .portCfg 0 0x201) .portStatus 0 0x40000000) .tunCtrl 0 0xC0000000) .thCfg 0 0x100) .carStatus 0 2
  { s with homes := (homeCase (tensor.withSt stMoving) .free).homes }

def openRoute : Route := { Route.init with st := 2, peerNode := 5, ports := 1 }
def seg3 : Seg := { goodSeg with route := 3, srcNode := 5, dstNode := 2, handle := 1, payload := List.replicate 256 1 }
def message : RxMsg := ⟨0, 3, [1], 0, 1, 0, 0, 0, 0, 0, false, false, 0, 4096, false, false⟩

/-- SegmentsArriveInTheirRoute. -/
theorem witness_segment : (let s := opened { openRoute with msgs := [message] };
    s.clocked = true ∧ s.receives 0 = true ∧ seg3.dstNode = s.carNode ∧ segKey seg3 = 3 ∧ s.tunReady = true ∧ (s.route 3).st = 2 ∧
      (s.route 3).ofRecord seg3 = true ∧ (seg3.seq + 2 ^ 32 - (s.route 3).rxNext) % 2 ^ 32 ≤ 256 ∧ (s.route 3).rxMarks.contains seg3.seq = false ∧
      s.stepFloor (s.route 3).tenant ≤ seg3.step ∧ message.msgNo = seg3.msgNo ∧ message.code = 0 ∧ message.got.length + 1 < message.segCnt ∧
      256 * seg3.offset + 256 ≤ message.extent) := by decide

theorem witness_segmentEnds : seg3.payload.length = 256 ∧ (∀ k, ((opened openRoute).queue k).tasks = []) ∧
    { seg3 with dstNode := 1 }.dstNode ≠ (opened openRoute).carNode ∧
    (opened { openRoute with rxMarks := [0] }).route 3 = { openRoute with rxMarks := [0] } ∧
    (let m := { message with commit := true, move := true }; let s := opened { openRoute with msgs := [m] };
      (s.route 3).msgs = [m] ∧ m.handle = seg3.handle ∧ (s.home 0 m.handle).gen = m.gen ∧ (s.home 0 m.handle).st = stMoving) :=
  ⟨List.length_replicate, fun _ => rfl, by decide, by decide, by decide⟩

theorem witness_opening : (let s := opened { openRoute with st := 1 };
    (s.route 3).st = 1 ∧ (s.route 3).cls = seg3.cls ∧ (s.route 3).peerRoute = seg3.aux % 65536 ∧ (s.route 3).peerNode = seg3.srcNode) := by decide

/-- RoutesAcknowledgeRetryAndEnd, and the refusals of SegmentsArriveInTheirRoute. -/
def inFlight : TxSeg := ⟨{ goodSeg with seq := 9, msgNo := 4, payload := [] }, (0, 0), 0, 0, false⟩

theorem witness_window : (let s := opened { openRoute with unacked := [inFlight] };
    (s.route 3).st = 2 ∧ (s.route 3).resetSent = false ∧ (s.route 3).held = false ∧ s.held .tunil = false ∧ (s.route 3).solo = none ∧
      (s.route 3).unacked.find? (fun y => decide (y.seg.seq = (9 : W32).toNat)) = some inFlight ∧
      s.pickPort (s.route 3).ports (classPcp (s.route 3).cls) (some inFlight.port) = some 0 ∧ bit (s.reg .tunFinj 0) 31 = false ∧
      (s.route 3).unacked ≠ [] ∧ (s.route 3).unacked.filter (fun y => decide (y.seg.msgNo = 4) && decide (y.seg.typ = 1)) = [inFlight] ∧
      (∀ y ∈ (s.route 3).unacked, y.seg.msgNo ≠ seg3.msgNo) ∧ (s.route 3).toSend = [] ∧ ackCovers { seg3 with seq := 10 } 9 = true) := by decide

theorem witness_routeEnds : (let s := opened { openRoute with resetSent := true };
      (s.route 3).resetSent = true ∧ s.pickPort (s.route 3).ports (ackPcp (s.route 3).cls) none = some 0 ∧ (s.route 3).ofRecord seg3 = true) ∧
    (let s := opened { openRoute with rxPending := 1 }; 0 < (s.route 3).rxPending) ∧
    ((opened { openRoute with held := true }).route 3).held = true ∧ seg3.epoch = openRoute.peerEpoch := by decide

/-- A message in its middle, awaited by a RECV. -/
theorem witness_midMessage : (let d := words [7, 0, 0, 0, 0, 0, 0, 0x00030005];
    let s : State := { opened { openRoute with msgs := [message] } with queues := (running { queueOf 0 [d] [] with tasks := [{ landed d with landed := false }] }).queues };
    message ∈ (s.route 3).msgs ∧ message.msgNo = (s.route 3).rxMsg ∧ message.whole = false ∧ message.code = 0 ∧ message.got ≠ [] ∧
      s.oldestWait (queuesOf (s.route 3).tenant) (fun d => decide ((dRoute d).map (·.2) = some 3)) = some (0, { landed d with landed := false })) := by
  decide

/-! ### The caravan -/

/-- A stage outside any bond. -/
def stage (node serial flags : Nat) : MapEntry := ⟨node, 0xFFFF, 15, flags, 0, serial⟩
def plan : CarPlan := ⟨2, false, false, 0, [], [0, 1], 100, 10, 10, 0, [1], 0, 1⟩

/-- This module is node 2 of a caravan, locked to PTP and RUNNING, in a role of Table 14-8. -/
def caravan (role : Nat) (map : List MapEntry) (f : Caravan → Caravan) : State :=
  let s := put (run { twoTenants with caravan := some ⟨1, 0, 0, 0, 0, 0xFFFF, 15, 0, [7]⟩ }) .carStatus 0
    (BitVec.ofNat 32 (2 * 2 ^ 29 + role * 2 ^ 27 + 2 ^ 24 + 2))
  { s with caravan := f { s.caravan with map := map, tenant := some 0, plan := some plan } }

/-- This module masters itself and node 3. -/
def twoStages : List MapEntry := [stage 2 0 1, stage 3 1 2]
def from3 : NoteHdr := ⟨0, 3, 0, 0⟩

/-- NoticesReachTheMaster: a worker that relays or not, a bond's head that hears a slot, and the master. -/
theorem witness_relay : (caravan 0 twoStages id).up = true ∧ (caravan 0 twoStages id).carRole ≠ 1 ∧
    bit ((put (caravan 0 twoStages id) .carStatus 0 0x44000002).reg .carStatus 0) 26 = true ∧ from3.step = (caravan 0 [] id).carStep := by decide

theorem witness_bondHead : (let s := caravan 0 [⟨2, 1, 0, 4, 0, 0⟩, ⟨3, 1, 8, 0, 0, 1⟩] id;
    s.mapOf 3 = some ⟨3, 1, 8, 0, 0, 1⟩ ∧ s.mapSelf = some ⟨2, 1, 0, 4, 0, 0⟩ ∧ (8 : Nat) ∉ s.caravan.slotsDone ∧
      MapEntry.isHead ⟨2, 1, 0, 4, 0, 0⟩ = true) := by decide

theorem witness_boundary : (let s := caravan 1 twoStages fun c => { c with master := { c.master with stagesDone := [2, 3] } };
    s.carRole = 1 ∧ s.carStep = from3.step ∧ s.caravan.plan = some plan ∧ s.caravan.master.collecting = false ∧
      s.caravan.master.rollback = none ∧ s.caravan.master.pendMap = none ∧ s.brokenPairs = [] ∧ (s.caravan.map.filter MapEntry.isStage) ≠ [] ∧
      (∀ e ∈ s.caravan.map, e.isStage = true → if e.bond = 0xFFFF then e.node ∈ s.caravan.master.stagesDone else e.bond = 0 ∨ e.bond ∈ s.caravan.master.bondsDone)) := by
  decide

theorem witness_partWay : (let s := caravan 1 twoStages id;
      s.mapOf 3 = some (stage 3 1 2) ∧ 3 ∉ s.caravan.master.stagesDone ∧ stage 2 0 1 ∈ s.caravan.map ∧ 2 ∉ s.caravan.master.stagesDone) ∧
    (let s := caravan 1 [⟨3, 1, 0, 0, 0, 1⟩, ⟨4, 2, 0, 0, 0, 2⟩] id;
      ⟨4, 2, 0, 0, 0, 2⟩ ∈ s.caravan.map ∧ (1 : Nat) ∉ s.caravan.master.bondsDone ∧ (2 : Nat) ∉ s.caravan.master.bondsDone) := by decide

theorem witness_alive : (let s := caravan 1 twoStages fun c => { c with master := { c.master with rollback := some ⟨0, false, 0⟩, awaiting := [3] } };
      s.caravan.master.rollback = some ⟨0, false, 0⟩ ∧ s.caravan.master.pendGo = false ∧
      s.caravan.master.awaiting.filter (fun n => decide (n ≠ from3.sender)) = []) ∧
    (let s := caravan 1 twoStages fun c => { c with master := { c.master with rollback := some ⟨0, false, 0⟩, awaiting := [2, 3] } };
      s.caravan.master.awaiting.filter (fun n => decide (n ≠ from3.sender)) ≠ []) ∧
    (caravan 1 twoStages fun c => { c with snapshot := some (0, 1, [3]) }).caravan.snapshot = some (0, 1, [3]) ∧
    (caravan 1 [] fun c => { c with plan := none }).caravan.plan = none ∧ (caravan 1 [] id).caravan.master.started = false ∧
    (firstMap plan []).2 ≠ [] := by decide

/-- MasterActsOnReportsAndParts. -/
theorem witness_reports : (let s := caravan 1 twoStages id;
      s.caravan.master.rollback = none ∧ s.mapOf 3 = some (stage 3 1 2) ∧ (stage 3 1 2).isOurs = true ∧ (stage 3 1 2).isFailed = false) ∧
    (let s := caravan 1 twoStages fun c => { c with master := { c.master with nextGen := 1, homeDone := [2] } };
      0 + 1 = s.caravan.master.nextGen ∧ s.caravan.restore = none ∧ plan.swap = false ∧ s.caravan.master.pendRestore = none ∧
      (∀ e ∈ s.caravan.map, e.isStage = true → (e.node = 3 ∨ e.node ∈ s.caravan.master.homeDone) ∧ (e.node ∈ s.caravan.master.buddyDone ∨ s.buddyOf e = none)) ∧
      standbyOf s.caravan.map = some 3) ∧
    (let s := caravan 1 [stage 2 0 1, stage 3 1 0] fun c => { c with master := { c.master with nextGen := 1, homeDone := [2] } };
      standbyOf s.caravan.map = none ∧ ∀ e ∈ s.caravan.map, e.isStage = true → (e.node = 3 ∨ e.node ∈ s.caravan.master.homeDone) ∧ s.buddyOf e = none) := by
  decide

theorem witness_probe : (let s := caravan 1 twoStages fun c => { c with master := { c.master with started := true, probed := [3] } };
      s.caravan.master.started = true ∧ s.caravan.master.rollback = none ∧ s.silent = [2, 3] ∧ 3 ∈ s.caravan.master.probed ∧
      s.caravan.master.probed.filter (fun n => decide (n ≠ 3)) = [] ∧ s.caravan.master.collecting = false ∧ s.caravan.master.reports = [] ∧
      withoutNodes s.baseMap (s.caravan.master.failed ++ [3]) = none) ∧
    (let s := caravan 1 twoStages fun c => { c with master := { c.master with collecting := true, probed := [3] } };
      s.caravan.master.collecting = true ∧ s.caravan.master.probed ≠ []) ∧
    (let s := caravan 1 twoStages fun c => { c with master := { c.master with collecting := true, reports := [(0x10, 3)] } };
      s.caravan.master.probed = [] ∧ (s.caravan.master.reports.map (·.1)).find? haltCode = some 0x10) := by decide

/-- MasterStandbyAndPlan. -/
theorem witness_terms : (let s := put (caravan 1 twoStages id) .carTerm 0 1; from3.term < s.carTerm) ∧
    (let s := caravan 1 twoStages id; s.carRole = 1 ∧ standbyOf s.caravan.map = some 3 ∧ from3.term = s.carTerm) ∧
    (let s := caravan 1 [stage 2 0 1, stage 3 1 2, ⟨4, 0xFFFF, 15, 0, 7, 2⟩] id;
      s.caravan.master.pendMap = none ∧ s.caravan.master.pendGo = false ∧ standbyOf s.caravan.map = some 3 ∧ (standbyOf (s.appoint s.caravan.map (some 3))).isSome = true) ∧
    standbyOf (caravan 1 [stage 2 0 1] id).baseMap = none := by decide

theorem witness_takeover : (let s := caravan 2 [stage 2 0 2, ⟨3, 1, 0, 4, 0, 1⟩, ⟨4, 2, 0, 4, 0, 2⟩] fun c => { c with takingOver := true };
      s.carRole = 2 ∧ s.heads = [3, 4] ∧ s.caravan.takingOver = true ∧ 3 ∈ s.heads ∧
      (let l := (s.caravan.takeover.filter fun a => decide (a.1 ≠ 3)) ++ [(3, 0)]
       2 * (l.filter fun a => decide (2000 ≤ (s.beat + 2 ^ 48 - a.2) % 2 ^ 48)).length ≤ s.heads.length ∧ l.length < s.heads.length)) ∧
    (let s := caravan 2 [⟨5, 1, 1, 1, 0, 5⟩, stage 2 0 2, ⟨3, 1, 0, 4, 0, 1⟩] fun c => { c with takingOver := true };
      let l := (s.caravan.takeover.filter fun a => decide (a.1 ≠ 3)) ++ [(3, 2 ^ 47)]
      s.heads.length < 2 * (l.filter fun a => decide (2000 ≤ (s.beat + 2 ^ 48 - a.2) % 2 ^ 48)).length ∧ s.masterId = 5 ∧
        withoutNodes s.caravan.map [s.masterId] = none) ∧
    (caravan 2 twoStages id).heads = [] := by decide

theorem witness_plan : (let s := asking (boxes false) 4 1 9 []; s.cfg.funcTenant (s.svc 4).func = some 1 ∧ s.asked 4 9 = true ∧ (s.cfg.tenant 1).cl0 = false) ∧
    (let s : State := asking { boxes false with caravan := { ready.caravan with plan := some plan, tenant := some 1 } } 4 0 9 [];
      s.cfg.caravan = none ∧ s.caravan.plan ≠ none ∧ s.caravan.tenant ≠ some 0) ∧
    (let s := put (asking (boxes false) 4 0 9 []) .queStatus 0 0x10000; s.cfg.caravan = none ∧ s.caravan.plan = none ∧ (s.cfg.tenant 0).cl0 = true ∧ s.class0Queues 0 ≠ []) ∧
    (asking (boxes false) 4 0 9 []).planCode 0 [] ≠ 0 := by decide

/-- BoundariesRollbacksAndCheckpoints. -/
theorem witness_orders : (let s := caravan 0 twoStages id;
      s.inCaravan = true ∧ from3.term = s.carTerm ∧ s.carState ≠ 3 ∧ s.carState ≠ 5 ∧ from3.mapGen ≤ (s.reg .carMapgen 0).toNat ∧
      (s.reg .carMapgen 0).toNat < 1 ∧ s.awaits 1 = true ∧ ¬ (beatPast s.beat 5 = true ∧ s.beat ≠ 5) ∧ bit (s.reg .carStatus 0) 24 = true ∧
      s.tunil.routes = [] ∧ s.caravan.tenant = some 0 ∧ s.caravan.rolled ≠ some ⟨0, true, 0⟩ ∧ s.substituting 0 = false ∧ s.isStageHere = true ∧
      s.carState ≠ 1) ∧
    (let s : State := { caravan 0 twoStages id with clock := { ready.clock with ptp := 10000 } }; beatPast s.beat 5 = true ∧ s.beat ≠ 5) ∧
    (put (caravan 0 twoStages id) .carStatus 0 0xA1000002).carState = 5 ∧ (put (caravan 0 twoStages id) .carStatus 0 0x41008000).isStageHere = false ∧
    (∀ e ∈ mergeMap [stage 3 1 1] [stage 4 2 0], e.serial ≠ (caravan 0 [] id).flash.fuses.serial) := by decide

theorem witness_halves : (let s := caravan 0 twoStages fun c => { c with lastGen := some (1, 0) }; s.caravan.lastGen = some (1, 0)) ∧
    (∀ k, ((caravan 0 twoStages id).queue k).tasks = []) ∧
    (let s := caravan 0 twoStages id; s.caravan.reload = [] ∧ s.caravan.reroutes = [] ∧ s.stepQueues = []) ∧
    (let s := put (put ((caravan 0 twoStages id).setQueue 0 (queueOf 0 [] [])) .queStatus 0 0x20000) .carCkptstat 0 0x40000000;
      s.stepQueues = [0] ∧ s.qst 0 = 2 ∧ s.rfld .carCkptstat 0 31 30 = 1) ∧
    (put (caravan 0 twoStages id) .carCkptstat 0 0x80000000).rfld .carCkptstat 0 31 30 = 2 ∧ (caravan 0 twoStages id).dataDrained = true :=
  ⟨by decide, fun _ => rfl, by decide, by decide, by decide, by decide⟩

/-- A shipped snapshot still waits for its acknowledgement. -/
theorem witness_snapshot : ({ caravan 0 twoStages id with tunil := { ready.tunil with routes := [(5,
      { Route.init with st := 2, cls := 2, peerNode := 9, toSend := [⟨goodSeg, none, 0, (0, 0), []⟩] })] } } : State).snapSent 0
    (.foreign 9 []) = false := by decide

theorem witness_freeze : (let s := homeCase tensor .free;
    (s.home 0 1).st ≠ stUnwritten ∧ (s.home 0 1).st ≠ stFree ∧ s.homeAddr (s.home 0 1) = some 0 ∧ 0 + (s.home 0 1).rangeBytes ≤ 0x1000 ∧ readsClean s ∧
      256 + roundUp (s.home 0 1).rangeBytes 256 ≤ 512) := by
  simp only [readsClean]; decide

/-! ### The Kiln and the codec -/

/-- A queue record of one slot of one 16 × 16 frame in one token, with two batches staged at 0x100000. -/
def record (cls : W32) : List W32 :=
  [0x514B5655, 0x60200 + 16 * cls, 0x10001, 0x100010, 0x101001, 0, 0, 0, 0, 0, 0x100000, 0, 0, if cls = 1 then 5 else 0, 0, 0]

/-- Tenant 0 with Kiln queue 0 open, its function reading host memory. -/
def kiln (cls : W32) (head : W32) (f : KQueue → KQueue) : State :=
  put ((boxes false).setKq 0 (f { KQueue.init with isOpen := true, record := record cls })) .klnQtail 0 (head + 1)

/-- A descriptor for batch `id`, of a KIND, whose frame is 16 × 16. -/
def desc (id kind : W32) : List W32 := [7, 0, id, 0x01000000 + kind * 0x10000, 0x1000, 0, 0, 0, 0x30, 0, 0x100010, 0x100010, 1, 0, 0, 0]

def sample (d : List W32) (started : Bool) : KSample := ⟨d, List.replicate 32 0, started, 1, [], [], none, false, [], 0, 0, false, []⟩

/-- KilnFillsClosesAndCopiesBatches: open, refused and not; close. -/
theorem witness_kilnOpen (cls : W32) (h : cls ∈ ([0, 1, 2] : List W32)) : (let s := asking (boxes false) 4 0 5 (record cls);
    s.cfg.funcTenant (s.svc 4).func = some 0 ∧ s.asked 4 5 = true ∧ s.kilnRefusal 0 (record cls) = 0) := by
  simp only [List.mem_cons, List.not_mem_nil, or_false] at h
  rcases h with rfl | rfl | rfl <;> decide

theorem witness_kilnClose : kilnRecordOk [] = false ∧ (boxes false).kilnRefusal 1 (record 0) ≠ 0 ∧
    (let s := asking (kiln 0 0 id) 4 0 6 [0]; s.asked 4 6 = true ∧ (s.kq 0).isOpen = true ∧ (s.kq 0).batches = [] ∧ (s.kq 1).isOpen = false) := by
  decide

theorem witness_kilnTail : (let s := kiln 0 0 id;
    s.served = true ∧ (s.write 0 .klnQtail 0 true 1).2 = true ∧ (s.write 1 .klnQtail 0 true 1).2 = false ∧ (s.kq 0).isOpen = true ∧
      2 ^ kqRingLog (s.kq 0).record < postedBy (s.rfld .klnQhead 0 15 0) 65 ∧ postedBy (s.rfld .klnQhead 0 15 0) 64 ≤ 2 ^ kqRingLog (s.kq 0).record) := by
  decide

theorem witness_kilnAccept : (let s := kiln 2 0 id;
      (s.kq 0).isOpen = true ∧ (s.kq 0).samples.length < 4 ∧ s.kilnSamples < 64 ∧ s.rfld .klnQhead 0 15 0 ≠ s.rfld .klnQtail 0 15 0 ∧ s.canRead 0 = true ∧
      s.batchOff 0 (kdBatch (desc 1 0)) < kqSlots (s.kq 0).record ∧ (s.kq 0).batch? 1 = none ∧ kdSlot (desc 1 0) < kqB (s.kq 0).record ∧
      kqCls (s.kq 0).record ≠ 0 ∧ kdKind (desc 1 0) ≠ 1) := by decide

theorem witness_kilnWindow : kqSlots (record 2) ≤ (kiln 2 0 id).batchOff 0 2 ∧ (kiln 2 0 id).batchOff 0 2 < 2 ^ 31 ∧ 2 ^ 31 ≤ (kiln 2 0 id).batchOff 0 (-1) ∧
    (kiln 0 0 id).sampleOk 0 (desc 1 3) (List.replicate 32 0) = false ∧ kqCls (record 0) = 0 ∧ bit ((kiln 0 0 id).reg .klnFault0 0) 31 = false := by
  decide

theorem witness_kilnSampleOk : (kiln 2 0 id).sampleOk 0 (desc 1 0) (List.replicate 32 0) = true := by decide

theorem witness_kilnSample : (let s := kiln 2 0 fun q => { q with samples := [sample (desc 1 0) false] };
      (s.kq 0).samples[(0 : Fin 4).val]? = some (sample (desc 1 0) false) ∧ (sample (desc 1 0) false).started = false ∧
      s.held (.kiln 0) = false ∧ kdKind (desc 1 0) = 0 ∧ s.canRead 0 = true ∧ kpMeshEn (sample (desc 1 0) false).params = false ∧
      (s.kq 0).samples.length ≤ 3) ∧
    (kdKind (desc 1 1) = 1 ∧ kdRoute (desc 1 1) ≠ 0x1FFF ∧ ((kiln 2 0 id).route (kdRoute (desc 1 1))).st = 0) ∧
    (kdTs (desc 1 0) ≤ (sample (desc 1 0) true).frames ∧ kdSlot (desc 1 0) < kqB (record 2)) := by decide

theorem witness_kilnDeadline : (∀ closed : Bool, ∀ dl ∈ ([none, some 0, some 5] : List (Option Nat)),
    (let s := kiln 2 0 fun q => { q with batches := [⟨1, [], closed, dl, 0, false, none⟩], samples := [sample (desc 1 0) true] };
      (s.kq 0).batch? 1 = some ⟨1, [], closed, dl, 0, false, none⟩ ∧ (s.kq 0).batch? 2 = none ∧ kqCls (s.kq 0).record ≠ 0)) := by decide

/-- KILN_TAKE of batch 0 into handles 2 and 3 of tenant 0, and the copy of a closed batch. -/
def taken : List W32 := words [9, 0, 0, 2, 0, 0, 3]
def batchTensor : HEntry := ⟨0x00001111, 0x200000, 0, 512, 256, 256, 0x00010001, 1⟩
def batchMask : HEntry := ⟨0x00007311, 0x300000, 0, 2, 1, 1, 0x00010001, 1⟩

theorem witness_take : (let s := put (((running (queueOf 0 [taken] [])).setKq 0 { KQueue.init with isOpen := true, record := record 0 }).setHome 0 2 batchTensor
      |>.setHome 0 3 batchMask) .thCfg 0 0x100;
    s.patched 0 0 = taken ∧ s.issuable 0 = true ∧ s.firstOnCore 0 = true ∧ s.voidWait 0 taken = none ∧ dType taken = 9 ∧ s.filling 0 (dDst taken) = false ∧
      s.filling 0 (df taken 6 23 0) = false ∧ (s.startTask 0 0).1.takeCode 0 (s.queue 0).cls 0 0 taken = 0 ∧ ((s.kq 0).batch 0).code = 0 ∧
      (running (queueOf 0 [taken] [])).takeCode 0 0 0 0 taken ≠ 0) := by decide

theorem witness_copy : (let b : KBatch := ⟨0, [], true, some 0, 0, false, some (0, 0)⟩;
    let s := ((flying taken id).setKq 0 { KQueue.init with isOpen := true, record := record 0, batches := [b] }).setHome 0 2 batchTensor |>.setHome 0 3 batchMask;
    (s.kq 0).batches.find? (fun b => b.closed && !b.done && decide (b.code = 0) && b.take.isSome) = some b ∧ b.take = some (0, 0) ∧
      (s.task? 0 0).isSome = true ∧ s.homeAddr (s.home 0 (dDst taken)) = some 0x200000 ∧ s.homeAddr (s.home 0 (df taken 6 23 0)) = some 0x300000) ∧
    (let s := kiln 2 0 id; s.reg .klnQoldest 0 = 0 ∧ ((s.kq 0).batch (0 + 1)).done = false) ∧
    (0 < kqB (record 0) ∧ ((KBatch.fresh 0).slot 0).st ≠ 1) := by decide

theorem witness_copyApart : ∀ i tok j, i < kqB (record 0) → tok < kqNt (record 0) → j < kqDp (record 0) / 32 →
    0x200000 + kqChunk (record 0) i tok j + 64 ≤ 0x300000 := by
  have h : ∀ i < 1, ∀ tok < 1, ∀ j < 8, 0x200000 + kqChunk (record 0) i tok j + 64 ≤ 0x300000 := by decide
  exact fun i tok j hi ht hj => h i hi tok ht j hj

/-! The codec. -/

/-- A decode record of class 0 with 64 × 64 pictures in two slots from 0x100000, and an encode record of class 0. -/
def decRecord : List W32 := [0x43445655, 0x02040000, 0x400040, 0, 0x1000, 0, 0, 0, 0x100000, 0, 0, 0, 0, 0, 0, 0]
def encRecord : List W32 := [0x43455655, 0x04018000, 0x400040, 0x1001E, 30, 1, 1, 0, 0x1000, 0, 0x2000, 0, 0x3000, 0, 0x100000, 0]
def config : List W32 := [0, 1000, 1000, 100000, 50000, 0x3000] ++ List.replicate 26 0

theorem witness_decOpen : (let s := asking (boxes false) 4 0 7 decRecord;
    s.asked 4 7 = true ∧ wordAt (s.svc 4).body 0 ≠ 0x43455655#32 ∧ s.decRefusal 0 decRecord = 0 ∧ s.decRefusal 1 decRecord ≠ 0 ∧ decRecordOk [] = false) := by
  decide

/-- An encode record opens where the level admits it (Config.levelOk is left open). -/
theorem witness_encOpen : (let s := (asking (boxes false) 4 0 7 encRecord).setHome 0 1 batchMask;
    let x := put s .thCfg 0 0x100;
    x.encRefusal 0 encRecord config = if Config.levelOk (cAv1 encRecord) (eLevel encRecord) (eW encRecord) (eH encRecord) (gMaxrate config) then 0 else 3) := by
  intro s x
  have h1 : encRecordOk encRecord = true := by decide
  have h2 : x.opaqueFast 0 (eOut encRecord) = true ∧ x.opaqueFast 0 (eStats encRecord) = true := by decide
  have h3 : (x.inWindows 0 (cWork encRecord 14) (eWorkBytes encRecord) && isFast (cWork encRecord 14)) = true := by decide
  have h4 : ¬ (x.encSt (df encRecord 1 5 0) ≠ 0 ∨ (x.cfg.tenant 0).encCtx ≤ (x.encsOf 0).length) := by decide
  unfold State.encRefusal
  rw [h1, h2.1, h2.2, h3, if_neg (by decide), if_neg (by decide), if_neg h4]
  have h5 : gQpmax config ≤ qpTop encRecord := by decide
  have h6 : ((List.range 14).all fun i => decide (wordAt config (18 + i) = 0)) = true := by decide
  have h7 : decide (32 ≤ config.length) = true ∧ decide (wordAt config 0 &&& ~~~1#32 = 0) = true ∧ decide (fld (wordAt config 5) 31 16 = 0) = true ∧
    (gVbr config || decide (gMaxrate config = (wordAt config 1).toNat)) = true ∧
    decide (eW encRecord * eH encRecord ≤ 16 * gInitfull config) = true ∧ decide (gInitfull config ≤ gBufsize config) = true ∧
    decide (2 * gMaxrate config * 1000 * eDen encRecord ≤ gBufsize config * eNum encRecord) = true ∧
    decide (16384 * eNum encRecord ≤ gMaxrate config * 1000 * eDen encRecord) = true ∧ decide (gQpmin config ≤ gQpmax config) = true := by decide
  obtain ⟨a1, a2, a3, a4, a5, a6, a7, a8, a9⟩ := h7
  rw [configOk, a1, a2, a3, a4, a5, a6, a7, a8, a9, h6, decide_eq_true h5]
  cases Config.levelOk (cAv1 encRecord) (eLevel encRecord) (eW encRecord) (eH encRecord) (gMaxrate config) <;> rfl

theorem witness_encRefused : (let s := asking (boxes false) 4 0 7 encRecord; s.canRead 0 = true ∧ wordAt (s.svc 4).body 0 = 0x43455655#32 ∧ s.encRefusal 0 encRecord config ≠ 0) := by
  decide

/-- A context of tenant 0 that is open; decode and encode. -/
def decOf (x : DecCtx) : State := put ((boxes false).setDec 255 { x with isOpen := true, record := decRecord }) .cdcDstat 255 0x20000000
def encOf (x : EncCtx) : State := put (((boxes false).setHome 0 1 batchMask).setEnc 63 { x with isOpen := true, record := encRecord, config := config }) .cdcEstat 63 0x20000000

theorem witness_codecClose : (let s := asking (decOf .init) 4 0 8 [0, 255];
      s.asked 4 8 = true ∧ s.decTenant 255 = some 0 ∧ s.decTenant 254 ≠ some 0 ∧ (s.dec 255).pipe = none) ∧
    (decOf { DecCtx.init with pipe := some 3 }).dec 255 = { DecCtx.init with isOpen := true, record := decRecord, pipe := some 3 } ∧
    (let s := asking (encOf .init) 4 0 8 [1, 63]; s.encTenant 63 = some 0 ∧ (s.enc 63).frame = none) := by decide

theorem witness_codecWrites : (let s := decOf .init;
      s.served = true ∧ (s.write 0 .cdcDtail 255 true 1).2 = true ∧ (s.write 8 .cdcDtail 255 true 1).2 = false ∧ (s.dec 255).isOpen = true ∧
      (s.write 0 .cdcDrelease 255 true 0).2 = true ∧ (s.write 0 .cdcMode 0 true 1).2 = true) ∧
    (let s := encOf .init; (s.write 0 .cdcEtail 63 true 1).2 = true ∧ (s.write 0 .cdcErel 63 true 0).2 = true ∧
      (s.write 0 .cdcEcommit 63 true 0x80000000).2 = true ∧ (s.enc 63).isOpen = true ∧ s.canRead (s.encOwner 63) = true ∧
      ({ s with host := { s.host with busMaster := [] } } : State).canRead (s.encOwner 63) = false) := by decide

/-- A pipe admits a decode and an encode frame in ORDERED, and there is none to admit. -/
theorem witness_admit : (let s := decOf { DecCtx.init with posts := [(1, 0)] };
      (s.chooseCtx 3 s.codec.lastDec (s.decReqs.filter (s.withinDepth false))).map (fun p => p.1.ctx) = some 255 ∧ (s.dec 255).endSeen = false ∧ 0 < postCount (s.dec 255).posts) ∧
    (let s := boxes false; s.staged = [] ∧ s.chooseCtx 3 s.codec.lastDec (s.decReqs.filter (s.withinDepth false)) = none) := by decide

theorem witness_admitEnc : (let s := encOf { EncCtx.init with posts := [0] };
    let l := (s.encReqs [List.replicate 16 0]).filter fun y => s.withinDepth true y.1;
    (s.enc 63).nextConfig = none ∧ (s.chooseCtx 7 s.codec.lastEnc (l.map (·.1))).map (fun p => p.1.ctx) = some 63) ∧
    (let s := boxes false; s.chooseCtx 7 s.codec.lastEnc (((s.encReqs []).filter fun y => s.withinDepth true y.1).map (·.1)) = none) := by decide

/-- DECODE_PICTURE_OUTPUT and ENCODE_PASS_DONE. -/
theorem witness_picture : (let s := decOf { DecCtx.init with pipe := some 0 };
      s.decSt 255 = 1 ∧ (s.dec 255).pipe ≠ none ∧ s.codec.held.contains (false, 255) = false ∧ (s.dec 255).pics = []) ∧
    (let s := decOf { DecCtx.init with pics := [⟨0, 64, 64, false, false⟩] };
      (s.dec 255).endSeen = false ∧ ∃ p ∈ ((put s .cdcDout 255 2).freePics 255 |>.dec 255).pics, p.num + dPool (s.dec 255).record = 2) := by decide

def eframe (pass : Nat) (first key : Bool) : EFrame := ⟨7, List.replicate 16 0, 0, [], false, key, first, false, 0, pass, 0, 0, 0, none⟩

theorem witness_pass : (∀ pass ∈ [1, 3], ∀ first : Bool, (let s := encOf { EncCtx.init with frame := some (eframe pass first first), fullness := 50000 };
      (s.enc 63).frame = some (eframe pass first first) ∧ s.codec.held.contains (true, 63) = false ∧ (s.enc 63).fullness < 50001 ∧ 50000 ≤ (s.enc 63).fullness)) ∧
    eDlskip encRecord = false ∧ nextPass encRecord config 1 20 = some 2 := by decide

/-! ### States that meet the hypotheses of single clauses -/

/-- TrainingEndsReadyOrFailed and PortsStartInGroups: lost lanes that fail a channel, a trial copy at readiness. -/
theorem witness_lanes : failsChannel 255 ((lanesOf [(255, 71), (255, 1), (255, 2), (255, 3), (255, 4), (255, 5), (255, 6)] 255).drop 2) = true ∧
    failsChannel 0 (ready.erased 0) = false ∧
    (let s : State := { ready with flash := ready.flash.putBoot { ready.flash.current with trial := true } };
      s.flash.current.trial = true ∧ s.flash.current.pref = s.power.copyB) ∧ ready.trained = false := by decide

/-- ShutdownStopsEveryClock, SidebandInputsAreTakenOnce and CoreFaultStopsItsCore: the spare has no position; chatter; a core
of a tenant and one of none; a substitution with a record of the oldest tasks. -/
theorem witness_healthClauses : ready.logical 8 = none ∧
    (∀ sync : Bool, (let s : State := { ready with mon := { ready.mon with
        fault := { ready.mon.fault with lastActed := some 0 }, sync := { ready.mon.sync with lastActed := some 0 } } };
      bit (s.reg .monSbstat 0) (sbLevel sync) = false ∧ (s.side sync).lastActed = some 0 ∧ s.clock.since - 0 < 100000)) ∧
    ((run twoTenants).cfg.coreTenant 0).isSome = true ∧ (run twoTenants).cfg.coreTenant 15 = none ∧
    ({ ready with mon := { ready.mon with subst := [(1, 15, 16, [(240, 3)])] } } : State).mon.subst = [((1 : Fin 2).val, 15, 16, [(240, 3)])] ∧
    (put ready .monTemp 31 0x20000000).tempFailed 31 = true ∧ ready.thermCap 0 ≤ ready.therm 0 ∧ 16 ≤ ready.voltStep 0 ∧
    railBelow 0 (ready.mv 0) 5 = true ∧ ready.mon.forced = false := by decide

/-- ParityFaultsAreFoundAndRepaired and ConfigurationRequests. -/
theorem witness_flips : (let s : State := { ready with parity := { ready.parity with latent := [(rkey .monSbcfg 0, false)] } };
      (rkey .monSbcfg 0, false) ∈ s.parity.latent ∧ s.clocked = true) ∧
    rkey .monSbcfg 0 ∉ ready.parity.faulted ∧ (runkey (rkey .hubId 0)).1 = .hubId ∧
    (let s : State := { ready with parity := { ready.parity with faulted := [rkey .monTemp 31] } };
      rkey .monTemp 31 ∈ s.parity.faulted ∧ s.firmwareOnly .monTemp = true) ∧
    (inPhase .failed).served = true ∧ (inPhase .failed).up = false ∧ (inPhase .failed).power.phase ≠ .recovery := by decide

/-- MailboxNoticesGoThroughTheirStates: bodies that cannot be read, and bodies in device memory. -/
theorem witness_bodies : (∀ m : Fin 64, (let s := put { boxes false with host := ready.host } .mbxStatus m 0x20000000;
      s.served = true ∧ s.isD2h m = false ∧ s.boxSt m = 1 ∧ bit (s.reg .mbxPtrhi m) 31 = false ∧
        mget false s.host.busMaster (s.posterOf m) = false ∧ (boxes false).boxSt m ≠ 1)) ∧
    (let s := put (put (put (put (boxes false) .mbxStatus 0 0x20000000) .mbxPtrhi 0 0x80000000) .mbxPtrlo 0 0x1000) .mbxLen 0 16;
      s.boxSt 0 = 1 ∧ bit (s.reg .mbxPtrhi 0) 31 = true ∧ s.cfg.funcTenant (s.posterOf 0) = some 0 ∧
        s.inWindows 0 ((s.reg .mbxPtrlo 0).toNat + fld (s.reg .mbxPtrhi 0) 15 0 * 2 ^ 32) (s.reg .mbxLen 0).toNat = true ∧
        isFast ((s.reg .mbxPtrlo 0).toNat + fld (s.reg .mbxPtrhi 0) 15 0 * 2 ^ 32) = true) := by decide

theorem witness_readsClean : readsClean ready ∧ readsClean (run twoTenants) ∧ readsClean (boxes false) := by
  simp only [readsClean]; decide

/-- DeviceNoticesAndVectors, ApertureReadsAndWritesBytes and FunctionResets. -/
theorem witness_hostClauses : (boxes true).host.d2h = [] ∧ deviceBox.reg64 .mbxRxbuf0 .mbxRxbuf1 62 = 0 ∧
    (boxes false).isD2h 0 = false ∧ (boxes false).boxSt 0 ≠ 1 ∧
    (let s := run { twoTenants with thBase := 8 };
      s.apOut 0 (s.apAddr 0 3) [some 1, none, some (2 : Byte)].length = false ∧ s.apOut 0 (s.apAddr 0 3) 1 = false) ∧
    (let s : State := { ready with mem := { ready.mem with poison := [(0, true)], initNext := 1 } };
      (0 : Nat) ∈ codewords 3 1 ∧ s.poisoned 0 = true ∧ s.inited 0 = true) ∧
    ({ ready with power := { ready.power with vfEnable := true } } : State).power.vfEnable = true ∧ ready.power.vfEnable = false := by decide

/-- QueueServices: a queue that is RUNNING, one whose task is in flight, one that is LOADED. -/
theorem witness_queueBusy : (let s := (asking (boxes false) 4 0 2 [2]).setQueue 2 { Queue.init with tasks := [landed (words [1])] };
      s.asked 4 2 = true ∧ s.qst 2 ≠ 2 ∧ (s.queue 2).loading = false ∧ (s.queue 2).tasks.isEmpty = false) ∧
    ((asking (boxes false) 4 0 2 [2]).setQueue 2 { Queue.init with loading := true } |>.queue 2).loading = true ∧
    (boxes false).inWindows 0 (2 ^ 40) 64 = false ∧
    (asking (boxes false) 4 0 1 [0x20000, 0x1000, 0, 0x100, 0]).openRefusal 0 2 0 Queue.init = 0 ∧
    (put (boxes false) .queStatus 2 0x20000).openRefusal 0 2 0 Queue.init ≠ 0 := by decide

/-- RouteServices: two routes opened together, two closed, and a refusal. -/
theorem witness_routeLists : (let b : List W32 := [0x00010003, 0x00400005, 1, 0, 0x00010004, 0x00400005, 1, 0];
      b.length % 4 = 0 ∧ 0 < b.length ∧ b.length ≤ 1020 ∧ (∀ e ∈ entriesOf b, routed.routeRefusal 0 e = 0) ∧
        ((entriesOf b).map rtRoute).Nodup) ∧
    (((entriesOf [0x00010003, 0x00000005, 1, 0]).map (routed.routeRefusal 0)).find? (fun x => decide (x ≠ 0))).isSome = true ∧
    (let s := asking (boxes false) 4 0 4 [3, 7];
      0 < (s.svc 4).body.length ∧ (s.svc 4).body.length ≤ 255 ∧
        ∀ w ∈ (s.svc 4).body, w.toNat < 8192 ∧ ((s.route w.toNat).st = 0 ∨ (s.route w.toNat).tenant = 0)) :=
  ⟨by decide, by decide, by decide, by decide, fun w hw => by
    have h : w = 3 ∨ w = 7 := by simpa using (show w ∈ ([3, 7] : List W32) from hw)
    rcases h with rfl | rfl <;> exact ⟨by decide, .inl rfl⟩⟩

/-! Tensors of core 0's yard under handles 1, 2 and 3 of tenant 0, and tasks on them. -/

def yardEntry : HEntry := ⟨0x00000202, 0, 0, 4096, 256, 1024, 0x00010001, 1⟩
def onYard (d : List W32) : State :=
  put (((((running (queueOf 0 [d] [])).setHome 0 1 yardEntry).setHome 0 2 { yardEntry with w1 := 0x200000 }).setHome 0 3
    { yardEntry with w1 := 0x400000, w3 := 5000 }).setRoute 3 { Route.init with st := 2, peerNode := 5, ports := 1 }) .thCfg 0 0x100
def aMatmul : List W32 := words [1, 0, 0, 2, 1, 1, 0x10000000, 0, 32, 0, 0, 32]
def aFused (fn : W32) : List W32 := words [2, 0, 0, 2, 1, 1, 1, 0x10000000, 0, 0, 32, 512, fn, 0x200000, 0, 1]
def aConv : List W32 := words [3, 0, 0, 2, 1, 1, 0x10000000, 0, 0x89, 0x10000008]
def aSend : List W32 := words [6, 0, 0, 0, 1, 1, 0, 0x00030005, 0, 1]
def aRecv : List W32 := words [7, 0, 0, 2, 1, 0, 0, 0x00030005, 0, 1]
def aPeerMove : List W32 := words [5, 0, 0, 0, 1, 3, 7, 0, 0x00030005]
def aReduce (op : W32) : List W32 := words [8, 0, 0, 0, op, 0, 1, 3, 0, 0xFFFF]

/-- IssueRunsTheTaskOfItsType and SequencerTasksTakeEffect: a MATMUL, a FUSED2 of each function, a CONV without and with HALO. -/
theorem witness_arrayTasks : (let s := onYard aMatmul; s.unitFree 0 = true ∧ s.matmulReady 0 aMatmul = true ∧ s.matmulCode 0 0 aMatmul = 0 ∧
      s.trapMode 0 aMatmul = false ∧ (s.core 0).failedCode 0 (s.queue 0).next = none ∧
      (s.core 0).voidBank (usesOf (mTile aMatmul) (mMask aMatmul)) (mBank aMatmul) (mClear aMatmul) = false ∧ mBricks aMatmul = false) := by decide

theorem witness_fusedTask : (∀ fn ∈ ([0, 1, 2, 3, 4] : List W32), (let s := onYard (aFused fn);
      s.fusedReady 0 (aFused fn) = true ∧ (s.startTask 0 0).1.fusedCode 0 0 (s.startTask 0 0).2 = 0 ∧ s.trapMode 0 (aFused fn) = false)) := by
  intro fn h
  simp only [List.mem_cons, List.not_mem_nil, or_false] at h
  rcases h with rfl | rfl | rfl | rfl | rfl <;> exact ⟨by decide, by decide, by decide⟩

theorem witness_convTask : (let s := onYard aConv; s.convReady 0 aConv = true ∧ s.convCode 0 0 aConv = 0 ∧ s.trapMode 0 aConv = false ∧ haloLinks aConv = [] ∧
      cHalo aConv = 0) := by decide

theorem witness_unitBusy : ∀ d ∈ [aMatmul, aFused 1, aConv, words [4]], (let s := (onYard d).modCore 0 fun c =>
    { c with arr := some { ArrJob.start (0, 7) aMatmul with left0 := 1 }, vec := { c.vec with running := true } }; s.unitFree 0 = false) := by decide

theorem witness_messageTasks : (let s := onYard aSend; s.unitFree 0 = true ∧ s.filling 0 1 = false ∧ s.sendSource 0 0 aSend = 0 ∧
      dRoute aSend = some (5, 3) ∧ s.routeCode 0 (5, 3) = 0 ∧ tooLong (sLen aSend) = false ∧ (s.homeAddr (s.home 0 1)).isSome = true) ∧
    (let s := onYard aRecv; (∀ h, h = dDst aRecv ∨ h = df aRecv 4 23 0 → s.handleOk 0 h = true ∧ (s.home 0 h).writeCode false = 0) ∧
      dRoute aRecv = some (5, 3) ∧ (s.route 3).kiln = false ∧ s.recvCode 0 (5, 3) = 0 ∧ (s.route 3).msgs = [] ∧ (s.route 3).tenant = 0 ∧
      (s.route 3).rxQueue = []) ∧
    (let s := (onYard aRecv).setRoute 3 { Route.init with st := 2, peerNode := 5, ports := 1, rxQueue := [⟨0, 1, 1, 0⟩] };
      (s.route 3).rxQueue = ⟨0, 1, 1, 0⟩ :: [] ∧ df aRecv 4 23 0 = 1 ∧ (wordAt aRecv 9).toNat = 1 ∧
        s.oldestWait (queuesOf 0) (fun e => decide ((dRoute e).map (·.2) = some 3)) = none) := by
  refine ⟨by decide, ⟨?_, by decide⟩, by decide⟩
  rintro h (rfl | rfl) <;> decide

theorem witness_peerMove : (let s : State := { onYard aPeerMove with caravan := { ready.caravan with map := [⟨5, 1, 0, 0, 0, 0⟩] } };
    vKind aPeerMove = 3 ∧ s.unitFree 0 = true ∧ vPack aPeerMove = false ∧ s.moveSource 0 1 = 0 ∧
      s.routeCode 0 (df aPeerMove 8 15 0, df aPeerMove 8 31 16) = 0 ∧
      s.homeOk 0 ((moveRec 0 s.serial aPeerMove (s.home 0 1) 0 0).entry (s.home 0 1)) = true ∧ (s.home 0 1).st ≠ stUnwritten ∧
      tooLong (s.home 0 1).bytes = false ∧ (s.homeAddr (s.home 0 1)).isSome = true) := by decide

theorem witness_reduces : ∀ o : Fin 4, (let d := aReduce (BitVec.ofNat 32 o.val);
    let s := (onYard d).setHome 0 3 { yardEntry with w1 := 0x400000, w3 := 5000 };
    rOp d = o.val ∧ rPartner d = false ∧ rFwd d = false ∧ s.reduceCode 0 0 d = 0 ∧ s.reduceLinks 0 0 d = 0 ∧ s.trapMode 0 d = false ∧
      (s.home 0 (rAcc d)).st = stValid ∧ (s.homeAddr (s.home 0 (rSrc d))).isSome = true ∧ (s.homeAddr (s.home 0 (rAcc d))).isSome = true) := by
  decide

/-- TasksCompleteInTheirRecords: a task that ends alone, and one that ends behind an older task. -/
theorem witness_completeClauses : (let x := landed (words [1, 0, 0x200]);
      let s := running { queueOf 0 [words [1], words [1]] [] with tasks := [x], next := 1 };
      x.xlates = [] ∧ x.windowEnd = none ∧ (s.queue 0).unrecorded = [] ∧ (∀ y ∈ (s.queue 0).tasks, x.serial ≤ y.serial) ∧
        canComplete 0 x = true ∧ canComplete 0 { x with landed := false } = false) ∧
    (let x := { landed (words [1]) with serial := 1 };
      let s := running { queueOf 0 [words [1], words [1]] [] with tasks := [{ landed (words [1]) with landed := false }, x], next := 2 };
      (s.queue 0).tasks[(1 : Fin 8).val]? = some x ∧ x.landed = true ∧ dType x.desc ≠ 11 ∧ (s.queue 0).unrecorded = [] ∧
        (∃ y ∈ (s.queue 0).tasks, y.serial < x.serial) ∧ s.caravan.tenant = none ∧ (s.queue 0).tasks.length ≠ 1 ∧
        ((s.queue 0).tasks.map (·.serial)).Nodup) := by decide

theorem witness_running_clean : readsClean (running (queueOf 0 [] [])) := by simp only [readsClean]; decide

/-- PrefetchFillsItsEntry and GoAndStopMoveTheQueue. -/
theorem witness_slots : (let s := ready.modCore 0 fun c => { c with slots := [⟨0, 0, 0, 1, 0, false, 0, 256, 0, 5, false⟩] };
      (∃ p, (s.core 0).slots[(0 : Fin 6).val]? = some p ∧ p.zeros = false ∧ (s.queue (16 * p.tenant + p.queue)).lcore = (0 : Fin 16).val) ∧
        (s.core 0).slots[(5 : Fin 6).val]? = none) ∧ ready.prefQueue 0 = none := by
  refine ⟨⟨⟨_, rfl, by decide⟩, by decide⟩, by decide⟩

theorem witness_goClauses : (put (run twoTenants) .queStatus 127 0x40000).qst 127 = 4 ∧
    ((put (run twoTenants) .queStatus 127 0x20000).setQueue 127 { Queue.init with goHeld := true } |>.queue 127).goHeld = true := by decide

/-- BanksLandDrainAndRelease: a sweep that goes on, and another bank of the array that drains. -/
theorem witness_bankClauses : (let d := words [1, 0, 0, 0, 0, 0, 0, 0, 0, 8];
      let s := flying d fun c => { c.setBank 0 0 { Bank.init with use := .sweep } with arr := some { ArrJob.start (0, 0) d with left0 := 1 } };
      ∃ j, (s.core 0).arr = some j ∧ j.sweeping ((s.core 0).bank 0 0) = true) ∧
    (let s := flying (words [1, 0, 0, 0, 0, 0, 0, 0, 0, 8]) fun c =>
        (c.setBank 0 0 { Bank.init with use := .landed }).setBank 0 1 { Bank.init with use := .drain };
      ∃ b' : Fin 4, ((s.core 0).bank 0 b').use = .drain) ∧
    (let s := flying (words [1, 0, 0, 0, 0, 0, 0, 0, 0, 8]) fun c => c.setBank 0 0 { Bank.init with use := .landed };
      (∀ b' : Fin 4, ((s.core 0).bank 0 b').use ≠ .drain) ∧ s.drainIn 0 (words [1, 0, 0, 0, 0, 0, 0, 0, 0, 8]) (0, 0) = true) := by
  refine ⟨⟨_, rfl, by decide⟩, ⟨1, by decide⟩, by decide, by decide⟩

/-- LoadersFillHalvesAndBooks: prologues of a FUSED2 and a CONV, a file that is taken, and tiles still to come. -/
theorem witness_prologues : (∀ d ∈ [aFused 1, aConv, aMatmul], (let s := onYard d;
      s.patched 0 0 = d ∧ s.qst 0 = 2 ∧ s.queueHeld 0 = false ∧ (s.queue 0).fence = none ∧ s.waitsReady 0 d = true ∧
        s.filling 0 (df d 4 23 0) = false ∧ s.yardReadCode 0 0 (df d 4 23 0) (actOff d) 0 = 0)) ∧
    cHalo aConv = 0 ∧ mBricks aMatmul = false ∧
    (let c := ((onYard aMatmul).modCore 0 fun c => c.setEdge 0 { EdgeFile.init with shadow := { EdgeHalf.init with full := true } }).core 0;
      ∃ f ∈ jobFiles aMatmul, (c.edge f).shadow.full = true ∨ c.fileBusy f = true) ∧
    (∀ f ∈ jobFiles aMatmul, (((onYard aMatmul).core 0).edge f).shadow.full = false ∧ ((onYard aMatmul).core 0).fileBusy f = false) := by
  decide

theorem witness_prologueTiles : ((onYard aMatmul).firstTiles 0 0 aMatmul).map (·.1) = [0] ∧ 
    ((onYard (aFused 1)).firstTiles 0 0 (aFused 1)).map (·.1) = [0] ∧ ((onYard aConv).firstTiles 0 0 aConv).map (·.1) = [0] := by decide

theorem witness_swapTile : (let j := { ArrJob.start (0, 0) product with left0 := 1 }; ((flying product id).nextTile 0 j 0).isSome = true ∧ 0 < j.left 0) := by
  decide

theorem witness_bookFields (v : W32) : (((book v).core 0).cbBank 3 1).chosen.2 < 65536 ∧ (((book v).core 0).cbBank 3 1).stream < 256 :=
  ⟨show (5 : Nat) < 65536 by decide, show (0 : Nat) < 256 by decide⟩

/-- RowFunctionsWriteTheIntermediate: RMS scaling before its last chunk and at it, softmax in its second half. -/
theorem witness_rowClauses : (let d := words [2, 0, 0, 0, 0, 0, 0, 0, 0, 0, 0, 1024, 4];
      fFn d = 4 ∧ 0 + 1 < fChunks d ∧ fChunks d ≤ fChunks d - 1 + 1 ∧
        (let j := { ArrJob.start (0, 0) d with chunk := fChunks d - 1, got := [(0, []), (1, []), (2, []), (3, [])] };
          j.phase = 0 ∧ j.whole = true)) ∧
    (let d := words [2, 0, 0, 0, 0, 0, 0, 0, 0, 0, 0, 1024, 0];
      (let j := { ArrJob.start (0, 0) d with phase := 1, chunk := fChunks d - 1, got := [(0, []), (1, []), (2, []), (3, [])] };
        fFn d = 0 ∧ j.phase = 1 ∧ j.whole = true ∧ fChunks d ≤ j.chunk + 1)) := by decide

/-- ProgramsStartWithClearedRegisters: programs that draw no noise. -/
theorem witness_drawsNoise : (flying (words [1]) id).drawsNoise ((flying (words [1]) id).yardAddr 0 0) = false ∧
    (engine 0x39 0 2 atStart).regionCount 0 = 1 := by decide

/-- VectorMemoryInstructions: a chunk that an ended program has put there. -/
theorem witness_steWaits : (let e := (((engine 0x49 0 2 atStart).modCore 0 fun c => c.setEdge 0 { EdgeFile.init with shadow :=
      { EdgeHalf.init with full := true, fromEngine := true, loaded := [0] } }).core 0).edge 0;
    e.shadow.fromEngine = true ∧ e.shadow.loaded.contains 0 = true) ∧ ((engine 0x49 0 2 atStart).core 0).fileBusy 0 = false := by decide

/-- MortarLinksExchangeHalos: the second token of an east link, and a partner that is gone. -/
theorem witness_haloClauses : (let s := halos east (west 1) true 2 [2] [] [];
      ∃ h p, (s.core 0).halo = some h ∧ (s.core 1).halo = some p ∧ h.ready.contains 2 = true ∧ 2 ≤ p.phase ∧ h.tokens.contains 2 = false) ∧
    (let s := (halos east (west 1) true 2 [2] [] []).modCore 0 fun c => { c with halo := c.halo.map fun h => { h with gone := true } };
      ∃ h, (s.core 0).halo = some h ∧ h.gone = true ∧ h.phase < 3) ∧
    (halos east (west 1) true 3 [] [] []).core 0 ≠ Core.init ∧ (ready.core 0).halo = none := by
  refine ⟨⟨_, _, rfl, rfl, by decide⟩, ⟨_, rfl, by decide⟩, by decide, by decide⟩

/-- TierControllersKeepTheData: a unit to scrub, and none. -/
theorem witness_scrub : (let s : State := { trained with mem := { trained.mem with initNext := 1 } };
      s.unitInited 0 (mget 0 s.mem.scrub 0 % unitsOf 0) = true ∧ s.mem.latent = [] ∧ mget [] s.mem.writeBack 0 = []) ∧
    ready.trained = false ∧
    (let s : State := { trained with mem := { trained.mem with retireQ := [(69631, 5)] } }; s.badInRow 69631 5 = [] ∧ s.mem.latent = []) := by
  decide

/-- FillsMovesAndGrants: a MOVE burst and a Tunil engine's segment. -/
theorem witness_moveGrant : (let m := { moveOf 0 false with src := 0, dst := 0x1000 };
    let r : Req := ⟨0, 0, 0, 1, 0⟩;
    let s : State := { homeCase (tensor.withSt stMoving) .free with moves := [m], units := [(0, { SharedUnit.init with holder := some r })] };
    (s.unit 0).holder = some r ∧ (s.unit 0).discard = false ∧
      s.moves.find? (fun x => decide (x.tenant = r.tenant) && decide (x.task = r.key)) = some m ∧ m.copied = false ∧
      (s.home m.tenant m.handle).packed = false ∧ m.pack = false ∧ s.mem.latent = [] ∧ s.mem.poison = [] ∧ s.mem.erased = [] ∧
      s.staged = [] ∧ s.up = true) := by decide

theorem witness_fillHeld : (let s : State := { homeCase (tensor.withSt stUnwritten) .free with fills := [⟨0, 1, 0, 0⟩] };
    (s.home 0 1).kind ≠ 0 ∧ (0 : Nat) < (s.home 0 1).bytes) := by decide

/-- PortsMoveBetweenTheirStates: LLDP partners, a port that follows its PTP parent, a function that does not see a port, and
an injection on priority 7. -/
theorem witness_linkClauses : (let s := portIn 3 1;
      (∃ (bond : W16) (slot : Fin 16) (port : Fin 32), bond.toNat = s.carBond ∧ slot.val = (s.ownSlot + (0 : Fin 32).val / 2 + 1) % 9 ∧
        port.val = 2 * (7 - (0 : Fin 32).val / 2) + (0 : Fin 32).val % 2) ∧ (0xFFFE : W16).toNat ≠ s.carBond) ∧
    (let s := (portIn 2 2).modPort 0 fun x => { x with foreign := some [0] }; s.ptpParent = some 0) ∧
    (portIn 2 2).ptpParent = none ∧ (portIn 2 2).ptpDomain = 0 ∧
    (run twoTenants).inView 1 .portCtrl 0 = false ∧
    (let s := put (portIn 2 2) .portFinj 0 0x80800000; bit (s.reg .portFinj 0) 31 = true ∧ fld (s.reg .portFinj 0) 23 16 / 2 ^ 7 % 2 = 1 ∧
      injHit 0 (injDraw (s.reg .portFinjseed 0) (s.port 0).injNo 0).1 = true ∧
      injHit 24 (injDraw (s.reg .portFinjseed 0) (s.port 0).injNo 0).1 = false) := by
  refine ⟨⟨⟨0xFFFF, ?_⟩, by decide⟩, by decide, by decide, by decide, by decide, by decide⟩
  decide

/-- PortsCarryFrames: a frame by its address, one with a SecTAG inside its window, and a route's protected frame. -/
theorem witness_frameClauses : (let f := { goodFrame with fragmentOk := true };
      f.fcsOk = true ∧ f.tagOk = true ∧ 64 ≤ f.len ∧ f.len ≤ 9216 ∧ f.pause = false ∧ f.dst = none ∧ f.addrOk = true) ∧
    (∀ d ∈ groupAddr, d ≠ (portIn 2 2).flash.fuses.macBase) ∧ groupAddr ≠ [] ∧
    framePasses { goodFrame with tunilOk := false } = false ∧ framePasses { goodFrame with tunilOk := true } = true ∧
    (let s : State := { put (portIn 2 2) .portCfg 0 0x20201 with host := { ready.host with sas := [(0, 0, 1, 5), (0, 1, 2, 9)] } };
      bit (s.reg .portCfg 0) 17 = true ∧ (0, 0, 1, 5) ∈ s.host.sas ∧ s.replayFrom 0 1 = some 5 ∧ s.replayFrom 0 0 = none ∧
      s.txAn 0 = some 2 ∧ s.txPn 0 2 = some 9) := by decide

/-- SegmentsArriveInTheirRoute: what a receiver takes, refuses, counts and answers. -/
theorem witness_segmentClauses : (opened openRoute).takes 0 seg3 = true ∧ ready.takes 0 seg3 = false ∧ keyFw 3 = false ∧
    openRoute.ofRecord { seg3 with epoch := 1 } = false ∧ (opened openRoute).portUsable 0 = true ∧
    bit ((opened openRoute).reg .tunFinj 0) 31 = false ∧
    (∀ st ∈ [0, 1, 3, 4], ((opened { openRoute with st := st }).route 3).st = st) ∧
    mget 0 (opened openRoute).tunil.notReadyAt (65536 * 3 + seg3.srcNode % 65536) = 0 ∧
    (opened openRoute).firstCode 0 seg3 ≠ 0 := by decide

/-- SegmentsArriveInTheirRoute: a message of one segment into a VALID tensor. -/
theorem witness_firstSegment : let s : State := { opened openRoute with homes := (homeCase tensor .free).homes };
    s.firstCode 0 { seg3 with payload := [] } = 0 ∧ seg3.move = false ∧ seg3.segIdx = 0 ∧ seg3.segCnt = 1 ∧ s.fills = [] ∧
      (s.home 0 seg3.handle).st = stValid ∧ s.homeAddr (s.home 0 seg3.handle) = some 0 ∧ (s.route 3).msgs = [] ∧
      seg3.msgNo = (s.route 3).rxMsg ∧ (s.route 3).kiln = false ∧ (s.route 3).rxQueue.length < 64 :=
  ⟨by decide, by decide, by decide, by decide, by decide, by decide, by decide, by decide, by decide, by decide, by decide⟩

/-- RoutesAcknowledgeRetryAndEnd: a route that opens, times out or only holds a reset. -/
theorem witness_routeClauses : (let s := opened { openRoute with toSend := [], resetSent := false };
      (s.route 3).ofRecord seg3 = true ∧ (s.route 3).ofRecord { seg3 with epoch := 7 } = false ∧ (7 : Nat) ≠ seg3.aux % 65536 ∧
      ¬ ((s.route 3).unacked ≠ [] ∨ ((s.route 3).toSend ≠ [] ∧ ∀ q ∈ portsOf (s.route 3).ports, s.portUsable q = false))) ∧
    (opened { openRoute with st := 1, resetSent := true }).route 3 = { openRoute with st := 1, resetSent := true } ∧
    ((opened { openRoute with unacked := [inFlight] }).route 3).unacked ≠ [] := by decide

/-- MasterActsOnReportsAndParts, MasterStandbyAndPlan, BoundariesRollbacksAndCheckpoints. -/
theorem witness_orderClauses : (let s := caravan 1 twoStages id;
      s.mapOf 3 = some (stage 3 1 2) ∧ from3.mapGen = (s.reg .carMapgen 0).toNat ∧
      from3.sender ∉ s.caravan.master.mapAcks) ∧
    (let s := caravan 0 [⟨2, 1, 0, 4, 0, 0⟩, ⟨3, 1, 8, 0, 0, 1⟩] id; 3 ∈ s.memberNodes ∧ 9 ∉ s.memberNodes) ∧
    (caravan 0 twoStages id).awaits 0 = false ∧ (caravan 0 twoStages id).awaits 1 = true ∧
    (put (caravan 0 twoStages id) .carStatus 0 0x40000002).carState = 2 ∧
    bit ((put (caravan 0 twoStages id) .carStatus 0 0x40000002).reg .carStatus 0) 24 = false ∧
    (∀ had, had = [stage 3 1 1] → ∃ e ∈ had, e.isMaster = true) ∧ (caravan 0 twoStages id).caravan.map ≠ [] ∧
    (caravan 0 [] id).caravan.map = [] ∧ (stage 2 0 1).isMaster = true := by
  refine ⟨by decide, by decide, by decide, by decide, by decide, by decide, ?_, by decide, by decide, by decide⟩
  rintro _ rfl
  exact ⟨_, List.mem_cons_self, by decide⟩

/-! ### The spec's worked examples -/

/-- 02, one B8X block: S is 0x7B, 13.7 stores as 0x76, 0.3 as 0x4A, 0.001 as 0x08. -/
theorem test_b8x_block :
    b8xScale [0x415B3333#32, 0x3E99999A#32, 0x3A83126F#32] = 0x7B
    ∧ (b8xElem 0x7B 0x415B3333#32).bits = 0x76#32
    ∧ (b8xElem 0x7B 0x3E99999A#32).bits = 0x4A#32
    ∧ (b8xElem 0x7B 0x3A83126F#32).bits = 0x08#32 := by decide

/-- 02, one B8X block read back: 14.0 and 0.3125. -/
theorem test_b8x_back : (b8xToF32 0x7B 0x76).bits = 0x41600000#32 ∧ (b8xToF32 0x7B 0x4A).bits = 0x3EA00000#32 := by
  decide

/-- 02, a three-contributor ledger sum: the three integers, and the result 0x3F666666. -/
theorem test_ledger_sum :
    l32Quant 129 2 0x3FC00000#32 = 100663296#32 ∧ l32Quant 129 2 0x3DCCCCCD#32 = 6710886#32
    ∧ l32Quant 129 2 0xBF333333#32 = BitVec.ofInt 32 (-46976204)
    ∧ (l32ToF32 false 129 2 60397978#32).bits = 0x3F666666#32 := by decide

/-- 09, expanding one code: the four weights of row 5, columns 12 to 15. -/
theorem test_brick_weights :
    (brickWeight 0x3F00 0x3C40).bits = 0x3BC0#32 ∧ (brickWeight 0xBE80 0x3C40).bits = 0xBB40#32
    ∧ (brickWeight 0x3F81 0x3C40).bits = 0x3C42#32 ∧ (brickWeight 0x3E00 0x3C40).bits = 0x3AC0#32 := by decide

/-- 10: bulk address 0x01000ABCD100 lies in group 10, unit 43981, channel byte 3166592. -/
theorem test_bulk_place : bulkPlace 0x01000ABCD100 = (10, 43981) ∧ chanByte 43981 = 3166592 := by decide

/-- 10: fast address 0x001234567A00 lies in stack 0, channel 30. -/
theorem test_fast_place : chanOf 0x001234567A00 = some 30 := by decide

/-- 05, the initial latent: the counter of L5's first element. -/
theorem test_noise_counter : noiseCounter 0x03200000 0 1 0x4A10 = (0x03200000#32, 0x00010000#32, 0#32, 0x4A10#32) := by
  decide

/-- 07: distance 1000 falls in bucket 96, -70 in 257 and 2097151 in 184. -/
theorem test_bucket : bucket 1000 0 = 96 ∧ bucket 0 70 = 257 ∧ bucket 2097151 0 = 184 := by decide

end Sys2Proof.Machine.Test
end

section
/-! PROOF. Reads after writes of a core's units, what the tail of a task's end leaves alone, and that nothing which ends or
aborts a task starts a drain or brings a task into flight. -/
namespace Sys2Proof.Machine

/-! ### Units of a core -/

theorem Core.bank_setBank (c : Core) (a b a' b' : Nat) (x : Bank) :
    (c.setBank a b x).bank a' b' = if 4 * a' + b' = 4 * a + b then x else c.bank a' b' := mget_mset _ _ _ _ _

@[simp] theorem Core.bank_setBank_same (c : Core) (a b : Nat) (x : Bank) : (c.setBank a b x).bank a b = x :=
  mget_mset_same _ _ _ _

@[simp] theorem Core.landing_setLanding_same (c : Core) (b : Nat) (x : Landing) : (c.setLanding b x).landing b = x :=
  mget_mset_same _ _ _ _

@[simp] theorem Core.cbBank_setCb_same (c : Core) (p b : Nat) (x : CbBank) : (c.setCb p b x).cbBank p b = x :=
  mget_mset_same _ _ _ _

@[simp] theorem Core.edge_setEdge_same (c : Core) (f : Nat) (x : EdgeFile) : (c.setEdge f x).edge f = x :=
  mget_mset_same _ _ _ _

theorem Core.edge_setEdge_other (c : Core) {f g : Nat} (x : EdgeFile) (h : g ≠ f) : (c.setEdge f x).edge g = c.edge g :=
  mget_mset_other _ _ _ h

@[simp] theorem State.core_modCore_same (s : State) (n : Nat) (f : Core → Core) : (s.modCore n f).core n = f (s.core n) :=
  s.core_setCore_same n _

theorem State.core_modCore_other (s : State) {n m : Nat} (f : Core → Core) (h : m ≠ n) : (s.modCore n f).core m = s.core m :=
  s.core_setCore_other _ h

/-- A task that a queue has in flight under a serial number carries it. -/
theorem State.task?_serial {s : State} {k i : Nat} {t : Task} (h : s.task? k i = some t) : t.serial = i := by
  simpa using List.find?_some h

/-! ### What touches neither cores nor queues -/

/-- The cores and the queues of a module. -/
def State.work (s : State) : SMap Core × SMap Queue := (s.cores, s.queues)

@[simp] theorem State.work_setReg (s : State) (r : Reg) (i : Nat) (v : W32) : (s.setReg r i v).work = s.work := rfl
@[simp] theorem State.work_setRfld (s : State) (r : Reg) (i hi lo v : Nat) : (s.setRfld r i hi lo v).work = s.work := rfl
@[simp] theorem State.work_countSat (s : State) (r : Reg) (i n : Nat) : (s.countSat r i n).work = s.work := rfl
@[simp] theorem State.work_countWrap (s : State) (r : Reg) (i n : Nat) : (s.countWrap r i n).work = s.work := rfl
@[simp] theorem State.work_setPoison (s : State) (cw : Nat) (b : Bool) : (s.setPoison cw b).work = s.work := rfl
@[simp] theorem State.work_setLatent (s : State) (cw : Nat) (e : List (Nat × Nat)) : (s.setLatent cw e).work = s.work := rfl
@[simp] theorem State.work_putBytes (s : State) (a : Nat) (bs : List Byte) : (s.putBytes a bs).work = s.work := rfl
@[simp] theorem State.work_poisonHomes (s : State) (cw : Nat) : (s.poisonHomes cw).work = s.work := rfl
@[simp] theorem State.work_writeCorrected (s : State) (cw : Nat) : (s.writeCorrected cw).work = s.work := rfl

@[simp] theorem State.work_raise (s : State) (f n : Nat) : (s.raise f n).work = s.work := by simp [State.work]
@[simp] theorem State.work_raiseTenant (s : State) (t n : Nat) : (s.raiseTenant t n).work = s.work := by simp [State.work]
@[simp] theorem State.work_log (s : State) (k : Nat) (w : List Nat) : (s.log k w).work = s.work := by simp [State.work]
@[simp] theorem State.work_noticeUp (s : State) (c : Nat) (b : List Nat) : (s.noticeUp c b).work = s.work := by
  simp [State.work]

@[simp] theorem State.work_initGranule (s : State) (a : Nat) : (s.initGranule a).work = s.work := by
  rw [State.initGranule_eq]; rfl

@[simp] theorem State.work_askRetire (s : State) (cw : Nat) : (s.askRetire cw).work = s.work := by
  unfold State.askRetire; dsimp only; split <;> rfl

theorem State.work_foldl {α : Type} {f : State → α → State} (hf : ∀ s a, (f s a).work = s.work) (l : List α) (s : State) :
    (l.foldl f s).work = s.work :=
  List.foldlRecOn (motive := fun u => u.work = s.work) l f rfl fun x hx a _ => (hf x a).trans hx

/-- A guarded record changes regs alone, and of them its own. -/
theorem State.record_regs (s : State) (i : Nat) (r0 : Reg) (v0 : W32) (r1 : Reg) (v1 : W32) :
    s.record i r0 v0 [(r1, v1)] = if bit (s.reg r0 i) 31
      then s.setReg r0 i (s.reg r0 i ||| 0x40000000#32)
      else (s.setReg r0 i (0x80000000#32 ||| (s.reg r0 i &&& 0x40000000#32) ||| v0)).setReg r1 i v1 := by
  unfold State.record guardRec
  by_cases h : bit (s.reg r0 i) 31 = true <;> simp [h]

@[simp] theorem State.work_record (s : State) (i : Nat) (r0 : Reg) (v0 : W32) (more : List (Reg × W32)) :
    (s.record i r0 v0 more).work = s.work := by
  unfold State.record; dsimp only; split
  · exact State.work_foldl (fun x p => x.work_setReg p.1 i p.2) more _
  · rfl

@[simp] theorem State.work_ciFault (s : State) (key : Nat) (copy sweeper : Bool) : (s.ciFault key copy sweeper).work = s.work := by
  simp [State.ciFault]; rfl

@[simp] theorem State.work_hwFld (s : State) (r : Reg) (i hi lo v : Nat) : (s.hwFld r i hi lo v).work = s.work := by
  have hu : (s.useReg r i).work = s.work := by unfold State.useReg; split <;> simp
  unfold State.hwFld State.hwSet; dsimp only; split <;> simp [hu]

@[simp] theorem State.work_ueRecord (s : State) (n cw source : Nat) : (s.ueRecord n cw source).work = s.work := by
  unfold State.ueRecord; dsimp only; split <;> simp

@[simp] theorem State.work_eraseLane (s : State) (n lane : Nat) : (s.eraseLane n lane).work = s.work := by
  unfold State.eraseLane State.showErased; dsimp only; (repeat' split) <;> simp <;> rfl

@[simp] theorem State.work_laneHistory (s : State) (n : Nat) (lanes : List Nat) : (s.laneHistory n lanes).work = s.work := by
  unfold State.laneHistory
  exact (State.work_foldl (fun x l => by split <;> simp) lanes _).trans rfl

@[simp] theorem State.work_readCw (s : State) (source : Nat) (errs : List CwErr) (cw : Nat) :
    (s.readCw source errs cw).1.work = s.work := by
  unfold State.readCw
  split
  case h_1 => rfl
  case h_2 n _ =>
    dsimp only
    split
    · rfl
    split
    · exact s.work_ueRecord n cw source
    split
    case h_1 => exact s.work_ueRecord n cw source
    case h_2 => dsimp only; split <;> rfl
    case h_3 =>
      split
      all_goals
        refine (State.work_laneHistory ..).trans ?_
        split <;> rfl

/-! ### No new work -/

/-- No bank has come to drain and no task has come into flight since `s`. -/
def State.noNewWork (s u : State) : Prop :=
  (∀ n a b, ((u.core n).bank a b).use = .drain → ((s.core n).bank a b).use = .drain) ∧
  ∀ k i, s.task? k i = none → u.task? k i = none

namespace State.noNewWork

theorem refl (s : State) : s.noNewWork s := ⟨fun _ _ _ h => h, fun _ _ h => h⟩

theorem trans {s t u : State} (h1 : s.noNewWork t) (h2 : t.noNewWork u) : s.noNewWork u :=
  ⟨fun n a b h => h1.1 n a b (h2.1 n a b h), fun k i h => h2.2 k i (h1.2 k i h)⟩

theorem of_work {s u : State} (h : u.work = s.work) : s.noNewWork u := by
  obtain ⟨hc, hq⟩ := Prod.mk.inj h
  have core (n : Nat) : u.core n = s.core n := congrArg (mget Core.init · n) hc
  have queue (k : Nat) : u.queue k = s.queue k := congrArg (mget Queue.init · k) hq
  exact ⟨fun n a b h => core n ▸ h, fun k i h => by unfold State.task?; rw [queue]; exact h⟩

theorem ite {s u v : State} {p : Prop} [Decidable p] (hu : s.noNewWork u) (hv : s.noNewWork v) :
    s.noNewWork (if p then u else v) := by split <;> assumption

theorem modCore (s : State) (n : Nat) (f : Core → Core)
    (hf : ∀ a b, ((f (s.core n)).bank a b).use = .drain → ((s.core n).bank a b).use = .drain) :
    s.noNewWork (s.modCore n f) := by
  refine ⟨fun m a b h => ?_, fun _ _ h => h⟩
  by_cases hm : m = n
  · subst hm; exact hf a b (by simpa using h)
  · rwa [State.core_modCore_other s f hm] at h

/-- A core whose banks stay. -/
theorem modCore_banks (s : State) (n : Nat) (f : Core → Core) (hf : ∀ c, (f c).banks = c.banks) :
    s.noNewWork (s.modCore n f) :=
  modCore s n f fun a b h => by unfold Core.bank at h; rwa [hf] at h

theorem modQueue (s : State) (k : Nat) (f : Queue → Queue)
    (hf : ∀ i, (∀ t ∈ (s.queue k).tasks, t.serial ≠ i) → ∀ t ∈ (f (s.queue k)).tasks, t.serial ≠ i) :
    s.noNewWork (s.modQueue k f) := by
  refine ⟨fun _ _ _ h => h, fun j i h => ?_⟩
  by_cases hj : j = k
  · subst hj
    unfold State.task? State.modQueue at *
    rw [State.queue_setQueue_same]
    simpa using hf i (by simpa using h)
  · unfold State.task? State.modQueue at *
    rwa [State.queue_setQueue_other _ _ hj]

/-- A queue whose tasks in flight stay. -/
theorem modQueue_tasks (s : State) (k : Nat) (f : Queue → Queue) (hf : ∀ q, (f q).tasks = q.tasks) :
    s.noNewWork (s.modQueue k f) :=
  modQueue s k f fun i h => by rw [hf]; exact h

theorem foldl {α : Type} {f : State → α → State} (hf : ∀ (s : State) a, s.noNewWork (f s a)) (l : List α) (s : State) :
    s.noNewWork (l.foldl f s) :=
  List.foldlRecOn (motive := fun u => s.noNewWork u) l f (refl s) fun x hx a _ => hx.trans (hf x a)

/-- Changing a task in flight in anything but its serial number. -/
theorem modTask (s : State) (k i : Nat) (g : Task → Task) (hg : ∀ t, (g t).serial = t.serial) :
    s.noNewWork (s.modTask k i g) := by
  refine modQueue s k _ fun j h t ht => ?_
  obtain ⟨y, hy, rfl⟩ := List.mem_map.1 ht
  split
  · rw [hg]; exact h y hy
  · exact h y hy

end State.noNewWork

/-! ### The parts of an abort -/

theorem State.noNewWork_addCounts (s : State) (k i sat flush nan : Nat) : s.noNewWork (s.addCounts k i sat flush nan) :=
  .modTask _ _ _ _ fun _ => rfl

theorem Core.bank_stopOwner (c : Core) (o : Nat × Nat) (a b : Nat) :
    (c.stopOwner o).bank a b = if (c.bank a b).owner = o ∧ ((c.bank a b).st = .busy ∨ (c.bank a b).use ≠ .none)
      then { c.bank a b with st := .void, use := .none, data := [] } else c.bank a b :=
  mget_mmap Bank.init c.banks (fun _ x => if x.owner = o ∧ (x.st = .busy ∨ x.use ≠ .none)
    then { x with st := .void, use := .none, data := [] } else x) (4 * a + b) (by simp [Bank.init])

theorem Core.use_stopOwner (c : Core) (o : Nat × Nat) (a b : Nat) (h : ((c.stopOwner o).bank a b).use = .drain) :
    (c.bank a b).use = .drain := by
  rw [Core.bank_stopOwner] at h
  split at h
  · cases h
  · exact h

theorem State.noNewWork_haloGone (s : State) (n : Nat) (o : Nat × Nat) : s.noNewWork (s.haloGone n o) := by
  unfold State.haloGone
  split
  · exact .refl s
  split
  · exact .refl s
  · refine .foldl (fun x l => ?_) _ s
    split
    · exact .refl x
    · exact .modCore_banks _ _ _ fun _ => rfl

theorem State.work_genUpdate {s : State} {f : State → State} (hf : (f s).work = s.work) (t h g : Nat) :
    (s.genUpdate t h g f).work = s.work := by
  unfold State.genUpdate
  split
  · exact hf
  · rfl

theorem State.work_endMove (s : State) (k i : Nat) : (s.endMove k i).work = s.work := by
  unfold State.endMove
  split
  · rfl
  · exact (State.work_genUpdate (by split <;> rfl) ..).trans rfl

theorem State.work_voidWrite (s : State) (t h g : Nat) : (s.voidWrite t h g).work = s.work :=
  State.work_genUpdate (by dsimp only; split <;> rfl) t h g

theorem State.noNewWork_voidWrite (s : State) (t h g : Nat) : s.noNewWork (s.voidWrite t h g) :=
  .of_work (s.work_voidWrite t h g)

theorem State.noNewWork_setSb (s : State) (k e : Nat) (x : SbEntry) : s.noNewWork (s.setSb k e x) :=
  .modCore_banks _ _ _ fun _ => rfl

theorem State.work_restOver (s : State) (k : Nat) (t : Task) : (s.restOver k t).work = s.work := by
  unfold State.restOver
  dsimp only
  split
  · rfl
  · split <;> split <;> rfl

theorem State.work_writeRecord (s : State) (a : Nat) (bs : List Byte) : (s.writeRecord a bs).work = s.work := by
  unfold State.writeRecord
  dsimp only
  split
  · split <;> simp
  · simp

theorem State.noNewWork_putRecord (s : State) (k code ns : Nat) (t : Task) : s.noNewWork (s.putRecord k code ns t) := by
  unfold State.putRecord
  refine .trans (.of_work ?_) (.modQueue_tasks _ _ _ fun _ => rfl)
  rw [State.work_setRfld]
  split
  · exact s.work_writeRecord ..
  · rfl

theorem State.work_haltReport (s : State) (k code core index peer : Nat) :
    (s.haltReport k code core index peer).work = s.work := by
  unfold State.haltReport
  split <;> simp

theorem Core.banks_clearSb (base : Nat) (l : List Nat) (c : Core) :
    (l.foldl (fun x i => x.setSb (base + i) .empty) c).banks = c.banks :=
  List.foldlRecOn (motive := fun x : Core => x.banks = c.banks) l _ rfl fun _ hx _ _ => hx

theorem State.noNewWork_clearSb (s : State) (k : Nat) : s.noNewWork (s.clearSb k) :=
  .modCore_banks _ _ _ fun c => Core.banks_clearSb _ _ c

theorem State.noNewWork_startQueue (s : State) (k : Nat) : s.noNewWork (s.startQueue k) := by
  unfold State.startQueue
  refine .trans ?_ (.of_work (State.work_hwFld ..))
  refine .trans ?_ (.of_work (State.work_setRfld ..))
  refine .trans ?_ (.modQueue_tasks _ k _ fun _ => rfl)
  have dropped : s.noNewWork (s.modCore (s.queue k).lcore fun c => c.dropChoice fun x => decide (x.1 = k)) :=
    .modCore_banks _ _ _ fun _ => rfl
  exact .ite (dropped.trans (State.noNewWork_clearSb _ k)) dropped

theorem State.noNewWork_enter (s : State) (k st : Nat) : s.noNewWork (s.enter k st) := by
  refine .trans (t := s.setQst k st) (.of_work rfl) ?_
  unfold State.enter State.takeGo
  split
  · exact State.noNewWork_startQueue _ k
  · exact .refl _

theorem State.noNewWork_recordNow (s : State) (k : Nat) (e : Ended) : s.noNewWork (s.recordNow k e) := by
  refine (s.noNewWork_putRecord k e.code e.ns e.task).trans ?_
  unfold State.recordNow
  dsimp only
  generalize s.putRecord k e.code e.ns e.task = s1
  have irq (x : State) : (if dIrq e.task.desc then x.raiseTenant (k / 16) (k % 16) else x).work = x.work := by split <;> simp
  split
  · exact .of_work (irq s1)
  split
  · refine .trans (.of_work ?_) (State.noNewWork_enter _ k 3)
    split
    · exact (State.work_haltReport ..).trans ((irq _).trans (State.work_raiseTenant ..))
    · exact (irq _).trans (State.work_raiseTenant ..)
  · exact .of_work ((irq _).trans (State.work_raiseTenant ..))

theorem State.noNewWork_flushRecords (s : State) (k : Nat) : s.noNewWork (s.flushRecords k) := by
  unfold State.flushRecords
  refine .trans ?_ (.foldl (fun x e => x.noNewWork_recordNow k e) _ _)
  exact .modQueue_tasks s k _ fun _ => rfl

theorem State.noNewWork_dropTask (s : State) (k i : Nat) : s.noNewWork (s.dropTask k i) :=
  .modQueue _ _ _ fun _ h t ht => h t (List.mem_of_mem_filter ht)

/-- A task that has been dropped is in flight no longer. -/
theorem State.task?_dropTask (s : State) (k i : Nat) : (s.dropTask k i).task? k i = none := by
  unfold State.task? State.dropTask State.modQueue
  simp

theorem State.work_countTask (s : State) (n : Nat) (t : Task) : (s.countTask n t).work = s.work := rfl

/-- A task that ends is in flight no longer, and its end brings no other work. -/
theorem State.noNewWork_endTask (s : State) (k code : Nat) (t : Task) :
    s.noNewWork (s.endTask k code t) ∧ (s.endTask k code t).task? k t.serial = none := by
  have counted : s.noNewWork (s.countTask (s.queue k).lcore t) := .of_work (s.work_countTask _ t)
  have tail (x : State) (f : Queue → Queue) (hf : ∀ q, (f q).tasks = q.tasks) :
      x.noNewWork ((x.modQueue k f).flushRecords k) :=
    .trans (.modQueue_tasks x k f hf) (State.noNewWork_flushRecords _ k)
  have rest : ((s.countTask (s.queue k).lcore t).dropTask k t.serial).noNewWork (s.endTask k code t) := by
    unfold State.endTask
    exact tail _ _ fun _ => rfl
  exact ⟨counted.trans ((State.noNewWork_dropTask _ k _).trans rest), rest.2 k _ (State.task?_dropTask _ k _)⟩

/-- An abort starts no drain, brings no task into flight and ends the task that it names (R132). -/
theorem State.abortTask_ends (s : State) (k i code : Nat) :
    s.noNewWork (s.abortTask k i code) ∧ (s.abortTask k i code).task? k i = none := by
  unfold State.abortTask
  split
  case h_1 h => exact ⟨.refl s, h⟩
  case h_2 t ht =>
    obtain rfl := State.task?_serial ht
    have stopped : s.noNewWork ((s.haloGone (s.queue k).lcore (k, t.serial)).modCore (s.queue k).lcore fun c =>
        (c.stopOwner (k, t.serial)).dropChoice fun x => decide (x = (k, t.index))) :=
      (s.noNewWork_haloGone ..).trans (.modCore _ _ _ fun a b h => Core.use_stopOwner _ _ a b h)
    have voided (x : State) : x.noNewWork ((t.xlates.filter fun y => decide (1 ≤ y.mode)).foldl
        (fun x y => x.voidWrite (k / 16) y.handle y.gen) x) := by
      refine .foldl (fun u y => ?_) _ x
      exact u.noNewWork_voidWrite ..
    have last (x : State) : x.noNewWork (if x.ranOut k then x.enter k 4 else x) :=
      .ite (x.noNewWork_enter k 4) (.refl x)
    dsimp only
    refine ⟨.trans ?_ (last _), (last _).2 k _ ?_⟩
    · refine .trans ?_ (State.noNewWork_endTask _ k code t).1
      refine .trans ?_ (.of_work (State.work_restOver ..))
      have before := (stopped.trans (.of_work (State.work_endMove _ k t.serial))).trans (voided _)
      exact .ite (before.trans (State.noNewWork_setSb ..)) before
    · exact (State.noNewWork_endTask _ k code t).2

/-- A trap aborts its task and brings no work. -/
theorem State.noNewWork_nanTrap (s : State) (k i unit handle elem : Nat) : s.noNewWork (s.nanTrap k i unit handle elem) := by
  unfold State.nanTrap
  split
  · exact .refl s
  · refine .trans (.of_work ?_) (State.abortTask_ends _ k i 0x40).1
    split <;> simp

/-- Banks set to sweep do not come to drain. -/
theorem Core.use_sweepBanks (l : List (ArrUse × List (List Cell))) (b : Nat) (o : Nat × Nat) (tag : Nat) (c : Core)
    (a' b' : Nat) (h : ((l.foldl (fun x p => x.setBank p.1.array b
      { st := .busy, use := .sweep, data := cellsData p.2, owner := o, tag := tag }) c).bank a' b').use = .drain) :
    (c.bank a' b').use = .drain := by
  induction l generalizing c with
  | nil => exact h
  | cons p l ih =>
    have h1 := ih _ h
    rw [Core.bank_setBank] at h1
    split at h1
    · cases h1
    · exact h1

/-- A sweep that begins puts its banks to sweep and brings no other work. -/
theorem State.noNewWork_sweep (s : State) (k i b : Nat) (uses : List ArrUse) (clear : Bool) (tag : Nat) (o : Operands)
    (elem : Nat → Nat → Nat → Nat) (handle : Nat) : s.noNewWork (s.sweep k i b uses clear tag o elem handle) := by
  unfold State.sweep
  have swept (c : Core) (h : ∀ a' b', (c.bank a' b').use = .drain → ((s.core (s.queue k).lcore).bank a' b').use = .drain)
      (sat flush nan v : Nat) : s.noNewWork (((s.setCore (s.queue k).lcore c).addCounts k i sat flush nan).countWrap
        .coreArrissue (s.queue k).lcore v) :=
    (State.noNewWork.modCore s _ (fun _ => c) h).trans ((State.noNewWork_addCounts ..).trans (.of_work (State.work_countWrap ..)))
  have banks (l : List (ArrUse × List (List Cell))) := swept _ (Core.use_sweepBanks l b (k, i) tag (s.core (s.queue k).lcore))
  dsimp only
  split
  · exact banks ..
  · exact (banks ..).trans (State.noNewWork_nanTrap ..)

theorem State.noNewWork_fusedBlock (s : State) (n : Nat) : s.noNewWork (s.fusedBlock n) := by
  unfold State.fusedBlock
  split
  · exact .refl s
  · refine .ite (.refl s) (.trans ?_ (State.noNewWork_sweep ..))
    exact .modCore_banks _ _ _ fun _ => rfl

/-- The blocks of a FUSED2 that can start bring no drain and no task. -/
theorem State.noNewWork_fusedBlocks (s : State) (n : Nat) : s.noNewWork (s.fusedBlocks n) := by
  unfold State.fusedBlocks
  split
  · exact .refl s
  · exact .foldl (fun x _ => x.noNewWork_fusedBlock n) _ s

theorem State.noNewWork_checkLanded (s : State) (k i : Nat) : s.noNewWork (s.checkLanded k i) := by
  unfold State.checkLanded
  split
  · exact .modTask _ _ _ _ fun _ => rfl
  · exact .refl s

end Sys2Proof.Machine
end

section
/-! PROOF. Sweeps that land, drains and their ends (R85 to R90, R95, R163): what each does to its bank, to its landing buffer
and to the bytes of the yard. -/
namespace Sys2Proof.Machine

/-! ### Words in memory -/

theorem leBytes_four (v : Nat) : leBytes 4 v =
    [BitVec.ofNat 8 (v % 256), BitVec.ofNat 8 (v / 256 % 256), BitVec.ofNat 8 (v / 256 / 256 % 256),
      BitVec.ofNat 8 (v / 256 / 256 / 256 % 256)] := rfl

@[simp] theorem leBytes_length : ∀ n v : Nat, (leBytes n v).length = n
  | 0, _ => rfl
  | n + 1, v => congrArg (· + 1) (leBytes_length n (v / 256))

/-- The word at an address by its four bytes. -/
theorem State.word_eq (s : State) (a : Nat) : s.word a = BitVec.ofNat 32 ((s.byte a).toNat + 256 * ((s.byte (a + 1)).toNat +
    256 * ((s.byte (a + 2)).toNat + 256 * (s.byte (a + 3)).toNat))) := rfl

/-- A word reads as it was stored. -/
theorem State.word_putBytes_same (s : State) (a : Nat) (w : W32) : (s.putBytes a (leBytes 4 w.toNat)).word a = w := by
  apply BitVec.eq_of_toNat_eq
  have hw := w.isLt
  simp [State.word_eq, State.byte_putBytes, leBytes_four]
  omega

/-- A store leaves the words apart from it alone. -/
theorem State.word_putBytes_other (s : State) {a b : Nat} (w : W32) (h : b + 4 ≤ a ∨ a + 4 ≤ b) :
    (s.putBytes a (leBytes 4 w.toNat)).word b = s.word b := by
  have byte (y : Nat) (hy : b ≤ y ∧ y < b + 4) : (s.putBytes a (leBytes 4 w.toNat)).byte y = s.byte y :=
    s.byte_putBytes_other _ _ _ (by rw [leBytes_length]; omega)
  rw [State.word_eq, State.word_eq, byte b (by omega), byte (b + 1) (by omega), byte (b + 2) (by omega), byte (b + 3) (by omega)]

/-- Store a word for each number of a list, in the list's order: word `v i` at address `f i`. -/
def State.putWords (s : State) (f : Nat → Nat) (v : Nat → W32) (l : List Nat) : State :=
  l.foldl (fun x i => x.putBytes (f i) (leBytes 4 (v i).toNat)) s

section
variable (f : Nat → Nat) (v : Nat → W32)

theorem State.putWords_cons (s : State) (i : Nat) (l : List Nat) :
    s.putWords f v (i :: l) = (s.putBytes (f i) (leBytes 4 (v i).toNat)).putWords f v l := rfl

theorem State.putWords_frame (s : State) (l : List Nat) : s.putWords f v l = { s with mem := (s.putWords f v l).mem } := by
  induction l generalizing s with
  | nil => rfl
  | cons i l ih => rw [State.putWords_cons, ih]; rfl

theorem State.putWords_wf {s : State} (h : s.mem.wf = true) (l : List Nat) : (s.putWords f v l).mem.wf = true :=
  List.foldlRecOn (motive := fun u : State => u.mem.wf = true) l _ h fun _ hu _ _ => State.putBytes_wf hu _ _

/-- A byte at no address stored to. -/
theorem State.byte_putWords_other (s : State) {y : Nat} {l : List Nat} (h : ∀ i ∈ l, y < f i ∨ f i + 4 ≤ y) :
    (s.putWords f v l).byte y = s.byte y := by
  induction l generalizing s with
  | nil => rfl
  | cons i l ih =>
    rw [State.putWords_cons, ih _ fun j hj => h j (List.mem_cons_of_mem i hj)]
    exact s.byte_putBytes_other _ _ _ (by rw [leBytes_length]; exact h i List.mem_cons_self)

/-- A word apart from every address stored to. -/
theorem State.word_putWords_other (s : State) {a : Nat} {l : List Nat} (h : ∀ i ∈ l, a + 4 ≤ f i ∨ f i + 4 ≤ a) :
    (s.putWords f v l).word a = s.word a := by
  induction l generalizing s with
  | nil => rfl
  | cons i l ih =>
    rw [State.putWords_cons, ih _ fun j hj => h j (List.mem_cons_of_mem i hj)]
    exact s.word_putBytes_other _ (h i List.mem_cons_self)

/-- Of stores in rising order, the word of one that no later one overlaps. -/
theorem State.word_putWords (s : State) {i : Nat} {l : List Nat} (hl : l.Pairwise (· < ·)) (hi : i ∈ l)
    (apart : ∀ j ∈ l, i < j → f j + 4 ≤ f i ∨ f i + 4 ≤ f j) : (s.putWords f v l).word (f i) = v i := by
  induction l generalizing s with
  | nil => cases hi
  | cons j l ih =>
    obtain ⟨hj, hl⟩ := List.pairwise_cons.1 hl
    rw [State.putWords_cons]
    rcases List.mem_cons.1 hi with rfl | hi
    · rw [State.word_putWords_other f v _ fun m hm => (apart m (List.mem_cons_of_mem i hm) (hj m hm)).symm]
      exact s.word_putBytes_same _ _
    · exact ih _ hl hi fun m hm => apart m (List.mem_cons_of_mem j hm)

end

/-! ### A sweep that lands -/

theorem exec_sweepEnd {s : State} (h : s.up = true) (n : Fin 16) (a b : Fin 4) :
    exec (.sweepEnd n a b) s = .next (s.sweepEnd n a b) := whenUp_up h fun x => x.sweepEnd n a b
theorem exec_drain {s : State} (h : s.up = true) (n : Fin 16) (a b : Fin 4) :
    exec (.drain n a b) s = .next (s.drainStart n a b) := whenUp_up h fun x => x.drainStart n a b
theorem exec_drainEnd {s : State} (h : s.up = true) (n : Fin 16) (a b : Fin 4) :
    exec (.drainEnd n a b) s = .next (s.drainEnd n a b) := whenUp_up h fun x => x.drainEnd n a b

theorem State.checkLanded_frame (s : State) (k i : Nat) :
    s.checkLanded k i = { s with queues := (s.checkLanded k i).queues } := by
  unfold State.checkLanded; split <;> rfl

/-- Address of element i of a bank that drains to the yard. -/
def State.drainAt (s : State) (k : Nat) (d : List W32) (a tag i : Nat) : Nat :=
  s.yardAddr (s.queue k).lcore ((s.drainRegion k d).1 + tileOff (s.drainRegion k d).2
    (s.drainPlace k d a tag (i / 256) (i % 256)).1 (s.drainPlace k d a tag (i / 256) (i % 256)).2 4)

/-- A list of the elements of a bank whose places lie inside the drain region, in drain order. -/
def State.drainOrder (s : State) (k : Nat) (d : List W32) (a tag : Nat) (l : List Nat) : Prop :=
  l.Pairwise (· < ·) ∧ ∀ i, i ∈ l ↔ i < 65536 ∧ s.drainIn k d (s.drainPlace k d a tag (i / 256) (i % 256)) = true

/-- A yard drain stores its elements in order, each with its value or its sum with what is stored (R85, R95). -/
theorem State.drainYard_stores (s : State) (k : Nat) (d : List W32) (a tag : Nat) (acc : Bool) (data : SMap W32) :
    ∃ l, s.drainOrder k d a tag l ∧ (s.drainYard k d a tag acc data).1 = s.putWords (s.drainAt k d a tag)
      (fun i => (drainWord acc (s.word (s.drainAt k d a tag i)) (mget 0 data i)).bits) l := by
  refine ⟨(List.range 65536).filter fun i => s.drainIn k d (s.drainPlace k d a tag (i / 256) (i % 256)),
    ⟨List.pairwise_lt_range.filter _, fun i => by rw [List.mem_filter, List.mem_range]⟩, ?_⟩
  unfold State.drainYard State.putWords bankCells
  dsimp only
  rw [List.filter_map, List.map_map, List.foldl_map]
  congr 1
  funext x i
  simp only [Function.comp, Nat.div_add_mod]
  rfl

/-- No bank of the array drains. -/
theorem Core.drainPath_free {c : Core} {a : Nat} (free : ∀ b' < 4, (c.bank a b').use ≠ .drain) :
    (List.range 4).any (fun b' => decide ((c.bank a b').use = .drain)) = false := by
  simpa [List.any_eq_false] using free

section
variable {s : State} {n a b : Nat} {x : Bank} {t : Task}
  (hx : (s.core n).bank a b = x) (ht : s.task? x.owner.1 x.owner.2 = some t)
include hx ht

/-- With a tile of its sweep still ahead a bank does not land. -/
theorem State.sweepEnd_ahead {j : ArrJob} (hj : (s.core n).arr = some j) (h : j.sweeping x = true) :
    s.sweepEnd n a b = s := by
  unfold State.sweepEnd
  simp [hx, ht, hj, h]

/-- The last update of a sweep lands: its drain may start, or the bank is HELD. -/
theorem State.sweepEnd_lands (hu : x.use = .sweep) (hj : ∀ j, (s.core n).arr = some j → j.sweeping x = false) :
    s.sweepEnd n a b = if drains t.desc then s.setCore n ((s.core n).setBank a b { x with use := .landed })
      else (s.setCore n ((s.core n).setBank a b { x with st := .held, use := .none })).checkLanded x.owner.1 x.owner.2 := by
  unfold State.sweepEnd
  cases h : (s.core n).arr with
  | none => simp [hx, ht, hu, h]
  | some j => simp [hx, ht, hu, h, hj j h]

/-! ### Drains -/

/-- The drain path of the array is taken. -/
theorem State.drainStart_taken (h : ∃ b' < 4, ((s.core n).bank a b').use = .drain) : s.drainStart n a b = s := by
  have taken : (List.range 4).any (fun b' => decide (((s.core n).bank a b').use = .drain)) = true := by
    simpa [List.any_eq_true] using h
  unfold State.drainStart
  simp only [hx, ht, taken, or_true, if_true]

section
variable (hu : x.use = .landed) (free : ∀ b' < 4, ((s.core n).bank a b').use ≠ .drain)
include hu free

/-- A drain to the engine waits while no landing buffer is free (R163). -/
theorem State.drainStart_waits (dest : drainTo t.desc b x.tag = .engine) (hl : (s.core n).freeLanding = none) :
    s.drainStart n a b = s := by
  unfold State.drainStart
  simp [hx, ht, hu, Core.drainPath_free free, dest, hl]

/-- A drain to the engine hands its values to the free landing buffer (R163). -/
theorem State.drainStart_engine {lb : Nat} (dest : drainTo t.desc b x.tag = .engine)
    (hl : (s.core n).freeLanding = some lb) :
    s.drainStart n a b = s.setCore n (((s.core n).setBank a b { x with use := .drain }).setLanding lb
      { full := true, data := x.data, taken := 0, array := a, owner := x.owner }) := by
  unfold State.drainStart
  simp [hx, ht, hu, Core.drainPath_free free, dest, hl]

/-- A drain to the yard outside trap mode: its bank drains, its values are stored and its counts are the task's. -/
theorem State.drainStart_yard {acc : Bool} (dest : drainTo t.desc b x.tag = .yard acc) (trap : t.trap = false)
    (fill : s.filling (x.owner.1 / 16) (dDst t.desc) = false)
    (wait : acc = true → s.accWaits x.owner.1 t.serial t.desc = false) :
    let place := s.drainAt x.owner.1 t.desc a x.tag
    ∃ l sat flush nan, s.drainOrder x.owner.1 t.desc a x.tag l ∧ s.drainStart n a b =
      ((s.setCore n ((s.core n).setBank a b { x with use := .drain })).putWords place
        (fun i => (drainWord acc (s.word (place i)) (mget 0 x.data i)).bits) l).addCounts x.owner.1 t.serial sat flush nan := by
  have go : (s.filling (x.owner.1 / 16) (dDst t.desc) || (acc && s.accWaits x.owner.1 t.serial t.desc)) = false := by
    cases acc <;> simp [fill, wait]
  obtain ⟨l, order, stores⟩ := (s.setCore n ((s.core n).setBank a b { x with use := .drain })).drainYard_stores
    x.owner.1 t.desc a x.tag acc x.data
  unfold State.drainStart
  simp only [hx, ht, hu, Core.drainPath_free free, dest, go, trap, stores]
  exact ⟨l, _, _, _, order, rfl⟩

end

/-! ### The end of a drain -/

/-- A drain ends: its bank is EMPTY or HELD, and what waited for the bank may begin. -/
theorem State.drainEnd_drain (hu : x.use = .drain) :
    s.drainEnd n a b = ((s.setCore n ((s.core n).setBank a b
      (if releases t.desc then Bank.init else { x with st := .held, use := .none }))).fusedBlocks n).checkLanded
        x.owner.1 t.serial := by
  unfold State.drainEnd
  simp [hx, ht, hu]

/-- The bank whose drain ends drains no longer, whatever the sweeps do that begin then. -/
theorem State.drainEnd_frees (hu : x.use = .drain) : (((s.drainEnd n a b).core n).bank a b).use ≠ .drain := by
  rw [State.drainEnd_drain hx ht hu]
  intro h
  have h1 := (State.noNewWork_fusedBlocks _ n).1 n a b ((State.noNewWork_checkLanded _ _ _).1 n a b h)
  rw [State.core_setCore_same, Core.bank_setBank_same] at h1
  split at h1 <;> cases h1

end

/-- No block of a job sweeps that is no FUSED2 with a tile in hand. -/
theorem State.fusedBlocks_idle {s : State} {n : Nat}
    (h : ∀ j, (s.core n).arr = some j → dType j.desc = 2 → j.phase ≠ 1 ∨ j.tileNo = 0) : s.fusedBlocks n = s := by
  unfold State.fusedBlocks
  split
  · rfl
  · next j hj =>
    have block : s.fusedBlock n = s := by
      have idle : (decide (dType j.desc = 2) && decide (j.phase = 1) && decide (0 < j.tileNo)) = false := by
        have := h j hj
        simp only [Bool.and_eq_false_iff, decide_eq_false_iff_not]
        omega
      unfold State.fusedBlock
      simp only [hj, idle, Bool.false_and]
      rfl
    exact List.foldlRecOn (motive := fun u => u = s) _ _ rfl fun u hu _ _ => hu.symm ▸ block

/-! Counts of a task touch no memory. -/

theorem State.addCounts_mem (s : State) (k i sat flush nan : Nat) : (s.addCounts k i sat flush nan).mem = s.mem := rfl
theorem State.word_addCounts (s : State) (k i sat flush nan a : Nat) : (s.addCounts k i sat flush nan).word a = s.word a := rfl
theorem State.byte_addCounts (s : State) (k i sat flush nan a : Nat) : (s.addCounts k i sat flush nan).byte a = s.byte a := rfl

/-- Settles O38: one lemma above for each step of a bank, and the stores of a yard drain in their order. -/
theorem banksLandDrainAndRelease : Obligations.BanksLandDrainAndRelease := by
  intro n a b t s hup x k g place at' inside free ht
  have other (c : Core) : ∀ m, m ≠ n.val → (s.setCore n c).core m = s.core m := fun m hm => s.core_setCore_other c hm
  have untaken (h : free) : ∀ b' < 4, ((s.core n).bank a b').use ≠ .drain := fun b' hb => h ⟨b', hb⟩
  refine ⟨fun hu hj => ?lands, fun j _ hj hs => ?ahead, fun _ h => ?taken,
    fun hu hf dest => ⟨fun hl => ?waits, fun lb hl => ?engine⟩, fun acc hu hf dest trap fill wait => ?yard, fun hu => ?frees, fun hu hj => ?ends⟩
  case lands =>
    refine ⟨_, exec_sweepEnd hup n a b, ?_⟩
    rw [State.sweepEnd_lands rfl ht hu hj]
    cases drains t.desc with
    | true => exact ⟨s.core_setCore_same _ _, rfl, other _⟩
    | false =>
      simp only [Bool.false_eq_true, if_false]
      rw [State.checkLanded_frame]
      exact ⟨s.core_setCore_same _ _, rfl, other _⟩
  case ahead => rw [exec_sweepEnd hup, State.sweepEnd_ahead rfl ht hj hs]
  case taken =>
    obtain ⟨b', hb⟩ := h
    rw [exec_drain hup, State.drainStart_taken rfl ht ⟨b', b'.isLt, hb⟩]
  case waits => rw [exec_drain hup, State.drainStart_waits rfl ht hu (untaken hf) dest hl]
  case engine =>
    refine ⟨_, exec_drain hup n a b, ?_⟩
    rw [State.drainStart_engine rfl ht hu (untaken hf) dest hl, State.core_setCore_same]
    exact ⟨Core.bank_setBank_same _ _ _ _, Core.landing_setLanding_same _ _ _, rfl, other _⟩
  case yard =>
    obtain ⟨l, sat, flush, nan, ⟨rises, elems⟩, stores⟩ := State.drainStart_yard rfl ht hu (untaken hf) dest trap fill wait
    refine ⟨_, exec_drain hup n a b, ?_⟩
    rw [stores]
    refine ⟨?_, fun i hi hin apart => ?_, fun y far => ?_, ?_, fun hw => ?_⟩
    · rw [State.putWords_frame]
      exact s.core_setCore_same _ _
    · rw [State.word_addCounts]
      exact State.word_putWords _ _ _ rises ((elems i).2 ⟨hi, hin⟩) fun j hj hij => apart j hij ((elems j).1 hj).1
    · rw [State.byte_addCounts]
      exact State.byte_putWords_other _ _ _ fun i hi => far i ((elems i).1 hi).1 ((elems i).1 hi).2
    · rw [State.putWords_frame]
      rfl
    · rw [State.addCounts_mem]
      exact State.putWords_wf (s := s.setCore _ _) _ _ hw _
  case frees => exact ⟨_, exec_drainEnd hup n a b, State.drainEnd_frees rfl ht hu⟩
  case ends =>
    refine ⟨_, exec_drainEnd hup n a b, ?_⟩
    rw [State.drainEnd_drain rfl ht hu, State.fusedBlocks_idle (by rw [State.core_setCore_same]; exact hj),
      State.checkLanded_frame]
    exact ⟨s.core_setCore_same _ _, rfl, other _⟩

end Sys2Proof.Machine
end

section
/-! PROOF. What the loaders put in place: first tiles, tiles at a swap, codebooks, bricks and drain programs (R79, R80, R127,
R164, R240 to R242). -/
namespace Sys2Proof.Machine

/-! ### The tile prologue -/

theorem exec_tilePrologueLoad {s : State} (h : s.up = true) (t : Fin 8) (q : Fin 16) :
    exec (.tilePrologueLoad t q) s = .next (s.prologue (16 * t.val + q.val)) :=
  whenUp_up h fun x => x.prologue (16 * t.val + q.val)

/-- A core whose loader has put tiles, each with its file, into the shadow halves for a chosen task. -/
def Core.loadTiles (c : Core) (chosen : Nat × Nat) (tiles : List (Nat × SMap Byte)) : Core :=
  tiles.foldl (fun y p => y.setEdge p.1 { y.edge p.1 with shadow := { EdgeHalf.ofLoader p.2 with chosen := chosen } }) c

theorem Core.edge_loadTiles_other (c : Core) (chosen : Nat × Nat) {tiles : List (Nat × SMap Byte)} {f : Nat}
    (h : f ∉ tiles.map (·.1)) : (c.loadTiles chosen tiles).edge f = c.edge f := by
  induction tiles generalizing c with
  | nil => rfl
  | cons p l ih =>
    rw [List.map_cons, List.mem_cons, not_or] at h
    exact (ih _ h.2).trans (c.edge_setEdge_other _ h.1)

/-- Of tiles for different files each stands in its own. -/
theorem Core.edge_loadTiles (c : Core) (chosen : Nat × Nat) {tiles : List (Nat × SMap Byte)}
    (h : (tiles.map (·.1)).Nodup) : ∀ p ∈ tiles, (c.loadTiles chosen tiles).edge p.1 =
      { c.edge p.1 with shadow := { EdgeHalf.ofLoader p.2 with chosen := chosen } } := by
  induction tiles generalizing c with
  | nil => exact fun _ hp => nomatch hp
  | cons p l ih =>
    obtain ⟨hp, hl⟩ := List.nodup_cons.1 h
    intro r hr
    rcases List.mem_cons.1 hr with rfl | hr
    · exact (Core.edge_loadTiles_other _ chosen hp).trans (c.edge_setEdge_same _ _)
    · have apart : r.1 ≠ p.1 := fun e => hp (List.mem_map.2 ⟨r, hr, e⟩)
      refine (ih _ hl r hr).trans ?_
      rw [c.edge_setEdge_other _ apart]

section
variable {s : State} {k n : Nat} {d : List W32} (hn : (s.queue k).lcore = n) (hd : s.patched k (s.queue k).next = d)
include hn hd

/-- A file of the task is taken: its prologue waits. -/
theorem State.prologue_waits (taken : ∃ f ∈ jobFiles d, ((s.core n).edge f).shadow.full = true ∨ (s.core n).fileBusy f = true) :
    s.prologue k = s := by
  have full : ((jobFiles d).all fun f => !((s.core n).edge f).shadow.full && !(s.core n).fileBusy f) = false := by
    rw [List.all_eq_false]
    obtain ⟨f, hf, h⟩ := taken
    exact ⟨f, hf, by rcases h with h | h <;> simp [h]⟩
  unfold State.prologue
  simp [hn, hd, full]

/-- Every file of a task without bricks that may run next is free: its first tiles come into the shadow halves. -/
theorem State.prologue_loads (array : (dType d = 1 ∧ mBricks d = false) ∨ dType d = 2 ∨ (dType d = 3 ∧ cHalo d = 0))
    (running : s.qst k = 2) (unheld : s.queueHeld k = false) (more : (s.queue k).next < (s.queue k).descCount)
    (unfenced : (s.queue k).fence = none) (waits : s.waitsReady k d = true) (fill : s.filling (k / 16) (df d 4 23 0) = false)
    (read : s.yardReadCode (k / 16) n (df d 4 23 0) (actOff d) 0 = 0)
    (free : ∀ f ∈ jobFiles d, ((s.core n).edge f).shadow.full = false ∧ (s.core n).fileBusy f = false) :
    s.prologue k = s.modCore n fun c => c.loadTiles (k, (s.queue k).next) (s.firstTiles k n d) := by
  have empty : ((jobFiles d).all fun f => !((s.core n).edge f).shadow.full && !(s.core n).fileBusy f) = true := by
    rw [List.all_eq_true]
    intro f hf
    simp [free f hf]
  have kind : (decide (dType d = 1) || decide (dType d = 2) || (decide (dType d = 3) && decide (cHalo d = 0))) = true := by
    rcases array with h | h | h <;> simp [h]
  have plain : (decide (dType d = 1) && mBricks d) = false := by
    rcases array with h | h | h <;> simp [h]
  unfold State.prologue
  simp only [hn, hd, empty, kind, plain, running, unheld, more, unfenced, waits, fill, read]
  rfl

end

/-! ### Swaps inside a sweep -/

theorem exec_edgeFileSwap {s : State} (h : s.up = true) (n : Fin 16) (f : Fin 2) :
    exec (.edgeFileSwap n f) s = .next (s.edgeSwap n f) := whenUp_up h fun x => x.edgeSwap n f

theorem State.edgeSwap_none {s : State} {n : Nat} (f : Nat) (h : (s.core n).arr = none) : s.edgeSwap n f = s := by
  unfold State.edgeSwap
  simp [h]

/-- With a tile ahead at the file the swap is one inside the sweep. -/
theorem State.edgeSwap_inside {s : State} {n f : Nat} {j : ArrJob} {load : SMap Byte} (hj : (s.core n).arr = some j)
    (left : 0 < j.left f) (hl : s.nextTile n j f = some load) :
    s.edgeSwap n f = s.setCore n { (s.core n).swapIn f (((s.core n).edge f).shadow.taken load) (s.nextTile n (j.pass f) f) with
      arr := some (j.pass f) } := by
  unfold State.edgeSwap State.swapTile
  simp [hj, left, hl]

theorem Core.edge_swapIn_same (c : Core) (f : Nat) (active : SMap Byte) (next : Option (SMap Byte)) :
    (c.swapIn f active next).edge f = { active := .ofLoader active
                                        shadow := match next with | some b => .ofLoader b | none => .init } :=
  c.edge_setEdge_same f _

theorem Core.edge_swapIn_other (c : Core) {f g : Nat} (active : SMap Byte) (next : Option (SMap Byte)) (h : g ≠ f) :
    (c.swapIn f active next).edge g = c.edge g := c.edge_setEdge_other _ h

/-- Of a MATMUL the next tile is the one of its operand that the tiles still ahead leave. -/
theorem State.nextTile_matmul (s : State) (n : Nat) {j : ArrJob} {f : Nat} (hd : dType j.desc = 1) (left : 0 < j.left f) :
    s.nextTile n j f = some (halfOf (tileBytes (mB8 j.desc) (mKt j.desc))
      (matmulHalf (s.yard n (s.taskCold j.owner.1 j.owner.2 (df j.desc 4 23 0))) j.desc (actOf j.desc f)
        (mK j.desc / mKt j.desc - j.left f))) := by
  unfold State.nextTile matmulNext
  simp [hd, Nat.pos_iff_ne_zero.1 left]

/-! ### Codebooks -/

theorem exec_codebookLoadDone {s : State} (h : s.up = true) (n : Fin 16) (port : Fin 4) :
    exec (.codebookLoadDone n port) s = .next (s.codebookDone n port) := whenUp_up h fun x => x.codebookDone n port

/-- A guarded record that is taken shows its fields below bit 30. -/
theorem fld_guarded (old v : W32) {hi lo : Nat} (h : hi < 30) :
    fld (0x80000000#32 ||| (old &&& 0x40000000#32) ||| v) hi lo = fld v hi lo := by
  have valid : ∀ i < 30, (0x80000000#32 : W32).getLsbD i = false := by decide
  have lost : ∀ i < 30, (0x40000000#32 : W32).getLsbD i = false := by decide
  apply Nat.eq_of_testBit_eq
  intro j
  rw [testBit_fld, testBit_fld]
  by_cases hj : j < hi + 1 - lo
  · rw [BitVec.getLsbD_or, BitVec.getLsbD_or, BitVec.getLsbD_and, valid _ (by omega), lost _ (by omega)]
    simp
  · simp [hj]

theorem State.recordFail_eq (s : State) (n index : Nat) (f : PortFail) : s.recordFail n index f =
    s.record n .coreBrkfault0 (BitVec.ofNat 32 (f.array * 2 ^ 28 + f.reason * 2 ^ 24 + f.stream * 2 ^ 16 + index))
      [(.coreBrkfault1, BitVec.ofNat 32 (f.kpos * 65536 + f.id))] := rfl

/-- A failing check changes registers alone, and those by the registers alone. -/
theorem State.recordFail_frame (s : State) (n index : Nat) (f : PortFail) :
    s.recordFail n index f = { s with regs := (s.recordFail n index f).regs } := by
  rw [State.recordFail_eq, State.record_regs]
  split <;> rfl

@[simp] theorem State.core_recordFail (s : State) (n index : Nat) (f : PortFail) (m : Nat) :
    (s.recordFail n index f).core m = s.core m := by
  rw [State.recordFail_frame]; rfl

/-- A chosen task that has failed is marked with its code, and the core keeps the rest. -/
theorem State.core_failChosen (s : State) (k index n : Nat) (f : PortFail) : (s.failChosen k index n f).core n =
    { s.core n with failed := ⟨(k, index), f.code⟩ :: (s.core n).failed } := by
  unfold State.failChosen
  rw [State.core_modCore_same, State.core_recordFail]

theorem State.failChosen_frame (s : State) (k index n : Nat) (f : PortFail) : s.failChosen k index n f =
    { s with regs := (s.recordFail n index f).regs, cores := (s.failChosen k index n f).cores } := by
  unfold State.failChosen
  rw [State.recordFail_frame]
  rfl

theorem State.recordFail_regs {s t : State} (h : t.regs = s.regs) (n index : Nat) (f : PortFail) :
    (t.recordFail n index f).regs = (s.recordFail n index f).regs := by
  rw [State.recordFail_eq, State.recordFail_eq, State.record_regs, State.record_regs, State.reg_congr h]
  split <;> simp [State.setReg, h]

theorem State.recordFail_sameRegs (s : State) (n index : Nat) (f : PortFail) :
    sameRegs (fun q i => (q = .coreBrkfault0 ∨ q = .coreBrkfault1) ∧ i = n) s (s.recordFail n index f) := by
  intro r i hr
  have h0 : ¬ (r = .coreBrkfault0 ∧ i = n) := fun e => hr ⟨.inl e.1, e.2⟩
  have h1 : ¬ (r = .coreBrkfault1 ∧ i = n) := fun e => hr ⟨.inr e.1, e.2⟩
  rw [State.recordFail_eq, State.record_regs]
  split <;> simp [State.reg_setReg, h0, h1]

/-- A free record takes the failing check (R242). -/
theorem State.reg_recordFail {s : State} {n : Nat} (index : Nat) (f : PortFail) (h : bit (s.reg .coreBrkfault0 n) 31 = false) :
    (s.recordFail n index f).reg .coreBrkfault0 n = 0x80000000#32 ||| (s.reg .coreBrkfault0 n &&& 0x40000000#32) |||
      BitVec.ofNat 32 (f.array * 2 ^ 28 + f.reason * 2 ^ 24 + f.stream * 2 ^ 16 + index) := by
  rw [State.recordFail_eq, State.record_regs, h]
  simp

/-- The record names port, reason and stream of the failing check (R242). -/
theorem State.recordFail_shows {s : State} {n index : Nat} {f : PortFail} (h : bit (s.reg .coreBrkfault0 n) 31 = false)
    (ha : f.array < 4) (hr : f.reason < 16) (hs : f.stream < 256) (hi : index < 65536) :
    let u := s.recordFail n index f
    bit (u.reg .coreBrkfault0 n) 31 = true ∧ u.rfld .coreBrkfault0 n 29 28 = f.array ∧
      u.rfld .coreBrkfault0 n 27 24 = f.reason ∧ u.rfld .coreBrkfault0 n 23 16 = f.stream := by
  intro u
  have hu : u.reg .coreBrkfault0 n = _ := State.reg_recordFail index f h
  refine ⟨?_, ?_, ?_, ?_⟩
  · rw [hu]
    simp [bit]
  all_goals
    rw [State.rfld, hu, fld_guarded _ _ (by decide), fld, BitVec.toNat_ofNat]
    omega

/-- The failing row of a codebook's end is 5 or 6 (Table 9-4). -/
theorem State.bookEnd_lt (s : State) (n form addr : Nat) : s.bookEnd n form addr < 16 := by
  unfold State.bookEnd
  dsimp only
  split
  · decide
  · split <;> decide

section
variable {s : State} {n port : Nat}

/-- No load is under way. -/
theorem State.codebookDone_none (h : (List.range 2).find? (fun i => ((s.core n).cbBank port i).loading) = none) :
    s.codebookDone n port = s := by
  unfold State.codebookDone
  simp [h]

variable {b : Nat} (hb : (List.range 2).find? (fun i => ((s.core n).cbBank port i).loading) = some b)
  {x : CbBank} (hx : (s.core n).cbBank port b = x)
include hb hx

/-- A codebook that passes its checks stands in its bank. -/
theorem State.codebookDone_passes (h : s.bookEnd n x.form x.addr = 0) : s.codebookDone n port = s.modCore n fun c =>
    c.setCb port b { x with valid := true, loading := false, entries := s.bookEntries n x.form x.addr } := by
  unfold State.codebookDone State.endBook
  simp [hb, hx, h]

/-- A codebook that fails leaves its bank empty, is recorded, and marks the task that chose it while that is the next task
of its running queue (R241). -/
theorem State.codebookDone_fails (h : s.bookEnd n x.form x.addr ≠ 0) :
    let f : PortFail := ⟨port, x.stream, s.bookEnd n x.form x.addr, 0, x.cbid, 0x30⟩
    let s1 := s.modCore n fun c => c.setCb port b CbBank.init
    s.codebookDone n port = if (s.queue x.chosen.1).next = x.chosen.2 ∧ s.qst x.chosen.1 = 2
      then s1.failChosen x.chosen.1 x.chosen.2 n f else s1.recordFail n x.chosen.2 f := by
  unfold State.codebookDone State.endBook
  simp [hb, hx, h]

end

/-! ### Bricks -/

theorem exec_brickReadAhead {s : State} (h : s.up = true) (n : Fin 16) (port : Fin 4) (i : Nat) :
    exec (.brickReadAhead n port i) s = .next (s.readAhead n port i) := whenUp_up h fun x => x.readAhead n port i

theorem State.readAhead_none {s : State} {n : Nat} (port i : Nat) (h : (s.core n).arr = none) : s.readAhead n port i = s := by
  unfold State.readAhead
  simp [h]

section
variable {s : State} {n port i : Nat} {j : ArrJob} {v : ArrUse} {t : Task} (hj : (s.core n).arr = some j)
  (hd : dType j.desc = 1) (bricks : mBricks j.desc = true) (hi : i < mK j.desc / 32)
  (use : (usesOf (mTile j.desc) (mMask j.desc)).find? (fun w => decide (w.array = port)) = some v)
  (ht : s.task? j.owner.1 j.owner.2 = some t)
include hj hd bricks hi use ht

/-- A brick of the running MATMUL that passes its checks stands in the port's buffer (R240). -/
theorem State.readAhead_passes (h : s.brickFail j.owner.1 t.index n j.desc
      (s.yard n (s.taskCold j.owner.1 t.serial (df j.desc 5 23 0))) v i = none) :
    let p := s.brickPlan j.owner.1 j.desc
    s.readAhead n port i = s.modCore n fun c => c.setBrickBuf port i
      (readBrick (s.yard n (s.taskCold j.owner.1 t.serial (df j.desc 5 23 0))) j.owner.1 t.index i
        (brickAddr p.1 p.2.1 p.2.2 v.stream i) p.2.2) := by
  unfold State.readAhead
  simp [hj, hd, bricks, hi, use, ht, h]

/-- A brick that fails is recorded and aborts the task (R241). -/
theorem State.readAhead_fails {f : PortFail} (h : s.brickFail j.owner.1 t.index n j.desc
      (s.yard n (s.taskCold j.owner.1 t.serial (df j.desc 5 23 0))) v i = some f) :
    s.readAhead n port i = (s.recordFail n t.index f).abortTask j.owner.1 t.serial f.code := by
  unfold State.readAhead
  simp [hj, hd, bricks, hi, use, ht, h]

end

/-! ### Drain programs -/

theorem exec_drainProgram {s : State} (h : s.up = true) (n : Fin 16) (b : Fin 2) :
    exec (.drainProgram n b) s = .next (s.drainProgram n b) := whenUp_up h fun x => x.drainProgram n b

/-- A drain program without a region needs no operand: its context starts (R138, R164). -/
theorem State.drainProgram_starts {s : State} {n b : Nat} {t : Task} {lb : Landing} (hb : (s.core n).landing b = lb)
    (ht : s.task? lb.owner.1 lb.owner.2 = some t) (full : lb.full = true) (untaken : lb.taken = 0)
    (idle : (s.core n).drainVec.running = false) (hd : dType t.desc = 1)
    (bare : s.regionCount (s.yardAddr n (df t.desc 12 24 0)) = 0) :
    s.drainProgram n b = s.modCore n fun c => { c with
      drainVec := s.startCtx n true (s.yardAddr n (df t.desc 12 24 0)) lb.owner.1 t 0 b } := by
  unfold State.drainProgram State.progCode State.progBegin
  simp [hb, ht, full, untaken, idle, hd, bare, orCode]

theorem dense_nil {α : Type} (d : α) : ∀ n lo : Nat, dense d [] lo n = List.replicate n d
  | 0, _ => rfl
  | n + 1, lo => congrArg (d :: ·) (dense_nil d n (lo + 1))

/-- A program starts with cleared vector registers (R138). -/
theorem State.vec_startCtx (s : State) (n : Nat) (drain : Bool) (prog k : Nat) (t : Task) (seed : W64) (b r : Nat) :
    (s.startCtx n drain prog k t seed b).vec r = List.replicate 2048 0 := dense_nil 0 2048 (2048 * r)

/-! ### The statement -/

/-- What the end of a codebook that fails leaves in the core and in the registers (R241, R242). -/
theorem State.codebookDone_records {s : State} {n port b : Nat} {x : CbBank} (hp : port < 4)
    (hb : (List.range 2).find? (fun i => ((s.core n).cbBank port i).loading) = some b)
    (hx : (s.core n).cbBank port b = x) (h : s.bookEnd n x.form x.addr ≠ 0) (hi : x.chosen.2 < 65536) (hs : x.stream < 256) :
    let u := s.codebookDone n port
    (u.core n).cbBank port b = .init ∧ u = { s with cores := u.cores, regs := u.regs } ∧
    ((s.queue x.chosen.1).next = x.chosen.2 → s.qst x.chosen.1 = 2 → (u.core n).failedCode x.chosen.1 x.chosen.2 = some 0x30) ∧
    (bit (s.reg .coreBrkfault0 n) 31 = false → bit (u.reg .coreBrkfault0 n) 31 = true ∧ u.rfld .coreBrkfault0 n 29 28 = port ∧
      u.rfld .coreBrkfault0 n 27 24 = s.bookEnd n x.form x.addr ∧ u.rfld .coreBrkfault0 n 23 16 = x.stream) ∧
    sameRegs (fun q i => (q = .coreBrkfault0 ∨ q = .coreBrkfault1) ∧ i = n) s u := by
  intro u
  have hu : u = _ := State.codebookDone_fails hb hx h
  have emptied : ((s.modCore n fun c => c.setCb port b CbBank.init).core n).cbBank port b = .init := by
    rw [State.core_modCore_same, Core.cbBank_setCb_same]
  have regs : u.regs =
      (s.recordFail n x.chosen.2 ⟨port, x.stream, s.bookEnd n x.form x.addr, 0, x.cbid, 0x30⟩).regs := by
    rw [hu]
    split <;> exact State.recordFail_regs (s := s) (t := s.modCore n _) rfl n _ _
  refine ⟨?empty, ?frame, fun hk hq => ?failed, fun free => ?shows, fun r i hr => ?others⟩
  case empty =>
    rw [hu]
    split
    · rw [State.core_failChosen]
      exact emptied
    · rw [State.core_recordFail]
      exact emptied
  case frame =>
    rw [hu]
    split
    · rw [State.failChosen_frame]
      rfl
    · rw [State.recordFail_frame]
      rfl
  case failed =>
    rw [hu, if_pos ⟨hk, hq⟩, State.core_failChosen]
    simp [Core.failedCode]
  case shows =>
    simp only [State.rfld, State.reg_congr regs]
    exact State.recordFail_shows free hp (s.bookEnd_lt ..) hs hi
  case others => exact (State.reg_congr regs r i).trans (s.recordFail_sameRegs n _ _ r i hr)

/-- Settles O39: each loader by the lemmas above about its step. -/
theorem loadersFillHalvesAndBooks : Obligations.LoadersFillHalvesAndBooks := by
  refine ⟨fun t q s hup => ?prologue, fun n f s hup => ?swap, fun n port s hup => ?codebook, fun n port i s hup => ?brick,
    fun n b t s hup => ?program⟩
  case prologue =>
    intro k n d tiles array running unheld more unfenced waits fill read
    have tenant : k / 16 = t.val := by omega
    rw [← tenant] at fill read
    refine ⟨fun taken => ?_, fun free nodup => ⟨_, exec_tilePrologueLoad hup t q, ?_⟩⟩
    · rw [exec_tilePrologueLoad hup, State.prologue_waits rfl rfl taken]
    · rw [State.prologue_loads rfl rfl array running unheld more unfenced waits fill read free, State.core_modCore_same]
      exact ⟨rfl, fun m hm => State.core_modCore_other s _ hm, Core.edge_loadTiles _ _ nodup⟩
  case swap =>
    refine ⟨fun h => ?_, fun j load hj left hl => ⟨_, exec_edgeFileSwap hup n f, ?_⟩, fun j hd left => s.nextTile_matmul n hd left⟩
    · rw [exec_edgeFileSwap hup, State.edgeSwap_none f h]
    · have file := Core.edge_swapIn_same (s.core n) f (((s.core n).edge f).shadow.taken load) (s.nextTile n (j.pass f) f)
      rw [State.edgeSwap_inside hj left hl, State.core_setCore_same]
      exact ⟨rfl, fun m hm => s.core_setCore_other _ hm, rfl, congrArg (·.active.bytes) file, congrArg (·.shadow) file,
        fun g hg => Core.edge_swapIn_other _ _ _ hg⟩
  case codebook =>
    refine ⟨fun h => ?_, fun b hb => ⟨fun h => ?_, fun h hi hs => ⟨_, exec_codebookLoadDone hup n port, ?_⟩⟩⟩
    · rw [exec_codebookLoadDone hup, State.codebookDone_none h]
    · rw [exec_codebookLoadDone hup, State.codebookDone_passes hb rfl h]
    · exact State.codebookDone_records port.isLt hb rfl h hi hs
  case brick =>
    refine ⟨fun h => ?_, fun j v t hj hd bricks hi use ht =>
      ⟨fun h => ?_, fun f h => ⟨_, exec_brickReadAhead hup n port i, ?_⟩⟩⟩
    · rw [exec_brickReadAhead hup, State.readAhead_none port i h]
    · rw [exec_brickReadAhead hup, State.readAhead_passes hj hd bricks hi use ht h]
    · rw [State.readAhead_fails hj hd bricks hi use ht h]
      exact ⟨rfl, (State.abortTask_ends _ _ _ _).2⟩
  case program =>
    intro lb prog ht full untaken idle hd bare
    refine ⟨_, exec_drainProgram hup n b, ?_⟩
    rw [State.drainProgram_starts rfl ht full untaken idle hd bare, State.core_modCore_same]
    exact ⟨rfl, fun m hm => State.core_modCore_other s _ hm, rfl, rfl, rfl, rfl, rfl, rfl, s.vec_startCtx n _ _ _ _ _ _⟩

end Sys2Proof.Machine
end

section
/-! PROOF. A queue's next task issues (R113): the task that goes in flight, and each command on the type that it finds. -/
namespace Sys2Proof.Machine

@[simp] theorem State.queue_modQueue_same (s : State) (k : Nat) (f : Queue → Queue) : (s.modQueue k f).queue k = f (s.queue k) :=
  s.queue_setQueue_same k _

theorem State.queue_modQueue_other (s : State) {k j : Nat} (f : Queue → Queue) (h : j ≠ k) :
    (s.modQueue k f).queue j = s.queue j := s.queue_setQueue_other _ h

theorem State.queue_congr {s t : State} (h : t.queues = s.queues) (k : Nat) : t.queue k = s.queue k :=
  congrArg (mget Queue.init · k) h

section
variable {s : State} {k : Nat} {d : List W32} (h : mayIssue s k d)
include h

/-- Nothing is staged, so that the task boundary of an issue changes nothing (R467). -/
theorem mayIssue.taskBoundary : s.taskBoundary k = s := by
  obtain ⟨-, -, staged, cbdir, -⟩ := h
  unfold State.taskBoundary
  simp only [State.boundary_none staged, cbdir]
  rfl

theorem mayIssue.desc_eq : s.patched k (s.queue k).next = d := by
  obtain ⟨-, -, -, -, hd, -⟩ := h
  exact hd.symm

/-- A queue whose next task may issue is RUNNING, held by no fault and asked for no stop, and its waits are READY. -/
theorem mayIssue.runs : s.queueHeld k = false ∧ bit (s.reg .queCtrl k) 1 = false ∧ s.waitsReady k d = true := by
  obtain ⟨-, -, -, -, hd, issuable, -, unvoid, -⟩ := h
  simp only [State.issuable, ← hd, unvoid, Bool.and_eq_true, Bool.not_eq_true', Option.isSome_none, Bool.false_or] at issuable
  tauto

theorem mayIssue.issueTask_eq (w : Nat) (kind : List W32 → Bool) (accept : State → List W32 → Bool)
    (run : State → Task → State) : s.issueTask k w kind accept run =
      if kind d && accept s d && s.unitFree k then run (s.startTask k w).1 (s.startTask k w).2 else s := by
  obtain ⟨-, stop, -⟩ := h.runs
  have hd := h.desc_eq
  obtain ⟨-, sound, -, -, -, issuable, first, unvoid, -⟩ := h
  unfold State.issueTask
  simp only [State.useRegs_sound sound, stop, hd, unvoid, issuable, first]
  cases kind d <;> simp
end

/-! ### A task goes in flight -/

section
variable {s : State} {k : Nat} {d : List W32} (h : mayIssue s k d) (w : Nat)
include h

/-- The issued task as its queue holds it. -/
theorem mayIssue.startTask_task : let x := (s.startTask k w).2
    x.serial = s.serial ∧ x.index = (s.queue k).next ∧ x.desc = d ∧ x.params = s.paramWords k ∧ x.landed = false ∧
      x.waited = w := by
  unfold State.startTask
  rw [h.taskBoundary]
  exact ⟨rfl, rfl, h.desc_eq, rfl, rfl, rfl⟩

/-- An issue changes its queue, the slip and the next serial number. -/
theorem mayIssue.startTask_frame : let u := (s.startTask k w).1
    u = { s with queues := u.queues, regs := u.regs, serial := s.serial + 1 } := by
  unfold State.startTask
  rw [h.taskBoundary]
  rfl

theorem mayIssue.startTask_queues : (s.startTask k w).1.queues = ((s.trigger k (s.queue k).next).modQueue k fun q =>
    { q with tasks := q.tasks ++ [(s.startTask k w).2], next := (loopNext (s.queue k).next (s.queue k).loops).1
             loops := (loopNext (s.queue k).next (s.queue k).loops).2 }).queues := by
  unfold State.startTask
  rw [h.taskBoundary]
  rfl

/-- The queue goes on behind the issued task (R111, R113). -/
theorem mayIssue.startTask_queue : let q := (s.startTask k w).1.queue k
    q.tasks = (s.queue k).tasks ++ [(s.startTask k w).2] ∧
      q.next = (loopNext (s.queue k).next (s.queue k).loops).1 ∧ q.loops = (loopNext (s.queue k).next (s.queue k).loops).2 := by
  rw [State.queue_congr (h.startTask_queues w), State.queue_modQueue_same, State.trigger, State.queue_modQueue_same]
  exact ⟨rfl, rfl, rfl⟩

theorem mayIssue.startTask_queue_other {j : Nat} (hj : j ≠ k) : (s.startTask k w).1.queue j = s.queue j := by
  rw [State.queue_congr (h.startTask_queues w), State.queue_modQueue_other _ _ hj, State.trigger,
    State.queue_modQueue_other _ _ hj]

theorem mayIssue.startTask_reg (r : Reg) (i : Nat) : (s.startTask k w).1.reg r i =
    if r = .queSlip ∧ i = k then wrapAdd32 (s.reg .queSlip k) w else s.reg r i := by
  unfold State.startTask
  rw [h.taskBoundary]
  exact State.reg_setReg _ _ _ _ _ _

/-- The issued task is in flight: every older one has a lower serial number. -/
theorem mayIssue.startTask_task? : (s.startTask k w).1.task? k s.serial = some (s.startTask k w).2 := by
  obtain ⟨tasks, -⟩ := h.startTask_queue w
  obtain ⟨serial, -⟩ := h.startTask_task w
  obtain ⟨-, -, -, -, -, -, -, -, older⟩ := h
  have absent : (s.queue k).tasks.find? (fun t => decide (t.serial = s.serial)) = none := by
    simpa using fun t ht => (older t ht).ne
  simp [State.task?, tasks, List.find?_append, absent, serial]

end

/-- Settles O33: the issue's frame, its queue and its slip, each by its own rule. -/
theorem startedTaskIsInFlight : Obligations.StartedTaskIsInFlight := by
  intro k w d s h u x
  obtain ⟨serial, index, desc, params, landed, waited⟩ := h.startTask_task w
  obtain ⟨tasks, next, loops⟩ := h.startTask_queue w
  have frame : u = _ := h.startTask_frame w
  have nextSerial : u.serial = s.serial + 1 := congrArg State.serial frame
  refine ⟨tasks, serial, nextSerial, index, desc, params, landed, waited, next, loops, ?_, ?_, ?_,
    fun j hj => h.startTask_queue_other w hj, fun r i hr => ?_⟩
  · rw [serial]
    exact h.startTask_task? w
  · rw [h.startTask_reg]
    simp
  · rw [nextSerial]
    exact frame
  · rw [h.startTask_reg, if_neg hr]

/-! ### Each command on its own type -/

section
variable {s : State} {k : Nat} {d : List W32} (h : mayIssue s k d)
include h

/-- What takes no unit of its own finds its unit free. -/
theorem mayIssue.unitFree_of_type (hd : dType d = 7 ∨ dType d = 8 ∨ 10 ≤ dType d) : s.unitFree k = true := by
  unfold State.unitFree
  simp only [h.desc_eq]
  split
  case h_8 => rfl
  all_goals omega

/-- The unit of a VEC task is its core's VEC context. -/
theorem mayIssue.vec_idle (hd : dType d = 4) (hu : s.unitFree k = true) :
    (s.core (s.queue k).lcore).vec.running = false := by
  unfold State.unitFree at hu
  simpa [h.desc_eq, hd] using hu

/-- A WAIT whose wait slots are READY opens no window before it issues (R131). -/
theorem mayIssue.waitHeld : s.waitHeld k = false := by
  obtain ⟨-, -, ready⟩ := h.runs
  unfold State.waitHeld
  simp [h.desc_eq, ready]

variable (w : Nat) {kind : List W32 → Bool} {accept : State → List W32 → Bool} (run : State → Task → State)

/-- A command of the task's kind puts it in flight and runs its action, when its unit is free and takes it. -/
theorem mayIssue.issueTask_runs (hk : kind d = true) (ha : accept s d = true) (hu : s.unitFree k = true) :
    s.issueTask k w kind accept run = run (s.startTask k w).1 (s.startTask k w).2 := by
  rw [h.issueTask_eq, hk, ha, hu]
  rfl

/-- A command of another kind leaves the queue as it is. -/
theorem mayIssue.issueTask_other (hk : kind d = false) : s.issueTask k w kind accept run = s := by
  rw [h.issueTask_eq, hk]
  rfl

/-- While its unit is not free no command issues the task. -/
theorem mayIssue.issueTask_full (hu : s.unitFree k = false) : s.issueTask k w kind accept run = s := by
  rw [h.issueTask_eq, hu, Bool.and_false]
  rfl

end

section
variable {s : State} (h : s.up = true) (t : Fin 8) (q : Fin 16) (w : Nat)
include h

theorem exec_matmul : exec (.matmul t q w) s = .next (s.issueTask (16 * t.val + q.val) w (fun d => decide (dType d = 1))
    (fun y d => y.matmulReady (16 * t.val + q.val) d) fun y r => y.runMatmul (16 * t.val + q.val) r) :=
  whenUp_up h fun x => x.issueTask ..

theorem exec_fused2 : exec (.fused2 t q w) s = .next (s.issueTask (16 * t.val + q.val) w (fun d => decide (dType d = 2))
    (fun y d => y.fusedReady (16 * t.val + q.val) d) fun y r => y.runFused (16 * t.val + q.val) r) :=
  whenUp_up h fun x => x.issueTask ..

theorem exec_conv : exec (.conv t q w) s = .next (s.issueTask (16 * t.val + q.val) w (fun d => decide (dType d = 3))
    (fun y d => y.convReady (16 * t.val + q.val) d) fun y r => y.runConv (16 * t.val + q.val) r) :=
  whenUp_up h fun x => x.issueTask ..

theorem exec_vec : exec (.vec t q w) s = .next (s.issueTask (16 * t.val + q.val) w (fun d => decide (dType d = 4))
    (fun y _ => !(y.core (y.queue (16 * t.val + q.val)).lcore).vec.running) fun y r => y.runVec (16 * t.val + q.val) r) :=
  whenUp_up h fun x => x.issueTask ..

theorem exec_move : exec (.move t q w) s = .next (s.issueTask (16 * t.val + q.val) w
    (fun d => decide (dType d = 5) && decide (vKind d ≠ 3)) (fun y d => !y.filling t (df d 4 23 0))
    fun y r => y.runMove (16 * t.val + q.val) r) :=
  whenUp_up h fun x => x.issueTask ..

theorem exec_moveToPeer : exec (.moveToPeer t q w) s = .next (s.issueTask (16 * t.val + q.val) w
    (fun d => decide (dType d = 5) && decide (vKind d = 3)) (fun y d => !y.filling t (df d 4 23 0))
    fun y r => y.runMovePeer (16 * t.val + q.val) r) :=
  whenUp_up h fun x => x.issueTask ..

theorem exec_send : exec (.send t q w) s = .next ((s.issueTask (16 * t.val + q.val) w (fun d => decide (dType d = 6))
    (fun y d => !y.filling t (df d 4 23 0)) fun y r => y.runSend (16 * t.val + q.val) r).wakeMesh 64) :=
  whenUp_up h fun x => (x.issueTask ..).wakeMesh 64

theorem exec_recv : exec (.recv t q w) s = .next ((s.issueTask (16 * t.val + q.val) w (fun d => decide (dType d = 7))
    (fun _ _ => true) fun y r => y.runRecv (16 * t.val + q.val) r).wakeMesh 64) :=
  whenUp_up h fun x => (x.issueTask ..).wakeMesh 64

theorem exec_loop : exec (.loop t q w) s = .next (s.issueTask (16 * t.val + q.val) w (fun d => decide (dType d = 10))
    (fun _ _ => true) fun y r => y.runLoop (16 * t.val + q.val) r) :=
  whenUp_up h fun x => x.issueTask ..

theorem exec_fence : exec (.fence t q w) s = .next (s.issueTask (16 * t.val + q.val) w (fun d => decide (dType d = 11))
    (fun _ _ => true) fun y r => y.runFence (16 * t.val + q.val) r) :=
  whenUp_up h fun x => x.issueTask ..

theorem exec_wait : exec (.wait t q w) s = .next (s.wait (16 * t.val + q.val) w) := whenUp_up h fun x => x.wait ..

/-- The four commands of a REDUCE differ in the operation that they issue (R380). -/
theorem exec_reduce {op : Nat} {c : Instr} (hc : (op = 0 ∧ c = .e8MaxPass t q w) ∨ (op = 1 ∧ c = .l32Sum t q w) ∨
    (op = 2 ∧ c = .orderedF32Sum t q w) ∨ (op = 3 ∧ c = .l32ToF32 t q w)) :
    exec c s = .next ((s.issueTask (16 * t.val + q.val) w (fun d => decide (dType d = 8) && decide (rOp d = op))
      (fun y d => !y.filling t (rSrc d) && !y.filling t (rAcc d)) fun y r => y.runReduce (16 * t.val + q.val) r).wakeMesh 64) := by
  have tenant : (16 * t.val + q.val) / 16 = t.val := by omega
  have issue : s.issueReduce (16 * t.val + q.val) w op = .next ((s.issueTask (16 * t.val + q.val) w
      (fun d => decide (dType d = 8) && decide (rOp d = op)) (fun y d => !y.filling t (rSrc d) && !y.filling t (rAcc d))
      fun y r => y.runReduce (16 * t.val + q.val) r).wakeMesh 64) := by
    unfold State.issueReduce
    rw [tenant]
    exact whenUp_up h _
  rcases hc with ⟨rfl, rfl⟩ | ⟨rfl, rfl⟩ | ⟨rfl, rfl⟩ | ⟨rfl, rfl⟩ <;> exact issue

end

/-- Settles O32: every command by the one equation of an issue that may take place. -/
theorem issueRunsTheTaskOfItsType : Obligations.IssueRunsTheTaskOfItsType := by
  intro t q w d s h k u x
  obtain ⟨up, -⟩ := id h
  refine ⟨fun free => ⟨fun hd ready => ?_, fun hd ready => ?_, fun hd ready => ?_, fun hd => ?_,
      fun hd still => ⟨fun near => ?_, fun peer => ?_⟩, fun hd still => ?_⟩,
    fun full => ⟨fun _ => ?_, fun _ => ?_, fun _ => ?_, fun _ => ?_, fun _ => ⟨?_, ?_⟩, fun _ => ?_⟩,
    fun hd => ?_, fun hd src acc c hc => ?_, fun hd => ?_, fun hd => ?_, fun hd => ?_,
    fun hd => ?_, fun hd => ?_, fun hd => ?_, fun hd => ?_, fun hd => ?_⟩
  · rw [exec_matmul up, h.issueTask_runs w _ (by simp [hd]) ready free]
  · rw [exec_fused2 up, h.issueTask_runs w _ (by simp [hd]) ready free]
  · rw [exec_conv up, h.issueTask_runs w _ (by simp [hd]) ready free]
  · rw [exec_vec up, h.issueTask_runs w _ (by simp [hd]) (by simp [h.vec_idle hd free]) free]
  · rw [exec_move up, h.issueTask_runs w _ (by simp [hd, near]) (by simp [still]) free]
  · rw [exec_moveToPeer up, h.issueTask_runs w _ (by simp [hd, peer]) (by simp [still]) free]
  · rw [exec_send up, h.issueTask_runs w _ (by simp [hd]) (by simp [still]) free]
  · rw [exec_matmul up, h.issueTask_full w _ full]
  · rw [exec_fused2 up, h.issueTask_full w _ full]
  · rw [exec_conv up, h.issueTask_full w _ full]
  · rw [exec_vec up, h.issueTask_full w _ full]
  · rw [exec_move up, h.issueTask_full w _ full]
  · rw [exec_moveToPeer up, h.issueTask_full w _ full]
  · rw [exec_send up, h.issueTask_full w _ full]
  · rw [exec_recv up, h.issueTask_runs w _ (by simp [hd]) rfl (h.unitFree_of_type (by omega))]
  · rw [exec_reduce up t q w hc, h.issueTask_runs w _ (by simp [hd]) (by simp [src, acc]) (h.unitFree_of_type (by omega))]
  · rw [exec_loop up, h.issueTask_runs w _ (by simp [hd]) rfl (h.unitFree_of_type (by omega))]
  · rw [exec_fence up, h.issueTask_runs w _ (by simp [hd]) rfl (h.unitFree_of_type (by omega))]
  · have issues : s.wait k w = s.issueTask k w (fun d => decide (dType d = 12)) (fun _ _ => true) fun y r => y.runWait k r := by
      unfold State.wait
      simp [k, h.waitHeld]
    rw [exec_wait up, issues, h.issueTask_runs w _ (by simp [hd]) rfl (h.unitFree_of_type (by omega))]
  · rw [exec_matmul up, h.issueTask_other w _ (by simp [hd])]
  · rw [exec_fused2 up, h.issueTask_other w _ (by simp [hd])]
  · rw [exec_conv up, h.issueTask_other w _ (by simp [hd])]
  · rw [exec_vec up, h.issueTask_other w _ (by simp [hd])]
  · rw [exec_loop up, h.issueTask_other w _ (by simp [hd])]

end Sys2Proof.Machine
end

section
/-! PROOF. GO and STOP (R135, Table 4-9): what a landed write of QUE_CTRL leaves, what the start of a queue changes, and
the two commands by the state that they find the queue in. -/
namespace Sys2Proof.Machine

/-! ### A write of QUE_CTRL lands -/

/-- QUE_CTRL after a landing write of a word. -/
def ctrlWord (old v : W32) : W32 := landValue .queCtrl old v

theorem bit_ctrlWord (old v : W32) (i : Nat) (h : i < 2) : bit (ctrlWord old v) i = bit v i := by
  have fields : ctrlWord old v =
    setFld (setFld (setFld old 31 16 (fld v 31 16)) 1 1 (fld v 1 1)) 0 0 (fld v 0 0) := rfl
  have bits (j : Nat) : (fld v j j).testBit 0 = bit v j := by
    simp [fld, bit, BitVec.getLsbD, Nat.testBit, Nat.shiftRight_eq_div_pow, Nat.and_comm 1]
  rw [fields, bit_setFld _ _ _ _ _ (by omega), bit_setFld _ _ _ _ _ (by omega)]
  obtain rfl | rfl : i = 0 ∨ i = 1 := by omega
  · simpa using bits 0
  · simpa using bits 1

theorem fld_ctrlWord (old v : W32) : fld (ctrlWord old v) 31 16 = fld v 31 16 := by
  have fields : ctrlWord old v =
    setFld (setFld (setFld old 31 16 (fld v 31 16)) 1 1 (fld v 1 1)) 0 0 (fld v 0 0) := rfl
  rw [fields, fld_setFld_other _ _ _ _ _ _ (by omega) (by omega), fld_setFld_other _ _ _ _ _ _ (by omega) (by omega),
    fld_setFld_same _ _ _ _ (by omega)]
  exact Nat.mod_mod _ _

theorem State.repair_sound {s : State} (h : sound s) (k : Nat) : s.repair k = s := by
  obtain ⟨latent, faulted⟩ := h
  unfold State.repair
  rw [latent, faulted]
  have : s.parity = ⟨[], []⟩ := by rw [← latent, ← faulted]
  rw [List.filter_nil, List.filter_nil, ← this]

theorem State.write_queCtrl {s : State} {f k : Nat} (h : sound s) (view : s.inView f .queCtrl k = true) (v : W32) :
    s.write f .queCtrl k true v = (s.setReg .queCtrl k (ctrlWord (s.reg .queCtrl k) v), true) := by
  have lands : s.writeKind f .queCtrl k true v = none := rfl
  have plain : s.land .queCtrl k v = (s.repair (rkey .queCtrl k)).setReg .queCtrl k (ctrlWord (s.reg .queCtrl k) v) := by
    unfold State.land
    rw [State.faulty_sound h]
    rfl
  unfold State.write
  rw [view, lands, plain, State.repair_sound h]
  rfl

/-! ### A queue starts -/

theorem Core.sbEntry_setSb (c : Core) (e j : Nat) (x : SbEntry) : (c.setSb e x).sbEntry j = if j = e then x else c.sbEntry j :=
  mget_mset _ _ _ _ _

theorem Core.sbEntry_emptied (c : Core) (base n e : Nat) :
    ((List.range n).foldl (fun x i => x.setSb (base + i) .empty) c).sbEntry e =
      if base ≤ e ∧ e < base + n then .empty else c.sbEntry e := by
  induction n with
  | zero => rw [if_neg (by omega)]; rfl
  | succ n ih =>
    rw [List.range_succ, List.foldl_append, List.foldl_cons, List.foldl_nil, Core.sbEntry_setSb, ih]
    by_cases last : e = base + n
    · rw [if_pos last, if_pos (by omega)]
    · rw [if_neg last]
      exact if_congr (by omega) rfl rfl

/-- The cores when queue k starts: what the prologue chose for the queue goes, and from DONE its scoreboard. -/
def State.startedCores (s : State) (k : Nat) : State :=
  let x := s.modCore (s.queue k).lcore fun c => c.dropChoice fun x => decide (x.1 = k)
  if s.qst k = 4 then x.clearSb k else x

theorem State.startedCores_frame (s : State) (k : Nat) : s.startedCores k = { s with cores := (s.startedCores k).cores } := by
  unfold State.startedCores
  dsimp only
  split <;> rfl

theorem State.startedCores_parity (s : State) (k : Nat) : (s.startedCores k).parity = s.parity := by
  rw [State.startedCores_frame]

theorem State.startedCores_regs (s : State) (k : Nat) : (s.startedCores k).regs = s.regs := by
  rw [State.startedCores_frame]

theorem State.startedCores_core (s : State) (k : Nat) (live : s.qst k ≠ 4) (m : Nat) : (s.startedCores k).core m =
    { s.core m with edges := ((s.startedCores k).core m).edges, ahead := ((s.startedCores k).core m).ahead
                    failed := ((s.startedCores k).core m).failed } := by
  unfold State.startedCores
  rw [if_neg live]
  by_cases hm : m = (s.queue k).lcore
  · rw [hm, State.core_modCore_same]
    rfl
  · rw [State.core_modCore_other _ _ hm]

theorem State.startedCores_sbEntry (s : State) (k : Nat) (done : s.qst k = 4) (e : Nat)
    (he : (s.queue k).sbBase ≤ e ∧ e < (s.queue k).sbBase + (s.queue k).sbCount) :
    ((s.startedCores k).core (s.queue k).lcore).sbEntry e = .empty := by
  unfold State.startedCores
  rw [if_pos done]
  have scoreboard := Core.sbEntry_emptied ((s.core (s.queue k).lcore).dropChoice fun x => decide (x.1 = k))
    (s.queue k).sbBase (s.queue k).sbCount e
  rw [if_pos he] at scoreboard
  have emptied (x : State) (hx : x.queues = s.queues) : ((x.clearSb k).core (s.queue k).lcore).sbEntry e =
      ((List.range (s.queue k).sbCount).foldl (fun c i => c.setSb ((s.queue k).sbBase + i) .empty)
        (x.core (s.queue k).lcore)).sbEntry e := by
    unfold State.clearSb
    dsimp only
    rw [State.queue_congr hx, State.core_modCore_same]
  rw [emptied (s.modCore _ _) rfl, State.core_modCore_same]
  exact scoreboard

section
variable {s : State} (h : sound s) (k : Nat)
include h

theorem State.startQueue_eq : s.startQueue k = (((s.startedCores k).modQueue k fun q =>
    { q with next := if s.qst k = 1 then 0 else s.rfld .queCtrl k 31 16, loops := [], goHeld := false, fired := []
             eligible := if s.qst k = 4 then [] else q.eligible }).setQst k 2).setRfld .queCtrl k 0 0 0 := by
  refine State.hwFld_sound ((sound_congr ?_).2 h) ..
  rw [State.setQst_parity]
  exact s.startedCores_parity k

/-- A start ends in RUNNING with a cleared GO bit; beside the two registers it changes queues and cores. -/
theorem State.startQueue_frame : let u := s.startQueue k
    u = { s with queues := u.queues, cores := u.cores, regs := u.regs } := by
  dsimp only
  rw [State.startQueue_eq h, State.startedCores_frame]
  rfl

theorem State.startQueue_mem : (s.startQueue k).mem = s.mem ∧ (s.startQueue k).homes = s.homes := by
  rw [State.startQueue_frame h]
  exact ⟨rfl, rfl⟩

theorem State.startQueue_core (m : Nat) : (s.startQueue k).core m = (s.startedCores k).core m := by
  rw [State.startQueue_eq h]
  rfl

theorem State.startQueue_queue : (s.startQueue k).queue k =
    { s.queue k with
      next := if s.qst k = 1 then 0 else s.rfld .queCtrl k 31 16, loops := [], goHeld := false, fired := []
      eligible := if s.qst k = 4 then [] else (s.queue k).eligible } := by
  rw [State.startQueue_eq h, State.setRfld_eq, State.queue_congr (State.setReg_queues ..),
    State.queue_congr (State.setQst_queues ..), State.queue_modQueue_same, State.startedCores_frame]
  rfl

theorem State.startQueue_queue_other {j : Nat} (hj : j ≠ k) : (s.startQueue k).queue j = s.queue j := by
  rw [State.startQueue_eq h, State.setRfld_eq, State.queue_congr (State.setReg_queues ..),
    State.queue_congr (State.setQst_queues ..), State.queue_modQueue_other _ _ hj, State.startedCores_frame]
  rfl

theorem State.startQueue_reg (r : Reg) (i : Nat) : (s.startQueue k).reg r i =
    if r = .queCtrl ∧ i = k then setFld (s.reg .queCtrl k) 0 0 0
    else if r = .queStatus ∧ i = k then setFld (s.reg .queStatus k) 18 16 2
    else s.reg r i := by
  have regs : ((s.startedCores k).modQueue k fun q =>
    { q with next := if s.qst k = 1 then 0 else s.rfld .queCtrl k 31 16, loops := [], goHeld := false, fired := []
             eligible := if s.qst k = 4 then [] else q.eligible }).regs = s.regs := s.startedCores_regs k
  rw [State.startQueue_eq h, State.setRfld_eq, State.reg_setReg]
  unfold State.setQst
  rw [State.setRfld_eq, State.reg_setReg_ne _ _ _ _ (by decide), State.reg_setReg, State.reg_congr regs,
    State.reg_congr regs, State.reg_congr regs]

theorem State.startQueue_qst : (s.startQueue k).qst k = 2 := by
  have status : (s.startQueue k).reg .queStatus k = setFld (s.reg .queStatus k) 18 16 2 := by
    rw [State.startQueue_reg h]
    simp
  unfold State.qst State.rfld
  rw [status]
  exact fld_setFld_same _ _ _ _ (by omega)

theorem State.startQueue_sameRegs : sameRegs (fun x i => (x = .queCtrl ∨ x = .queStatus) ∧ i = k) s (s.startQueue k) := by
  intro r i hr
  rw [State.startQueue_reg h, if_neg fun e => hr ⟨.inl e.1, e.2⟩, if_neg fun e => hr ⟨.inr e.1, e.2⟩]

end

/-! ### The effect of the write -/

section
variable {s : State} (h : sound s) (k : Nat)
include h

/-- GO without STOP starts a queue that is LOADED, HALTED or DONE. -/
theorem State.afterQueCtrl_go (go : bit (s.reg .queCtrl k) 0 = true) (stop : bit (s.reg .queCtrl k) 1 = false)
    (waits : s.qst k = 1 ∨ s.qst k = 3 ∨ s.qst k = 4) : s.afterQueCtrl k = s.startQueue k := by
  unfold State.afterQueCtrl
  rw [State.useReg_sound h]
  simp [go, stop, waits]

/-- A RUNNING queue holds a GO. -/
theorem State.afterQueCtrl_held (go : bit (s.reg .queCtrl k) 0 = true) (stop : bit (s.reg .queCtrl k) 1 = false)
    (runs : s.qst k = 2) : s.afterQueCtrl k = s.modQueue k fun q => { q with goHeld := true } := by
  unfold State.afterQueCtrl
  rw [State.useReg_sound h]
  simp [go, stop, runs]

/-- STOP without GO halts a RUNNING queue. -/
theorem State.afterQueCtrl_stop (go : bit (s.reg .queCtrl k) 0 = false) (stop : bit (s.reg .queCtrl k) 1 = true)
    (runs : s.qst k = 2) : s.afterQueCtrl k = s.enter k 3 := by
  unfold State.afterQueCtrl
  rw [State.useReg_sound h]
  simp [go, stop, runs]

end

theorem State.qst_setQst (s : State) (k v : Nat) (hv : v < 8) : (s.setQst k v).qst k = v := by
  have field : (s.setQst k v).qst k = v % 8 := s.rfld_setRfld_same _ _ _ _ _ (by omega)
  rw [field, Nat.mod_eq_of_lt hv]

/-- STOP sets HALTED, and the queue starts again when it holds a GO. -/
theorem State.enter_halted (s : State) (k : Nat) :
    s.enter k 3 = if (s.queue k).goHeld then (s.setQst k 3).startQueue k else s.setQst k 3 := by
  unfold State.enter State.takeGo
  rw [s.qst_setQst k 3 (by omega), State.queue_congr (s.setQst_queues k 3)]
  simp

/-! ### The commands -/

/-- The state in which a write of QUE_CTRL takes its effect. -/
def State.ctrlWritten (s : State) (k : Nat) (v : W32) : State := s.setReg .queCtrl k (ctrlWord (s.reg .queCtrl k) v)

theorem State.ctrlWritten_sameRegs (s : State) (k : Nat) (v : W32) :
    sameRegs (fun x i => x = .queCtrl ∧ i = k) s (s.ctrlWritten k v) := by
  intro r i hr
  exact s.reg_setReg_other _ hr

theorem State.ctrlWritten_qst (s : State) (k : Nat) (v : W32) : (s.ctrlWritten k v).qst k = s.qst k := by
  unfold State.qst State.rfld
  rw [s.ctrlWritten_sameRegs k v .queStatus k fun e => nomatch e.1]

theorem State.ctrlWritten_bit (s : State) (k : Nat) (v : W32) (i : Nat) (hi : i < 2) :
    bit ((s.ctrlWritten k v).reg .queCtrl k) i = bit v i := by
  unfold State.ctrlWritten
  rw [State.reg_setReg_same, bit_ctrlWord _ _ _ hi]

theorem State.ctrlWritten_restart (s : State) (k : Nat) (v : W32) : (s.ctrlWritten k v).rfld .queCtrl k 31 16 = fld v 31 16 := by
  unfold State.ctrlWritten State.rfld
  rw [State.reg_setReg_same, fld_ctrlWord]

/-- The words that GO and STOP write (R135, Table 4-9). -/
def goWord (restart : W16) : W32 := BitVec.ofNat 32 (restart.toNat * 65536 + 1)
def stopWord (restart : Nat) : W32 := BitVec.ofNat 32 (restart * 65536 + 2)

theorem fld_goWord (r : W16) : fld (goWord r) 31 16 = r.toNat := by
  have := r.isLt
  simp only [fld, goWord, BitVec.toNat_ofNat]
  omega

theorem bit_goWord (r : W16) : bit (goWord r) 0 = true ∧ bit (goWord r) 1 = false := by
  simp only [bit, goWord, BitVec.getLsbD_ofNat, Nat.testBit_eq_decide_div_mod_eq]
  simp
  omega

theorem fld_stopWord (r : Nat) (hr : r < 65536) : fld (stopWord r) 31 16 = r := by
  simp only [fld, stopWord, BitVec.toNat_ofNat]
  omega

theorem bit_stopWord (r : Nat) : bit (stopWord r) 0 = false ∧ bit (stopWord r) 1 = true := by
  simp only [bit, stopWord, BitVec.getLsbD_ofNat, Nat.testBit_eq_decide_div_mod_eq]
  simp
  omega

section
variable {s : State} (up : s.served = true) (h : sound s) {f : Fin 9} {t : Fin 8} {q : Fin 16} {k : Nat}
  (hk : k = 16 * t.val + q.val) (view : s.inView f .queCtrl k = true)
include up h hk view

theorem exec_queueGo (r : W16) : exec (.queueGo f t q r) s =
    .next ((s.ctrlWritten k (goWord r)).afterQueCtrl k) := by
  subst hk
  have served : exec (.queueGo f t q r) s = .next (s.queCtrl f (16 * t.val + q.val) (goWord r)) :=
    whenServed_up up fun x => x.queCtrl f _ (goWord r)
  rw [served, State.queCtrl, State.write_queCtrl h view]
  rfl

theorem exec_queueStop : exec (.queueStop f t q) s =
    .next ((s.ctrlWritten k (stopWord (s.rfld .queCtrl k 31 16))).afterQueCtrl
      k) := by
  subst hk
  have served : exec (.queueStop f t q) s =
      .next (s.queCtrl f (16 * t.val + q.val) (stopWord (s.rfld .queCtrl (16 * t.val + q.val) 31 16))) :=
    whenServed_up up fun x => x.queCtrl f _ (stopWord (x.rfld .queCtrl _ 31 16))
  rw [served, State.queCtrl, State.write_queCtrl h view]
  rfl

end
theorem State.ctrlWritten_sound {s : State} (h : sound s) (k : Nat) (v : W32) : sound (s.ctrlWritten k v) :=
  (sound_congr rfl).2 h

section
variable {s : State} (up : s.served = true) (h : sound s) {f : Fin 9} {t : Fin 8} {q : Fin 16} {k : Nat}
  (hk : k = 16 * t.val + q.val) (view : s.inView f .queCtrl k = true)
include up h hk view

/-- GO of a queue that is LOADED, HALTED or DONE starts it. -/
theorem exec_queueGo_starts (r : W16)
    (waits : s.qst k = 1 ∨ s.qst k = 3 ∨ s.qst k = 4) :
    exec (.queueGo f t q r) s = .next ((s.ctrlWritten k (goWord r)).startQueue k) := by
  obtain ⟨go, stop⟩ := bit_goWord r
  rw [exec_queueGo up h hk view, State.afterQueCtrl_go (State.ctrlWritten_sound h _ _) _
    ((s.ctrlWritten_bit _ _ 0 (by omega)).trans go) ((s.ctrlWritten_bit _ _ 1 (by omega)).trans stop)]
  rw [s.ctrlWritten_qst]
  exact waits

/-- GO of a RUNNING queue is held. -/
theorem exec_queueGo_held (r : W16) (runs : s.qst k = 2) : exec (.queueGo f t q r) s =
    .next ((s.ctrlWritten k (goWord r)).modQueue k fun q => { q with goHeld := true }) := by
  obtain ⟨go, stop⟩ := bit_goWord r
  rw [exec_queueGo up h hk view, State.afterQueCtrl_held (State.ctrlWritten_sound h _ _) _
    ((s.ctrlWritten_bit _ _ 0 (by omega)).trans go) ((s.ctrlWritten_bit _ _ 1 (by omega)).trans stop)
    ((s.ctrlWritten_qst _ _).trans runs)]

/-- STOP of a RUNNING queue halts it, or starts it again with the GO that it holds (Table 4-9). -/
theorem exec_queueStop_halts (runs : s.qst k = 2) : exec (.queueStop f t q) s =
    .next (if (s.queue k).goHeld
      then ((s.ctrlWritten k (stopWord (s.rfld .queCtrl k 31 16))).setQst k 3).startQueue k
      else (s.ctrlWritten k (stopWord (s.rfld .queCtrl k 31 16))).setQst k 3) := by
  obtain ⟨go, stop⟩ := bit_stopWord (s.rfld .queCtrl k 31 16)
  rw [exec_queueStop up h hk view, State.afterQueCtrl_stop (State.ctrlWritten_sound h _ _) _
    ((s.ctrlWritten_bit _ _ 0 (by omega)).trans go) ((s.ctrlWritten_bit _ _ 1 (by omega)).trans stop)
    ((s.ctrlWritten_qst _ _).trans runs), State.enter_halted]
  rfl

end

theorem sameRegs.trans {p p' : Reg → Nat → Prop} {s t u : State} (h : sameRegs p s t) (h' : sameRegs p' t u)
    (sub : ∀ r i, p r i → p' r i) : sameRegs p' s u :=
  fun r i hr => (h' r i hr).trans (h r i fun e => hr (sub r i e))

/-- The registers of a queue that GO and STOP change. -/
def ctrlRegs (k : Nat) (r : Reg) (i : Nat) : Prop := (r = .queCtrl ∨ r = .queStatus) ∧ i = k

theorem State.setQst_sameRegs (s : State) (k v : Nat) : sameRegs (ctrlRegs k) s (s.setQst k v) :=
  fun _ _ hr => s.reg_setReg_other _ fun e => hr ⟨.inr e.1, e.2⟩

theorem State.rfld_setQst_queCtrl (s : State) (k v hi lo : Nat) :
    (s.setQst k v).rfld .queCtrl k hi lo = s.rfld .queCtrl k hi lo := by
  unfold State.setQst State.rfld
  rw [State.setRfld_eq, State.reg_setReg_ne _ _ _ _ (by decide)]

theorem State.ctrlWritten_ctrlRegs (s : State) (k : Nat) (v : W32) : sameRegs (ctrlRegs k) s (s.ctrlWritten k v) :=
  fun r i hr => s.ctrlWritten_sameRegs k v r i fun e => hr ⟨.inl e.1, e.2⟩

section
variable {s : State} (h : sound s) (k : Nat)
include h

theorem State.startQueue_ctrlRegs : sameRegs (ctrlRegs k) s (s.startQueue k) := State.startQueue_sameRegs h k

theorem State.startQueue_goCleared : bit ((s.startQueue k).reg .queCtrl k) 0 = false := by
  rw [State.startQueue_reg h]
  simp [bit_setFld]

end

/-- Settles O37: both commands land their word, and the word's effect is a start, a held GO or a halt. -/
theorem goAndStopMoveTheQueue : Obligations.GoAndStopMoveTheQueue := by
  intro f t q s up h k view
  refine ⟨fun r waits => ?_, fun r done => ?_, fun r runs => ?_, fun runs free => ?_, fun runs held => ?_⟩
  · have written := State.ctrlWritten_sound h k (goWord r)
    have state := s.ctrlWritten_qst k (goWord r)
    have queue := State.startQueue_queue written k
    refine ⟨_, exec_queueGo_starts up h rfl view r (waits.imp_right .inl), State.startQueue_qst written k, ?_, ?_,
      State.startQueue_goCleared written k, ?_, fun m => ?_, fun j hj => State.startQueue_queue_other written k hj,
      (s.ctrlWritten_ctrlRegs k _).trans (State.startQueue_ctrlRegs written k) fun _ _ e => e⟩
    · rw [queue, state, s.ctrlWritten_restart, fld_goWord]
    · rw [queue]
    · rw [State.startQueue_frame written k]
      rfl
    · have live : (s.ctrlWritten k (goWord r)).qst k ≠ 4 := by omega
      rw [State.startQueue_core written, State.startedCores_core _ _ live]
      rfl
  · have written := State.ctrlWritten_sound h k (goWord r)
    have state := s.ctrlWritten_qst k (goWord r)
    have queue := State.startQueue_queue written k
    obtain ⟨mem, homes⟩ := State.startQueue_mem written k
    refine ⟨_, exec_queueGo_starts up h rfl view r (.inr (.inr done)), State.startQueue_qst written k, ?_, ?_, ?_, fun e lo hi => ?_,
      mem, homes, (s.ctrlWritten_ctrlRegs k _).trans (State.startQueue_ctrlRegs written k) fun _ _ e => e⟩
    · rw [queue, state, done, s.ctrlWritten_restart, fld_goWord]
      rfl
    · rw [queue]
    · rw [queue, if_pos (state.trans done)]
    · unfold State.sbEntry
      rw [queue, State.startQueue_core written]
      exact State.startedCores_sbEntry _ k (state.trans done) e ⟨lo, hi⟩
  · refine ⟨_, exec_queueGo_held up h rfl view r runs, ?_, (s.ctrlWritten_qst k (goWord r)).trans runs, rfl, rfl,
      s.ctrlWritten_sameRegs k _⟩
    rw [State.queue_modQueue_same]
  · have enters := exec_queueStop_halts up h rfl view runs
    rw [free, if_neg Bool.false_ne_true] at enters
    refine ⟨_, enters, State.qst_setQst _ k 3 (by omega), State.setQst_queues _ k 3, State.setQst_mem _ k 3,
      State.setQst_homes _ k 3, (s.ctrlWritten_ctrlRegs k _).trans (State.setQst_sameRegs _ k 3) fun _ _ e => e⟩
  · have enters := exec_queueStop_halts up h rfl view runs
    rw [held, if_pos rfl] at enters
    have written := State.ctrlWritten_sound h k (stopWord (s.rfld .queCtrl k 31 16))
    have halted := (sound_congr (State.setQst_parity _ k 3)).2 written
    have queue := State.startQueue_queue halted k
    obtain ⟨mem, homes⟩ := State.startQueue_mem halted k
    refine ⟨_, enters, State.startQueue_qst halted k, ?_, ?_, mem, homes,
      ((s.ctrlWritten_ctrlRegs k _).trans (State.setQst_sameRegs _ k 3) fun _ _ e => e).trans
        (State.startQueue_ctrlRegs halted k) fun _ _ e => e⟩
    · have kept : ((s.ctrlWritten k (stopWord (s.rfld .queCtrl k 31 16))).setQst k 3).rfld .queCtrl k 31 16 =
          s.rfld .queCtrl k 31 16 := by
        have small : s.rfld .queCtrl k 31 16 < 65536 := Nat.mod_lt _ (by omega)
        rw [State.rfld_setQst_queCtrl, State.ctrlWritten_restart, fld_stopWord _ small]
      rw [queue, State.qst_setQst _ k 3 (by omega), kept]
      rfl
    · rw [queue]

end Sys2Proof.Machine
end

section
/-! PROOF. What neither a read of the tiers nor an abort touches: the prefetch slots of the cores and the services of the
mailboxes. -/
namespace Sys2Proof.Machine

/-- The prefetch slots of every core and the services that run. -/
def State.abiding (s : State) : (Nat → List PfSlot) × SMap Svc := (fun n => (s.core n).slots, s.host.svc)

theorem State.abiding_of_work {s u : State} (hw : u.work = s.work) (hs : u.host.svc = s.host.svc) : u.abiding = s.abiding := by
  obtain ⟨hc, -⟩ := Prod.mk.inj hw
  have core (n : Nat) : u.core n = s.core n := congrArg (mget Core.init · n) hc
  unfold State.abiding
  simp only [core, hs]

theorem State.slots_of_abiding {s u : State} (h : u.abiding = s.abiding) (n : Nat) : (u.core n).slots = (s.core n).slots :=
  congrFun (congrArg Prod.fst h) n

theorem State.svc_of_abiding {s u : State} (h : u.abiding = s.abiding) (m : Nat) : u.svc m = s.svc m :=
  congrArg (mget Svc.init · m) (congrArg Prod.snd h : u.host.svc = s.host.svc)

theorem State.abiding_modCore (s : State) (n : Nat) (f : Core → Core) (hf : ∀ c, (f c).slots = c.slots) :
    (s.modCore n f).abiding = s.abiding := by
  have slots : (fun m => ((s.modCore n f).core m).slots) = fun m => (s.core m).slots := by
    funext m
    by_cases hm : m = n
    · rw [hm, State.core_modCore_same, hf]
    · rw [State.core_modCore_other s f hm]
  exact congrArg (Prod.mk · _) slots

@[simp] theorem State.abiding_modQueue (s : State) (k : Nat) (f : Queue → Queue) : (s.modQueue k f).abiding = s.abiding := rfl

theorem State.abiding_foldl {α : Type} {f : State → α → State} (hf : ∀ s a, (f s a).abiding = s.abiding) (l : List α)
    (s : State) : (l.foldl f s).abiding = s.abiding :=
  List.foldlRecOn (motive := fun u => u.abiding = s.abiding) l f rfl fun x hx a _ => (hf x a).trans hx

/-! ### Registers, interrupts and reports -/

@[simp] theorem State.abiding_setReg (s : State) (r : Reg) (i : Nat) (v : W32) : (s.setReg r i v).abiding = s.abiding := rfl
@[simp] theorem State.abiding_setRfld (s : State) (r : Reg) (i hi lo v : Nat) :
    (s.setRfld r i hi lo v).abiding = s.abiding := rfl
@[simp] theorem State.abiding_countSat (s : State) (r : Reg) (i n : Nat) : (s.countSat r i n).abiding = s.abiding := rfl
@[simp] theorem State.abiding_setQst (s : State) (k v : Nat) : (s.setQst k v).abiding = s.abiding := rfl
@[simp] theorem State.abiding_setPoison (s : State) (cw : Nat) (b : Bool) : (s.setPoison cw b).abiding = s.abiding := rfl
@[simp] theorem State.abiding_setLatent (s : State) (cw : Nat) (e : List (Nat × Nat)) :
    (s.setLatent cw e).abiding = s.abiding := rfl
@[simp] theorem State.abiding_putBytes (s : State) (a : Nat) (bs : List Byte) : (s.putBytes a bs).abiding = s.abiding := rfl
@[simp] theorem State.abiding_poisonHomes (s : State) (cw : Nat) : (s.poisonHomes cw).abiding = s.abiding := rfl

@[simp] theorem State.abiding_writeCorrected (s : State) (cw : Nat) : (s.writeCorrected cw).abiding = s.abiding := rfl

@[simp] theorem State.abiding_raise (s : State) (f n : Nat) : (s.raise f n).abiding = s.abiding := by
  refine State.abiding_of_work (s.work_raise f n) ?_
  unfold State.raise State.sendVec
  dsimp only
  (repeat' split) <;> rfl

@[simp] theorem State.abiding_raiseTenant (s : State) (t n : Nat) : (s.raiseTenant t n).abiding = s.abiding := by
  unfold State.raiseTenant
  split
  · exact s.abiding_raise ..
  · rfl

@[simp] theorem State.abiding_log (s : State) (k : Nat) (w : List Nat) : (s.log k w).abiding = s.abiding := by
  rw [State.log_frame]
  rfl

@[simp] theorem State.abiding_noticeUp (s : State) (c : Nat) (b : List Nat) : (s.noticeUp c b).abiding = s.abiding := by
  rw [State.noticeUp_frame]
  rfl

theorem State.abiding_record (s : State) (i : Nat) (r0 : Reg) (v0 : W32) (more : List (Reg × W32)) :
    (s.record i r0 v0 more).abiding = s.abiding := by
  unfold State.record
  dsimp only
  split
  · exact State.abiding_foldl (fun x p => x.abiding_setReg p.1 i p.2) more _
  · rfl

@[simp] theorem State.abiding_ciFault (s : State) (key : Nat) (copy sweeper : Bool) :
    (s.ciFault key copy sweeper).abiding = s.abiding := by
  unfold State.ciFault
  dsimp only
  rw [State.abiding_raise, State.abiding_log, State.abiding_countSat, State.abiding_record]
  rfl

@[simp] theorem State.abiding_hwFld (s : State) (r : Reg) (i hi lo v : Nat) :
    (s.hwFld r i hi lo v).abiding = s.abiding := by
  have used : (s.useReg r i).abiding = s.abiding := by
    unfold State.useReg
    split
    · exact s.abiding_ciFault ..
    · rfl
  unfold State.hwFld State.hwSet
  dsimp only
  split
  · exact used
  · exact used

/-! ### Reads of the tiers -/

@[simp] theorem State.abiding_ueRecord (s : State) (n cw source : Nat) : (s.ueRecord n cw source).abiding = s.abiding := by
  have asked (x : State) : (x.askRetire cw).abiding = x.abiding := by
    unfold State.askRetire
    dsimp only
    split <;> rfl
  unfold State.ueRecord
  dsimp only
  rw [asked, State.abiding_setLatent, State.abiding_setPoison, State.abiding_log]
  split
  · exact State.abiding_record ..
  · exact (State.abiding_raise ..).trans (State.abiding_record ..)

@[simp] theorem State.abiding_laneHistory (s : State) (n : Nat) (lanes : List Nat) :
    (s.laneHistory n lanes).abiding = s.abiding := by
  have shown (x : State) : (x.showErased n).abiding = x.abiding := by
    unfold State.showErased
    dsimp only
    rw [State.abiding_setRfld, State.abiding_setRfld]
    split
    · rw [State.abiding_setRfld, State.abiding_setRfld]
    · rw [State.abiding_setRfld]
  have erased (x : State) (lane : Nat) : (x.eraseLane n lane).abiding = x.abiding := by
    unfold State.eraseLane
    split
    · rfl
    · dsimp only
      rw [State.abiding_log, shown]
      rfl
  unfold State.laneHistory
  refine (State.abiding_foldl (fun x l => ?_) lanes _).trans rfl
  split
  · exact erased x l
  · rfl

theorem State.abiding_readCw (s : State) (source : Nat) (errs : List CwErr) (cw : Nat) :
    (s.readCw source errs cw).1.abiding = s.abiding := by
  unfold State.readCw
  split
  case h_1 => rfl
  case h_2 n _ =>
    dsimp only
    split
    · rfl
    split
    · exact s.abiding_ueRecord n cw source
    split
    case h_1 => exact s.abiding_ueRecord n cw source
    case h_2 => dsimp only; split <;> rfl
    case h_3 =>
      split
      all_goals
        refine (State.abiding_laneHistory ..).trans ?_
        split <;> rfl

theorem State.abiding_readRange (s : State) (source : Nat) (errs : List CwErr) (a len : Nat) :
    (s.readRange source errs a len).1.abiding = s.abiding :=
  List.foldlRecOn (motive := fun x : State × List Nat => x.1.abiding = s.abiding) _ _ rfl fun x hx cw _ =>
    (x.1.abiding_readCw source errs cw).trans hx

/-! ### Aborts -/

theorem State.abiding_haloGone (s : State) (n : Nat) (o : Nat × Nat) : (s.haloGone n o).abiding = s.abiding := by
  unfold State.haloGone
  split
  · rfl
  split
  · rfl
  · refine State.abiding_foldl (fun x l => ?_) _ s
    split
    · rfl
    · exact x.abiding_modCore _ _ fun _ => rfl

theorem State.abiding_genUpdate {s : State} {f : State → State} (hf : (f s).abiding = s.abiding) (t h g : Nat) :
    (s.genUpdate t h g f).abiding = s.abiding := by
  unfold State.genUpdate
  split
  · exact hf
  · rfl

theorem State.abiding_endMove (s : State) (k i : Nat) : (s.endMove k i).abiding = s.abiding := by
  unfold State.endMove
  split
  · rfl
  · exact (State.abiding_genUpdate (by split <;> rfl) ..).trans rfl

theorem State.abiding_voidWrite (s : State) (t h g : Nat) : (s.voidWrite t h g).abiding = s.abiding :=
  State.abiding_genUpdate (by dsimp only; split <;> rfl) t h g

@[simp] theorem State.abiding_setSb (s : State) (k e : Nat) (x : SbEntry) : (s.setSb k e x).abiding = s.abiding :=
  s.abiding_modCore _ _ fun _ => rfl

theorem State.abiding_restOver (s : State) (k : Nat) (t : Task) : (s.restOver k t).abiding = s.abiding := by
  unfold State.restOver
  dsimp only
  split
  · rfl
  · split <;> split <;> rfl

theorem State.abiding_writeRecord (s : State) (a : Nat) (bs : List Byte) : (s.writeRecord a bs).abiding = s.abiding := by
  have initialised (x : State) : (x.initGranule (a / 64 * 64)).abiding = x.abiding := by
    rw [State.initGranule_eq]
    rfl
  have read := s.abiding_readCw 2 [] (a / 64 * 64)
  unfold State.writeRecord
  dsimp only
  split
  · rw [State.abiding_putBytes]
    split
    · rw [initialised, read]
    · rw [State.abiding_writeCorrected, initialised, read]
  · rw [State.abiding_poisonHomes, read]

theorem State.abiding_putRecord (s : State) (k code ns : Nat) (t : Task) :
    (s.putRecord k code ns t).abiding = s.abiding := by
  unfold State.putRecord
  dsimp only
  rw [State.abiding_modQueue, State.abiding_setRfld]
  split
  · exact s.abiding_writeRecord ..
  · rfl

theorem State.abiding_haltReport (s : State) (k code core index peer : Nat) :
    (s.haltReport k code core index peer).abiding = s.abiding := by
  unfold State.haltReport
  split <;> simp

theorem State.abiding_startQueue (s : State) (k : Nat) : (s.startQueue k).abiding = s.abiding := by
  have cleared (x : State) : (x.clearSb k).abiding = x.abiding :=
    x.abiding_modCore _ _ fun c =>
      List.foldlRecOn (motive := fun y : Core => y.slots = c.slots) _ _ rfl fun _ hy _ _ => hy
  unfold State.startQueue
  dsimp only
  rw [State.abiding_hwFld, State.abiding_setQst, State.abiding_modQueue]
  split
  · exact (cleared _).trans (s.abiding_modCore _ _ fun _ => rfl)
  · exact s.abiding_modCore _ _ fun _ => rfl

theorem State.abiding_enter (s : State) (k st : Nat) : (s.enter k st).abiding = s.abiding := by
  unfold State.enter State.takeGo
  split
  · exact State.abiding_startQueue _ k
  · rfl

theorem State.abiding_recordNow (s : State) (k : Nat) (e : Ended) : (s.recordNow k e).abiding = s.abiding := by
  refine Eq.trans ?_ (s.abiding_putRecord k e.code e.ns e.task)
  unfold State.recordNow
  dsimp only
  generalize s.putRecord k e.code e.ns e.task = s1
  have irq (x : State) : (if dIrq e.task.desc then x.raiseTenant (k / 16) (k % 16) else x).abiding = x.abiding := by
    split <;> simp
  split
  · exact irq s1
  split
  · rw [State.abiding_enter]
    split
    · exact (State.abiding_haltReport ..).trans ((irq _).trans (State.abiding_raiseTenant ..))
    · exact (irq _).trans (State.abiding_raiseTenant ..)
  · exact (irq _).trans (State.abiding_raiseTenant ..)

theorem State.abiding_endTask (s : State) (k code : Nat) (t : Task) : (s.endTask k code t).abiding = s.abiding := by
  have flushed (x : State) : (x.flushRecords k).abiding = x.abiding := by
    unfold State.flushRecords
    refine (State.abiding_foldl (fun y e => y.abiding_recordNow k e) _ _).trans ?_
    exact x.abiding_modQueue k _
  unfold State.endTask
  rw [flushed, State.abiding_modQueue]
  unfold State.dropTask State.countTask
  rw [State.abiding_modQueue, State.abiding_countSat, State.abiding_countSat, State.abiding_countSat]

theorem State.abiding_abortTask (s : State) (k i code : Nat) : (s.abortTask k i code).abiding = s.abiding := by
  unfold State.abortTask
  split
  · rfl
  · next t _ =>
    have voided (x : State) : ((t.xlates.filter fun y => decide (1 ≤ y.mode)).foldl
        (fun x y => x.voidWrite (k / 16) y.handle y.gen) x).abiding = x.abiding :=
      State.abiding_foldl (fun u y => u.abiding_voidWrite ..) _ x
    have last (x : State) : (if x.ranOut k then x.enter k 4 else x).abiding = x.abiding := by
      split
      · exact x.abiding_enter k 4
      · rfl
    have signalled (x : State) (e : SbEntry) :
        (if dSigValid t.desc then x.setSb k (dSig t.desc) e else x).abiding = x.abiding := by
      split <;> simp
    dsimp only
    rw [last, State.abiding_endTask, State.abiding_restOver, signalled, voided, State.abiding_endMove,
      State.abiding_modCore, State.abiding_haloGone]
    exact fun _ => rfl

/-- The controllers' reports abort and mark, and no more. -/
theorem State.abiding_reportUe (s : State) (cws : List Nat) (own : Option (Nat × Nat)) :
    (s.reportUe cws own).abiding = s.abiding := by
  have marked : (cws.foldl (fun x cw => x.poisonHomes cw) s).abiding = s.abiding :=
    State.abiding_foldl (fun x cw => x.abiding_poisonHomes cw) cws s
  unfold State.reportUe
  dsimp only
  split
  · exact marked
  · exact (State.abiding_foldl (fun x p => x.abiding_abortTask ..) _ _).trans marked

theorem State.abiding_tierRead (s : State) (errs : List CwErr) (own : Option (Nat × Nat)) (a len : Nat) :
    (s.tierRead errs own a len).1.abiding = s.abiding :=
  (State.abiding_reportUe ..).trans (s.abiding_readRange 0 errs a len)

end Sys2Proof.Machine
end

section
/-! PROOF. Prefetches (R122 to R124): reads of memory that holds no error, the copy of a source into the yard, and the two
steps of a prefetch. -/
namespace Sys2Proof.Machine

/-! ### Memory without errors -/

section
variable {s : State} (h : readsClean s)
include h

/-- A codeword without an error reads, and its read changes nothing (R251). -/
theorem State.readCw_clean (source cw : Nat) : s.readCw source [] cw = (s, true) := by
  obtain ⟨latent, poison, erased⟩ := h
  have error : s.errorAt [] cw = [] := by
    unfold State.errorAt
    rw [latent]
    rfl
  have unpoisoned : s.poisoned cw = false := by
    unfold State.poisoned
    rw [poison]
    rfl
  have decodes (n : Nat) : s.decode n cw [] = some ([], []) := by
    have lanes : s.erased n = [] := by
      unfold State.erased
      rw [erased]
      rfl
    unfold State.decode
    simp only [lanes]
    rfl
  unfold State.readCw
  split
  · rfl
  · split
    · rfl
    · simp only [unpoisoned, error, decodes]
      rfl

theorem State.readRange_clean (source a len : Nat) : s.readRange source [] a len = (s, []) :=
  List.foldlRecOn (motive := fun x : State × List Nat => x = (s, [])) _ _ rfl fun x hx cw _ => by
    rw [hx]
    dsimp only
    rw [State.readCw_clean h]
    rfl

theorem State.data_clean (a len : Nat) : s.data a len = s.bytesAt a len := by
  unfold State.data
  rw [h.1]
  rfl

/-- A read of memory without errors reports nothing. -/
theorem State.tierRead_clean (own : Option (Nat × Nat)) (a len : Nat) : s.tierRead [] own a len = (s, true) := by
  unfold State.tierRead
  rw [State.readRange_clean h]
  rfl

end

/-! ### A copy of good codewords -/

/-- The byte at `a` comes from the part of a codeword that the copy of `len` bytes from `src` to `dst` takes. -/
def copiedFrom (src dst len cw a : Nat) : Bool :=
  decide (dst + (Nat.max cw src - src) ≤ a ∧
    a < dst + (Nat.max cw src - src) + (Nat.min (cw + 64) (src + len) - Nat.max cw src))

/-- Every byte of the range lies in a codeword of it. -/
theorem exists_copiedFrom (src dst len a : Nat) :
    (∃ cw ∈ codewords src len, copiedFrom src dst len cw a) ↔ dst ≤ a ∧ a < dst + len := by
  unfold copiedFrom codewords
  by_cases empty : len = 0
  · simp [empty]
  rw [if_neg empty]
  simp only [List.mem_map, List.mem_range, decide_eq_true_eq]
  constructor
  · rintro ⟨_, ⟨i, hi, rfl⟩, lo, hi'⟩
    simp only [Nat.max_def, Nat.min_def] at lo hi'
    split_ifs at lo hi' <;> omega
  · rintro ⟨lo, hi⟩
    refine ⟨_, ⟨(src + (a - dst)) / 64 - src / 64, by omega, rfl⟩, ?_⟩
    simp only [Nat.max_def, Nat.min_def]
    split_ifs <;> omega

theorem State.length_bytesAt (s : State) (a len : Nat) : (s.bytesAt a len).length = len := by
  simp [State.bytesAt]

theorem State.getElem?_bytesAt (s : State) (a len : Nat) {i : Nat} (hi : i < len) :
    (s.bytesAt a len)[i]? = some (s.byte (a + i)) := by
  simp [State.bytesAt, hi]

/-- A copy of a range without an uncorrectable codeword brings its bytes to the destination (R123). -/
theorem State.byte_copyGood {s : State} (h : readsClean s) (src dst len a : Nat) :
    (s.copyGood [] src dst len).byte a = if dst ≤ a ∧ a < dst + len then s.byte (src + (a - dst)) else s.byte a := by
  have part (x : State) (cw : Nat) : (x.putBytes (dst + (Nat.max cw src - src))
      (s.data (Nat.max cw src) (Nat.min (cw + 64) (src + len) - Nat.max cw src))).byte a =
        if copiedFrom src dst len cw a then s.byte (src + (a - dst)) else x.byte a := by
    rw [State.byte_putBytes, State.data_clean h, State.length_bytesAt]
    refine ite_congr (by simp [copiedFrom]) (fun inside => ?_) fun _ => rfl
    obtain ⟨lo, hi⟩ := of_decide_eq_true inside
    have above : src ≤ Nat.max cw src := Nat.le_max_right ..
    have place : Nat.max cw src + (a - (dst + (Nat.max cw src - src))) = src + (a - dst) := by omega
    rw [State.getElem?_bytesAt _ _ _ (by omega), place]
    rfl
  have copied (l : List Nat) (x : State) : (l.foldl (fun x cw => x.putBytes (dst + (Nat.max cw src - src))
      (s.data (Nat.max cw src) (Nat.min (cw + 64) (src + len) - Nat.max cw src))) x).byte a =
        if ∃ cw ∈ l, copiedFrom src dst len cw a then s.byte (src + (a - dst)) else x.byte a := by
    induction l generalizing x with
    | nil => simp
    | cons cw l ih =>
      rw [List.foldl_cons, ih, part]
      by_cases tail : ∃ c ∈ l, copiedFrom src dst len c a <;> by_cases head : copiedFrom src dst len cw a <;>
        simp [tail, head]
  unfold State.copyGood
  simp only [List.contains_nil, Bool.false_eq_true, if_false]
  rw [copied]
  exact if_congr (exists_copiedFrom src dst len a) rfl rfl

theorem State.copyGood_frame (s : State) (bad : List Nat) (src dst len : Nat) :
    s.copyGood bad src dst len = { s with mem := (s.copyGood bad src dst len).mem } := by
  unfold State.copyGood
  refine List.foldlRecOn (motive := fun x : State => x = { s with mem := x.mem }) _ _ rfl fun x hx cw _ => ?_
  split
  · exact hx
  · rw [hx]
    rfl

/-! ### The two steps of a prefetch -/

@[simp] theorem State.sbEntry_setSb_same (s : State) (k e : Nat) (x : SbEntry) : (s.setSb k e x).sbEntry k e = x := by
  have core : (s.setSb k e x).core (s.queue k).lcore = (s.core (s.queue k).lcore).setSb e x := s.core_modCore_same _ _
  exact (congrArg (Core.sbEntry · e) core).trans ((Core.sbEntry_setSb ..).trans (if_pos rfl))

theorem State.queue_setSb (s : State) (k e j : Nat) (x : SbEntry) : (s.setSb k e x).queue j = s.queue j := rfl

section
variable {s : State} (h : s.up = true) (n : Fin 16)
include h

theorem exec_prefetchIssue : exec (.prefetchIssue n) s = .next (s.prefIssue n) := whenUp_up h fun x => x.prefIssue n

theorem exec_prefetchLand (slot : Fin 6) (errs : List CwErr) :
    exec (.prefetchLand n slot errs) s = .next (s.prefLand n slot errs) := whenUp_up h fun x => x.prefLand n slot errs

end

/-- The slot that a prefetch takes (R123). -/
def State.prefSlot (s : State) (n k i it : Nat) : PfSlot :=
  let e := (s.queue k).pref i
  let x := s.home (k / 16) (pSrc e)
  { tenant := k / 16, queue := k % 16, index := i, handle := pSrc e, gen := x.gen, zeros := decide (x.st = stUnwritten)
    src := x.addr + pOffset e it, bytes := pBytes e, dst := s.yardAddr n (pDst e), entry := pEntry e, oldHome := false }

section
variable {s : State} {n k i it : Nat} (hk : s.prefQueue n = some k) (hi : (s.queue k).firstPref = some (i, it))
include hk hi

/-- A prefetch whose source fails makes its scoreboard entry VOID and takes no slot (R124). -/
theorem State.prefIssue_faults (bad : s.prefCode k ((s.queue k).pref i) (pOffset ((s.queue k).pref i) it) ≠ 0) :
    s.prefIssue n = (s.modQueue k fun x => { x with eligible := x.eligible.erase (i, it) }).setSb k
      (pEntry ((s.queue k).pref i)) ⟨2, pSrc ((s.queue k).pref i),
        s.prefCode k ((s.queue k).pref i) (pOffset ((s.queue k).pref i) it)⟩ := by
  unfold State.prefIssue
  simp only [hk, hi, bad, ne_eq, not_false_eq_true, if_true]

/-- A prefetch whose source passes takes a slot and counts a cold read (R123, R277). -/
theorem State.prefIssue_passes (good : s.prefCode k ((s.queue k).pref i) (pOffset ((s.queue k).pref i) it) = 0) :
    s.prefIssue n = ((s.modQueue k fun x => { x with eligible := x.eligible.erase (i, it) }).coldRead (k / 16)
      (pSrc ((s.queue k).pref i))).modCore n fun c => { c with slots := c.slots ++ [s.prefSlot n k i it] } := by
  unfold State.prefIssue
  simp only [hk, hi, good, ne_eq, not_true_eq_false, if_false]
  rfl

end

/-- The state in which a slot of the core has been freed. -/
def State.freeSlot (s : State) (n slot : Nat) : State := s.modCore n fun c => { c with slots := c.slots.eraseIdx slot }

section
variable {s : State} {n slot : Nat} {p : PfSlot} (hp : (s.core n).slots[slot]? = some p)
include hp

/-- A source that reads as zeros lands as zeros (R277). -/
theorem State.prefLand_zeros (errs : List CwErr) (hz : p.zeros = true) : s.prefLand n slot errs =
    ((s.freeSlot n slot).putBytes p.dst (List.replicate p.bytes 0)).setSb (16 * p.tenant + p.queue) p.entry
      ⟨1, p.handle, 0⟩ := by
  unfold State.prefLand
  simp only [hp, hz, if_true]
  rfl

theorem State.prefLand_reads (errs : List CwErr) (hz : p.zeros = false) : s.prefLand n slot errs =
    let r := (s.freeSlot n slot).readRange 0 errs p.src p.bytes
    ((r.1.copyGood r.2 p.src p.dst p.bytes).reportUe r.2 none).setSb (16 * p.tenant + p.queue) p.entry
      (if r.2.isEmpty then ⟨1, p.handle, 0⟩ else ⟨2, p.handle, 0x50⟩) := by
  unfold State.prefLand
  simp only [hp, hz, Bool.false_eq_true, if_false]
  rfl

theorem State.prefLand_clean (hz : p.zeros = false) (clean : readsClean s) : s.prefLand n slot [] =
    ((s.freeSlot n slot).copyGood [] p.src p.dst p.bytes).setSb (16 * p.tenant + p.queue) p.entry ⟨1, p.handle, 0⟩ := by
  have still : readsClean (s.freeSlot n slot) := clean
  rw [State.prefLand_reads hp [] hz, State.readRange_clean still]
  rfl

/-- A prefetch that lands frees its slot and ends in its scoreboard entry (R123). -/
theorem State.prefLand_ends (errs : List CwErr) : ∃ (y : State) (v : SbEntry),
    s.prefLand n slot errs = y.setSb (16 * p.tenant + p.queue) p.entry v ∧
    (v = ⟨1, p.handle, 0⟩ ∨ v = ⟨2, p.handle, 0x50⟩) ∧ y.abiding = (s.freeSlot n slot).abiding := by
  cases hz : p.zeros with
  | true => exact ⟨_, _, State.prefLand_zeros hp errs hz, .inl rfl, rfl⟩
  | false =>
    refine ⟨_, _, State.prefLand_reads hp errs hz, ?_, ?_⟩
    · split
      · exact .inl rfl
      · exact .inr rfl
    · rw [State.abiding_reportUe, State.copyGood_frame]
      exact State.abiding_readRange ..

theorem State.prefLand_slots (errs : List CwErr) : ((s.prefLand n slot errs).core n).slots = (s.core n).slots.eraseIdx slot := by
  obtain ⟨y, v, ends, -, kept⟩ := State.prefLand_ends hp errs
  rw [ends, State.slots_of_abiding (State.abiding_setSb ..), State.slots_of_abiding kept, State.freeSlot,
    State.core_modCore_same]

end

/-- Settles O36: the issue's two outcomes, the two sources that land, and the end that every landing has. -/
theorem prefetchFillsItsEntry : Obligations.PrefetchFillsItsEntry := by
  intro n s up
  refine ⟨fun k i it hk hi => ?issue, fun slot p hp hz _ => ?_, fun slot p hp hz clean _ => ?_,
    fun slot errs p hp _ => ?_, fun slot hp errs => ?_, fun hk => ?_⟩
  case issue =>
    intro e off
    refine ⟨fun bad => ?_, fun good _ => ?_⟩
    · refine ⟨_, exec_prefetchIssue up n, ?_⟩
      rw [State.prefIssue_faults hk hi bad]
      refine ⟨State.sbEntry_setSb_same .., rfl, ?_⟩
      rw [State.queue_setSb, State.queue_modQueue_same]
    · refine ⟨_, exec_prefetchIssue up n, ?_⟩
      rw [State.prefIssue_passes hk hi good]
      have core : (((s.modQueue k fun x => { x with eligible := x.eligible.erase (i, it) }).coldRead (k / 16)
          (pSrc ((s.queue k).pref i))).core n) = s.core n := congrArg (mget Core.init · n.val) (State.coldRead_cores ..)
      rw [State.core_modCore_same, core]
      refine ⟨by simp, ⟨s.prefSlot n k i it, by simp, rfl, rfl, rfl, rfl, rfl⟩, ?_, ?_⟩
      · exact congrArg Queue.eligible ((State.queue_congr (State.coldRead_queues ..) k).trans (s.queue_modQueue_same k _))
      · exact State.coldRead_mem ..
  · refine ⟨_, exec_prefetchLand up n slot [], fun a => ?_, ?_, State.prefLand_slots hp [], ?_, ?_⟩
    all_goals rw [State.prefLand_zeros hp [] hz]
    · refine (State.byte_putBytes ..).trans ?_
      rw [List.length_replicate]
      refine ite_congr rfl (fun inside => ?_) fun _ => rfl
      rw [List.getElem?_replicate, if_pos (by omega)]
      rfl
    · exact State.sbEntry_setSb_same ..
    · rfl
    · rfl
  · refine ⟨_, exec_prefetchLand up n slot [], fun a => ?_, ?_, State.prefLand_slots hp [], ?_, ?_⟩
    all_goals rw [State.prefLand_clean hp hz clean]
    · have still : readsClean (s.freeSlot n slot) := clean
      exact State.byte_copyGood still ..
    · exact State.sbEntry_setSb_same ..
    · rw [State.copyGood_frame]
      rfl
    · rw [State.copyGood_frame]
      rfl
  · obtain ⟨y, v, ends, either, -⟩ := State.prefLand_ends hp errs
    refine ⟨_, exec_prefetchLand up n slot errs, State.prefLand_slots hp errs, ?_⟩
    rw [ends, State.sbEntry_setSb_same]
    exact either
  · rw [exec_prefetchLand up]
    unfold State.prefLand
    rw [hp]
  · rw [exec_prefetchIssue up]
    unfold State.prefIssue
    rw [hk]

end Sys2Proof.Machine
end

section
/-! PROOF. The queue services (Table 18-7, R104, R177): QUEUE_OPEN up to the loader, the loader's two ends, and QUEUE_CLOSE. -/
namespace Sys2Proof.Machine

/-! ### QUEUE_OPEN -/

/-- What QUEUE_OPEN of mailbox m asks for: its core, its queue, its image and that image's length (Table 18-7). -/
def openCore (b : List W32) : Nat := fld (wordAt b 0) 3 0
def openKey (t : Nat) (b : List W32) : Nat := 16 * t + fld (wordAt b 0) 19 16
def openAddr (b : List W32) : Nat := (wordAt b 1).toNat + fld (wordAt b 2) 15 0 * 2 ^ 32
def openLen (b : List W32) : Nat := (wordAt b 3).toNat

/-- The queue that loads an image which a read of memory has delivered. -/
def openQueue (m : Nat) (b : List W32) (x : State × List W32 × Bool) : Queue :=
  { Queue.init with lcore := openCore b, img := x.2.1, imgBad := !x.2.2, imgAddr := openAddr b, imgLen := openLen b
                    mailbox := some m, loading := true }

/-- The loader of a queue begins: the queue is CLOSED until it has ended, and its ring base is set. -/
def State.opens (s : State) (m k : Nat) (q : Queue) (base : W32) : State :=
  ((((s.beginSvc m).setQueue k q).setQst k 0).hwFld .queCtrl k 1 0 0).setBoth .queRingbase k base

theorem exec_queueOpen {s : State} (up : s.up = true) {m : Fin 64} {t : Nat} (asked : s.asked m 1 = true)
    (ht : s.cfg.funcTenant (s.svc m).func = some t) : exec (.queueOpen m) s = .next (s.queueOpen m t (s.svc m).body) := by
  have served : exec (.queueOpen m) s = .next (s.serve m 1 fun t b => s.queueOpen m t b) :=
    whenUp_up up fun x => x.serve m 1 fun t b => x.queueOpen m t b
  rw [served, State.serve_asked asked ht]

section
variable (s : State) (m t : Nat) (b : List W32)

theorem State.queueOpen_eq : s.queueOpen m t b =
    if !(s.inWindows t (openAddr b) (openLen b) && isFast (openAddr b)) then s.endSvc m 3
    else
      let x := s.takeImage (openAddr b) (openLen b)
      let code := x.1.openRefusal t (openKey t b) (openCore b) (openQueue m b x)
      if code ≠ 0 then x.1.endSvc m code else x.1.opens m (openKey t b) (openQueue m b x) (wordAt b 4) := rfl

theorem State.queueOpen_outside (out : s.inWindows t (openAddr b) (openLen b) = false ∨ isFast (openAddr b) = false) :
    s.queueOpen m t b = s.endSvc m 3 := by
  rw [State.queueOpen_eq]
  rcases out with out | out <;> simp [out]

theorem State.queueOpen_inside (win : s.inWindows t (openAddr b) (openLen b) = true) (fast : isFast (openAddr b) = true) :
    s.queueOpen m t b =
      let x := s.takeImage (openAddr b) (openLen b)
      let code := x.1.openRefusal t (openKey t b) (openCore b) (openQueue m b x)
      if code ≠ 0 then x.1.endSvc m code else x.1.opens m (openKey t b) (openQueue m b x) (wordAt b 4) := by
  rw [State.queueOpen_eq, win, fast]
  rfl

end

theorem State.takeImage_clean {s : State} (h : readsClean s) (a len : Nat) :
    s.takeImage a len = (s, s.readImage a len, true) := by
  unfold State.takeImage
  rw [State.tierRead_clean h]

/-- A service that a mailbox asks for has no result yet. -/
theorem State.asked_result {s : State} {m c : Nat} (h : s.asked m c = true) : (s.svc m).result = none := by
  unfold State.asked at h
  simpa using (Bool.and_eq_true_iff.1 h).2

section
variable (s : State) (m k : Nat) (q : Queue) (base : W32)

theorem State.opens_sound (h : sound s) : s.opens m k q base =
    ((((s.beginSvc m).setQueue k q).setQst k 0).setRfld .queCtrl k 1 0 0).setBoth .queRingbase k base := by
  unfold State.opens
  rw [State.hwFld_sound ((sound_congr ?_).2 h)]
  rw [State.setQst_parity]
  exact s.beginSvc_parity m

variable (h : sound s)
include h

/-- Beside its registers an opening changes its queue and its service. -/
theorem State.opens_frame : s.opens m k q base =
    { (s.beginSvc m).setQueue k q with regs := (s.opens m k q base).regs, staged := (s.opens m k q base).staged } := by
  have tail (x : State) : ((x.setQst k 0).setRfld .queCtrl k 1 0 0).setBoth .queRingbase k base =
    { x with regs := (((x.setQst k 0).setRfld .queCtrl k 1 0 0).setBoth .queRingbase k base).regs
             staged := (((x.setQst k 0).setRfld .queCtrl k 1 0 0).setBoth .queRingbase k base).staged } := rfl
  rw [State.opens_sound s m k q base h]
  exact tail _

theorem State.opens_queue (j : Nat) : (s.opens m k q base).queue j = if j = k then q else s.queue j := by
  have queues : (s.opens m k q base).queue j = ((s.beginSvc m).setQueue k q).queue j := by
    rw [State.opens_frame s m k q base h]
    rfl
  rw [queues]
  split
  · next e => rw [e, State.queue_setQueue_same]
  · next e =>
    rw [State.queue_setQueue_other _ _ e]
    rfl

theorem State.opens_svc : (s.opens m k q base).svc m = { s.svc m with begun := true } := by
  rw [State.opens_frame s m k q base h]
  exact s.svc_setSvc_same m _

theorem State.opens_mem : (s.opens m k q base).mem = s.mem ∧ (s.opens m k q base).homes = s.homes := by
  rw [State.opens_frame s m k q base h]
  exact ⟨rfl, rfl⟩

theorem State.opens_reg (r : Reg) (i : Nat) : (s.opens m k q base).reg r i =
    if r = .queRingbase ∧ i = k then base else if r = .queCtrl ∧ i = k then setFld (s.reg .queCtrl k) 1 0 0
    else if r = .queStatus ∧ i = k then setFld (s.reg .queStatus k) 18 16 0 else s.reg r i := by
  have ring (x : State) : (x.setBoth .queRingbase k base).reg r i =
      if r = .queRingbase ∧ i = k then base else x.reg r i := State.reg_setReg ..
  have begun : ((s.beginSvc m).setQueue k q).regs = s.regs := s.beginSvc_regs m
  rw [State.opens_sound s m k q base h, ring, State.setRfld_eq, State.reg_setReg]
  unfold State.setQst
  rw [State.setRfld_eq, State.reg_setReg_ne _ _ _ _ (by decide), State.reg_setReg, State.reg_congr begun, State.reg_congr begun,
    State.reg_congr begun]

end

/-! ### QUEUE_CLOSE -/

/-- The queue that QUEUE_CLOSE names. -/
def closeKey (t : Nat) (b : List W32) : Nat := 16 * t + fld (wordAt b 0) 3 0

/-- A queue still has a task or a prefetch in flight. -/
def State.queueBusy (s : State) (k : Nat) : Bool :=
  !(s.queue k).tasks.isEmpty || (s.core (s.queue k).lcore).slots.any fun p => decide (16 * p.tenant + p.queue = k)

/-- The queue is CLOSED, and a rest window of its own closes with it. -/
def State.closes (s : State) (m k : Nat) : State :=
  (((s.modCore (s.queue k).lcore fun c => { c with rest := match c.rest with
      | some r => if r.queue = k then none else some r
      | none => none }).setQst k 0).setQueue k Queue.init).endSvc m 0

theorem State.queueClose_eq (s : State) (m t : Nat) (b : List W32) : s.queueClose m t b =
    if s.qst (closeKey t b) = 2 ∨ (s.queue (closeKey t b)).loading then s.endSvc m 2
    else if s.queueBusy (closeKey t b) then s else s.closes m (closeKey t b) := rfl

section
variable (s : State) (m t : Nat) (b : List W32)

theorem State.queueClose_refused (runs : s.qst (closeKey t b) = 2 ∨ (s.queue (closeKey t b)).loading = true) :
    s.queueClose m t b = s.endSvc m 2 := by
  rw [State.queueClose_eq, if_pos runs]

variable (stopped : s.qst (closeKey t b) ≠ 2) (loaded : (s.queue (closeKey t b)).loading = false)
include stopped loaded

theorem State.queueClose_waits (waits : s.queueBusy (closeKey t b) = true) : s.queueClose m t b = s := by
  rw [State.queueClose_eq, if_neg (by simp [stopped, loaded]), if_pos waits]

theorem State.queueClose_closes (idle : s.queueBusy (closeKey t b) = false) :
    s.queueClose m t b = s.closes m (closeKey t b) := by
  rw [State.queueClose_eq, if_neg (by simp [stopped, loaded]), if_neg (by simp [idle])]

end

theorem exec_queueClose {s : State} (up : s.up = true) {m : Fin 64} {t : Nat} (asked : s.asked m 2 = true)
    (ht : s.cfg.funcTenant (s.svc m).func = some t) : exec (.queueClose m) s = .next (s.queueClose m t (s.svc m).body) := by
  have served : exec (.queueClose m) s = .next (s.serve m 2 fun t b => s.queueClose m t b) :=
    whenUp_up up fun x => x.serve m 2 fun t b => x.queueClose m t b
  rw [served, State.serve_asked asked ht]

section
variable (s : State) (m k : Nat)

theorem State.closes_queue : (s.closes m k).queue k = Queue.init :=
  (State.queue_congr (State.endSvc_queues ..) k).trans (State.queue_setQueue_same ..)

theorem State.closes_reg (r : Reg) (i : Nat) :
    (s.closes m k).reg r i = if r = .queStatus ∧ i = k then setFld (s.reg .queStatus k) 18 16 0 else s.reg r i :=
  (State.reg_congr (State.endSvc_regs ..) r i).trans (State.reg_setReg ..)

theorem State.closes_mem : (s.closes m k).mem = s.mem ∧ (s.closes m k).homes = s.homes :=
  ⟨State.endSvc_mem .., State.endSvc_homes ..⟩

theorem State.closes_svc : ((s.closes m k).svc m).result = some 0 := by
  unfold State.closes
  rw [State.svc_endSvc]

end

/-! ### The loader ends -/

/-- The service of the mailbox that opened a queue ends, and the queue loads no longer. -/
theorem State.endOpen_svc (s : State) (k code m : Nat) (hm : (s.queue k).mailbox = some m) :
    ((s.endOpen k code).svc m).result = some code := by
  unfold State.endOpen
  rw [hm]
  exact congrArg Svc.result (s.svc_endSvc m code)

theorem State.endOpen_keeps (s : State) (k code : Nat) : (s.endOpen k code).regs = s.regs ∧
    (s.endOpen k code).mem = s.mem ∧ (s.endOpen k code).homes = s.homes := by
  unfold State.endOpen
  split
  · next m _ => exact ⟨s.endSvc_regs m code, s.endSvc_mem m code, s.endSvc_homes m code⟩
  · exact ⟨rfl, rfl, rfl⟩

theorem State.endOpen_loading (s : State) (k code : Nat) : ((s.endOpen k code).queue k).loading = false := by
  unfold State.endOpen
  dsimp only
  rw [State.queue_modQueue_same]

theorem State.setRunId_frame (s : State) (k : Nat) : s.setRunId k = { s with regs := (s.setRunId k).regs } := by
  unfold State.setRunId
  dsimp only
  split <;> rfl

theorem State.setRunId_status (s : State) (k i : Nat) : (s.setRunId k).reg .queStatus i = s.reg .queStatus i := by
  unfold State.setRunId
  dsimp only
  split
  · rw [State.reg_setReg_ne _ _ _ _ (by decide), State.reg_setReg_ne _ _ _ _ (by decide),
      State.reg_setReg_ne _ _ _ _ (by decide)]
  · rfl

/-- The words of QUE_STATUS and QUE_LDINFO for an image that fails a check: REJECTED with its code and place (R175, R177). -/
def failStatus (f : LoadFail) : W32 := BitVec.ofNat 32 (f.code * 2 ^ 24 + 5 * 2 ^ 16 + f.place)
def failInfo (f : LoadFail) : W32 := BitVec.ofNat 32 (b2n f.loopRow.isSome * 2 ^ 8 + f.row)

/-- The registers of a queue that is rejected. -/
def State.showFail (s : State) (k : Nat) (status info : W32) (row : Option Nat) : State :=
  let x := (s.setReg .queStatus k status).setReg .queLdinfo k info
  match row with
  | some r => x.setReg .queLdrow k (BitVec.ofNat 32 r)
  | none => x

section
variable (s : State) (k : Nat) (status info : W32) (row : Option Nat)

theorem State.showFail_frame : s.showFail k status info row = { s with regs := (s.showFail k status info row).regs } := by
  cases row <;> rfl

theorem State.showFail_status : (s.showFail k status info row).reg .queStatus k = status := by
  have shown : ((s.setReg .queStatus k status).setReg .queLdinfo k info).reg .queStatus k = status := by
    rw [State.reg_setReg_ne _ _ _ _ (by decide), State.reg_setReg_same]
  unfold State.showFail
  cases row with
  | none => exact shown
  | some r => exact (State.reg_setReg_ne _ _ _ _ (by decide)).trans shown

end

/-- The registers, the queue and its scoreboard when an image has passed every check (R118, R177, R391). -/
def State.accepted (s : State) (k : Nat) : State :=
  ((((s.setReg .queLdinfo k 0).setQst k 1).clearSb k).modQueue k fun q => { q with gens := s.prefGens k }).setRunId k

theorem State.accepted_frame (s : State) (k : Nat) : s.accepted k =
    { s.modQueue k fun q => { q with gens := s.prefGens k } with
      regs := (s.accepted k).regs, cores := (s.accepted k).cores } := by
  have image (x : State) (g : SMap Nat) : (x.clearSb k).modQueue k (fun q => { q with gens := g }) =
    { x with cores := (x.clearSb k).cores, queues := (x.modQueue k fun q => { q with gens := g }).queues } := rfl
  have info : (s.setReg .queLdinfo k 0).setQst k 1 = { s with regs := ((s.setReg .queLdinfo k 0).setQst k 1).regs } := rfl
  unfold State.accepted
  rw [State.setRunId_frame, image, info]
  rfl

theorem State.accepted_mailbox (s : State) (k : Nat) : ((s.accepted k).queue k).mailbox = (s.queue k).mailbox := by
  rw [State.accepted_frame]
  exact (congrArg Queue.mailbox (s.queue_modQueue_same k fun q => { q with gens := s.prefGens k }) :)

theorem State.accepted_status (s : State) (k : Nat) :
    (s.accepted k).reg .queStatus k = setFld (s.reg .queStatus k) 18 16 1 := by
  unfold State.accepted
  rw [State.setRunId_status]
  refine (State.reg_congr rfl _ _ : _ = ((s.setReg .queLdinfo k 0).setQst k 1).reg .queStatus k).trans ?_
  unfold State.setQst
  rw [State.setRfld_eq, State.reg_setReg_same, State.reg_setReg_ne _ _ _ _ (by decide)]

section
variable {s : State} {k : Nat} (loading : (s.queue k).loading = true)
include loading

theorem State.loadDone_fails (h : sound s) {f : LoadFail} (hf : s.loadFail k = some f) : s.loadDone k =
    (((s.showFail k (failStatus f) (failInfo f) f.loopRow).setRfld .queCtrl k 0 0 0).modQueue k fun q =>
      { q with goHeld := false }).endOpen k 3 := by
  have shown : sound (s.showFail k (failStatus f) (failInfo f) f.loopRow) := by
    refine (sound_congr ?_).2 h
    rw [State.showFail_frame]
  unfold State.loadDone
  simp only [loading, hf, Bool.not_true, Bool.false_eq_true, if_false]
  rw [← State.hwFld_sound shown]
  rfl

theorem State.loadDone_passes (free : (s.queue k).goHeld = false) (hf : s.loadFail k = none) :
    s.loadDone k = (s.accepted k).endOpen k 0 := by
  unfold State.loadDone
  simp only [loading, free, hf, Bool.not_true, Bool.false_eq_true, if_false]
  rfl

end

theorem exec_manifestLoadDone {s : State} (up : s.up = true) (t : Fin 8) (q : Fin 16) :
    exec (.manifestLoadDone t q) s = .next (s.loadDone (16 * t.val + q.val)) :=
  whenUp_up up fun x => x.loadDone (16 * t.val + q.val)

theorem State.qst_of_status {s : State} {k v : Nat} {w : W32} (h : s.reg .queStatus k = setFld w 18 16 v) (hv : v < 8) :
    s.qst k = v := by
  unfold State.qst State.rfld
  rw [h, fld_setFld_same _ _ _ _ (by omega)]
  exact Nat.mod_eq_of_lt hv

/-- The loader ends its queue's service with the outcome of its checks (R174, R177). -/
theorem State.loadDone_ends {s : State} {k : Nat} (h : sound s) (loading : (s.queue k).loading = true)
    (free : (s.queue k).goHeld = false) : ∃ y : State,
      s.loadDone k = y.endOpen k (if (s.loadFail k).isSome then 3 else 0) ∧ y.mem = s.mem ∧ y.homes = s.homes ∧
      (y.queue k).mailbox = (s.queue k).mailbox ∧
      y.reg .queStatus k = (s.loadFail k).elim (setFld (s.reg .queStatus k) 18 16 1) failStatus := by
  cases hf : s.loadFail k with
  | none =>
    have frame := s.accepted_frame k
    exact ⟨s.accepted k, State.loadDone_passes loading free hf, (congrArg State.mem frame :), (congrArg State.homes frame :),
      s.accepted_mailbox k, s.accepted_status k⟩
  | some f =>
    have frame := s.showFail_frame k (failStatus f) (failInfo f) f.loopRow
    have mem : (s.showFail k (failStatus f) (failInfo f) f.loopRow).mem = s.mem := (congrArg State.mem frame :)
    have homes : (s.showFail k (failStatus f) (failInfo f) f.loopRow).homes = s.homes := (congrArg State.homes frame :)
    refine ⟨_, State.loadDone_fails loading h hf, mem, homes, ?_, ?_⟩
    · rw [State.queue_modQueue_same, State.setRfld_eq, State.queue_congr (State.setReg_queues ..), frame]
      rfl
    · refine Eq.trans ?_ (s.showFail_status k (failStatus f) (failInfo f) f.loopRow)
      exact State.reg_setReg_ne _ _ _ _ (by decide)

/-- Settles O29: each service by its equation, and the image's read by what it leaves of the service. -/
theorem queueServices : Obligations.QueueServices := by
  refine ⟨fun m t s up h ht => ?_, fun t q s up h loading free => ?_⟩
  · intro b
    refine ⟨fun asked => ?opens, fun asked => ?closes⟩
    case opens =>
      intro k a len x q
      have opens := exec_queueOpen up asked ht
      refine ⟨fun clean => State.takeImage_clean clean a len, fun out => ?_, fun win fast => ?_⟩
      · rw [opens, State.queueOpen_outside s m t b out]
      · rw [State.queueOpen_inside s m t b win fast] at opens
        refine ⟨fun c hc refused => ?_, fun passes hx => ?_⟩
        · rw [opens]
          exact congrArg Host.Outcome.next ((if_pos (refused.symm ▸ hc)).trans (congrArg (x.1.endSvc m) refused))
        · have kept : x.1.svc m = s.svc m := State.svc_of_abiding (State.abiding_tierRead ..) m
          have service := State.opens_svc x.1 m k q (wordAt b 4) hx
          obtain ⟨mem, homes⟩ := State.opens_mem x.1 m k q (wordAt b 4) hx
          have reg := State.opens_reg x.1 m k q (wordAt b 4) hx
          have queue := State.opens_queue x.1 m k q (wordAt b 4) hx
          refine ⟨x.1.opens m k q (wordAt b 4), opens.trans (congrArg Host.Outcome.next (if_neg (not_not.2 passes))), ?_, ?_, ?_,
            ?_, ?_, mem, homes, fun j hj => ?_, fun r i hr => ?_⟩
          · rw [queue, if_pos rfl]
          · refine State.qst_of_status (w := x.1.reg .queStatus k) ?_ (by omega)
            rw [reg]
            simp
          · rw [service]
          · rw [service, kept]
            exact State.asked_result asked
          · rw [reg, if_pos ⟨rfl, rfl⟩]
          · rw [queue, if_neg hj]
          · rw [reg, if_neg fun e => hr ⟨.inr (.inr e.1), e.2⟩, if_neg fun e => hr ⟨.inr (.inl e.1), e.2⟩,
              if_neg fun e => hr ⟨.inl e.1, e.2⟩]
    case closes =>
      intro k busy
      have closes := exec_queueClose up asked ht
      refine ⟨fun runs => ?_, fun stopped loaded waits => ?_, fun stopped loaded idle => ?_⟩
      · rw [closes, s.queueClose_refused m t b runs]
      · rw [closes, s.queueClose_waits m t b stopped loaded waits]
      · rw [s.queueClose_closes m t b stopped loaded idle] at closes
        obtain ⟨mem, homes⟩ := s.closes_mem m k
        refine ⟨_, closes, s.closes_queue m k, ?_, s.closes_svc m k, mem, homes, fun r i hr => ?_⟩
        · refine State.qst_of_status (w := s.reg .queStatus k) ?_ (by omega)
          exact (s.closes_reg m k .queStatus k).trans (if_pos ⟨rfl, rfl⟩)
        · exact (s.closes_reg m k r i).trans (if_neg hr)
  · obtain ⟨y, ends, mem, homes, box, status⟩ := State.loadDone_ends h loading free
    obtain ⟨regs, mem', homes'⟩ := y.endOpen_keeps (16 * t.val + q.val) (if (s.loadFail (16 * t.val + q.val)).isSome then 3 else 0)
    refine ⟨_, (exec_manifestLoadDone up t q).trans (congrArg Host.Outcome.next ends), y.endOpen_loading _ _, mem'.trans mem,
      homes'.trans homes, fun m hm => y.endOpen_svc _ _ m (box.trans hm), ?_⟩
    have reg := (State.reg_congr regs .queStatus (16 * t.val + q.val)).trans status
    cases hf : s.loadFail (16 * t.val + q.val) with
    | none =>
      rw [hf] at reg
      exact State.qst_of_status reg (by omega)
    | some f =>
      rw [hf] at reg
      exact reg

end Sys2Proof.Machine
end

section
/-! PROOF. Completion (R116, R128, R71): a record in clean memory, the end of a task step by step, a task that completes
behind an older one, and the events of late manifests and rest windows. -/
namespace Sys2Proof.Machine

/-! ### Records -/

/-- Where the next completion record of queue k stands (R128). -/
def State.recordAddr (s : State) (k : Nat) : Nat :=
  (s.applied .queRingbase k (s.queue k).lcore).toNat * 32768 + 32 * s.rfld .queRinghead k 9 0

theorem length_recordBytes (k lcore code ns : Nat) (t : Task) : (recordBytes k lcore code ns t).length = 32 := by
  simp [recordBytes]

theorem State.bytesAt_of_byte {s : State} {a : Nat} {bs : List Byte} (h : ∀ i < bs.length, s.byte (a + i) = (bs[i]?).getD 0) :
    s.bytesAt a bs.length = bs := by
  apply List.ext_getElem
  · exact s.length_bytesAt a _
  · intro i hi hi'
    have at_i := h i hi'
    rw [List.getElem?_eq_getElem hi'] at at_i
    simpa [State.bytesAt] using at_i

/-! Reads of registers, queues, memory and the caravan past what touches none of them. -/

@[simp] theorem State.byte_modQueue (s : State) (k a : Nat) (f : Queue → Queue) : (s.modQueue k f).byte a = s.byte a := rfl
@[simp] theorem State.byte_setRfld (s : State) (r : Reg) (i hi lo v a : Nat) : (s.setRfld r i hi lo v).byte a = s.byte a := rfl
@[simp] theorem State.mem_modQueue (s : State) (k : Nat) (f : Queue → Queue) : (s.modQueue k f).mem = s.mem := rfl
@[simp] theorem State.caravan_modQueue (s : State) (k : Nat) (f : Queue → Queue) :
    (s.modQueue k f).caravan = s.caravan := rfl
@[simp] theorem State.reg_modQueue (s : State) (k : Nat) (f : Queue → Queue) (r : Reg) (i : Nat) :
    (s.modQueue k f).reg r i = s.reg r i := rfl
@[simp] theorem State.reg_putBytes (s : State) (a : Nat) (bs : List Byte) (r : Reg) (i : Nat) :
    (s.putBytes a bs).reg r i = s.reg r i := rfl
@[simp] theorem State.reg_initGranule (s : State) (a : Nat) (r : Reg) (i : Nat) : (s.initGranule a).reg r i = s.reg r i := by
  rw [State.initGranule_eq]
  rfl
@[simp] theorem State.queue_setRfld (s : State) (r : Reg) (i hi lo v k : Nat) : (s.setRfld r i hi lo v).queue k = s.queue k := rfl
@[simp] theorem State.queue_putBytes (s : State) (a : Nat) (bs : List Byte) (k : Nat) :
    (s.putBytes a bs).queue k = s.queue k := rfl
@[simp] theorem State.queue_initGranule (s : State) (a k : Nat) : (s.initGranule a).queue k = s.queue k := by
  rw [State.initGranule_eq]
  rfl

section
variable {s : State} (h : readsClean s)
include h

/-- On clean memory a record replaces its bytes and, with its granule, nothing else. -/
theorem State.writeRecord_clean (a : Nat) (bs : List Byte) :
    s.writeRecord a bs = (s.initGranule (a / 64 * 64)).putBytes a bs := by
  have latent : (s.initGranule (a / 64 * 64)).mem.latent = [] := by
    unfold State.initGranule
    (repeat' split) <;> exact h.1
  have error : (s.initGranule (a / 64 * 64)).errorAt [] (a / 64 * 64) = [] := by
    unfold State.errorAt
    rw [latent]
    rfl
  unfold State.writeRecord
  dsimp only
  rw [State.readCw_clean h]
  dsimp only
  rw [if_pos rfl, error]
  rfl

variable {k : Nat} (win : s.inWindows (k / 16) (s.recordAddr k) 32 = true) (fast : isFast (s.recordAddr k) = true)
  (code ns : Nat) (t : Task)
include win fast

theorem State.putRecord_clean : s.putRecord k code ns t =
    (((s.initGranule (s.recordAddr k / 64 * 64)).putBytes (s.recordAddr k)
      (recordBytes k (s.queue k).lcore code ns t)).setRfld .queRinghead k 9 0 ((s.rfld .queRinghead k 9 0 + 1) % 1024)).modQueue k
        fun q => { q with ringFull := decide ((s.rfld .queRinghead k 9 0 + 1) % 1024 = s.rfld .queRingtail k 9 0) } := by
  have inside : (s.inWindows (k / 16) (s.recordAddr k) 32 && isFast (s.recordAddr k)) = true := by rw [win, fast]; rfl
  rw [← State.writeRecord_clean h]
  exact congrArg (fun y : State => (y.setRfld .queRinghead k 9 0 ((s.rfld .queRinghead k 9 0 + 1) % 1024)).modQueue k
    fun q => { q with ringFull := decide ((s.rfld .queRinghead k 9 0 + 1) % 1024 = s.rfld .queRingtail k 9 0) }) (if_pos inside)

theorem State.putRecord_keeps : (s.putRecord k code ns t).homes = s.homes ∧ (s.putRecord k code ns t).cores = s.cores ∧
    (s.putRecord k code ns t).caravan = s.caravan := by
  have tail (x : State) (a v : Nat) (bs : List Byte) (f : Queue → Queue) :
      let u := ((x.putBytes a bs).setRfld .queRinghead k 9 0 v).modQueue k f
      u.homes = x.homes ∧ u.cores = x.cores ∧ u.caravan = x.caravan := ⟨rfl, rfl, rfl⟩
  have granule := tail (s.initGranule (s.recordAddr k / 64 * 64))
  rw [State.putRecord_clean h win fast]
  rw [State.initGranule_eq] at granule ⊢
  exact granule ..

theorem State.putRecord_byte (j : Nat) : (s.putRecord k code ns t).byte j =
    if s.recordAddr k ≤ j ∧ j < s.recordAddr k + 32
    then ((recordBytes k (s.queue k).lcore code ns t)[j - s.recordAddr k]?).getD 0 else s.byte j := by
  rw [State.putRecord_clean h win fast, State.byte_modQueue, State.byte_setRfld, State.byte_putBytes, length_recordBytes,
    State.byte_congr (s.initGranule_bytes _)]

theorem State.putRecord_reg (r : Reg) (i : Nat) : (s.putRecord k code ns t).reg r i = if r = .queRinghead ∧ i = k
    then setFld (s.reg .queRinghead k) 9 0 ((s.rfld .queRinghead k 9 0 + 1) % 1024) else s.reg r i := by
  rw [State.putRecord_clean h win fast, State.reg_modQueue, State.setRfld_eq, State.reg_setReg]
  simp only [State.reg_putBytes, State.reg_initGranule]

theorem State.putRecord_queue : (s.putRecord k code ns t).queue k = { s.queue k with
    ringFull := decide ((s.rfld .queRinghead k 9 0 + 1) % 1024 = s.rfld .queRingtail k 9 0) } := by
  rw [State.putRecord_clean h win fast, State.queue_modQueue_same, State.queue_setRfld, State.queue_putBytes,
    State.queue_initGranule]

end

/-! ### The end of a task -/

/-- A serial number that one task of a list carries names it. -/
theorem find?_serial {l : List Task} {i : Nat} {x : Task} (hx : l[i]? = some x) (nodup : (l.map (·.serial)).Nodup) :
    l.find? (fun t => decide (t.serial = x.serial)) = some x := by
  have member := List.mem_of_getElem? hx
  obtain ⟨y, hy⟩ : ∃ y, l.find? (fun t => decide (t.serial = x.serial)) = some y := by
    rw [← Option.isSome_iff_exists, List.find?_isSome]
    exact ⟨x, member, by simp⟩
  have same : y.serial = x.serial := by simpa using List.find?_some hy
  rw [hy, List.inj_on_of_nodup_map nodup (List.mem_of_find?_eq_some hy) member same]

theorem State.task?_at {s : State} {k i : Nat} {x : Task} (hx : (s.queue k).tasks[i]? = some x)
    (nodup : ((s.queue k).tasks.map (·.serial)).Nodup) : s.task? k x.serial = some x := find?_serial hx nodup

/-- With distinct serial numbers, dropping a serial number drops one place. -/
theorem filter_serial {l : List Task} {i : Nat} {x : Task} (hx : l[i]? = some x) (nodup : (l.map (·.serial)).Nodup) :
    l.filter (fun t => !decide (t.serial = x.serial)) = l.eraseIdx i := by
  induction l generalizing i with
  | nil => simp at hx
  | cons y l ih =>
    obtain ⟨fresh, nodup⟩ := List.nodup_cons.1 nodup
    cases i with
    | zero =>
      obtain rfl : y = x := by simpa using hx
      have others : ∀ t ∈ l, (!decide (t.serial = y.serial)) = true := fun t ht => by
        simpa using fun e => fresh (List.mem_map.2 ⟨t, ht, e⟩)
      simpa using List.filter_eq_self.2 others
    | succ i =>
      have hx : l[i]? = some x := by simpa using hx
      have differs : y.serial ≠ x.serial := fun e => fresh (List.mem_map.2 ⟨x, List.mem_of_getElem? hx, e.symm⟩)
      simpa [differs] using ih hx nodup

theorem State.sbEntry_congr {s u : State} {k : Nat} (cores : u.cores = s.cores) (lcore : (u.queue k).lcore = (s.queue k).lcore)
    (e : Nat) : u.sbEntry k e = s.sbEntry k e := by
  unfold State.sbEntry State.core
  rw [cores, lcore]

/-- What the completion of a task signals: its released entries are EMPTY and its own is READY (R116). -/
def State.signals (s : State) (k : Nat) (t : Task) : State :=
  let x := (releaseEntries t.desc).foldl (fun x e => x.setSb k e .empty) s
  if dSigValid t.desc then x.setSb k (dSig t.desc) ⟨1, dDst t.desc, 0⟩ else x

theorem State.signals_frame (s : State) (k : Nat) (t : Task) : s.signals k t = { s with cores := (s.signals k t).cores } := by
  have released : (releaseEntries t.desc).foldl (fun x e => x.setSb k e .empty) s =
      { s with cores := ((releaseEntries t.desc).foldl (fun x e => x.setSb k e .empty) s).cores } :=
    List.foldlRecOn (motive := fun x : State => x = { s with cores := x.cores }) _ _ rfl fun x hx e _ => by
      rw [hx]
      rfl
  unfold State.signals
  dsimp only
  split
  · rw [released]
    rfl
  · exact released

theorem State.signals_sbEntry (s : State) (k : Nat) (t : Task) (h : dSigValid t.desc = true) :
    (s.signals k t).sbEntry k (dSig t.desc) = ⟨1, dDst t.desc, 0⟩ := by
  unfold State.signals
  rw [if_pos h, State.sbEntry_setSb_same]

/-- A task is in flight no longer: it is counted, and its record is due (R71, R128). -/
def State.endsTask (s : State) (k code : Nat) (t : Task) : State :=
  ((s.countTask (s.queue k).lcore t).dropTask k t.serial).modQueue k fun q =>
    { q with unrecorded := insertEnded ⟨t, code, s.clock.ptp⟩ q.unrecorded }

theorem State.endTask_eq (s : State) (k code : Nat) (t : Task) : s.endTask k code t = (s.endsTask k code t).flushRecords k := rfl

section
variable (s : State) (k code : Nat) (t : Task)

theorem State.endsTask_mem : (s.endsTask k code t).mem = s.mem := by
  simp only [State.endsTask, State.dropTask, State.modQueue, State.countTask, State.countSat_eq, State.setQueue_mem, State.setReg_mem]
theorem State.endsTask_homes : (s.endsTask k code t).homes = s.homes := by
  simp only [State.endsTask, State.dropTask, State.modQueue, State.countTask, State.countSat_eq, State.setQueue_homes, State.setReg_homes]
theorem State.endsTask_cores : (s.endsTask k code t).cores = s.cores := by
  simp only [State.endsTask, State.dropTask, State.modQueue, State.countTask, State.countSat_eq, State.setQueue_cores, State.setReg_cores]
theorem State.endsTask_staged : (s.endsTask k code t).staged = s.staged := by
  simp only [State.endsTask, State.dropTask, State.modQueue, State.countTask, State.countSat_eq, State.setQueue_staged, State.setReg_staged]
theorem State.endsTask_cfg : (s.endsTask k code t).cfg = s.cfg := by
  simp only [State.endsTask, State.dropTask, State.modQueue, State.countTask, State.countSat_eq, State.setQueue_cfg, State.setReg_cfg]
theorem State.endsTask_caravan : (s.endsTask k code t).caravan = s.caravan := by
  simp only [State.endsTask, State.dropTask, State.modQueue, State.countTask, State.countSat_eq, State.setQueue_caravan, State.setReg_caravan]
theorem State.queue_countTask (n j : Nat) : (s.countTask n t).queue j = s.queue j := by
  simp only [State.countTask, State.countSat_eq, State.queue_congr (State.setReg_queues ..)]

theorem State.endsTask_queue : (s.endsTask k code t).queue k = { s.queue k with
    tasks := (s.queue k).tasks.filter fun x => !decide (x.serial = t.serial)
    fence := if (s.queue k).fence = some t.serial then none else (s.queue k).fence
    unrecorded := insertEnded ⟨t, code, s.clock.ptp⟩ (s.queue k).unrecorded } := by
  unfold State.endsTask State.dropTask
  rw [State.queue_modQueue_same, State.queue_modQueue_same, State.queue_countTask]

end

/-- A task's counts grow its core's counters, each up to its maximum (R71). -/
theorem State.reg_countTask (s : State) (n : Nat) (t : Task) (r : Reg) (i : Nat) : (s.countTask n t).reg r i =
    if i = n then
      if r = .coreNumsat then satAdd32 (s.reg .coreNumsat n) t.sat
      else if r = .coreNumflush then satAdd32 (s.reg .coreNumflush n) t.flush
      else if r = .coreNumnan then satAdd32 (s.reg .coreNumnan n) t.nan
      else s.reg r i
    else s.reg r i := by
  unfold State.countTask
  simp only [State.countSat_eq, State.reg_setReg]
  by_cases hi : i = n
  · subst hi
    by_cases hs : r = .coreNumsat
    · simp [hs]
    by_cases hf : r = .coreNumflush
    · simp [hf]
    by_cases hn : r = .coreNumnan
    · simp [hn]
    simp [hs, hf, hn]
  · simp [hi]

section
variable {s : State} {k : Nat} {e : Ended} (due : (s.queue k).unrecorded = [e])
include due

/-- A record that is due alone is written once no earlier task is in flight (R128). -/
theorem State.flushRecords_first (first : ∀ y ∈ (s.queue k).tasks, e.task.serial < y.serial) :
    s.flushRecords k = (s.modQueue k fun y => { y with unrecorded := y.unrecorded.drop 1 }).recordNow k e := by
  have all : ((s.queue k).tasks.all fun t => decide (e.task.serial < t.serial)) = true := by simpa using first
  unfold State.flushRecords
  simp [due, all]

/-- Behind an earlier task it stays owed (R128, log 123). -/
theorem State.flushRecords_waits (waits : ∃ y ∈ (s.queue k).tasks, y.serial ≤ e.task.serial) :
    s.flushRecords k = s.modQueue k fun y => { y with unrecorded := y.unrecorded.drop 0 } := by
  have all : ((s.queue k).tasks.all fun t => decide (e.task.serial < t.serial)) = false := by
    simpa [List.all_eq_false] using waits
  unfold State.flushRecords
  simp [due, all]

end

theorem State.recordNow_done (s : State) (k ns : Nat) {t : Task} (quiet : dIrq t.desc = false) :
    s.recordNow k ⟨t, 0, ns⟩ = s.putRecord k 0 ns t := by
  unfold State.recordNow
  simp [quiet]

theorem State.completeTask_eq {s : State} {k : Nat} {t : Task} (ht : s.task? k t.serial = some t) (bare : t.xlates = [])
    (open' : t.windowEnd = none) : s.completeTask k t.serial =
      let x := ((s.signals k t).endTask k 0 t).modQueue k fun q => { q with ended := q.ended + 1 }
      if x.ranOut k then x.enter k 4 else x := by
  have window (x : State) : x.restOver k t = x := by
    unfold State.restOver
    simp [open']
  unfold State.completeTask
  simp only [ht, bare, List.filter_nil, List.foldl_nil, window]
  rfl

/-- The state in which the record of a completing task is written. -/
def State.recording (s : State) (k : Nat) (t : Task) : State :=
  ((s.signals k t).endsTask k 0 t).modQueue k fun y => { y with unrecorded := y.unrecorded.drop 1 }

section
variable (s : State) (k : Nat) (t : Task)

theorem State.recording_mem : (s.recording k t).mem = s.mem := by
  rw [State.recording, State.modQueue, State.setQueue_mem, State.endsTask_mem, State.signals_frame]

theorem State.recording_homes : (s.recording k t).homes = s.homes := by
  rw [State.recording, State.modQueue, State.setQueue_homes, State.endsTask_homes, State.signals_frame]

theorem State.recording_staged : (s.recording k t).staged = s.staged := by
  rw [State.recording, State.modQueue, State.setQueue_staged, State.endsTask_staged, State.signals_frame]

theorem State.recording_cfg : (s.recording k t).cfg = s.cfg := by
  rw [State.recording, State.modQueue, State.setQueue_cfg, State.endsTask_cfg, State.signals_frame]

theorem State.recording_caravan : (s.recording k t).caravan = s.caravan := by
  rw [State.recording, State.modQueue, State.setQueue_caravan, State.endsTask_caravan, State.signals_frame]

theorem State.recording_cores : (s.recording k t).cores = (s.signals k t).cores := by
  rw [State.recording, State.modQueue, State.setQueue_cores, State.endsTask_cores]

theorem State.signalled_queue : ((s.signals k t).endsTask k 0 t).queue k = { s.queue k with
    tasks := (s.queue k).tasks.filter fun x => !decide (x.serial = t.serial)
    fence := if (s.queue k).fence = some t.serial then none else (s.queue k).fence
    unrecorded := insertEnded ⟨t, 0, s.clock.ptp⟩ (s.queue k).unrecorded } := by
  rw [State.endsTask_queue, State.signals_frame]
  rfl

theorem State.recording_queue : (s.recording k t).queue k = { s.queue k with
    tasks := (s.queue k).tasks.filter fun x => !decide (x.serial = t.serial)
    fence := if (s.queue k).fence = some t.serial then none else (s.queue k).fence
    unrecorded := (insertEnded ⟨t, 0, s.clock.ptp⟩ (s.queue k).unrecorded).drop 1 } := by
  rw [State.recording, State.queue_modQueue_same, State.signalled_queue]

theorem State.recording_reg (r : Reg) (i : Nat) :
    (s.recording k t).reg r i = (s.countTask (s.queue k).lcore t).reg r i := by
  have counted (x : State) : (x.endsTask k 0 t).reg r i = (x.countTask (x.queue k).lcore t).reg r i := by
    unfold State.endsTask State.dropTask
    rw [State.reg_modQueue, State.reg_modQueue]
  have signalled : (s.signals k t).queue k = s.queue k := by
    rw [State.signals_frame]
    rfl
  have regs (a : Reg) (b : Nat) : (s.signals k t).reg a b = s.reg a b := by
    rw [State.signals_frame]
    rfl
  rw [State.recording, State.reg_modQueue, counted, signalled, State.reg_countTask, State.reg_countTask]
  simp only [regs]

/-- The head of the ring and its base are no counters. -/
theorem State.recording_reg_que (r : Reg) (i : Nat) (hr : r = .queRinghead ∨ r = .queRingbase ∨ r = .queStatus) :
    (s.recording k t).reg r i = s.reg r i := by
  rw [State.recording_reg, State.reg_countTask]
  rcases hr with rfl | rfl | rfl <;> simp

theorem State.recording_recordAddr : (s.recording k t).recordAddr k = s.recordAddr k := by
  unfold State.recordAddr State.applied State.rfld
  rw [State.recording_queue, State.recording_staged, State.recording_reg_que _ _ _ _ _ (.inr (.inl rfl)),
    State.recording_reg_que _ _ _ _ _ (.inl rfl)]

end

theorem State.inWindows_congr {s u : State} (h : u.cfg = s.cfg) (t a len : Nat) : u.inWindows t a len = s.inWindows t a len := by
  unfold State.inWindows
  rw [h]

/-- The state in which the oldest task of a queue has completed with its record (R116, R128). -/
def State.completed (s : State) (k : Nat) (x : Task) : State :=
  ((s.recording k x).putRecord k 0 s.clock.ptp x).modQueue k fun q => { q with ended := q.ended + 1 }

section
variable {s : State} {k : Nat} (clean : readsClean s) (win : s.inWindows (k / 16) (s.recordAddr k) 32 = true)
  (fast : isFast (s.recordAddr k) = true) (x : Task)
include clean win fast

/-- What a record needs of memory and windows holds when it is written. -/
theorem State.recording_ready : readsClean (s.recording k x) ∧
    (s.recording k x).inWindows (k / 16) ((s.recording k x).recordAddr k) 32 = true ∧
    isFast ((s.recording k x).recordAddr k) = true := by
  rw [State.recording_recordAddr, State.inWindows_congr (s.recording_cfg k x)]
  refine ⟨?_, win, fast⟩
  unfold readsClean
  rw [State.recording_mem]
  exact clean

theorem State.completed_byte (j : Nat) : (s.completed k x).byte j =
    if s.recordAddr k ≤ j ∧ j < s.recordAddr k + 32
    then ((recordBytes k (s.queue k).lcore 0 s.clock.ptp x)[j - s.recordAddr k]?).getD 0 else s.byte j := by
  obtain ⟨clean', win', fast'⟩ := State.recording_ready clean win fast x
  have lcore : ((s.recording k x).queue k).lcore = (s.queue k).lcore := by rw [State.recording_queue]
  rw [State.completed, State.byte_modQueue, State.putRecord_byte clean' win' fast', State.recording_recordAddr, lcore,
    State.byte_congr (congrArg Mem.bytes (s.recording_mem k x))]

theorem State.completed_reg (r : Reg) (i : Nat) : (s.completed k x).reg r i = if r = .queRinghead ∧ i = k
    then setFld (s.reg .queRinghead k) 9 0 ((s.rfld .queRinghead k 9 0 + 1) % 1024)
    else (s.countTask (s.queue k).lcore x).reg r i := by
  obtain ⟨clean', win', fast'⟩ := State.recording_ready clean win fast x
  have head : (s.recording k x).reg .queRinghead k = s.reg .queRinghead k := s.recording_reg_que k x _ k (.inl rfl)
  unfold State.completed State.rfld
  rw [State.reg_modQueue, State.putRecord_reg clean' win' fast', State.rfld, head, State.recording_reg]

theorem State.completed_frame : (s.completed k x).homes = s.homes ∧ (s.completed k x).cores = (s.signals k x).cores ∧
    (s.completed k x).caravan = s.caravan := by
  obtain ⟨clean', win', fast'⟩ := State.recording_ready clean win fast x
  obtain ⟨homes, cores, caravan⟩ := State.putRecord_keeps clean' win' fast' 0 s.clock.ptp x
  simp only [State.completed, State.modQueue, State.setQueue_homes, State.setQueue_cores, State.setQueue_caravan, homes, cores,
    caravan, State.recording_homes, State.recording_cores, State.recording_caravan, and_self]

theorem State.completed_queue : ((s.completed k x).queue k).tasks = (s.queue k).tasks.filter (fun y => !decide (y.serial = x.serial)) ∧
    ((s.completed k x).queue k).lcore = (s.queue k).lcore ∧ ((s.completed k x).queue k).next = (s.queue k).next ∧
    ((s.completed k x).queue k).img = (s.queue k).img := by
  obtain ⟨clean', win', fast'⟩ := State.recording_ready clean win fast x
  rw [State.completed, State.queue_modQueue_same, State.putRecord_queue clean' win' fast', State.recording_queue]
  exact ⟨rfl, rfl, rfl, rfl⟩

/-- The 32 bytes at the ring's head are the record. -/
theorem State.completed_record : (s.completed k x).bytesAt (s.recordAddr k) 32 = recordBytes k (s.queue k).lcore 0 s.clock.ptp x := by
  have bytes := State.bytesAt_of_byte (s := s.completed k x) (a := s.recordAddr k)
    (bs := recordBytes k (s.queue k).lcore 0 s.clock.ptp x) fun i hi => by
      rw [length_recordBytes] at hi
      rw [State.completed_byte clean win fast, if_pos (by omega), Nat.add_sub_cancel_left]
  rwa [length_recordBytes] at bytes

theorem State.completed_ringhead : (s.completed k x).rfld .queRinghead k 9 0 = (s.rfld .queRinghead k 9 0 + 1) % 1024 := by
  unfold State.rfld
  rw [State.completed_reg clean win fast, if_pos ⟨rfl, rfl⟩, fld_setFld_same _ _ _ _ (by omega)]
  exact Nat.mod_mod _ 1024

theorem State.completed_sbEntry (sig : dSigValid x.desc = true) :
    (s.completed k x).sbEntry k (dSig x.desc) = ⟨1, dDst x.desc, 0⟩ := by
  obtain ⟨-, cores, -⟩ := State.completed_frame clean win fast x
  obtain ⟨-, lcore, -⟩ := State.completed_queue clean win fast x
  refine (State.sbEntry_congr cores ?_ _).trans (s.signals_sbEntry k x sig)
  rw [lcore, State.signals_frame]
  rfl

theorem State.completed_counts (r : Reg) (i : Nat) (hr : r ≠ .queRinghead) :
    (s.completed k x).reg r i = (s.countTask (s.queue k).lcore x).reg r i := by
  rw [State.completed_reg clean win fast, if_neg fun e => hr e.1]

end

/-! ### A completion -/

theorem exec_taskComplete {s : State} (up : s.up = true) (t : Fin 8) (q : Fin 16) (pos : Fin 8) :
    exec (.taskComplete t q pos) s = .next (s.complete (16 * t.val + q.val) pos) :=
  whenUp_up up fun x => x.complete (16 * t.val + q.val) pos

/-- No step ends outside a caravan. -/
theorem State.stageCheck_none {s : State} (h : s.caravan.tenant = none) : s.stageCheck = s := by
  unfold State.stageCheck
  rw [h]

theorem State.ranOut_more {s : State} {k : Nat} (h : (s.queue k).next < (s.queue k).descCount) : s.ranOut k = false := by
  unfold State.ranOut
  simp [h]

theorem State.ranOut_busy {s : State} {k : Nat} (h : (s.queue k).tasks ≠ []) : s.ranOut k = false := by
  unfold State.ranOut
  simp [h]

section
variable {s : State} {k pos : Nat} {x : Task} (hx : (s.queue k).tasks[pos]? = some x)
include hx

theorem State.complete_may (may : canComplete pos x = true) : s.complete k pos = (s.completeTask k x.serial).stageCheck := by
  unfold State.complete
  simp [hx, may]

theorem State.complete_not (may : canComplete pos x = false) : s.complete k pos = s := by
  unfold State.complete
  simp [hx, may]

variable (nodup : ((s.queue k).tasks.map (·.serial)).Nodup) (bare : x.xlates = []) (open' : x.windowEnd = none)
  (unowed : (s.queue k).unrecorded = [])
include nodup bare open' unowed

/-- The oldest task completes with its record, and the queue has descriptors left (R116, R128). -/
theorem State.completeTask_first (quiet : dIrq x.desc = false) (clean : readsClean s)
    (win : s.inWindows (k / 16) (s.recordAddr k) 32 = true) (fast : isFast (s.recordAddr k) = true)
    (oldest : ∀ y ∈ (s.queue k).tasks, x.serial ≤ y.serial) (more : (s.queue k).next < (s.queue k).descCount) :
    s.completeTask k x.serial = s.completed k x := by
  have due : (((s.signals k x).endsTask k 0 x).queue k).unrecorded = [⟨x, 0, s.clock.ptp⟩] := by
    rw [State.signalled_queue, unowed]
    rfl
  have first : ∀ y ∈ (((s.signals k x).endsTask k 0 x).queue k).tasks, x.serial < y.serial := by
    rw [State.signalled_queue]
    intro y hy
    obtain ⟨member, other⟩ := List.mem_filter.1 hy
    have differs : y.serial ≠ x.serial := by simpa using other
    exact Nat.lt_of_le_of_ne (oldest y member) differs.symm
  have records : (s.signals k x).endTask k 0 x = (s.recording k x).putRecord k 0 s.clock.ptp x := by
    rw [State.endTask_eq, State.flushRecords_first due first, State.recordNow_done _ k _ quiet, State.recording]
  have goesOn : (s.completed k x).ranOut k = false := by
    obtain ⟨-, -, next, img⟩ := State.completed_queue clean win fast x
    refine State.ranOut_more ?_
    unfold Queue.descCount Queue.hdr at more ⊢
    rw [next, img]
    exact more
  rw [State.completeTask_eq (State.task?_at hx nodup) bare open', records]
  exact if_neg (Bool.eq_false_iff.1 goesOn)

/-- Behind an older task a completion leaves its record owed (R128, log 123). -/
theorem State.completeTask_behind (behind : ∃ y ∈ (s.queue k).tasks, y.serial < x.serial) :
    s.completeTask k x.serial = (((s.signals k x).endsTask k 0 x).modQueue k fun y =>
      { y with unrecorded := y.unrecorded.drop 0 }).modQueue k fun q => { q with ended := q.ended + 1 } := by
  have due : (((s.signals k x).endsTask k 0 x).queue k).unrecorded = [⟨x, 0, s.clock.ptp⟩] := by
    rw [State.signalled_queue, unowed]
    rfl
  have older : ∃ y ∈ (((s.signals k x).endsTask k 0 x).queue k).tasks, y.serial < x.serial := by
    rw [State.signalled_queue]
    obtain ⟨y, member, before⟩ := behind
    exact ⟨y, List.mem_filter.2 ⟨member, by simp [before.ne]⟩, before⟩
  have records : (s.signals k x).endTask k 0 x = ((s.signals k x).endsTask k 0 x).modQueue k fun y =>
      { y with unrecorded := y.unrecorded.drop 0 } := by
    obtain ⟨y, member, before⟩ := older
    rw [State.endTask_eq, State.flushRecords_waits due ⟨y, member, before.le⟩]
  have goesOn : ((((s.signals k x).endsTask k 0 x).modQueue k fun y => { y with unrecorded := y.unrecorded.drop 0 }).modQueue k
      fun q => { q with ended := q.ended + 1 }).ranOut k = false := by
    refine State.ranOut_busy ?_
    rw [State.queue_modQueue_same, State.queue_modQueue_same]
    obtain ⟨y, member, -⟩ := older
    exact List.ne_nil_of_mem member
  rw [State.completeTask_eq (State.task?_at hx nodup) bare open', records]
  simp only [goesOn, Bool.false_eq_true, if_false]

end

/-! A completion ends its task, and no other comes into flight. -/

theorem State.work_notices (s : State) (code : Nat) (nodes body : List Nat) : (s.notices code nodes body).work = s.work :=
  State.work_foldl (fun x n => (congrArg State.work (x.notice_frame code n body) :)) nodes s

theorem State.noNewWork_stageCheck (s : State) : s.noNewWork s.stageCheck := by
  refine .of_work ?_
  unfold State.stageCheck
  split
  · rfl
  · dsimp only
    split
    · exact (State.work_notices ..).trans rfl
    · rfl

theorem State.completeTask_ends (s : State) (k i : Nat) :
    s.noNewWork (s.completeTask k i) ∧ (s.completeTask k i).task? k i = none := by
  unfold State.completeTask
  split
  case h_1 h => exact ⟨.refl s, h⟩
  case h_2 t ht =>
    obtain rfl := State.task?_serial ht
    have written (x : State) : x.noNewWork ((t.xlates.filter fun y => decide (y.mode = 1)).foldl
        (fun x y => x.endWrite (k / 16) y.handle y.gen) x) :=
      .foldl (fun u y => .of_work (State.work_genUpdate (by split <;> rfl) ..)) _ x
    have released (x : State) : x.noNewWork ((releaseEntries t.desc).foldl (fun x e => x.setSb k e .empty) x) :=
      .foldl (fun u e => u.noNewWork_setSb ..) _ x
    have last (x : State) : x.noNewWork (if x.ranOut k then x.enter k 4 else x) :=
      .ite (x.noNewWork_enter k 4) (.refl x)
    have counts (x : State) : x.noNewWork (x.modQueue k fun q => { q with ended := q.ended + 1 }) :=
      .modQueue_tasks x k _ fun _ => rfl
    have ends (x : State) := State.noNewWork_endTask x k 0 t
    dsimp only
    refine ⟨.trans ?_ ((counts _).trans (last _)), ((counts _).trans (last _)).2 k _ (ends _).2⟩
    refine .trans ?_ (ends _).1
    refine .trans ?_ (.of_work (State.work_restOver ..))
    exact .ite ((written s).trans ((released _).trans (State.noNewWork_setSb ..))) ((written s).trans (released _))

/-! ### Late manifests and rest windows -/

theorem exec_lateManifestEvent {s : State} (up : s.up = true) (t : Fin 8) (q : Fin 16) :
    exec (.lateManifestEvent t q) s = .next (s.lateEvent (16 * t.val + q.val)) :=
  whenUp_up up fun x => x.lateEvent (16 * t.val + q.val)

theorem exec_restWindowEnd {s : State} (up : s.up = true) (n : Fin 16) : exec (.restWindowEnd n) s = .next (s.restEnd n) :=
  whenUp_up up fun x => x.restEnd n

/-- The state in which a late manifest has been counted (R130). -/
def State.countsLate (s : State) (k : Nat) : State :=
  (s.modQueue k fun x => { x with lateSent := true }).countWrap .queLateevt k 1

section
variable {s : State} {k : Nat}

theorem State.lateEvent_counts (open' : s.qOpen k = true) (cls : (s.queue k).cls = 0)
    (late : (s.queue k).slack < (s.reg .queSlip k).toNat) (unsent : (s.queue k).lateSent = false) :
    s.lateEvent k = if s.caravan.tenant = some (k / 16)
      then (s.countsLate k).noticeUp 0x05 [(s.queue k).lcore, k % 16, (s.reg .queSlip k).toNat] else s.countsLate k := by
  unfold State.lateEvent
  simp only [open', cls, late, unsent, decide_true, Bool.not_false, Bool.and_self, if_true, decide_eq_true_eq]
  rfl

/-- An event is sent once (R130). -/
theorem State.lateEvent_sent (sent : (s.queue k).lateSent = true) : s.lateEvent k = s := by
  unfold State.lateEvent
  simp [sent]

end

/-- A notice to the head changes none of the module's registers, queues, memory and homes. -/
theorem State.lateEvent_keeps {s : State} {k : Nat} (open' : s.qOpen k = true) (cls : (s.queue k).cls = 0)
    (late : (s.queue k).slack < (s.reg .queSlip k).toNat) (unsent : (s.queue k).lateSent = false) :
    (s.lateEvent k).queues = (s.countsLate k).queues ∧ (s.lateEvent k).regs = (s.countsLate k).regs ∧
      (s.lateEvent k).mem = s.mem ∧ (s.lateEvent k).homes = s.homes := by
  rw [State.lateEvent_counts open' cls late unsent]
  split
  · exact ⟨State.noticeUp_queues .., State.noticeUp_regs .., State.noticeUp_mem .., State.noticeUp_homes ..⟩
  · exact ⟨rfl, rfl, rfl, rfl⟩

theorem State.countsLate_reg (s : State) (k : Nat) (r : Reg) (i : Nat) :
    (s.countsLate k).reg r i = if r = .queLateevt ∧ i = k then wrapAdd32 (s.reg .queLateevt k) 1 else s.reg r i :=
  State.reg_setReg ..

theorem State.countsLate_lateSent (s : State) (k : Nat) : ((s.countsLate k).queue k).lateSent = true := by
  have queue : (s.countsLate k).queue k = (s.modQueue k fun x => { x with lateSent := true }).queue k := rfl
  rw [queue, State.queue_modQueue_same]

theorem wrapAdd32_one (w : W32) : wrapAdd32 w 1 = w + 1 := by
  apply BitVec.eq_of_toNat_eq
  simp [wrapAdd32]

/-- The rest window of core n that its length has ended (R131). -/
def Core.endRest (c : Core) (r : Rest) (now : Nat) : Core :=
  { c with rest := if r.waiting then some { r with ends := Nat.min r.ends now } else none }

theorem State.restEnd_open {s : State} {n : Nat} {r : Rest} (hr : (s.core n).rest = some r) :
    s.restEnd n = s.modCore n fun c => c.endRest r s.clock.since := by
  unfold State.restEnd
  rw [hr]
  rfl

/-- Settles O35: the completion of the oldest task, of one behind it, and the other events, each by its equation. -/
theorem tasksCompleteInTheirRecords : Obligations.TasksCompleteInTheirRecords := by
  refine ⟨fun t q pos x s up => ?first, fun t q pos x s up => ?ends, fun t q s up => ?late, fun n s up closed => ?_,
    fun n r s up window => ?_⟩
  case first =>
    intro k n a hx landed type bare unreleased open' quiet nodup win fast more alone unowed oldest clean
    have may : canComplete pos x = true := by simp [canComplete, type, landed]
    have tenant : k / 16 = t.val := by omega
    have win' : s.inWindows (k / 16) (s.recordAddr k) 32 = true := tenant.symm ▸ win
    have byte := State.completed_byte clean win' fast x
    have counts (r : Reg) (hr : r ≠ .queRinghead) : (s.completed k x).reg r n = (s.countTask n x).reg r n :=
      State.completed_counts clean win' fast x r n hr
    obtain ⟨homes, -, caravan⟩ := State.completed_frame clean win' fast x
    obtain ⟨tasks, -⟩ := State.completed_queue clean win' fast x
    refine ⟨s.completed k x, ?_, State.completed_record clean win' fast x, fun j far => ?_, homes,
      State.completed_ringhead clean win' fast x, State.completed_sbEntry clean win' fast x, ?_, ?_, ?_,
      tasks.trans (filter_serial hx nodup), ?_, fun r i hr => ?_⟩
    · have outside : (s.completed k x).caravan.tenant = none := by rw [caravan, alone]
      rw [exec_taskComplete up, State.complete_may hx may,
        State.completeTask_first hx nodup bare open' unowed quiet clean win' fast oldest more, State.stageCheck_none outside]
    · have outside : ¬ (s.recordAddr k ≤ j ∧ j < s.recordAddr k + 32) := fun e => by
        obtain far | far := far
        · exact absurd far (Nat.not_lt.2 e.1)
        · exact absurd far (Nat.not_le.2 e.2)
      rw [byte, if_neg outside]
    · rw [counts _ (by decide), State.reg_countTask]
      simp
    · rw [counts _ (by decide), State.reg_countTask]
      simp
    · rw [counts _ (by decide), State.reg_countTask]
      simp
    · unfold State.qst State.rfld
      rw [State.completed_counts clean win' fast x _ _ (by decide), State.reg_countTask]
      simp
    · rw [State.completed_reg clean win' fast, if_neg fun e => hr (.inl e), State.reg_countTask]
      split
      · next at_core =>
        rw [if_neg fun e => hr (.inr ⟨.inl e, at_core⟩), if_neg fun e => hr (.inr ⟨.inr (.inl e), at_core⟩),
          if_neg fun e => hr (.inr ⟨.inr (.inr e), at_core⟩)]
      · rfl
  case ends =>
    intro k hx nodup
    refine ⟨fun may => ?_, fun may => ?_, fun landed type unowed behind bare open' alone _ => ?_⟩
    · refine ⟨_, exec_taskComplete up t q pos, ?_⟩
      rw [State.complete_may hx may]
      exact (State.noNewWork_stageCheck _).2 k _ (s.completeTask_ends k x.serial).2
    · rw [exec_taskComplete up, State.complete_not hx may]
    · have may : canComplete pos x = true := by simp [canComplete, type, landed]
      have completes := State.completeTask_behind hx nodup bare open' unowed behind
      have caravan : ((s.signals k x).endsTask k 0 x).caravan.tenant = none := by
        rw [State.endsTask_caravan, State.signals_frame]
        exact alone
      have mem : ((s.signals k x).endsTask k 0 x).mem = s.mem := by rw [State.endsTask_mem, State.signals_frame]
      have head : ((s.signals k x).endsTask k 0 x).reg .queRinghead k = s.reg .queRinghead k :=
        (State.reg_modQueue ..).symm.trans (s.recording_reg_que k x _ k (.inl rfl))
      refine ⟨_, exec_taskComplete up t q pos, ?_⟩
      have outside : (s.completeTask k x.serial).caravan.tenant = none := by
        rw [completes, State.caravan_modQueue, State.caravan_modQueue, caravan]
      rw [State.complete_may hx may, State.stageCheck_none outside, completes]
      refine ⟨?_, ?_, ?_⟩
      · rw [State.queue_modQueue_same, State.queue_modQueue_same, State.signalled_queue, unowed]
        rfl
      · rw [State.mem_modQueue, State.mem_modQueue, mem]
      · unfold State.rfld
        rw [State.reg_modQueue, State.reg_modQueue, head]
  case late =>
    intro k open' cls late
    refine ⟨fun unsent => ?_, fun sent => ?_⟩
    · obtain ⟨queues, regs, mem, homes⟩ := State.lateEvent_keeps open' cls late unsent
      refine ⟨_, exec_lateManifestEvent up t q, ?_, ?_, mem, homes, fun apart => ?_⟩
      · exact (congrArg Queue.lateSent (State.queue_congr queues k)).trans (s.countsLate_lateSent k)
      · rw [State.reg_congr regs, State.countsLate_reg, if_pos ⟨rfl, rfl⟩, wrapAdd32_one]
      · rw [State.lateEvent_counts open' cls late unsent, if_neg apart]
        refine ⟨rfl, fun r i hr => ?_⟩
        rw [State.countsLate_reg, if_neg hr]
    · rw [exec_lateManifestEvent up, State.lateEvent_sent sent]
  · rw [exec_restWindowEnd up]
    unfold State.restEnd
    rw [closed]
  · refine ⟨_, exec_restWindowEnd up n, ?_⟩
    rw [State.restEnd_open window]
    refine ⟨rfl, fun m hm => s.core_modCore_other _ hm, fun lone => ?_, fun waits => ?_⟩
    · rw [State.core_modCore_same, Core.endRest, lone]
      rfl
    · rw [State.core_modCore_same, Core.endRest, waits]
      rfl

end Sys2Proof.Machine
end

section
/-! PROOF. The refutation of SequencerTasksTakeEffect: the landed messages that a RECV's end looks through are those of every
entry of the core table, and the statement bounds the first entry of each core alone. -/
namespace Sys2Proof.Machine

/-- Tenant 0 on function 0, with core 0 and the first window of the fast tier. -/
def loneTenant : Image :=
  { Image.blank with tenants := [{ TenantRec.none with cl0 := true, thSize := 1, cores := 1, fastWin := [⟨0, 1⟩] }] }

/-- A RECV over route 3 from node 5 into handle 1. -/
def routeRecv : List W32 := [7, 0, 0, 1, 1, 0, 0, 0x00030005, 0, 0, 0, 0, 0, 0, 0, 0]

/-- A RECV over mortar link 0, in flight and waiting for its message. -/
def meshRecv : Task :=
  { serial := 0, index := 0, iter := 0, desc := [7, 0, 0, 1, 1, 0, 4, 0, 0, 0, 0, 0, 0, 0, 0, 0], params := [], xlates := []
    trap := false, sat := 0, flush := 0, nan := 0, waited := 0, landed := false, progress := 0, msg := 0, windowEnd := none
    step := 0, count := 0, issued := 0 }

/-- Queue 0 with both: the mesh RECV in flight, the route RECV next. -/
def recvQueue : Queue :=
  { Queue.init with img := [0, 0, 0, 1] ++ List.replicate 60 0 ++ routeRecv, tasks := [meshRecv] }

/-- The module runs queue 0 on core 0, with a tensor under handle 1 and an open route 3; its core table lists core 0 twice,
and the second entry, which no read of core 0 meets, holds a message that has failed on link 0. -/
def twiceListed : State :=
  let s := { State.reset with
    power := { State.reset.power with phase := .ready, pwrgd := true, perst := false }, cfg := loneTenant, serial := 1
    cores := [(0, Core.init), (0, { Core.init with inbox := [⟨0, 1, 0, 0x50, none⟩] })] }
  ((((s.setQueue 0 recvQueue).setReg .queStatus 0 0x20000).setReg .thCfg 0 0x100).setHome 0 1
    ⟨0x00000212, 0, 0, 1, 64, 1, 0x00010001, 1⟩).setRoute 3 { Route.init with st := 2, peerNode := 5, ports := 1 }

theorem twiceListed_mayIssue : mayIssue twiceListed 0 routeRecv := by
  refine ⟨rfl, ⟨rfl, rfl⟩, rfl, rfl, rfl, by decide, by decide, by decide, by decide⟩

theorem twiceListed_inbox (c : Nat) : (twiceListed.core c).inbox = [] := by
  have table : twiceListed.core c =
    mget Core.init [(0, Core.init), (0, { Core.init with inbox := [⟨0, 1, 0, 0x50, none⟩] })] c := rfl
  rw [table]
  by_cases h : c = 0
  · rw [h]
    rfl
  · simp [mget, h]
    rfl

theorem twiceListed_writable (h : Nat) (hh : h = dDst routeRecv ∨ h = df routeRecv 4 23 0) :
    twiceListed.handleOk (0 : Fin 8) h = true ∧ (twiceListed.home (0 : Fin 8) h).writeCode false = 0 := by
  rcases hh with rfl | rfl
  · decide
  · decide

/-- The failed message aborts the mesh RECV, whose record goes to memory. -/
theorem twiceListed_writes : ((twiceListed.issueTask 0 0 (fun d => decide (dType d = 7)) (fun _ _ => true)
    fun y r => y.runRecv 0 r).wakeMesh 64).mem.bytes ≠ twiceListed.mem.bytes := by decide

/-- Refutes O34: in `twiceListed` the RECV's issue lets an older RECV abort, which changes memory. -/
theorem not_sequencerTasksTakeEffect : ¬ Obligations.SequencerTasksTakeEffect := by
  intro h
  obtain ⟨-, -, -, -, -, -, -, -, -, -, recv, -⟩ := h 0 0 0 routeRecv twiceListed twiceListed_mayIssue
  obtain ⟨waits, -⟩ := recv (5, 3) (by decide) twiceListed_inbox twiceListed_writable (by decide) (by decide) (by decide) (by decide)
    (by decide)
  obtain ⟨u, issued, -, mem, -⟩ := waits (by decide)
  rw [exec_recv rfl] at issued
  cases issued
  exact twiceListed_writes (congrArg Mem.bytes mem)

end Sys2Proof.Machine
end

section
/-! PROOF. One instruction of the vector engine (R142, R143, R147): the registers of a context lane by lane, what a step that
runs, waits or aborts makes of the state, and the three shapes of instructions that the statements speak of. -/
namespace Sys2Proof.Machine

/-! ### The lanes of a register -/

/-- The list of 2,048 lanes whose lane l is x l. -/
def lanes {α : Type} (x : Nat → α) : List α := (List.range 2048).map x

section
variable {α β γ : Type}

@[simp] theorem length_lanes (x : Nat → α) : (lanes x).length = 2048 := by
  rw [lanes, List.length_map, List.length_range]

theorem getElem?_lanes (x : Nat → α) {l : Nat} (h : l < 2048) : (lanes x)[l]? = some (x l) := by
  rw [lanes, List.getElem?_map, List.getElem?_range h, Option.map_some]

/-- A list of 2,048 values by its lanes. -/
theorem eq_lanes {v : List α} {x : Nat → α} (len : v.length = 2048) (h : ∀ l, l < 2048 → v[l]? = some (x l)) :
    v = lanes x := by
  apply List.ext_getElem?
  intro l
  by_cases hl : l < 2048
  · rw [h l hl, getElem?_lanes x hl]
  · rw [List.getElem?_eq_none (by omega), List.getElem?_eq_none (by rw [length_lanes]; omega)]

theorem lanes_congr {x y : Nat → α} (h : ∀ l, l < 2048 → x l = y l) : lanes x = lanes y :=
  eq_lanes (length_lanes x) fun l hl => by rw [getElem?_lanes x hl, h l hl]

@[simp] theorem map_lanes (f : α → β) (x : Nat → α) : (lanes x).map f = lanes fun l => f (x l) := List.map_map

@[simp] theorem zip_lanes (x : Nat → α) (y : Nat → β) : (lanes x).zip (lanes y) = lanes fun l => (x l, y l) := List.zip_map' ..

@[simp] theorem zipWith_lanes (f : α → β → γ) (x : Nat → α) (y : Nat → β) :
    List.zipWith f (lanes x) (lanes y) = lanes fun l => f (x l) (y l) := by
  rw [← List.map_uncurry_zip_eq_zipWith, zip_lanes, map_lanes]
  rfl

@[simp] theorem zipIdx_lanes (x : Nat → α) : (lanes x).zipIdx = lanes fun l => (x l, l) :=
  eq_lanes (by simp) fun l hl => by rw [List.getElem?_zipIdx, getElem?_lanes x hl]; simp

end

/-! ### Registers of a context -/

theorem VecCtx.vec_eq (c : VecCtx) (r : Nat) : c.vec r = lanes (c.lane r) := by
  refine eq_lanes (dense_length _ _ _ _) fun l hl => ?_
  rw [VecCtx.lane, List.getElem?_eq_getElem (by rw [VecCtx.vec, dense_length]; exact hl), Option.getD_some]

theorem VecCtx.length_mask (c : VecCtx) (r : Nat) : (c.mask r).length = 2048 := by
  unfold VecCtx.mask
  split
  · exact List.length_replicate
  · exact dense_length _ _ _ _

theorem VecCtx.mask_eq (c : VecCtx) (r : Nat) : c.mask r = lanes (c.bitAt r) := by
  refine eq_lanes (c.length_mask r) fun l hl => ?_
  rw [VecCtx.bitAt, List.getElem?_eq_getElem (by rw [c.length_mask]; exact hl), Option.getD_some]

theorem VecCtx.vec_setVec_same (c : VecCtx) (r : Nat) (x : Nat → W32) : (c.setVec r (lanes x)).vec r = lanes x :=
  dense_mreplace_same _ _ _ _ _ (length_lanes x)

theorem VecCtx.vec_setVec_other (c : VecCtx) {r q : Nat} (x : Nat → W32) (h : q ≠ r) :
    (c.setVec r (lanes x)).vec q = c.vec q := by
  unfold VecCtx.vec VecCtx.setVec
  rw [mslice_mreplace_other _ _ _ _ _ _ (by rw [length_lanes]; omega)]

theorem VecCtx.lane_setVec_same (c : VecCtx) (r : Nat) (x : Nat → W32) {l : Nat} (h : l < 2048) :
    (c.setVec r (lanes x)).lane r l = x l := by
  rw [VecCtx.lane, VecCtx.vec_setVec_same, getElem?_lanes x h, Option.getD_some]

theorem VecCtx.bitAt_setMask_same (c : VecCtx) {r : Nat} (x : Nat → Bool) (hr : r ≠ 0) {l : Nat} (h : l < 2048) :
    (c.setMask r (lanes x)).bitAt r l = x l := by
  have same : (c.setMask r (lanes x)).mask r = lanes x := by
    unfold VecCtx.mask VecCtx.setMask
    rw [if_neg hr, if_neg hr]
    exact dense_mreplace_same _ _ _ _ _ (length_lanes x)
  rw [VecCtx.bitAt, same, getElem?_lanes x h, Option.getD_some]

theorem VecCtx.mask_setMask_other (c : VecCtx) {r q : Nat} (x : Nat → Bool) (h : q ≠ r) :
    (c.setMask r (lanes x)).mask q = c.mask q := by
  unfold VecCtx.mask VecCtx.setMask
  split
  · rfl
  · split
    · rfl
    · rw [mslice_mreplace_other _ _ _ _ _ _ (by rw [length_lanes]; omega)]

theorem VecCtx.sc_setSc (c : VecCtx) (r q : Nat) (w : W32) : (c.setSc r w).sc q = if q = r then w else c.sc q :=
  mget_mset _ _ _ _ _

/-! ### What a core runs -/

/-- The running program of a core, stored back, is what the core runs. -/
theorem Core.running_setRunning {k : Core} {drain : Bool} {c x : VecCtx} (h : k.running = some (drain, c))
    (hx : x.running = c.running) : (k.setRunning drain x).running = some (drain, x) := by
  unfold Core.running at h
  split at h
  · rename_i hd
    cases h
    unfold Core.running Core.setRunning
    simp [hx, hd]
  · rename_i hd
    split at h
    · rename_i hv
      cases h
      simp only [Bool.and_eq_true, Bool.not_eq_true'] at hv
      obtain ⟨hr, hl⟩ := hv
      have landed : Core.landedWaits { k with vec := x } = false := hl
      unfold Core.running Core.setRunning
      simp [hx, hd, hr, landed]
    · cases h

/-! ### The counts of an instruction -/

/-- An instruction is counted: its events for its task, and CORE_VECISSUE. -/
def State.vecCounted (s : State) (n : Nat) (o : Nat × Nat) (cnt : Nat × Nat × Nat) : State :=
  (s.addCounts o.1 o.2 cnt.1 cnt.2.1 cnt.2.2).countWrap .coreVecissue n 1

section
variable (s : State) (n : Nat) (o : Nat × Nat) (cnt : Nat × Nat × Nat)

theorem State.vecCounted_frame : s.vecCounted n o cnt =
    { s with queues := (s.vecCounted n o cnt).queues, regs := (s.vecCounted n o cnt).regs } := rfl

theorem State.vecCounted_regs : vecRegs n s (s.vecCounted n o cnt) := by
  refine ⟨State.reg_setReg_same _ _ _ _, fun r i h => ?_⟩
  exact State.reg_setReg_other _ _ fun e => h (.inl e)

end

/-- A task in flight after a change of one. -/
theorem State.task?_modTask (s : State) (k i k' i' : Nat) {g : Task → Task} (hg : ∀ t, (g t).serial = t.serial) :
    (s.modTask k' i' g).task? k i = if k = k' ∧ i = i' then (s.task? k i).map g else s.task? k i := by
  by_cases hk : k = k'
  · subst hk
    have same : ((fun t : Task => decide (t.serial = i)) ∘ fun t => if t.serial = i' then g t else t) =
        fun t => decide (t.serial = i) := by
      funext t
      by_cases ht : t.serial = i' <;> simp [ht, hg]
    unfold State.task? State.modTask
    rw [State.queue_modQueue_same]
    simp only [List.find?_map, same, true_and]
    cases found : (s.queue k).tasks.find? fun t => decide (t.serial = i) with
    | none => simp
    | some t =>
      have ht : t.serial = i := by simpa using List.find?_some found
      by_cases hi : i = i' <;> simp [ht, hi]
  · unfold State.task? State.modTask
    rw [State.queue_modQueue_other _ _ hk, if_neg fun h => hk h.1]

/-- No task under serial number i of queue k is in trap mode. -/
def State.untrapped (s : State) (k i : Nat) : Prop := ∀ t, s.task? k i = some t → t.trap = false

theorem State.untrapped_addCounts {s : State} {k i : Nat} (h : s.untrapped k i) (sat flush nan : Nat) :
    (s.addCounts k i sat flush nan).untrapped k i := by
  intro t ht
  have moved : (s.addCounts k i sat flush nan).task? k i = _ := State.task?_modTask s k i k i fun _ => rfl
  rw [moved, if_pos ⟨rfl, rfl⟩, Option.map_eq_some_iff] at ht
  obtain ⟨x, hx, rfl⟩ := ht
  exact h x hx

/-! ### One instruction -/

section
variable {s s1 : State} {n op unit : Nat} {f : State → Bool → VecCtx → Insn → VecEnd} {drain : Bool} {c c1 : VecCtx}
  (running : (s.core n).running = some (drain, c)) (hop : (s.nextInsn c).op = op)
include running hop

/-- An instruction that aborts counts as issued before its task ends. -/
theorem State.vecRun_abort {code : Nat} (hf : f s drain c (s.nextInsn c) = .abort code) :
    s.vecRun n op unit f = (s.countWrap .coreVecissue n 1).abortTask c.owner.1 c.owner.2 code := by
  unfold State.nextInsn at hop hf
  unfold State.vecRun
  simp only [running, hop, hf, ne_eq, not_true, if_false]

/-- An instruction outside trap mode that goes on: its counts, then its context. -/
theorem State.vecRun_done {cnt : Nat × Nat × Nat} {nan : Option (Nat × Nat)} (untrapped : s.untrapped c.owner.1 c.owner.2)
    (hq : s1.queues = s.queues) (hf : f s drain c (s.nextInsn c) = .done s1 c1 cnt nan) :
    s.vecRun n op unit f = (s1.vecCounted n c.owner cnt).vecStore n drain { c1 with pc := c1.pc + 1 } := by
  have untrapped1 : s1.untrapped c.owner.1 c.owner.2 := by
    unfold State.untrapped State.task? at *
    rwa [State.queue_congr hq]
  have quiet : (s1.vecCounted n c.owner cnt).untrapped c.owner.1 c.owner.2 := State.untrapped_addCounts untrapped1 _ _ _
  unfold State.nextInsn at hop hf
  unfold State.vecRun
  simp only [running, hop, hf, ne_eq, not_true, if_false]
  unfold State.vecCounted at *
  generalize (s1.addCounts c.owner.1 c.owner.2 cnt.1 cnt.2.1 cnt.2.2).countWrap .coreVecissue n 1 = u at *
  cases ht : u.task? c.owner.1 c.owner.2 with
  | none => simp
  | some t => simp [quiet t ht]
end

/-- A context that has not ended its program is stored (R143). -/
theorem State.vecStore_more {s : State} {n : Nat} {drain : Bool} {c : VecCtx}
    (more : (repNext c.pc c.reps).1 < s.insnCount c.prog) : s.vecStore n drain c = s.modCore n fun x =>
      x.setRunning drain { c with pc := (repNext c.pc c.reps).1, reps := (repNext c.pc c.reps).2 } := by
  unfold State.vecStore
  exact if_pos more

/-- What the statements say of an instruction that has run: its counts, then the context at its new place. -/
theorem State.vecCounted_setRunning (s : State) (n : Nat) (drain : Bool) (o : Nat × Nat) (cnt : Nat × Nat × Nat) (x : VecCtx) :
    let t := (s.vecCounted n o cnt).modCore n fun k => k.setRunning drain x
    t.core n = (s.core n).setRunning drain x ∧ (∀ m, m ≠ n → t.core m = s.core m) ∧
      t = { s with cores := t.cores, queues := t.queues, regs := t.regs } ∧ vecRegs n s t :=
  ⟨State.core_modCore_same _ _ _, fun _ hm => State.core_modCore_other _ _ hm, rfl, s.vecCounted_regs n o cnt⟩

section
variable {s : State} {n op : Nat} {drain : Bool} {c : VecCtx} (h : s.vecAt n op drain c)
include h

theorem State.vecAt.up : s.up = true := h.1

/-- An instruction that leaves the program counter and the bodies of its context goes on to the next one. -/
theorem State.vecAt.goesOn {unit free : Nat} {f : State → Bool → VecCtx → Insn → VecEnd} {c' : VecCtx}
    {cnt : Nat × Nat × Nat} {nan : Option (Nat × Nat)} (pc : c'.pc = c.pc) (reps : c'.reps = c.reps) (prog : c'.prog = c.prog)
    (hf : f s drain c (s.nextInsn c) = .done { s with freeCtr := free } c' cnt nan) :
    vecGoesOn { s with freeCtr := free } (s.vecRun n op unit f) n drain c c' := by
  obtain ⟨-, running, hop, bare, more, untrapped⟩ := h
  have reps' : c'.reps = [] := reps.trans bare
  have next : repNext (c'.pc + 1) c'.reps = (c.pc + 1, []) := by rw [reps', pc]; rfl
  have stored : { c' with pc := c.pc + 1, reps := [] } = { c' with pc := c.pc + 1 } := by rw [← reps']
  rw [State.vecRun_done (s1 := { s with freeCtr := free }) running hop untrapped rfl hf,
    State.vecStore_more (by rw [next, prog]; exact more)]
  simp only [next]
  rw [stored]
  exact State.vecCounted_setRunning _ _ _ _ _ _

end

/-! ### The shapes of instructions -/

/-- The end of an instruction that writes V[VD], lane l with f c i l. -/
def givesVec (g : State → Bool → VecCtx → Insn → VecEnd) (f : VecCtx → Insn → Nat → W32) (p : Insn → Prop) : Prop :=
  ∀ s drain c i, p i → ∃ cnt nan, g s drain c i = .done s (c.setVec i.vd (lanes (f c i))) cnt nan

theorem givesLanes_of_givesVec {op : Nat} {p : Insn → Prop} {cmd : Fin 16 → Instr}
    {g : State → Bool → VecCtx → Insn → VecEnd}
    {f : VecCtx → Insn → Nat → W32} (hg : givesVec g f p)
    {unit : Fin 16 → State → Nat} (hx : ∀ n s, exec (cmd n) s = whenUp s fun x => x.vecRun n op (unit n x) g) :
    givesLanes op p cmd f := by
  intro n drain c s h hp
  have run := (hx n s).trans (whenUp_up h.up _)
  obtain ⟨cnt, nan, done⟩ := hg s drain c (s.nextInsn c) hp
  exact ⟨_, _, run, h.goesOn (free := s.freeCtr) (c' := c.setVec _ (lanes _)) rfl rfl rfl done, rfl,
    fun l hl => VecCtx.lane_setVec_same _ _ _ hl,
    fun r hr => VecCtx.vec_setVec_other _ _ hr⟩

/-- A masked-off lane keeps its destination (R147). -/
theorem maskRes_lanes (c : VecCtx) (i : Insn) (x : Nat → FRes) :
    (maskRes (c.mask i.mask) (c.vec i.vd) (lanes x)).map (fun r => r.bits) = lanes (masked (fun _ _ l => (x l).bits) c i) := by
  rw [maskRes, c.mask_eq, c.vec_eq, zip_lanes, zipWith_lanes, map_lanes]
  refine lanes_congr fun l _ => ?_
  unfold masked
  split <;> rfl

theorem laneEnd_lanes (s : State) (c : VecCtx) (i : Insn) (handle : Nat) (x : Nat → FRes) :
    ∃ cnt nan, laneEnd s c i handle (lanes x) = .done s (c.setVec i.vd (lanes (masked (fun _ _ l => (x l).bits) c i))) cnt nan := by
  unfold laneEnd
  dsimp only
  rw [maskRes_lanes]
  exact ⟨_, _, rfl⟩

/-- Operations of one, two and three vector operands, lane by lane. -/
theorem lane1_gives (f : W32 → FRes) (p : Insn → Prop) : givesVec (lane1 f) (masked fun c i l => (f (c.lane i.va l)).bits) p := by
  intro s drain c i _
  rw [lane1, c.vec_eq, map_lanes]
  exact laneEnd_lanes s c i _ _

theorem lane2_gives (f : W32 → W32 → FRes) (p : Insn → Prop) :
    givesVec (lane2 f) (masked fun c i l => (f (c.lane i.va l) (c.lane i.vb l)).bits) p := by
  intro s drain c i _
  rw [lane2, c.vec_eq, c.vec_eq, zipWith_lanes]
  exact laneEnd_lanes s c i _ _

theorem lane3_gives (f : W32 → W32 → W32 → FRes) (p : Insn → Prop) :
    givesVec (lane3 f) (masked fun c i l => (f (c.lane i.va l) (c.lane i.vb l) (c.lane i.vc l)).bits) p := by
  intro s drain c i _
  rw [lane3, c.vec_eq, c.vec_eq, c.vec_eq, zip_lanes, zipWith_lanes]
  exact laneEnd_lanes s c i _ _

/-- An instruction whose lanes take their values by number. -/
theorem range_gives (x : VecCtx → Insn → Nat → FRes) (p : Insn → Prop) :
    givesVec (fun s _ c i => laneEnd s c i 0 ((List.range 2048).map (x c i))) (masked fun c i l => (x c i l).bits) p := by
  intro s drain c i _
  dsimp only
  rw [← lanes]
  exact laneEnd_lanes s c i _ _

/-- An instruction that gives every lane one value. -/
theorem replicate_gives (x : VecCtx → Insn → FRes) (p : Insn → Prop) :
    givesVec (fun s _ c i => laneEnd s c i 0 (List.replicate 2048 (x c i))) (masked fun c i _ => (x c i).bits) p := by
  intro s drain c i _
  have same : List.replicate 2048 (x c i) = lanes fun _ => x c i :=
    eq_lanes List.length_replicate fun l hl => by rw [List.getElem?_replicate, if_pos hl]
  dsimp only
  rw [same]
  exact laneEnd_lanes s c i _ _

/-- An instruction of one operand whose lanes depend on their number. -/
theorem zipIdx_gives (h : State → VecCtx → Insn → Nat) (x : VecCtx → Insn → W32 × Nat → FRes) (p : Insn → Prop) :
    givesVec (fun s _ c i => laneEnd s c i (h s c i) ((c.vec i.va).zipIdx.map (x c i)))
      (masked fun c i l => (x c i (c.lane i.va l, l)).bits) p := by
  intro s drain c i _
  dsimp only
  rw [c.vec_eq, zipIdx_lanes, map_lanes]
  exact laneEnd_lanes s c i _ _

/-- A compare writes M[VD] in the lanes that the mask lets through. -/
theorem givesBits_of_maskEnd {op : Nat} {cmd : Fin 16 → Instr} {f : Insn → W32 → W32 → Bool}
    {unit : Fin 16 → State → Nat}
    (hx : ∀ n s, exec (cmd n) s = whenUp s fun x => x.vecRun n op (unit n x) fun y _ c i => maskEnd (f i) y c i) :
    givesBits op cmd f := by
  intro n drain c s h
  have run := (hx n s).trans (whenUp_up h.up _)
  let i := s.nextInsn c
  let x (l : Nat) : Bool := if c.bitAt i.mask l then f i (c.lane i.va l) (c.lane i.vb l) else c.bitAt i.vd l
  have done : maskEnd (f i) s c i = .done s (c.setMask i.vd (lanes x)) (0, 0, 0) none := by
    rw [maskEnd, c.vec_eq, c.vec_eq, c.mask_eq, c.mask_eq, zipWith_lanes, zip_lanes, zipWith_lanes]
  have ctx : c.setMask i.vd (lanes x) = { c with m := (c.setMask i.vd (lanes x)).m } := by
    unfold VecCtx.setMask
    split <;> rfl
  have kept : (c.setMask i.vd (lanes x)).pc = c.pc ∧ (c.setMask i.vd (lanes x)).reps = c.reps ∧
      (c.setMask i.vd (lanes x)).prog = c.prog := by
    rw [ctx]
    exact ⟨rfl, rfl, rfl⟩
  obtain ⟨pc, reps, prog⟩ := kept
  exact ⟨_, _, run, h.goesOn (free := s.freeCtr) pc reps prog done, ctx, fun l hl hr => VecCtx.bitAt_setMask_same _ _ hr hl,
    fun r hr => VecCtx.mask_setMask_other _ _ hr⟩

/-- A scalar move writes S[VD]. -/
theorem givesScalar_of_setSc {op : Nat} {cmd : Fin 16 → Instr} {f : VecCtx → Insn → W32}
    {unit : Fin 16 → State → Nat} (hx : ∀ n s, exec (cmd n) s = whenUp s fun x =>
      x.vecRun n op (unit n x) fun y _ c i => .done y (c.setSc i.vd (f c i)) (0, 0, 0) none) : givesScalar op cmd f := by
  intro n drain c s h
  have run := (hx n s).trans (whenUp_up h.up _)
  refine ⟨_, _, run, h.goesOn (free := s.freeCtr) (c' := c.setSc (s.nextInsn c).vd (f c (s.nextInsn c))) rfl rfl rfl rfl, rfl,
    ?_, fun r hr => ?_⟩
  · rw [VecCtx.sc_setSc, if_pos rfl]
  · rw [VecCtx.sc_setSc, if_neg hr]

end Sys2Proof.Machine
end

section
/-! PROOF. The lane instructions (R63, R65, R66, R147, R149, R151, R156, R157): each is one of the shapes above. -/
namespace Sys2Proof.Machine

/-! ### Shifts by the whole lane (R63) -/

/-- A shift by 32 or more gives 0. -/
theorem shlLane_eq (a b : W32) : shlLane a b = BitVec.ofNat 32 (a.toNat * 2 ^ b.toNat) := by
  unfold shlLane
  split
  · apply BitVec.eq_of_toNat_eq
    rw [BitVec.toNat_shiftLeft, BitVec.toNat_ofNat, Nat.shiftLeft_eq]
  · next hb =>
    have whole : a.toNat * 2 ^ b.toNat = 2 ^ 32 * (a.toNat * 2 ^ (b.toNat - 32)) := by
      rw [Nat.mul_left_comm, ← pow_add, Nat.add_sub_cancel' (by omega)]
    rw [whole]
    apply BitVec.eq_of_toNat_eq
    rw [BitVec.toNat_ofNat, Nat.mul_mod_right]
    rfl

theorem shrLane_eq (a b : W32) : shrLane a b = BitVec.ofNat 32 (a.toNat / 2 ^ b.toNat) := by
  unfold shrLane
  apply BitVec.eq_of_toNat_eq
  have small : a.toNat / 2 ^ b.toNat < 2 ^ 32 := (Nat.div_le_self _ _).trans_lt a.isLt
  rw [BitVec.toNat_ofNat, Nat.mod_eq_of_lt small]
  split
  · rw [BitVec.toNat_ushiftRight, Nat.shiftRight_eq_div_pow]
  · next hb =>
    have big : a.toNat < 2 ^ b.toNat := a.isLt.trans_le (Nat.pow_le_pow_right (by decide) (by omega))
    rw [Nat.div_eq_of_lt big]
    rfl

/-- From 31 places on an arithmetic shift leaves the sign. -/
theorem toInt_ediv_two_pow (a : W32) {k : Nat} (hk : 31 ≤ k) : a.toInt / 2 ^ k = if 0 ≤ a.toInt then 0 else -1 := by
  have low := BitVec.le_toInt a
  have high := BitVec.toInt_lt (x := a)
  have wide : (2 : Int) ^ 31 ≤ 2 ^ k := pow_le_pow_right₀ (by decide) hk
  have pos : (0 : Int) < 2 ^ k := by positivity
  split
  · exact Int.ediv_eq_zero_of_lt ‹_› (by omega)
  · exact ((Int.ediv_emod_unique pos (r := a.toInt + 2 ^ k)).2 ⟨by ring, by omega, by omega⟩).1

theorem sarLane_eq (a b : W32) : sarLane a b = BitVec.ofInt 32 (a.toInt / 2 ^ b.toNat) := by
  have places : a.toInt / 2 ^ b.toNat = a.toInt / 2 ^ (Nat.min b.toNat 31) := by
    by_cases hb : b.toNat ≤ 31
    · rw [show Nat.min b.toNat 31 = b.toNat from Nat.min_eq_left hb]
    · rw [show Nat.min b.toNat 31 = 31 from Nat.min_eq_right (by omega), toInt_ediv_two_pow a (by omega),
        toInt_ediv_two_pow a le_rfl]
  rw [← BitVec.ofInt_toInt (x := sarLane a b), sarLane, BitVec.toInt_sshiftRight, Int.shiftRight_eq_div_pow, places]
  norm_cast

/-- SEL takes V[VB] in the lanes that its mask leaves out (R147). -/
theorem sel_gives (p : Insn → Prop) :
    givesVec (fun s _ c i => .done s (c.setVec i.vd (List.zipWith (fun b p => if b then p.1 else p.2) (c.mask i.mask)
      (List.zip (c.vec i.va) (c.vec i.vb)))) (0, 0, 0) none)
      (fun c i l => if c.bitAt i.mask l then c.lane i.va l else c.lane i.vb l) p := by
  intro s drain c i _
  dsimp only
  rw [c.mask_eq, c.vec_eq, c.vec_eq, zip_lanes, zipWith_lanes]
  exact ⟨_, _, rfl⟩

/-- Settles O41: every instruction by its shape, the shifts by their equations. -/
theorem laneInstructionsComputeEachLane : Obligations.LaneInstructionsComputeEachLane := by
  unfold Obligations.LaneInstructionsComputeEachLane
  intro a b any w
  simp only [← shlLane_eq, ← shrLane_eq, ← sarLane_eq]
  exact ⟨
    givesLanes_of_givesVec (lane2_gives fadd any) fun _ _ => rfl,
    givesLanes_of_givesVec (lane2_gives fsub any) fun _ _ => rfl,
    givesLanes_of_givesVec (lane2_gives fmul any) fun _ _ => rfl,
    givesLanes_of_givesVec (lane3_gives ffma any) fun _ _ => rfl,
    givesLanes_of_givesVec (lane2_gives fmin any) fun _ _ => rfl,
    givesLanes_of_givesVec (lane2_gives fmax any) fun _ _ => rfl,
    givesLanes_of_givesVec (lane1_gives (fun x => plain (x &&& 0x7FFFFFFF#32)) any) fun _ _ => rfl,
    givesLanes_of_givesVec (lane1_gives (fun x => plain (x ^^^ 0x80000000#32)) any) fun _ _ => rfl,
    givesBits_of_maskEnd fun _ _ => rfl,
    givesLanes_of_givesVec (sel_gives any) fun _ _ => rfl,
    givesLanes_of_givesVec (replicate_gives (fun _ i => plain i.imm) any) fun _ _ => rfl,
    givesLanes_of_givesVec (replicate_gives (fun c i => plain (c.sc i.va)) any) fun _ _ => rfl,
    givesLanes_of_givesVec (lane1_gives vexp2 any) fun _ _ => rfl,
    givesLanes_of_givesVec (lane1_gives vlog2 any) fun _ _ => rfl,
    givesLanes_of_givesVec (lane1_gives vrsqrt any) fun _ _ => rfl,
    givesLanes_of_givesVec (lane1_gives vrecip any) fun _ _ => rfl,
    givesLanes_of_givesVec (lane1_gives vsin any) fun _ _ => rfl,
    givesLanes_of_givesVec (lane1_gives vcos any) fun _ _ => rfl,
    givesLanes_of_givesVec (zipIdx_gives (fun _ _ i => fld i.imm 23 0) (fun c i p =>
      cvtSr (laneNoise c (c.sc i.vb).toNat 15 (fld i.imm 23 0) p.2).1.toNat p.1) any) fun _ _ => rfl,
    givesLanes_of_givesVec (lane2_gives (fun x y => plain (x + y)) any) fun _ _ => rfl,
    givesLanes_of_givesVec (lane2_gives (fun x y => plain (x - y)) any) fun _ _ => rfl,
    givesLanes_of_givesVec (lane2_gives (fun x y => plain (x * y)) any) fun _ _ => rfl,
    givesLanes_of_givesVec (lane2_gives (fun x y => plain (shlLane x y)) any) fun _ _ => rfl,
    givesLanes_of_givesVec (lane2_gives (fun x y => plain (shrLane x y)) any) fun _ _ => rfl,
    givesLanes_of_givesVec (lane2_gives (fun x y => plain (sarLane x y)) any) fun _ _ => rfl,
    givesLanes_of_givesVec (lane2_gives (fun x y => plain (x &&& y)) any) fun _ _ => rfl,
    givesLanes_of_givesVec (lane2_gives (fun x y => plain (x ||| y)) any) fun _ _ => rfl,
    givesLanes_of_givesVec (lane2_gives (fun x y => plain (x ^^^ y)) any) fun _ _ => rfl,
    givesLanes_of_givesVec (lane2_gives (fun x y => plain (if x.toInt ≤ y.toInt then x else y)) any) fun _ _ => rfl,
    givesLanes_of_givesVec (lane2_gives (fun x y => plain (if x.toInt ≤ y.toInt then y else x)) any) fun _ _ => rfl,
    givesBits_of_maskEnd fun _ _ => rfl,
    givesLanes_of_givesVec (range_gives (fun c i l => plain (noiseUniform (w c i l).1)) any) fun _ _ => rfl,
    givesLanes_of_givesVec (range_gives (fun c i l => plain (noiseGauss (w c i l).1 (w c i l).2.1)) any) fun _ _ => rfl⟩

end Sys2Proof.Machine
end

section
/-! PROOF. Uniform noise (R156): a number of at most 24 significant bits in the range of the normal F32 numbers is rounded to
itself, and (2k + 1) × 2^-24 is one. -/
namespace Sys2Proof.Machine

/-! ### Numbers that F32 holds exactly -/

section
variable {n x : Nat} {e : Int} (pos : 0 < n) (narrow : n < 2 ^ 24) (hx : (x : Int) = e + Nat.log2 n + 127) (low : 1 ≤ x)
  (high : x ≤ 254)
include pos narrow

/-- The significand, shifted to 24 bits. -/
theorem significand_bounds : Nat.log2 n ≤ 23 ∧ 2 ^ 23 ≤ n * 2 ^ (23 - Nat.log2 n) ∧ n * 2 ^ (23 - Nat.log2 n) < 2 ^ 24 := by
  have len : Nat.log2 n ≤ 23 := Nat.lt_succ_iff.1 ((Nat.log2_lt pos.ne').2 narrow)
  have least : 2 ^ Nat.log2 n ≤ n := Nat.log2_self_le pos.ne'
  have most : n < 2 ^ (Nat.log2 n + 1) := Nat.lt_log2_self
  have whole : 2 ^ Nat.log2 n * 2 ^ (23 - Nat.log2 n) = 2 ^ 23 := by rw [← pow_add, Nat.add_sub_cancel' len]
  refine ⟨len, whole ▸ Nat.mul_le_mul_right _ least, ?_⟩
  calc n * 2 ^ (23 - Nat.log2 n) < 2 ^ (Nat.log2 n + 1) * 2 ^ (23 - Nat.log2 n) := Nat.mul_lt_mul_of_pos_right most (Nat.two_pow_pos _)
    _ = 2 ^ 24 := by rw [pow_succ, Nat.mul_right_comm, whole]; rfl

include hx low high

/-- The encoding of a normal number: exponent x, fraction below the leading bit. -/
theorem toNat_round32_normal :
    (round32 (.fin n e)).bits.toNat = x * 2 ^ 23 + (n * 2 ^ (23 - Nat.log2 n) - 2 ^ 23) := by
  obtain ⟨len, least, most⟩ := significand_bounds pos narrow
  have lsb : max (e + ((Nat.log2 n + 1 : Nat) : Int) - ((24 : Nat) : Int)) (-149) = e - ((23 - Nat.log2 n : Nat) : Int) := by
    omega
  have mag : roundMag 24 (-149) (255 * 2 ^ 23) n e = x * 2 ^ 23 + (n * 2 ^ (23 - Nat.log2 n) - 2 ^ 23) := by
    unfold roundMag
    simp only [lsb]
    have shift : (e - (e - ((23 - Nat.log2 n : Nat) : Int))).toNat = 23 - Nat.log2 n := by omega
    have expo : (e - ((23 - Nat.log2 n : Nat) : Int) - -149 + 1).toNat = x := by omega
    rw [if_pos (show e - ((23 - Nat.log2 n : Nat) : Int) ≤ e by omega), shift,
      if_neg (show ¬ n * 2 ^ (23 - Nat.log2 n) < 2 ^ (24 - 1) by omega), expo]
    exact Nat.min_eq_left (by omega)
  unfold round32 roundExt
  simp only [Int.natAbs_natCast, Nat.reduceSub, mag]
  rw [decide_eq_false (by omega), if_neg Bool.false_ne_true, Nat.zero_add, BitVec.toNat_ofNat]
  exact Nat.mod_eq_of_lt (by omega)

/-- Rounding is exact on a number of at most 24 significant bits in the normal range. -/
theorem ext32_round32_normal : ext32 (round32 (.fin n e)).bits =
    .fin ((n * 2 ^ (23 - Nat.log2 n) : Nat) : Int) (e - ((23 - Nat.log2 n : Nat) : Int)) := by
  obtain ⟨len, least, most⟩ := significand_bounds pos narrow
  unfold ext32 decodeExt
  rw [toNat_round32_normal pos narrow hx low high]
  generalize n * 2 ^ (23 - Nat.log2 n) = m at *
  have sign : (x * 2 ^ 23 + (m - 2 ^ 23)) / (256 * 2 ^ (24 - 1)) % 2 = 0 := by omega
  have expo : (x * 2 ^ 23 + (m - 2 ^ 23)) / 2 ^ (24 - 1) % 256 = x := by omega
  have frac : 2 ^ (24 - 1) + (x * 2 ^ 23 + (m - 2 ^ 23)) % 2 ^ (24 - 1) = m := by omega
  have scale : (-149 : Int) + ((x - 1 : Nat) : Int) = e - ((23 - Nat.log2 n : Nat) : Int) := by omega
  simp only [sign, expo, frac, scale]
  rw [if_neg (show ¬ x = 255 by omega), if_neg (show ¬ x = 0 by omega), decide_eq_false (by decide), if_neg Bool.false_ne_true]

end

/-! ### The draw -/

/-- The exact value of a uniform draw (R156). -/
theorem ext32_noiseUniform (w : W32) : ∃ m e : Int, ext32 (noiseUniform w) = .fin m e ∧
    (m : Rat) * (2 : Rat) ^ e = (((w >>> 9).toNat : Rat) + 1 / 2) * (2 : Rat) ^ (-23 : Int) := by
  have shifted : (w >>> 9).toNat = w.toNat / 512 := by rw [BitVec.toNat_ushiftRight, Nat.shiftRight_eq_div_pow]
  have wide := w.isLt
  rw [shifted]
  unfold noiseUniform mkFin
  generalize hk : w.toNat / 512 = k
  have narrow : 2 * k + 1 < 2 ^ 24 := by omega
  obtain ⟨len, -, -⟩ := significand_bounds (show 0 < 2 * k + 1 by omega) narrow
  rw [if_neg (by omega)]
  refine ⟨_, _, ext32_round32_normal (x := 103 + Nat.log2 (2 * k + 1)) (Nat.succ_pos _) narrow (by push_cast; omega)
    (by omega) (by omega), ?_⟩
  generalize 23 - Nat.log2 (2 * k + 1) = j
  rw [zpow_sub₀ (by norm_num)]
  push_cast
  rw [zpow_natCast]
  field_simp

/-- Settles O42: the command as a lane instruction, and the bounds by the draw's exact value. -/
theorem uniformNoiseLiesStrictlyBetween : Obligations.UniformNoiseLiesStrictlyBetween := by
  refine ⟨givesLanes_of_givesVec (range_gives (fun c i l =>
    plain (noiseUniform (laneNoise c (noiseBase c i.va) (fld i.imm 27 24) (fld i.imm 23 0) l).1)) _) fun _ _ => rfl,
    fun w0 => ?_⟩
  obtain ⟨m, e, exact', value⟩ := ext32_noiseUniform w0
  have top : (w0 >>> 9).toNat ≤ 2 ^ 23 - 1 := by
    have := w0.isLt
    rw [BitVec.toNat_ushiftRight, Nat.shiftRight_eq_div_pow]
    omega
  have top' : ((w0 >>> 9).toNat : Rat) ≤ 8388607 := by exact_mod_cast top
  have low : (0 : Rat) ≤ ((w0 >>> 9).toNat : Rat) := Nat.cast_nonneg _
  refine ⟨m, e, exact', value, ?_, ?_, fun zero => ?_, fun zero => ?_, fun one => ?_⟩
  · rw [value]
    generalize ((w0 >>> 9).toNat : Rat) = k at *
    norm_num
    linarith
  · rw [value]
    generalize ((w0 >>> 9).toNat : Rat) = k at *
    norm_num
    linarith
  · rw [zero, show ext32 0 = .zero false by decide] at exact'
    cases exact'
  · rw [zero, show ext32 0x80000000#32 = .zero true by decide] at exact'
    cases exact'
  · rw [one, show ext32 0x3F800000#32 = .fin 8388608 (-23) by decide] at exact'
    cases exact'
    generalize ((w0 >>> 9).toNat : Rat) = k at *
    norm_num at value
    linarith

end Sys2Proof.Machine
end

section
/-! PROOF. What a program finds in its registers when it starts (R138, R141, R164). -/
namespace Sys2Proof.Machine

/-- A context at the first instruction of its program, with V0 to V31, S4 to S31 and M1 to M7 zero (R138). -/
def VecCtx.cleared (c : VecCtx) : Prop :=
  c.running = true ∧ c.pc = 0 ∧ (∀ r, r < 32 → c.vec r = List.replicate 2048 0) ∧ (∀ r, 4 ≤ r → r < 32 → c.sc r = 0) ∧
    ∀ r, 1 ≤ r → r ≤ 7 → c.mask r = List.replicate 2048 false

theorem State.startCtx_cleared (s : State) (n : Nat) (drain : Bool) (prog k : Nat) (t : Task) (seed : W64) (b : Nat) :
    (s.startCtx n drain prog k t seed b).cleared := by
  refine ⟨rfl, rfl, fun r _ => s.vec_startCtx .., fun r low _ => ?scalar, fun r low _ => ?mask⟩
  case scalar =>
    unfold State.startCtx VecCtx.sc
    simp only [List.foldl_cons, List.foldl_nil]
    rw [mget_mset_other _ _ _ (by omega), mget_mset_other _ _ _ (by omega), mget_mset_other _ _ _ (by omega),
      mget_mset_other _ _ _ (by omega)]
    rfl
  case mask =>
    unfold VecCtx.mask
    rw [if_neg (by omega)]
    exact dense_nil false 2048 (2048 * r)

/-! ### VEC -/

/-- A VEC task whose program passes starts it in the core of its queue. -/
theorem State.runVec_starts {s : State} {k : Nat} {t : Task}
    (passes : s.progCode k (s.queue k).lcore (s.yardAddr (s.queue k).lcore (df t.desc 4 24 0)) = 0) :
    ((s.runVec k t).core (s.queue k).lcore).vec.cleared := by
  unfold State.runVec
  simp only [passes, ne_eq, not_true, if_false]
  rw [State.core_modCore_same]
  exact State.startCtx_cleared ..

/-- The checks of a program read memory, the home tables and their sizes alone. -/
theorem State.progCode_congr {s u : State} (mem : u.mem = s.mem) (homes : u.homes = s.homes)
    (size : ∀ t, u.reg .thCfg t = s.reg .thCfg t) (k n prog : Nat) : u.progCode k n prog = s.progCode k n prog := by
  have word (a : Nat) : u.word a = s.word a := by
    rw [State.word_eq, State.word_eq]
    simp only [State.byte_congr (congrArg Mem.bytes mem)]
  have home (t h : Nat) : u.home t h = s.home t h := congrArg (mget HEntry.free · (hkey t h)) homes
  unfold State.progCode State.regionCount State.region State.yardWriteCode State.handleOk State.thSize State.rfld
  simp only [word, home, size]

theorem mayIssue.unitFree_vec {s : State} {k : Nat} {d : List W32} (h : mayIssue s k d) (hd : dType d = 4)
    (idle : (s.core (s.queue k).lcore).vec.running = false) : s.unitFree k = true := by
  unfold State.unitFree
  simp [h.desc_eq, hd, idle]

theorem mayIssue.startTask_lcore {s : State} {k : Nat} {d : List W32} (h : mayIssue s k d) (w : Nat) :
    ((s.startTask k w).1.queue k).lcore = (s.queue k).lcore := by
  rw [State.queue_congr (h.startTask_queues w), State.queue_modQueue_same, State.trigger, State.queue_modQueue_same]

/-- The issue of a VEC task leaves what the checks of its program read. -/
theorem mayIssue.startTask_progCode {s : State} {k : Nat} {d : List W32} (h : mayIssue s k d) (w n off : Nat) :
    (s.startTask k w).1.progCode k n ((s.startTask k w).1.yardAddr n off) = s.progCode k n (s.yardAddr n off) := by
  have frame : (s.startTask k w).1 = _ := h.startTask_frame w
  have mem : (s.startTask k w).1.mem = s.mem := by rw [frame]
  have homes : (s.startTask k w).1.homes = s.homes := by rw [frame]
  have map : (s.startTask k w).1.coreMap = s.coreMap := by rw [frame]
  have addr : (s.startTask k w).1.yardAddr n off = s.yardAddr n off := by
    unfold State.yardAddr State.phys
    rw [map]
  rw [addr]
  refine State.progCode_congr mem homes (fun t => ?_) k n _
  rw [h.startTask_reg, if_neg (by simp)]

/-! ### Drain programs -/

/-- The seed record that a drain program reads, where it draws noise and has one, may be read now (R141). -/
def State.seedReady (s : State) (k n prog : Nat) : Prop :=
  s.drawsNoise prog = false ∨ s.regionCount prog = 0 ∨
    s.yardReadCode (k / 16) n (s.region prog 0).1 (s.region prog 0).2.2.2.1 64 = 0 ∧ s.filling (k / 16) (s.region prog 0).1 = false

/-- The drain program of a full, untaken landing buffer starts when it passes and its seed record may be read. -/
theorem State.drainProgram_cleared {s : State} {n b : Nat} {t : Task} {lb : Landing} (hb : (s.core n).landing b = lb)
    (ht : s.task? lb.owner.1 lb.owner.2 = some t) (full : lb.full = true) (untaken : lb.taken = 0)
    (idle : (s.core n).drainVec.running = false) (hd : dType t.desc = 1)
    (passes : s.progCode lb.owner.1 n (s.yardAddr n (df t.desc 12 24 0)) = 0)
    (seed : s.seedReady lb.owner.1 n (s.yardAddr n (df t.desc 12 24 0))) :
    ((s.drainProgram n b).core n).drainVec.cleared := by
  unfold State.seedReady at seed
  unfold State.drainProgram
  generalize hp : s.yardAddr n (df t.desc 12 24 0) = prog at *
  cases reads : s.drawsNoise prog && decide (0 < s.regionCount prog) with
  | false =>
    simp only [hb, ht, full, untaken, idle, hd, hp, passes, reads, orCode]
    simp only [Bool.not_true, ne_eq, not_true, decide_false, Bool.or_self, decide_true, Bool.false_and, if_true, if_false,
      Bool.false_eq_true, State.core_modCore_same]
    exact State.startCtx_cleared ..
  | true =>
    simp only [Bool.and_eq_true, decide_eq_true_eq] at reads
    obtain ⟨draws, regions⟩ := reads
    obtain ⟨code, still⟩ : s.yardReadCode (lb.owner.1 / 16) n (s.region prog 0).1 (s.region prog 0).2.2.2.1 64 = 0 ∧
        s.filling (lb.owner.1 / 16) (s.region prog 0).1 = false := by
      rcases seed with h | h | h
      · rw [h] at draws; cases draws
      · omega
      · exact h
    simp only [hb, ht, full, untaken, idle, hd, hp, passes, draws, regions, code, still, orCode]
    simp only [Bool.not_true, ne_eq, not_true, decide_false, Bool.or_self, decide_true, Bool.and_self, Bool.and_false, if_true,
      if_false, Bool.false_eq_true, State.core_modCore_same]
    exact State.startCtx_cleared ..

/-- Settles O43: both commands by the context that they start. -/
theorem programsStartWithClearedRegisters : Obligations.ProgramsStartWithClearedRegisters := by
  unfold Obligations.ProgramsStartWithClearedRegisters
  intro cleared
  refine ⟨fun t q w d s h hd => ?vec, fun n b t s up => ?drain⟩
  case vec =>
    intro n idle passes
    obtain ⟨up, -⟩ := id h
    obtain ⟨-, -, desc, -⟩ := h.startTask_task w
    refine ⟨_, exec_vec up t q w, ?_⟩
    rw [h.issueTask_runs w _ (by simp [hd]) (by simpa using idle) (h.unitFree_vec hd idle)]
    have begun := State.runVec_starts (s := (s.startTask (16 * t.val + q.val) w).1) (k := 16 * t.val + q.val)
      (t := (s.startTask (16 * t.val + q.val) w).2) (by rw [h.startTask_lcore, h.startTask_progCode, desc]; exact passes)
    rwa [h.startTask_lcore] at begun
  case drain =>
    intro lb ht full untaken idle hd passes seed
    exact ⟨_, exec_drainProgram up n b, State.drainProgram_cleared rfl ht full untaken idle hd passes seed⟩

end Sys2Proof.Machine
end

section
/-! PROOF. Scalar moves, REP and the end of a program (R116, R138, R139, R143). -/
namespace Sys2Proof.Machine

/-! ### REP -/

/-- The length of a REP's body, and how often it runs (R143). -/
def repLen (i : Insn) : Nat := fld i.imm 27 16
def repCount (c : VecCtx) (i : Insn) : Nat := if fld i.imm 15 0 = 0 then (c.sc i.va).toNat else fld i.imm 15 0

/-- What a REP makes of its context. -/
def repEnd (s : State) (c : VecCtx) (i : Insn) : VecEnd :=
  if repCount c i = 0 ∨ repLen i = 0 then .done s { c with pc := c.pc + repLen i } (0, 0, 0) none
  else .done s { c with reps := (c.pc + 1, c.pc + 1 + repLen i, repCount c i - 1) :: c.reps } (0, 0, 0) none

theorem repEnd_skips (s : State) {c : VecCtx} {i : Insn} (h : repCount c i = 0 ∨ repLen i = 0) :
    repEnd s c i = .done s { c with pc := c.pc + repLen i } (0, 0, 0) none := if_pos h

theorem repEnd_opens (s : State) {c : VecCtx} {i : Insn} (hc : 0 < repCount c i) (hl : 0 < repLen i) :
    repEnd s c i = .done s { c with reps := (c.pc + 1, c.pc + 1 + repLen i, repCount c i - 1) :: c.reps } (0, 0, 0) none :=
  if_neg (by omega)

theorem exec_vRep {s : State} (h : s.up = true) (n : Fin 16) :
    exec (.vRep n) s = .next (s.vecRun n 0x60 4 fun y _ c i => repEnd y c i) :=
  whenUp_up h fun x => x.vecRun n 0x60 4 fun y _ c i => repEnd y c i

theorem exec_vSmov {s : State} (h : s.up = true) (n : Fin 16) : exec (.vSmov n) s =
    .next (s.vecRun n 0x50 4 fun y _ c i => .done y (c.setSc i.vd i.imm) (0, 0, 0) none) :=
  whenUp_up h fun x => x.vecRun n 0x50 4 fun y _ c i => .done y (c.setSc i.vd i.imm) (0, 0, 0) none

/-! ### The place after an instruction -/

/-- At the end of the innermost body the context goes back while repetitions are left, else on (R143). -/
theorem repNext_end (pc first left : Nat) : repNext pc [(first, pc, left)] =
    if 0 < left then (first, [(first, pc, left - 1)]) else (pc, []) := by
  rw [repNext, if_pos rfl]
  rfl

theorem repNext_inside {pc first last left : Nat} (h : pc ≠ last) :
    repNext pc [(first, last, left)] = (pc, [(first, last, left)]) := by
  rw [repNext, if_neg h]

section
variable {s : State} {n op unit : Nat} {f : State → Bool → VecCtx → Insn → VecEnd} {drain : Bool} {c c1 : VecCtx}
  {cnt : Nat × Nat × Nat} {nan : Option (Nat × Nat)} (running : (s.core n).running = some (drain, c))
  (hop : (s.nextInsn c).op = op) (untrapped : s.untrapped c.owner.1 c.owner.2) (hf : f s drain c (s.nextInsn c) = .done s c1 cnt nan)
include running hop untrapped hf

/-- An instruction that does not end its program stores its context at the place that the bodies give (R143). -/
theorem State.vecRun_stores {pc : Nat} {reps : List (Nat × Nat × Nat)} (alive : c1.running = c.running)
    (next : repNext (c1.pc + 1) c1.reps = (pc, reps)) (more : pc < s.insnCount c1.prog) :
    ((s.vecRun n op unit f).core n).running = some (drain, { c1 with pc := pc, reps := reps }) ∧
      s.vecRun n op unit f = { s with cores := (s.vecRun n op unit f).cores, queues := (s.vecRun n op unit f).queues
                                      regs := (s.vecRun n op unit f).regs } ∧ vecRegs n s (s.vecRun n op unit f) := by
  have run : s.vecRun n op unit f =
      (s.vecCounted n c.owner cnt).modCore n fun k => k.setRunning drain { c1 with pc := pc, reps := reps } := by
    rw [State.vecRun_done running hop untrapped rfl hf, State.vecStore_more (by simp only [next]; exact more)]
    simp only [next]
  obtain ⟨core, -, frame, regs⟩ := s.vecCounted_setRunning n drain c.owner cnt { c1 with pc := pc, reps := reps }
  rw [run]
  refine ⟨?_, frame, regs⟩
  rw [core]
  exact Core.running_setRunning running alive

/-- The last instruction of a VEC program: its context is free, and its task has landed (R116, R138). -/
theorem State.vecRun_ends (vec : drain = false) (bare : c1.reps = []) (last : s.insnCount c1.prog ≤ c1.pc + 1) :
    s.vecRun n op unit f = ((s.vecCounted n c.owner cnt).modCore n fun k => { k.sealHalves with vec := .init }).landTask
      c1.owner.1 c1.owner.2 := by
  rw [State.vecRun_done running hop untrapped rfl hf]
  unfold State.vecStore
  simp only [bare, repNext, vec]
  rw [if_neg (show ¬ c1.pc + 1 < (s.vecCounted n c.owner cnt).insnCount c1.prog from Nat.not_lt.2 last)]
  rfl

end

theorem State.task?_landTask {s : State} {k i : Nat} {t : Task} (h : (s.landTask k i).task? k i = some t) : t.landed = true := by
  have moved : (s.landTask k i).task? k i = _ := State.task?_modTask s k i k i fun _ => rfl
  rw [moved, if_pos ⟨rfl, rfl⟩, Option.map_eq_some_iff] at h
  obtain ⟨x, -, rfl⟩ := h
  rfl

theorem State.landTask_frame (u : State) (n : Nat) (g : Core → Core) (k i : Nat) :
    ((u.modCore n g).landTask k i).core n = g (u.core n) ∧ (u.modCore n g).landTask k i =
      { u with cores := ((u.modCore n g).landTask k i).cores, queues := ((u.modCore n g).landTask k i).queues } :=
  ⟨u.core_modCore_same n g, rfl⟩

/-- A change of cores and queues after one of queues and registers. -/
theorem State.frame_trans {s u t : State} (moved : t = { u with cores := t.cores, queues := t.queues })
    (counted : u = { s with queues := u.queues, regs := u.regs }) :
    t.regs = u.regs ∧ t = { s with cores := t.cores, queues := t.queues, regs := t.regs } := by
  have regs : t.regs = u.regs := by rw [moved]
  refine ⟨regs, ?_⟩
  rw [regs]
  refine moved.trans ?_
  generalize t.cores = cores, t.queues = queues at *
  rw [counted]

/-- A task that lands with the last instruction of its program: nothing but cores, queues and registers has changed. -/
theorem State.vecCounted_landTask (s : State) (n : Nat) (o : Nat × Nat) (cnt : Nat × Nat × Nat) (g : Core → Core) (k i : Nat) :
    let t := ((s.vecCounted n o cnt).modCore n g).landTask k i
    t.core n = g (s.core n) ∧ (∀ y, t.task? k i = some y → y.landed = true) ∧
      t = { s with cores := t.cores, queues := t.queues, regs := t.regs } ∧ vecRegs n s t := by
  intro t
  obtain ⟨core, frame⟩ := (s.vecCounted n o cnt).landTask_frame n g k i
  obtain ⟨same, whole⟩ := State.frame_trans frame (s.vecCounted_frame n o cnt)
  obtain ⟨issued, others⟩ := s.vecCounted_regs n o cnt
  exact ⟨core, fun _ hy => State.task?_landTask hy, whole, (State.reg_congr same _ _).trans issued,
    fun r i h => (State.reg_congr same _ _).trans (others r i h)⟩

/-- Settles O46: the scalar moves by their shape, REP and the ends by what they store. -/
theorem scalarsLoopsAndProgramEnd : Obligations.ScalarsLoopsAndProgramEnd := by
  unfold Obligations.ScalarsLoopsAndProgramEnd
  refine ⟨givesScalar_of_setSc fun _ _ => rfl, givesScalar_of_setSc fun _ _ => rfl, givesScalar_of_setSc fun _ _ => rfl,
    fun n drain c s h => ?rep, fun n drain c first left s up running untrapped hop => ⟨fun body more back => ?bodyEnd,
      fun vec bare last => ?programEnd⟩⟩
  case rep =>
    obtain ⟨up, running, hop, bare, more, untrapped⟩ := h
    intro i len cnt
    refine ⟨fun hc hl => ⟨_, exec_vRep up n, ?_⟩, fun skip hn => ⟨_, exec_vRep up n, ?_⟩⟩
    · refine State.vecRun_stores (c1 := { c with reps := (c.pc + 1, c.pc + 1 + len, cnt - 1) :: c.reps }) running hop untrapped
        (repEnd_opens s hc hl) rfl ?_ more
      dsimp only
      rw [bare]
      exact repNext_inside (by omega)
    · have place : repNext (c.pc + len + 1) c.reps = (c.pc + 1 + len, c.reps) := by
        rw [bare, Nat.add_right_comm]
        rfl
      exact State.vecRun_stores (c1 := { c with pc := c.pc + len }) running hop untrapped (repEnd_skips s skip) rfl place hn
  case bodyEnd =>
    let moved := c.setSc (s.nextInsn c).vd (s.nextInsn c).imm
    have next : repNext (c.pc + 1) c.reps = _ := body ▸ repNext_end (c.pc + 1) first left
    refine ⟨_, { moved with pc := (repNext (c.pc + 1) c.reps).1, reps := (repNext (c.pc + 1) c.reps).2 }, exec_vSmov up n, ?_⟩
    have stays : (repNext (c.pc + 1) c.reps).1 < s.insnCount c.prog := by
      rw [next]
      split <;> dsimp only <;> omega
    obtain ⟨stored, -⟩ := State.vecRun_stores (unit := 4) (f := fun y _ c i => .done y (c.setSc i.vd i.imm) (0, 0, 0) none)
      (c1 := moved) running hop untrapped rfl rfl rfl stays
    refine ⟨stored, fun again => ?_, fun spent => ?_⟩
    · rw [next, if_pos again]
      exact ⟨rfl, rfl⟩
    · rw [next, if_neg (by omega)]
      exact ⟨rfl, rfl⟩
  case programEnd =>
    refine ⟨_, exec_vSmov up n, ?_⟩
    rw [State.vecRun_ends (c1 := c.setSc (s.nextInsn c).vd (s.nextInsn c).imm) running hop untrapped rfl vec bare last]
    obtain ⟨core, landed⟩ := s.vecCounted_landTask n c.owner (0, 0, 0) (fun k => { k.sealHalves with vec := .init })
      c.owner.1 c.owner.2
    exact ⟨congrArg Core.vec core, landed⟩

end Sys2Proof.Machine
end

section
/-! PROOF. Row reductions and converts (R57, R61, R148, R149, R152, R153). -/
namespace Sys2Proof.Machine

/-! ### The tree of a segment -/

section
variable (f : W32 → W32 → FRes)

/-- A level of a tree takes its values in pairs of neighbours (R148). -/
theorem treeLevel_range (m : Nat) : ∀ x : Nat → W32,
    treeLevel f ((List.range (2 * m)).map x) = (List.range m).map fun p => f (x (2 * p)) (x (2 * p + 1)) := by
  induction m with
  | zero => exact fun _ => rfl
  | succ m ih =>
    intro x
    have two : List.range (2 * (m + 1)) = 0 :: 1 :: (List.range (2 * m)).map (fun p => p + 2) := by
      rw [show 2 * (m + 1) = 2 * m + 1 + 1 by omega, List.range_succ_eq_map, List.range_succ_eq_map, List.map_cons, List.map_map]
      rfl
    have one : List.range (m + 1) = 0 :: (List.range m).map (fun p => p + 1) := List.range_succ_eq_map
    rw [two, one, List.map_cons, List.map_cons, List.map_map, treeLevel, List.map_cons, List.map_map]
    exact congrArg _ (ih fun p => x (p + 2))

theorem pairTree_level (x : Nat → W32) (k : Nat) : ∀ p,
    pairTree f (fun q => (f (x (2 * q)) (x (2 * q + 1))).bits) k p = pairTree f x (k + 1) (2 * p) := by
  induction k with
  | zero => exact fun _ => rfl
  | succ k ih =>
    intro p
    rw [pairTree, pairTree, ih, ih, Nat.mul_add, Nat.pow_succ' (m := 2)]

theorem pairTree_shift (x : Nat → W32) (a k : Nat) : ∀ i,
    pairTree f (fun q => x (a + q)) k i = pairTree f x k (a + i) := by
  induction k with
  | zero => exact fun _ => rfl
  | succ k ih =>
    intro i
    rw [pairTree, pairTree, ih, ih, Nat.add_assoc]

/-- The last level of a segment's tree is its one value. -/
theorem treeLevels_last (k : Nat) : ∀ (l0 : List FRes) (x : Nat → W32), (l0.map fun r => r.bits) = (List.range (2 ^ k)).map x →
    ∃ r t, (l0 :: treeLevels f k (l0.map fun r => r.bits)).getLastD [] = r :: t ∧ r.bits = pairTree f x k 0 := by
  induction k with
  | zero =>
    intro l0 x h
    obtain ⟨r, rfl, value⟩ := List.map_eq_singleton_iff.1 (h : l0.map _ = [x 0])
    exact ⟨r, [], rfl, value⟩
  | succ k ih =>
    intro l0 x h
    have level := treeLevel_range f (2 ^ k) x
    rw [← Nat.pow_succ', ← h] at level
    obtain ⟨r, t, last, value⟩ := ih (treeLevel f (l0.map fun r => r.bits)) (fun p => (f (x (2 * p)) (x (2 * p + 1))).bits)
      (by rw [level, List.map_map]; rfl)
    exact ⟨r, t, last, value.trans (pairTree_level f x k 0)⟩

end

/-! ### Segments and blocks of lanes -/

section
variable {α : Type}

/-- The entries of a tabulated list from a on. -/
theorem drop_take_range (x : Nat → α) {a w m : Nat} (h : a + w ≤ m) :
    (((List.range m).map x).drop a).take w = (List.range w).map fun q => x (a + q) := by
  apply List.ext_getElem?
  intro q
  rw [List.getElem?_take, List.getElem?_map]
  split
  next hq =>
    rw [List.getElem?_drop, List.getElem?_map, List.getElem?_range (by omega), List.getElem?_range hq, Option.map_some,
      Option.map_some]
  next hq => rw [List.getElem?_eq_none (by rw [List.length_range]; omega), Option.map_none]

theorem drop_take_lanes (x : Nat → α) {a w : Nat} (h : a + w ≤ 2048) :
    ((lanes x).drop a).take w = (List.range w).map fun q => x (a + q) := drop_take_range x h

/-- One value for each segment of w lanes. -/
theorem flatMap_replicate (w n : Nat) (z : Nat → α) (hw : 0 < w) :
    ((List.range n).flatMap fun g => List.replicate w (z g)) = (List.range (n * w)).map fun l => z (l / w) := by
  induction n with
  | zero => rw [Nat.zero_mul]; rfl
  | succ n ih =>
    rw [List.range_succ, List.flatMap_append, ih, Nat.succ_mul, List.range_add, List.map_append, List.map_map,
      List.flatMap_singleton]
    refine congrArg _ (List.ext_getElem? fun q => ?_)
    rw [List.getElem?_replicate, List.getElem?_map]
    split
    next hq =>
      rw [List.getElem?_range hq, Option.map_some, Function.comp_apply, Nat.mul_comm, Nat.mul_add_div hw, Nat.div_eq_of_lt hq,
        Nat.add_zero]
    next hq => rw [List.getElem?_eq_none (by rw [List.length_range]; omega), Option.map_none]

theorem lanes_segments {w : Nat} (z : Nat → α) (hw : 0 < w) (whole : 2048 / w * w = 2048) :
    lanes (fun l => z (l / w)) = (List.range (2048 / w)).flatMap fun g => List.replicate w (z g) := by
  rw [flatMap_replicate _ _ _ hw, whole, lanes]

theorem blocksOf_lanes (w : Nat) (x : Nat → α) :
    blocksOf w (lanes x) = (List.range (2048 / w)).map fun j => (List.range w).map fun q => x (j * w + q) := by
  refine List.map_congr_left fun j hj => drop_take_lanes x ?_
  have below : j < 2048 / w := List.mem_range.1 hj
  calc j * w + w = (j + 1) * w := (Nat.succ_mul j w).symm
    _ ≤ 2048 / w * w := Nat.mul_le_mul_right w below
    _ ≤ 2048 := Nat.div_mul_le_self _ _

end

/-- What a block function makes of the active lanes of each block (R57, R153). -/
theorem blocksOf_active (c : VecCtx) (i : Insn) (w : Nat) (g : List W32 → Nat) :
    (blocksOf w ((c.mask i.mask).zip (c.vec i.va))).map (fun b => g ((b.filter fun p => p.1).map fun p => p.2)) =
      (List.range (2048 / w)).map fun j => g (activeOf c i w j) := by
  rw [c.mask_eq, c.vec_eq, zip_lanes, blocksOf_lanes, List.map_map]
  refine List.map_congr_left fun j _ => congrArg g ?_
  rw [activeOf, List.filter_map, List.filter_map, List.map_map, List.map_map, Nat.mul_comm]
  rfl

/-- Single lanes of a register, written in its first lanes. -/
theorem setLanes_lanes (act : Nat → Bool) (old v : Nat → W32) {m : Nat} (h : m ≤ 2048) :
    setLanes (lanes act) (lanes old) ((List.range m).map v) = lanes fun l => if l < m ∧ act l = true then v l else old l := by
  have first : (List.zipWith (fun p v => if p.1 then v else p.2) (lanes fun l => (act l, old l))
      ((List.range m).map v)).length = m := by
    rw [List.length_zipWith, length_lanes, List.length_map, List.length_range]
    omega
  unfold setLanes
  rw [zip_lanes]
  refine eq_lanes ?_ fun l hl => ?_
  · rw [List.length_append, first, List.length_drop, length_lanes, List.length_map, List.length_range]
    omega
  · by_cases below : l < m
    · rw [List.getElem?_append_left (by omega), List.getElem?_zipWith, getElem?_lanes _ hl, List.getElem?_map,
        List.getElem?_range below]
      simp only [Option.map_some, below, true_and]
    · rw [List.getElem?_append_right (by omega), first, List.getElem?_drop, List.length_map, List.length_range,
        show m + (l - m) = l by omega, getElem?_lanes _ hl, if_neg fun h => below h.1]

/-! ### Row reductions -/

theorem masked_congr {f g : VecCtx → Insn → Nat → W32} {c : VecCtx} {i : Insn} (h : ∀ l, f c i l = g c i l) :
    masked f c i = masked g c i :=
  funext fun l => by rw [masked, masked, h]

/-- What a lane of a segment brings into its tree: masked-off lanes take no part (R148). -/
def treeLeaf (lead : W32 → FRes) (pad : W32) (c : VecCtx) (i : Insn) (q : Nat) : FRes :=
  if c.bitAt i.mask q then lead (c.lane i.va q) else plain pad

theorem treeLeaf_bits (lead : W32 → FRes) (pad : W32) (c : VecCtx) (i : Insn) (q : Nat) :
    (treeLeaf lead pad c i q).bits = if c.bitAt i.mask q then (lead (c.lane i.va q)).bits else pad := apply_ite FRes.bits ..

theorem treeLeaf_lanes (lead : W32 → FRes) (pad : W32) (c : VecCtx) (i : Insn) :
    List.zipWith (fun b x => if b then lead x else plain pad) (c.mask i.mask) (c.vec i.va) = lanes (treeLeaf lead pad c i) := by
  rw [c.mask_eq, c.vec_eq, zipWith_lanes]
  rfl

/-- Each active lane gets the tree over its segment (R148). -/
theorem reduce_gives (lead : W32 → FRes) (f : W32 → W32 → FRes) (pad : W32) :
    givesVec (fun y _ c i => reduce lead f pad y c i) (masked fun c i l =>
      pairTree f (fun q => if c.bitAt i.mask q then (lead (c.lane i.va q)).bits else pad) (fld i.imm 2 0 + 5)
        (2 ^ (fld i.imm 2 0 + 5) * (l / 2 ^ (fld i.imm 2 0 + 5)))) fun i => fld i.imm 2 0 ≤ 6 := by
  intro s drain c i small
  have whole : 2048 / 2 ^ (fld i.imm 2 0 + 5) * 2 ^ (fld i.imm 2 0 + 5) = 2048 :=
    Nat.div_mul_cancel (Nat.pow_dvd_pow 2 (show fld i.imm 2 0 + 5 ≤ 11 by omega))
  unfold reduce
  dsimp only
  rw [treeLeaf_lanes]
  simp only [← treeLeaf_bits]
  refine ⟨_, _, congrArg (fun v => VecEnd.done s (c.setVec i.vd v) _ _) ?_⟩
  let x (q : Nat) : W32 := (treeLeaf lead pad c i q).bits
  let value (k l : Nat) : FRes := plain (pairTree f x k (2 ^ k * (l / 2 ^ k)))
  refine Eq.trans ?_ ((maskRes_lanes c i (value (fld i.imm 2 0 + 5))).trans (congrArg lanes (masked_congr fun _ => rfl)))
  generalize fld i.imm 2 0 + 5 = k at whole ⊢
  refine congrArg (fun out => (maskRes (c.mask i.mask) (c.vec i.vd) out).map fun r => r.bits) ?_
  refine Eq.trans ?_ (lanes_segments (fun g => plain (pairTree f x k (2 ^ k * g))) (Nat.two_pow_pos k) whole).symm
  rw [List.flatMap_map]
  refine List.flatMap_congr fun g hg => congrArg (List.replicate (2 ^ k)) ?_
  have below : g < 2048 / 2 ^ k := List.mem_range.1 hg
  have inside : g * 2 ^ k + 2 ^ k ≤ 2048 := by
    rw [← Nat.succ_mul, ← whole]
    exact Nat.mul_le_mul_right _ below
  obtain ⟨r, t, last, value⟩ := treeLevels_last f k (((lanes (treeLeaf lead pad c i)).drop (g * 2 ^ k)).take (2 ^ k))
    (fun q => x (2 ^ k * g + q)) (by rw [drop_take_lanes _ inside, List.map_map, Nat.mul_comm]; rfl)
  dsimp only
  rw [last]
  exact congrArg plain (value.trans (pairTree_shift f x (2 ^ k * g) k 0))


/-! ### Converts -/

theorem exec_vCvt {s : State} (h : s.up = true) (n : Fin 16) :
    exec (.vCvt n) s = .next (s.vecRun n 0x20 (s.cvtUnit n) fun y _ c i => cvt y c i) :=
  whenUp_up h fun x => x.vecRun n 0x20 (x.cvtUnit n) fun y _ c i => cvt y c i

theorem givesLanes_of_cvt {f : VecCtx → Insn → Nat → W32} {p : Insn → Prop} (h : givesVec (fun y _ c i => cvt y c i) f p) :
    givesLanes 0x20 p .vCvt f :=
  givesLanes_of_givesVec (unit := fun n x => x.cvtUnit n) h fun _ _ => rfl

/-- CVT of a pair without block scales converts each lane. -/
theorem cvt_gives : givesVec (fun y _ c i => cvt y c i) (masked fun c i l =>
    match cvtLane (fld i.imm 3 0) (fld i.imm 7 4) (c.lane i.va l) with
    | some r => r.bits
    | none => Config.cvtOpen (fld i.imm 3 0) (fld i.imm 7 4) (c.lane i.va l)) fun i =>
      (fld i.imm 3 0, fld i.imm 7 4) ≠ (2, 3) ∧ (fld i.imm 3 0, fld i.imm 7 4) ≠ (3, 2) ∧
        (fld i.imm 3 0, fld i.imm 7 4) ≠ (2, 4) ∧ (fld i.imm 3 0, fld i.imm 7 4) ≠ (4, 2) := by
  intro s drain c i apart
  simp only [ne_eq, Prod.mk.injEq] at apart
  obtain ⟨h23, h32, h24, h42⟩ := apart
  unfold cvt
  dsimp only
  rw [if_neg h23, if_neg h32, if_neg h24, if_neg h42, c.vec_eq, map_lanes]
  obtain ⟨cnt, nan, done⟩ := laneEnd_lanes s c i (s.vecDst c) fun l =>
    match cvtLane (fld i.imm 3 0) (fld i.imm 7 4) (c.lane i.va l) with
    | some r => r
    | none => plain (Config.cvtOpen (fld i.imm 3 0) (fld i.imm 7 4) (c.lane i.va l))
  refine ⟨cnt, nan, Eq.trans (by rfl) (done.trans ?_)⟩
  rw [masked_congr]
  intro l
  cases cvtLane (fld i.imm 3 0) (fld i.imm 7 4) (c.lane i.va l) <;> rfl

/-- CVT of a pair that reads a scale for each block of w lanes from V[VB] (R57, R153). -/
theorem cvt_scaled {pair : Nat × Nat} (w : Nat) (f : Nat → Insn → W32 → FRes)
    (shape : ∀ s c i, (fld i.imm 3 0, fld i.imm 7 4) = pair → cvt s c i = laneEnd s c i (s.vecDst c)
      ((c.vec i.va).zipIdx.map fun p => f ((c.lane i.vb (p.2 / w)).toNat % 256) i p.1)) :
    givesVec (fun y _ c i => cvt y c i) (masked fun c i l => (f ((c.lane i.vb (l / w)).toNat % 256) i (c.lane i.va l)).bits)
      fun i => (fld i.imm 3 0, fld i.imm 7 4) = pair := by
  intro s drain c i code
  dsimp only
  rw [shape s c i code]
  exact zipIdx_gives (fun y c _ => y.vecDst c) (fun c i p => f ((c.lane i.vb (p.2 / w)).toNat % 256) i p.1) (fun _ => True)
    s drain c i trivial

theorem cvt_fromB8x (s : State) (c : VecCtx) (i : Insn) (code : (fld i.imm 3 0, fld i.imm 7 4) = (3, 2)) :
    cvt s c i = laneEnd s c i (s.vecDst c)
      ((c.vec i.va).zipIdx.map fun p => b8xToF32 ((c.lane i.vb (p.2 / 32)).toNat % 256) (p.1.toNat % 256)) := by
  obtain ⟨src, dst⟩ := Prod.mk.inj code
  unfold cvt
  dsimp only
  rw [src, dst]
  rfl

theorem cvt_toL32 (s : State) (c : VecCtx) (i : Insn) (code : (fld i.imm 3 0, fld i.imm 7 4) = (2, 4)) :
    cvt s c i = laneEnd s c i (s.vecDst c) ((c.vec i.va).zipIdx.map fun p =>
      plain (l32Quant ((c.lane i.vb (p.2 / 64)).toNat % 256) (fld i.imm 11 8) p.1)) := by
  obtain ⟨src, dst⟩ := Prod.mk.inj code
  unfold cvt
  dsimp only
  rw [src, dst]
  rfl

/-- What CVT from L32 makes of a lane; whether it produces a NaN is a free value. -/
def fromL32 (s : State) (c : VecCtx) (i : Insn) (l : Nat) : FRes :=
  l32ToF32 (Config.l32NanProduced s.freeCtr (l / 64)) ((c.lane i.vb (l / 64)).toNat % 256) (fld i.imm 11 8) (c.lane i.va l)

theorem cvt_fromL32 (s : State) (c : VecCtx) (i : Insn) (code : (fld i.imm 3 0, fld i.imm 7 4) = (4, 2)) :
    cvt s c i = laneEnd { s with freeCtr := s.freeCtr + 1 } c i (s.vecDst c) (lanes (fromL32 s c i)) := by
  obtain ⟨src, dst⟩ := Prod.mk.inj code
  unfold cvt
  dsimp only
  rw [src, dst]
  exact congrArg (laneEnd _ c i (s.vecDst c)) (by rw [c.vec_eq i.va, zipIdx_lanes, map_lanes]; rfl)

/-- CVT to B8X: the elements under their blocks' scales, then the scales of active lanes (R153). -/
theorem cvt_toB8x (s : State) (c : VecCtx) (i : Insn) (code : (fld i.imm 3 0, fld i.imm 7 4) = (2, 3)) (apart : i.vc ≠ i.vd) :
    ∃ cnt nan, cvt s c i = .done s ((c.setVec i.vd (lanes (masked (fun _ _ l =>
        (b8xElem (b8xScale (activeOf c i 32 (l / 32))) (c.lane i.va l)).bits) c i))).setVec i.vc
      (lanes fun l => if l < 64 ∧ c.bitAt i.mask l = true then BitVec.ofNat 32 (b8xScale (activeOf c i 32 l)) else c.lane i.vc l))
      cnt nan := by
  obtain ⟨src, dst⟩ := Prod.mk.inj code
  let scale (j : Nat) : Nat := b8xScale (activeOf c i 32 j)
  have elems : (c.vec i.va).zipIdx.map (fun p => b8xElem ((((List.range 64).map scale)[p.2 / 32]?).getD 0) p.1) =
      lanes fun l => b8xElem (scale (l / 32)) (c.lane i.va l) := by
    rw [c.vec_eq, zipIdx_lanes, map_lanes]
    refine lanes_congr fun l hl => ?_
    rw [List.getElem?_map, List.getElem?_range (by omega), Option.map_some, Option.getD_some]
  unfold cvt
  dsimp only
  rw [if_pos ⟨src, dst⟩, blocksOf_active c i 32 b8xScale]
  refine ⟨_, _, congrArg (fun x => VecEnd.done s x _ _) ?_⟩
  rw [show 2048 / 32 = 64 from rfl, elems, maskRes_lanes, VecCtx.vec_setVec_other _ _ apart, c.mask_eq, c.vec_eq, List.map_map,
    setLanes_lanes _ _ _ (by decide)]
  rfl

/-! ### The exponents of blocks -/

/-- What BEXP makes of its context (R57). -/
def bexpEnd (s : State) (c : VecCtx) (i : Insn) : VecEnd :=
  .done s (c.setVec i.vd (setLanes (c.mask i.mask) (c.vec i.vd)
    (((blocksOf 64 ((c.mask i.mask).zip (c.vec i.va))).map fun b => blockE8 ((b.filter fun p => p.1).map fun p => p.2)).map
      (BitVec.ofNat 32)))) (0, 0, 0) none

theorem bexp_gives (p : Insn → Prop) : givesVec (fun y _ c i => bexpEnd y c i)
    (masked fun c i l => if l < 32 then BitVec.ofNat 32 (blockE8 (activeOf c i 64 l)) else c.lane i.vd l) p := by
  intro s drain c i _
  refine ⟨(0, 0, 0), none, congrArg (fun v => VecEnd.done s (c.setVec i.vd v) _ _) ?_⟩
  rw [blocksOf_active c i 64 blockE8, c.mask_eq, c.vec_eq, List.map_map, setLanes_lanes _ _ _ (by decide)]
  refine lanes_congr fun l _ => ?_
  unfold masked
  by_cases active : c.bitAt i.mask l = true <;> by_cases low : l < 32 <;> simp [active, low]

/-- Settles O44: the reductions by the last level of their trees, the converts and BEXP by their lanes. -/
theorem reductionsAndConversions : Obligations.ReductionsAndConversions := by
  unfold Obligations.ReductionsAndConversions
  refine ⟨givesLanes_of_givesVec (reduce_gives plain fmax _) fun _ _ => rfl,
    givesLanes_of_givesVec (reduce_gives plain fadd _) fun _ _ => rfl,
    givesLanes_of_givesVec (reduce_gives (fun x => fmul x x) fadd _) fun _ _ => rfl,
    givesLanes_of_cvt cvt_gives, givesLanes_of_cvt (cvt_scaled 32 (fun e _ x => b8xToF32 e (x.toNat % 256)) cvt_fromB8x),
    givesLanes_of_cvt (cvt_scaled 64 (fun e i x => plain (l32Quant e (fld i.imm 11 8) x)) cvt_toL32),
    fun n drain c s h code => ?fromL32, fun n drain c s h code apart => ?toB8x,
    givesLanes_of_givesVec (bexp_gives _) fun _ _ => rfl⟩
  case fromL32 =>
    obtain ⟨cnt, nan, done⟩ := laneEnd_lanes { s with freeCtr := s.freeCtr + 1 } c (s.nextInsn c) (s.vecDst c)
      (fromL32 s c (s.nextInsn c))
    exact ⟨_, _, exec_vCvt h.up n, h.goesOn (c' := c.setVec _ (lanes _)) rfl rfl rfl ((cvt_fromL32 s c _ code).trans done), rfl,
      fun l hl => VecCtx.lane_setVec_same _ _ _ hl, fun r hr => VecCtx.vec_setVec_other _ _ hr⟩
  case toB8x =>
    obtain ⟨cnt, nan, done⟩ := cvt_toB8x s c (s.nextInsn c) code apart
    refine ⟨_, _, exec_vCvt h.up n, h.goesOn (free := s.freeCtr) (c' := (c.setVec _ (lanes _)).setVec _ (lanes _)) rfl rfl rfl
      done, rfl, fun l hl => ?_, fun l hl => VecCtx.lane_setVec_same _ _ _ hl, fun r hd hc => ?_⟩
    · rw [VecCtx.lane, VecCtx.vec_setVec_other _ _ (Ne.symm apart)]
      exact VecCtx.lane_setVec_same c _ _ hl
    · rw [VecCtx.vec_setVec_other _ _ hc, VecCtx.vec_setVec_other _ _ hd]

end Sys2Proof.Machine
end

section
/-! PROOF. A load at an offset off the multiple of 256: the abort of R145, and the count of the instruction. -/
namespace Sys2Proof.Machine

/-- A program at its first instruction, for the oldest task of queue 0. -/
def freshProgram : VecCtx := { VecCtx.init with running := true }

/-- Core 0 runs a program of two instructions whose first is an LD at offset 4 of region 0, for a VEC task in flight. -/
def oddLoad : State :=
  let s := { State.reset with
    power := { State.reset.power with phase := .ready, pwrgd := true, perst := false }, cfg := loneTenant, serial := 1
    cores := [(0, { Core.init with vec := freshProgram })] }
  (((s.setQueue 0 { Queue.init with tasks := [{ meshRecv with desc := 4 :: List.replicate 15 0 }] }).putBytes 8
    (leBytes 4 2)).putBytes 0x140 (leBytes 4 0x40)).putBytes 0x144 (leBytes 4 4)

theorem oddLoad_insn : oddLoad.nextInsn freshProgram = insnOf 0x40 4 := by decide

theorem oddLoad_vecAt : oddLoad.vecAt 0 0x40 false freshProgram :=
  ⟨rfl, rfl, by decide, rfl, by decide, fun t ht => by cases ht; rfl⟩

/-- Mask register 0 lets every lane through. -/
theorem oddLoad_active : (freshProgram.mask (oddLoad.nextInsn freshProgram).mask).contains true = true := by
  rw [oddLoad_insn, List.contains_iff_mem]
  exact List.mem_replicate.2 ⟨by decide, rfl⟩

theorem oddLoad_offset : (memOff freshProgram (oddLoad.nextInsn freshProgram)).2 % 256 ≠ 0 := by decide

/-- A load off the multiple of 256 with a lane active aborts its task (R145). -/
theorem load_offMultiple {b n : Nat} {s : State} {c : VecCtx} {i : Insn} (active : (c.mask i.mask).contains true = true)
    (off : (memOff c i).2 % 256 ≠ 0) : load b n s c i = .abort 0x12 := by
  unfold load
  dsimp only
  rw [active, if_neg (by decide), if_pos off]

/-- The abort counts the instruction as issued. -/
theorem oddLoad_runs : exec (.vLd 0) oddLoad = .next ((oddLoad.countWrap .coreVecissue 0 1).abortTask 0 0 0x12) := by
  obtain ⟨up, running, op, -⟩ := oddLoad_vecAt
  have issue : exec (.vLd 0) oddLoad = .next (oddLoad.vecRun 0 0x40 4 fun y _ c i => load 4 0 y c i) :=
    whenUp_up up fun x => x.vecRun 0 0x40 4 fun y _ c i => load 4 0 y c i
  rw [issue, State.vecRun_abort running op (load_offMultiple oddLoad_active oddLoad_offset)]
  rfl

theorem oddLoad_issued : ((oddLoad.countWrap .coreVecissue 0 1).abortTask 0 0 0x12).reg .coreVecissue 0 = 1 ∧
    (oddLoad.abortTask 0 0 0x12).reg .coreVecissue 0 = 0 := by
  decide

/-- Refutes O45: a load at an offset off the multiple of 256 counts in CORE_VECISSUE before its task aborts, and the statement
has the task abort in the state before the instruction, whose count is one less. -/
theorem not_vectorMemoryInstructions : ¬ Obligations.VectorMemoryInstructions := by
  unfold Obligations.VectorMemoryInstructions
  intro h
  obtain ⟨loads, -⟩ := h 0 false freshProgram oddLoad
  obtain ⟨-, aborts, -⟩ := loads 0x40 4 (.vLd 0) (.inl ⟨rfl, rfl, rfl⟩) oddLoad_vecAt
  have same := oddLoad_runs.symm.trans (aborts oddLoad_active oddLoad_offset)
  obtain ⟨counted, uncounted⟩ := oddLoad_issued
  rw [Host.Outcome.next.inj same] at counted
  exact absurd (counted.symm.trans uncounted) (by decide)

end Sys2Proof.Machine
end

section
/-! PROOF. The parts of a row function (R160 to R163, R181): the landings that it takes, the intermediate tiles that it makes,
its counts and the job that it leaves. -/
namespace Sys2Proof.Machine

/-! ### What a part of a row function changes -/

/-- Only core n differs. -/
def onlyCore (n : Nat) (s u : State) : Prop := u = { s with cores := u.cores } ∧ ∀ m, m ≠ n → u.core m = s.core m

/-- Only core n, the counts of tasks and CORE_VECISSUE of core n differ. -/
def rowKeeps (n : Nat) (s u : State) : Prop :=
  u = { s with cores := u.cores, queues := u.queues, regs := u.regs } ∧ (∀ m, m ≠ n → u.core m = s.core m) ∧
    sameRegs (fun q i => q = .coreVecissue ∧ i = n) s u

section
variable {n : Nat} {s t u : State}

theorem onlyCore.refl : onlyCore n s s := ⟨rfl, fun _ _ => rfl⟩

theorem onlyCore.trans (h : onlyCore n s t) (h' : onlyCore n t u) : onlyCore n s u := by
  obtain ⟨first, cores⟩ := h
  obtain ⟨second, cores'⟩ := h'
  exact ⟨second.trans (by rw [first]), fun m hm => (cores' m hm).trans (cores m hm)⟩

theorem onlyCore.modCore (s : State) (n : Nat) (f : Core → Core) : onlyCore n s (s.modCore n f) :=
  ⟨rfl, fun _ hm => s.core_modCore_other f hm⟩

theorem onlyCore.keeps (h : onlyCore n s u) : rowKeeps n s u := by
  obtain ⟨frame, cores⟩ := h
  have regs : u.regs = s.regs := by rw [frame]
  have queues : u.queues = s.queues := by rw [frame]
  exact ⟨by rw [regs, queues]; exact frame, cores, fun r i _ => State.reg_congr regs r i⟩

theorem rowKeeps.trans (h : rowKeeps n s t) (h' : rowKeeps n t u) : rowKeeps n s u := by
  obtain ⟨first, cores, regs⟩ := h
  obtain ⟨second, cores', regs'⟩ := h'
  exact ⟨second.trans (by rw [first]), fun m hm => (cores' m hm).trans (cores m hm), regs.trans regs' fun _ _ e => e⟩

theorem rowKeeps.addCounts (s : State) (n k i sat flush nan : Nat) : rowKeeps n s (s.addCounts k i sat flush nan) :=
  ⟨rfl, fun _ _ => rfl, fun _ _ _ => rfl⟩

theorem rowKeeps.issued (s : State) (n cycles : Nat) : rowKeeps n s (s.countWrap .coreVecissue n cycles) :=
  ⟨rfl, fun _ _ => rfl, fun _ _ hr => State.reg_setReg_other _ _ hr⟩

theorem rowKeeps.homes (h : rowKeeps n s u) : u.homes = s.homes := by rw [h.1]

theorem State.untrapped_congr {k i : Nat} (h : s.untrapped k i) (queues : u.queues = s.queues) : u.untrapped k i := by
  unfold State.untrapped State.task? at *
  rwa [State.queue_congr queues]

end

/-! ### The landing buffers -/

/-- A row function takes one landing buffer, when it holds a bank of its task (R163). -/
def takeLanding (n : Nat) (o : Nat × Nat) (acc : State × ArrJob) (b : Nat) : State × ArrJob :=
  let lb := (acc.1.core n).landing b
  if lb.full && decide (lb.owner = o) then
    (acc.1.modCore n fun c => c.setLanding b .init, { acc.2 with got := mset [] acc.2.got lb.array lb.data })
  else acc

theorem State.takeLandings_eq (s : State) (n : Nat) (j : ArrJob) :
    s.takeLandings n j = takeLanding n j.owner (takeLanding n j.owner (s, j) 0) 1 := rfl

/-- Taking landings changes the banks that the job has, and the landing buffers. -/
def tookLandings (n : Nat) (s : State) (j : ArrJob) (acc : State × ArrJob) : Prop :=
  onlyCore n s acc.1 ∧ acc.1.core n = { s.core n with landings := (acc.1.core n).landings } ∧ acc.2 = { j with got := acc.2.got }

section
variable {n : Nat} {s : State} {j : ArrJob} {acc : State × ArrJob}

theorem tookLandings.step (h : tookLandings n s j acc) (o : Nat × Nat) (b : Nat) : tookLandings n s j (takeLanding n o acc b) := by
  unfold takeLanding
  dsimp only
  split
  · obtain ⟨only, core, job⟩ := h
    refine ⟨only.trans (.modCore acc.1 n fun c => c.setLanding b .init), ?_, ?_⟩
    · rw [State.core_modCore_same, Core.setLanding, core]
    · rw [job]
  · exact h

theorem State.takeLandings_took (s : State) (n : Nat) (j : ArrJob) : tookLandings n s j (s.takeLandings n j) := by
  rw [State.takeLandings_eq]
  have start : tookLandings n s j (s, j) := ⟨.refl, rfl, rfl⟩
  exact (start.step j.owner 0).step j.owner 1

/-- What taking a buffer makes of the buffers. -/
theorem takeLanding_landing (o : Nat × Nat) (b x : Nat) : ((takeLanding n o acc b).1.core n).landing x =
    if x = b ∧ ((acc.1.core n).landing b).full = true ∧ ((acc.1.core n).landing b).owner = o then Landing.init
    else (acc.1.core n).landing x := by
  unfold takeLanding
  dsimp only
  by_cases taken : ((acc.1.core n).landing b).full = true ∧ ((acc.1.core n).landing b).owner = o
  · rw [if_pos (by simpa using taken), State.core_modCore_same, Core.landing, Core.setLanding, mget_mset]
    simp only [taken, and_true]
    rfl
  · rw [if_neg (by simpa using taken), if_neg fun h => taken h.2]

/-- No buffer of the task is left full. -/
theorem State.takeLandings_empty (s : State) (n : Nat) (j : ArrJob) {b : Nat} (hb : b < 2)
    (own : ((s.core n).landing b).owner = j.owner) : (((s.takeLandings n j).1.core n).landing b).full = false := by
  have emptied (x : Landing) (hx : x.owner = j.owner) :
      (if x.full = true ∧ x.owner = j.owner then Landing.init else x).full = false := by
    cases full : x.full
    · simp [full]
    · simp [hx, Landing.init]
  rw [State.takeLandings_eq, takeLanding_landing, takeLanding_landing, takeLanding_landing]
  obtain rfl | rfl : b = 0 ∨ b = 1 := by omega
  · simp only [Nat.zero_ne_one, false_and, if_false, true_and]
    exact emptied _ own
  · simp only [Nat.one_ne_zero, false_and, if_false, true_and]
    exact emptied _ own

end

/-! ### The job that is left -/

theorem State.setJob_only (s : State) (n : Nat) (j : ArrJob) : onlyCore n s (s.setJob n j) := .modCore ..

theorem State.setJob_arr (s : State) (n : Nat) (j : ArrJob) : ((s.setJob n j).core n).arr = some j := by
  rw [State.setJob, State.core_modCore_same]

/-- Filling the free shadow halves leaves the job as it is. -/
theorem State.fusedLoad_keeps (s : State) (n : Nat) :
    onlyCore n s (s.fusedLoad n) ∧ ((s.fusedLoad n).core n).arr = (s.core n).arr := by
  unfold State.fusedLoad
  split
  · exact ⟨.refl, rfl⟩
  · refine ⟨.modCore .., ?_⟩
    rw [State.core_modCore_same]
    refine List.foldlRecOn (motive := fun c : Core => c.arr = (s.core n).arr) _ _ rfl fun c kept f _ => ?_
    split
    · exact kept
    · split
      · exact kept
      · exact kept

/-- A job stored, and the shadow halves that take what comes next. -/
theorem State.setJob_fusedLoad (s : State) (n : Nat) (j : ArrJob) :
    onlyCore n s ((s.setJob n j).fusedLoad n) ∧ (((s.setJob n j).fusedLoad n).core n).arr = some j := by
  obtain ⟨only, arr⟩ := (s.setJob n j).fusedLoad_keeps n
  exact ⟨(s.setJob_only n j).trans only, arr.trans (s.setJob_arr n j)⟩

/-- The job that goes on to the second product with its intermediate tiles (R181). -/
def ArrJob.withTiles (j : ArrJob) (cols kt : Nat) (x : List (List FRes)) : ArrJob :=
  { j with pending := tilesOf kt (fRows j.desc) cols x, got := [], phase := 1, tileNo := 0, block := 0 }

/-- A row function whose task is not in trap mode counts its events and leaves the tiles to the second product. -/
theorem State.rowDone_tiles {s : State} {n : Nat} {j : ArrJob} (quiet : s.untrapped j.owner.1 j.owner.2) (cols kt : Nat)
    (col : Nat → Nat) (x : List (List FRes)) (state : List (Nat × FRes)) :
    rowKeeps n s (s.rowDone n j cols kt col x state) ∧
      ((s.rowDone n j cols kt col x state).core n).arr = some (j.withTiles cols kt x) := by
  unfold State.rowDone
  dsimp only
  generalize hc : resCounts _ = cnt
  have counted : rowKeeps n s (s.addCounts j.owner.1 j.owner.2 cnt.1 cnt.2.1 cnt.2.2) := .addCounts ..
  have quiet' := State.untrapped_addCounts quiet cnt.1 cnt.2.1 cnt.2.2
  generalize s.addCounts j.owner.1 j.owner.2 cnt.1 cnt.2.1 cnt.2.2 = u at counted quiet'
  obtain ⟨only, arr⟩ := u.setJob_fusedLoad n (j.withTiles cols kt x)
  have goes : rowKeeps n s ((u.setJob n (j.withTiles cols kt x)).fusedLoad n) ∧
      (((u.setJob n (j.withTiles cols kt x)).fusedLoad n).core n).arr = some (j.withTiles cols kt x) :=
    ⟨counted.trans only.keeps, arr⟩
  cases ht : u.task? j.owner.1 j.owner.2 with
  | none => simpa [ArrJob.withTiles] using goes
  | some t => simpa [quiet' t ht, ArrJob.withTiles] using goes

/-! ### The intermediate tiles -/

theorem length_tilesOf (kt rows cols : Nat) (x : List (List FRes)) : (tilesOf kt rows cols x).length = cols / kt := by
  rw [tilesOf, List.length_map, List.length_range]

/-- The values of a row of a tile stand one after the other. -/
theorem tileRow_eq (l : List FRes) (a k : Nat) (m : SMap W32) :
    (l.zipIdx k).foldl (fun t p => mset 0 t (a + p.2) p.1.bits) m = msetList 0 m (a + k) (l.map fun v => v.bits) := by
  induction l generalizing k m with
  | nil => rfl
  | cons v l ih => exact ih (k + 1) _

/-- A tile of `rows` rows, each of the `kt` values from a column on. -/
theorem mget_tile {kt : Nat} (out : Nat → Nat → FRes) (row : Nat → List FRes) (rows : Nat) {r p : Nat}
    (hrow : ∀ r, r < rows → row r = (List.range kt).map (out r)) (hr : r < rows) (hp : p < kt) (small : kt ≤ 512) :
    mget 0 ((List.range rows).foldl (fun m r => (row r).zipIdx.foldl (fun a p => mset 0 a (512 * r + p.2) p.1.bits) m) [])
      (512 * r + p) = (out r p).bits := by
  induction rows with
  | zero => exact absurd hr (Nat.not_lt_zero r)
  | succ rows ih =>
    rw [List.range_succ, List.foldl_append, List.foldl_cons, List.foldl_nil, tileRow_eq, mget_msetList,
      hrow rows (Nat.lt_succ_self rows)]
    simp only [List.length_map, List.length_range, Nat.add_zero]
    by_cases last : r = rows
    · subst last
      rw [if_pos (by omega), Nat.add_sub_cancel_left, List.map_map, List.getElem?_map, List.getElem?_range hp]
      rfl
    · rw [if_neg (by omega)]
      exact ih (fun q hq => hrow q (by omega)) (by omega)

/-- Tile i of a matrix holds its columns from i kt on (R181). -/
theorem mget_tilesOf {kt rows cols i r p : Nat} (out : Nat → Nat → FRes) (hi : i < cols / kt) (hr : r < rows) (hp : p < kt)
    (small : kt ≤ 512) :
    mget 0 (((tilesOf kt rows cols ((List.range rows).map fun r => (List.range cols).map (out r)))[i]?).getD []) (512 * r + p) =
      (out r (i * kt + p)).bits := by
  have inside : i * kt + kt ≤ cols := by
    rw [← Nat.succ_mul]
    exact (Nat.mul_le_mul_right kt hi).trans (Nat.div_mul_le_self cols kt)
  rw [tilesOf, List.getElem?_map, List.getElem?_range hi, Option.map_some, Option.getD_some]
  refine mget_tile (fun r p => out r (i * kt + p)) _ rows (fun r hr => ?_) hr hp small
  rw [List.getElem?_map, List.getElem?_range hr, Option.map_some, Option.getD_some]
  exact drop_take_range (out r) inside

/-! ### The scratch region of RMS scaling -/

/-- The chunk's values kept in the scratch region, row by row (R160): word q of row i at `cell i q`. -/
def State.keepRows (s : State) (cell : Nat → Nat → Nat) (v : Nat → Nat → W32) (wide rows : Nat) : State :=
  (List.range rows).foldl (fun x i => x.putWords (cell i) (v i) (List.range wide)) s

section
variable (s : State) (cell : Nat → Nat → Nat) (v : Nat → Nat → W32) (wide : Nat)

theorem State.keepRows_succ (rows : Nat) : s.keepRows cell v wide (rows + 1) =
    (s.keepRows cell v wide rows).putWords (cell rows) (v rows) (List.range wide) := by
  rw [State.keepRows, List.range_succ, List.foldl_append]
  rfl

theorem State.keepRows_frame (rows : Nat) :
    s.keepRows cell v wide rows = { s with mem := (s.keepRows cell v wide rows).mem } := by
  induction rows with
  | zero => rfl
  | succ rows ih =>
    rw [State.keepRows_succ]
    refine (State.putWords_frame _ _ _ _).trans ?_
    rw [ih]

theorem State.byte_keepRows_other {y : Nat} (rows : Nat)
    (h : ∀ i q, i < rows → q < wide → y < cell i q ∨ cell i q + 4 ≤ y) :
    (s.keepRows cell v wide rows).byte y = s.byte y := by
  induction rows with
  | zero => rfl
  | succ rows ih =>
    rw [State.keepRows_succ, State.byte_putWords_other _ _ _ fun q hq => h rows q (Nat.lt_succ_self _) (List.mem_range.1 hq)]
    exact ih fun i q hi => h i q (Nat.lt_succ_of_lt hi)

/-- Cells of rising addresses keep their words. -/
theorem State.word_keepRows (rows : Nat) {i q : Nat} (hi : i < rows) (hq : q < wide)
    (row : ∀ i q q', q < q' → cell i q + 4 ≤ cell i q')
    (rise : ∀ i i' q q', i < i' → q < wide → cell i q + 4 ≤ cell i' q') :
    (s.keepRows cell v wide rows).word (cell i q) = v i q := by
  induction rows with
  | zero => exact absurd hi (Nat.not_lt_zero i)
  | succ rows ih =>
    rw [State.keepRows_succ]
    by_cases last : i = rows
    · subst last
      exact State.word_putWords _ _ _ List.pairwise_lt_range (List.mem_range.2 hq) fun q' _ below => .inr (row i q q' below)
    · rw [State.word_putWords_other _ _ _ fun q' _ => .inl (rise i rows q q' (by omega) hq)]
      exact ih (by omega)

end

end Sys2Proof.Machine
end

section
/-! PROOF. The row functions (R160 to R163, R181): what each does with a job by its phase and by what has landed. -/
namespace Sys2Proof.Machine

/-! ### The commands -/

theorem exec_onlineSoftmax {s : State} (h : s.up = true) (n : Fin 16) : exec (.onlineSoftmax n) s = .next (s.rowSoftmax n) :=
  whenUp_up h fun x => x.rowSoftmax n
theorem exec_gelu {s : State} (h : s.up = true) (n : Fin 16) : exec (.gelu n) s = .next (s.rowPointwise n 1) :=
  whenUp_up h fun x => x.rowPointwise n 1
theorem exec_silu {s : State} (h : s.up = true) (n : Fin 16) : exec (.silu n) s = .next (s.rowPointwise n 2) :=
  whenUp_up h fun x => x.rowPointwise n 2
theorem exec_swiglu {s : State} (h : s.up = true) (n : Fin 16) : exec (.swiglu n) s = .next (s.rowPointwise n 3) :=
  whenUp_up h fun x => x.rowPointwise n 3
theorem exec_rmsScaling {s : State} (h : s.up = true) (n : Fin 16) : exec (.rmsScaling n) s = .next (s.rowRms n) :=
  whenUp_up h fun x => x.rowRms n

/-- The row function numbered fn in a FUSED2's descriptor, of those that run on a first product alone. -/
def State.rowFunction (s : State) (n fn : Nat) : State := if fn = 4 then s.rowRms n else s.rowPointwise n fn

theorem exec_rowFunction {s : State} (h : s.up = true) (n : Fin 16) {c : Instr} {fn : Nat}
    (hc : (c = .gelu n ∧ fn = 1) ∨ (c = .silu n ∧ fn = 2) ∨ (c = .swiglu n ∧ fn = 3) ∨ (c = .rmsScaling n ∧ fn = 4)) :
    exec c s = .next (s.rowFunction n fn) := by
  obtain ⟨rfl, rfl⟩ | ⟨rfl, rfl⟩ | ⟨rfl, rfl⟩ | ⟨rfl, rfl⟩ := hc
  · exact exec_gelu h n
  · exact exec_silu h n
  · exact exec_swiglu h n
  · exact exec_rmsScaling h n

/-! ### GELU, SILU and SWIGLU -/

/-- What a pointwise function makes of the value at row i and column c of a chunk (R160, R161). -/
def pointOut (fn : Nat) (d : List W32) (got : SMap (SMap W32)) (i c : Nat) : FRes :=
  let x := chunkVal d got i c
  match fn with
  | 1 => rowOut [x] (gelu x)
  | 2 => rowOut [x] (silu x)
  | _ => rowOut [x, chunkVal d got i (c + fWidth d / 2)] (swiglu x (chunkVal d got i (c + fWidth d / 2)))

theorem pointOut_bits {fn : Nat} (h : fn = 1 ∨ fn = 2 ∨ fn = 3) (d : List W32) (got : SMap (SMap W32)) (i c : Nat) :
    (pointOut fn d got i c).bits = (f32ToB16 (if fn = 1 then gelu (chunkVal d got i c) else if fn = 2 then silu (chunkVal d got i c)
      else swiglu (chunkVal d got i c) (chunkVal d got i (c + fWidth d / 2)))).bits := by
  obtain rfl | rfl | rfl := h
  · rfl
  · rfl
  · rfl

section
variable {s : State} {n fn : Nat} {j : ArrJob} (arr : (s.core n).arr = some j)
include arr

theorem State.rowPointwise_other (other : fFn j.desc ≠ fn ∨ j.phase ≠ 0) : s.rowPointwise n fn = s := by
  unfold State.rowPointwise
  rw [arr]
  refine if_pos ?_
  obtain h | h := other
  · simp [h]
  · simp [h]

theorem State.rowRms_other (other : fFn j.desc ≠ 4 ∨ j.phase ≠ 0) : s.rowRms n = s := by
  unfold State.rowRms
  rw [arr]
  refine if_pos ?_
  obtain h | h := other
  · simp [h]
  · simp [h]

theorem State.rowFunction_other (other : fFn j.desc ≠ fn ∨ j.phase ≠ 0) : s.rowFunction n fn = s := by
  unfold State.rowFunction
  split
  next rms => exact State.rowRms_other arr (rms ▸ other)
  next => exact State.rowPointwise_other arr other

theorem State.rowSoftmax_other (other : fFn j.desc ≠ 0 ∨ 1 < j.phase) : s.rowSoftmax n = s := by
  unfold State.rowSoftmax
  rw [arr]
  dsimp only
  cases s.task? j.owner.1 j.owner.2 with
  | none => rfl
  | some t =>
    refine if_pos ?_
    obtain h | h := other
    · simp [h]
    · simp [Nat.not_le.2 h]

variable (type : dType j.desc = 2)
include type

section
variable (func : fFn j.desc = fn) (phase : j.phase = 0)
include func phase

/-- With an array still to land a row function takes what has landed. -/
theorem State.rowFunction_part (part : (s.takeLandings n j).2.whole = false) :
    s.rowFunction n fn = (s.takeLandings n j).1.setJob n (s.takeLandings n j).2 := by
  unfold State.rowFunction
  split
  next rms =>
    unfold State.rowRms
    rw [arr]
    simp [type, func, phase, part, rms]
  next =>
    unfold State.rowPointwise
    rw [arr]
    simp [type, func, phase, part]

/-- A pointwise function of a whole chunk. -/
theorem State.rowPointwise_whole (whole : (s.takeLandings n j).2.whole = true) :
    let r := s.takeLandings n j
    let d := r.2.desc
    ∃ cycles col, s.rowPointwise n fn = (r.1.countWrap .coreVecissue n cycles).rowDone n r.2 (fU d) (fKt2 d) col
      ((List.range (fRows d)).map fun i => (List.range (fU d)).map (pointOut fn d r.2.got i)) [] := by
  unfold State.rowPointwise
  rw [arr]
  dsimp only
  rw [if_neg (by simp [type, func, phase]), if_neg (by simp [whole])]
  exact ⟨_, _, rfl⟩

end

/-! ### RMS scaling -/

/-- Address of word q of row i of the chunk in hand, in the scratch region (R160). -/
def State.scratchCell (s : State) (n : Nat) (j : ArrJob) (i q : Nat) : Nat :=
  s.yardAddr n (fld (recWord j.rowRec 8) 24 0) + 4 * (i * fN1 j.desc + j.chunk * fU j.desc + q)

/-- The chunk in the scratch region. -/
def State.keepChunk (s : State) (n : Nat) (j : ArrJob) : State :=
  s.keepRows (s.scratchCell n j) (chunkVal j.desc j.got) (fU j.desc) 256

section
variable (func : fFn j.desc = 4) (phase : j.phase = 0) (whole : (s.takeLandings n j).2.whole = true)
include func phase whole

/-- Of a chunk that is not the last the values are kept (R160, R181). -/
theorem State.rowRms_more (more : (s.takeLandings n j).2.chunk + 1 < fChunks (s.takeLandings n j).2.desc) :
    let r := s.takeLandings n j
    s.rowRms n = ((r.1.keepChunk n r.2).setJob n { r.2 with got := [], phase := 2 }).fusedLoad n := by
  unfold State.rowRms
  rw [arr]
  dsimp only
  rw [if_neg (by simp [type, func, phase]), if_neg (by simp [whole]), if_pos more]
  rfl

/-- After the last chunk the rows are scaled. -/
theorem State.rowRms_last (last : ¬ (s.takeLandings n j).2.chunk + 1 < fChunks (s.takeLandings n j).2.desc) :
    let r := s.takeLandings n j
    ∃ cycles x, s.rowRms n = ((r.1.keepChunk n r.2).countWrap .coreVecissue n cycles).rowDone n r.2 (fN1 r.2.desc)
      (fKt2 r.2.desc) id x [] := by
  unfold State.rowRms
  rw [arr]
  dsimp only
  rw [if_neg (by simp [type, func, phase]), if_neg (by simp [whole]), if_neg last]
  exact ⟨_, _, rfl⟩

end

/-! ### Online softmax -/

section
variable {t : Task} (task : s.task? j.owner.1 j.owner.2 = some t) (func : fFn j.desc = 0) (phase : j.phase ≤ 1)
include task func phase

theorem State.rowSoftmax_part (part : (s.takeLandings n j).2.whole = false) :
    s.rowSoftmax n = (s.takeLandings n j).1.setJob n (s.takeLandings n j).2 := by
  unfold State.rowSoftmax
  rw [arr]
  dsimp only
  rw [task]
  simp [type, func, phase, part]

theorem State.rowSoftmax_whole (whole : (s.takeLandings n j).2.whole = true) :
    let r := s.takeLandings n j
    s.rowSoftmax n = if r.2.phase = 0 then r.1.softScores n r.2 t else r.1.softOutput n r.2 t := by
  unfold State.rowSoftmax
  rw [arr]
  dsimp only
  rw [task]
  simp [type, func, phase, whole]

end
end

section
variable {s : State} {n : Nat} {j : ArrJob} {t : Task}

/-- The scores of a chunk become its intermediate tiles (R162). -/
theorem State.softScores_tiles (quiet : s.untrapped j.owner.1 j.owner.2) : ∃ cols kt x, rowKeeps n s (s.softScores n j t) ∧
    ((s.softScores n j t).core n).arr = some (j.withTiles cols kt x) := by
  unfold State.softScores
  dsimp only
  generalize (Softmax.mk _ _ _ _) = sm
  generalize 11 * (256 * fU j.desc / 2048) = cycles
  have counted : rowKeeps n s ((s.modCore n fun x => { x with softmax := sm }).countWrap .coreVecissue n cycles) :=
    (onlyCore.modCore s n fun x => { x with softmax := sm }).keeps.trans (.issued _ n cycles)
  have quiet' : ((s.modCore n fun x => { x with softmax := sm }).countWrap .coreVecissue n cycles).untrapped
    j.owner.1 j.owner.2 := quiet
  obtain ⟨keeps, arr⟩ := State.rowDone_tiles (n := n) quiet' (fU j.desc) (fKt2 j.desc) (fun c => j.chunk * fWidth j.desc + c) _ _
  exact ⟨_, _, _, counted.trans keeps, arr⟩

/-- Outside trap mode results are counted. -/
theorem State.softCount_quiet (quiet : t.trap = false) (s : State) (j : ArrJob) (out : List (Nat × FRes)) (go : State → State) :
    ∃ sat flush nan, s.softCount j t out go = go (s.addCounts j.owner.1 j.owner.2 sat flush nan) := by
  unfold State.softCount
  rw [quiet]
  exact ⟨_, _, _, rfl⟩

theorem State.softCount_goes (quiet : t.trap = false) {u : State} (counted : rowKeeps n s u) (j : ArrJob)
    (out : List (Nat × FRes)) (go : State → State) : ∃ v, rowKeeps n s v ∧ u.softCount j t out go = go v := by
  obtain ⟨sat, flush, nan, goes⟩ := State.softCount_quiet quiet u j out go
  exact ⟨_, counted.trans (.addCounts u n j.owner.1 j.owner.2 sat flush nan), goes⟩

/-- A row function that ends the job's phases stores it so. -/
theorem State.phasesEnd (s : State) (n : Nat) (j : ArrJob) (k i : Nat) : let u := (s.setJob n j).checkLanded k i
    (u.core n).arr = some j ∧ u.homes = s.homes ∧ u.regs = s.regs := by
  intro u
  have frame := (s.setJob n j).checkLanded_frame k i
  have cores : u.cores = (s.setJob n j).cores := by rw [show u = _ from frame]
  refine ⟨?_, by rw [show u = _ from frame]; rfl, by rw [show u = _ from frame]; rfl⟩
  rw [← s.setJob_arr n j]
  unfold State.core
  rw [cores]

/-- Stores change memory alone. -/
theorem State.foldl_putBytes_frame {α : Type} (l : List α) (g : State → α → Nat) (b : α → List Byte) (s : State) :
    l.foldl (fun x p => x.putBytes (g x p) (b p)) s = { s with mem := (l.foldl (fun x p => x.putBytes (g x p) (b p)) s).mem } :=
  List.foldlRecOn (motive := fun u : State => u = { s with mem := u.mem }) l _ rfl fun u hu p _ => by
    have store : u.putBytes (g u p) (b p) = { u with mem := (u.putBytes (g u p) (b p)).mem } := rfl
    refine store.trans ?_
    generalize (u.putBytes (g u p) (b p)).mem = m
    rw [hu]

/-- The end of a softmax task, after its stores: its job has no phase left (R162). -/
theorem State.stored_ends {u : State} (stored : u = { s with mem := u.mem }) (j : ArrJob) (k i : Nat) :
    let e := (u.setJob n j).checkLanded k i
    (e.core n).arr = some j ∧ e.homes = s.homes ∧ e.regs = s.regs := by
  obtain ⟨arr, homes, regs⟩ := u.phasesEnd n j k i
  exact ⟨arr, homes.trans (by rw [stored]), regs.trans (by rw [stored])⟩

theorem State.stored_counts_ends (quiet : t.trap = false) {u : State} (stored : u = { s with mem := u.mem }) (j j' : ArrJob)
    (out : List (Nat × FRes)) (k i : Nat) :
    let e := u.softCount j t out fun x => (x.setJob n j').checkLanded k i
    (e.core n).arr = some j' ∧ e.homes = s.homes ∧ e.regs = s.regs := by
  obtain ⟨sat, flush, nan, counted⟩ := State.softCount_quiet quiet u j out fun x => (x.setJob n j').checkLanded k i
  obtain ⟨arr, homes, regs⟩ := (u.addCounts j.owner.1 j.owner.2 sat flush nan).phasesEnd n j' k i
  rw [counted]
  exact ⟨arr, homes.trans (by rw [stored]; rfl), regs.trans (by rw [stored]; rfl)⟩

theorem State.softEnd_ends (quiet : t.trap = false) : ((s.softEnd n j t).core n).arr = some { j with phase := 3 } ∧
    (s.softEnd n j t).homes = s.homes ∧ (s.softEnd n j t).regs = s.regs := by
  unfold State.softEnd
  dsimp only
  split
  · exact State.stored_counts_ends quiet (State.foldl_putBytes_frame _ _ _ _) _ _ _ _ _
  · exact State.stored_ends (State.foldl_putBytes_frame _ _ _ _) _ _ _

/-- The second product of a chunk counts as state of the function, then goes on (R160, R162). -/
theorem State.softOutput_counts (quiet : t.trap = false) : ∃ u, rowKeeps n s u ∧ s.softOutput n j t =
    if j.chunk + 1 < fChunks j.desc then (u.setJob n { j with got := [], phase := 2 }).fusedLoad n
    else u.softEnd n { j with got := [] } t := by
  unfold State.softOutput
  dsimp only
  generalize (Softmax.mk _ _ _ _) = sm
  generalize 256 * fWidth j.desc / 2048 = cycles
  have counted : rowKeeps n s ((s.modCore n fun x => { x with softmax := sm }).countWrap .coreVecissue n cycles) :=
    (onlyCore.modCore s n fun x => { x with softmax := sm }).keeps.trans (.issued _ n cycles)
  generalize (s.modCore n fun x => { x with softmax := sm }).countWrap .coreVecissue n cycles = u at counted
  exact State.softCount_goes quiet counted j _ _

end

end Sys2Proof.Machine
end

section
/-! PROOF. The statement of the row functions, from what has been taken from the landing buffers. -/
namespace Sys2Proof.Machine

theorem State.keepChunk_frame (s : State) (n : Nat) (j : ArrJob) :
    s.keepChunk n j = { s with mem := (s.keepChunk n j).mem } := State.keepRows_frame ..

/-- The words of a chunk stand apart in the scratch region, row by row. -/
theorem State.word_keepChunk (s : State) (n : Nat) (j : ArrJob) {i q : Nat} (hi : i < 256) (hq : q < fU j.desc)
    (fits : fU j.desc ≤ fN1 j.desc - j.chunk * fU j.desc) :
    (s.keepChunk n j).word (s.scratchCell n j i q) = chunkVal j.desc j.got i q := by
  refine State.word_keepRows _ _ _ _ 256 hi hq (fun i q q' below => ?_) fun i i' q q' below hq => ?_
  · unfold State.scratchCell
    omega
  · have rows : i * fN1 j.desc + fN1 j.desc ≤ i' * fN1 j.desc := by
      rw [← Nat.succ_mul]
      exact Nat.mul_le_mul_right _ below
    unfold State.scratchCell
    omega

theorem State.byte_keepChunk_other (s : State) (n : Nat) (j : ArrJob) {y : Nat}
    (apart : ∀ i q, i < 256 → q < fU j.desc → y < s.scratchCell n j i q ∨ s.scratchCell n j i q + 4 ≤ y) :
    (s.keepChunk n j).byte y = s.byte y := State.byte_keepRows_other _ _ _ _ 256 apart

section
variable {s u : State} {n : Nat} {j g : ArrJob} {t : Task}

theorem State.word_congr (mem : u.mem = s.mem) (a : Nat) : u.word a = s.word a := by
  simp only [State.word_eq, State.byte_congr (congrArg Mem.bytes mem)]

theorem took_untrapped {acc : State × ArrJob} (took : tookLandings n s j acc) (quiet : s.untrapped j.owner.1 j.owner.2) :
    acc.1.untrapped acc.2.owner.1 acc.2.owner.2 := by
  obtain ⟨only, -, job⟩ := took
  have owner : acc.2.owner = j.owner := by rw [job]
  have queues : acc.1.queues = s.queues := by rw [only.1]
  exact owner ▸ State.untrapped_congr quiet queues

theorem tookLandings.scratchCell {acc : State × ArrJob} (took : tookLandings n s j acc) :
    acc.1.scratchCell n acc.2 = s.scratchCell n j := by
  obtain ⟨only, -, job⟩ := took
  have place (off : Nat) : acc.1.yardAddr n off = s.yardAddr n off := by rw [only.1]; rfl
  funext i q
  unfold State.scratchCell
  rw [place, job]

/-- Storing the job with what has landed. -/
theorem State.setJob_took (only : onlyCore n s u) (g : ArrJob) :
    ((u.setJob n g).core n).arr = some g ∧ u.setJob n g = { s with cores := (u.setJob n g).cores } := by
  obtain ⟨frame, -⟩ := only.trans (u.setJob_only n g)
  exact ⟨u.setJob_arr n g, frame⟩

/-- A pointwise function's tiles (R160, R161). -/
theorem State.rowPointwise_tiles {fn : Nat} (arr : (s.core n).arr = some j) (quiet : s.untrapped j.owner.1 j.owner.2)
    (type : dType j.desc = 2) (func : fFn j.desc = fn) (phase : j.phase = 0) (whole : (s.takeLandings n j).2.whole = true) :
    rowKeeps n s (s.rowPointwise n fn) ∧ ((s.rowPointwise n fn).core n).arr =
      some ((s.takeLandings n j).2.withTiles (fU j.desc) (fKt2 j.desc) ((List.range (fRows j.desc)).map fun i =>
        (List.range (fU j.desc)).map (pointOut fn j.desc (s.takeLandings n j).2.got i))) := by
  obtain ⟨cycles, col, run⟩ := State.rowPointwise_whole arr type func phase whole
  obtain ⟨only, -, job⟩ := s.takeLandings_took n j
  have desc : (s.takeLandings n j).2.desc = j.desc := by rw [job]
  have quiet' := took_untrapped (s.takeLandings_took n j) quiet
  rw [run, ← desc]
  obtain ⟨keeps, tiles⟩ := State.rowDone_tiles (n := n) (s := (s.takeLandings n j).1.countWrap .coreVecissue n cycles) quiet' _ _
    col _ []
  exact ⟨(only.keeps.trans (.issued _ n cycles)).trans keeps, tiles⟩

/-- RMS scaling keeps a chunk that is not the last in the scratch region. -/
theorem State.rowRms_keeps (arr : (s.core n).arr = some j) (type : dType j.desc = 2) (func : fFn j.desc = 4)
    (phase : j.phase = 0) (whole : (s.takeLandings n j).2.whole = true) (more : j.chunk + 1 < fChunks j.desc) :
    ((s.rowRms n).core n).arr = some { (s.takeLandings n j).2 with got := [], phase := 2 } ∧ (s.rowRms n).homes = s.homes ∧
      (s.rowRms n).regs = s.regs ∧ (s.rowRms n).mem = ((s.takeLandings n j).1.keepChunk n (s.takeLandings n j).2).mem := by
  obtain ⟨only, -, job⟩ := s.takeLandings_took n j
  have more' : (s.takeLandings n j).2.chunk + 1 < fChunks (s.takeLandings n j).2.desc := by
    rw [job]
    exact more
  rw [State.rowRms_more arr type func phase whole more']
  have kept := (s.takeLandings n j).1.keepChunk_frame n (s.takeLandings n j).2
  obtain ⟨⟨frame, -⟩, stored⟩ := ((s.takeLandings n j).1.keepChunk n (s.takeLandings n j).2).setJob_fusedLoad n
    { (s.takeLandings n j).2 with got := [], phase := 2 }
  refine ⟨stored, ?_, ?_, ?_⟩
  · rw [frame, kept, only.1]
  · rw [frame, kept, only.1]
  · rw [frame]

/-- After the last chunk the tiles hold all columns. -/
theorem State.rowRms_scales (arr : (s.core n).arr = some j) (quiet : s.untrapped j.owner.1 j.owner.2) (type : dType j.desc = 2)
    (func : fFn j.desc = 4) (phase : j.phase = 0) (whole : (s.takeLandings n j).2.whole = true)
    (last : fChunks j.desc ≤ j.chunk + 1) :
    (∃ x, ((s.rowRms n).core n).arr = some ((s.takeLandings n j).2.withTiles (fN1 j.desc) (fKt2 j.desc) x)) ∧
      (s.rowRms n).homes = s.homes ∧ sameRegs (fun q i => q = .coreVecissue ∧ i = n) s (s.rowRms n) := by
  obtain ⟨only, -, job⟩ := s.takeLandings_took n j
  have desc : (s.takeLandings n j).2.desc = j.desc := by rw [job]
  have last' : ¬ (s.takeLandings n j).2.chunk + 1 < fChunks (s.takeLandings n j).2.desc := by
    rw [job]
    exact Nat.not_lt.2 last
  obtain ⟨cycles, x, run⟩ := State.rowRms_last arr type func phase whole last'
  have kept := (s.takeLandings n j).1.keepChunk_frame n (s.takeLandings n j).2
  generalize (s.takeLandings n j).1.keepChunk n (s.takeLandings n j).2 = u at run kept
  have quiet' := took_untrapped (s.takeLandings_took n j) quiet
  have queues : u.queues = (s.takeLandings n j).1.queues := by rw [kept]
  have homes : u.homes = s.homes := by rw [kept, only.1]
  have regs : u.regs = s.regs := by rw [kept, only.1]
  obtain ⟨keeps, tiles⟩ := State.rowDone_tiles (n := n) (s := u.countWrap .coreVecissue n cycles)
    (State.untrapped_congr quiet' queues) (fN1 (s.takeLandings n j).2.desc) (fKt2 (s.takeLandings n j).2.desc) id x []
  have counted := (rowKeeps.issued u n cycles).trans keeps
  rw [run, desc] at *
  refine ⟨⟨x, tiles⟩, counted.homes.trans homes, fun r i hr => ?_⟩
  exact (counted.2.2 r i hr).trans (State.reg_congr regs r i)

/-- The scores of a whole chunk become tiles (R162). -/
theorem State.rowSoftmax_scores (arr : (s.core n).arr = some j) (task : s.task? j.owner.1 j.owner.2 = some t)
    (quiet : s.untrapped j.owner.1 j.owner.2) (type : dType j.desc = 2) (func : fFn j.desc = 0) (phase : j.phase = 0)
    (whole : (s.takeLandings n j).2.whole = true) : rowKeeps n s (s.rowSoftmax n) ∧ ∃ cols kt x,
      ((s.rowSoftmax n).core n).arr = some ((s.takeLandings n j).2.withTiles cols kt x) := by
  obtain ⟨only, -, job⟩ := s.takeLandings_took n j
  have gphase : (s.takeLandings n j).2.phase = 0 := by rw [job]; exact phase
  rw [State.rowSoftmax_whole arr type task func (by omega) whole, if_pos gphase]
  obtain ⟨cols, kt, x, keeps, made⟩ := State.softScores_tiles (n := n) (t := t) (took_untrapped (s.takeLandings_took n j) quiet)
  exact ⟨only.keeps.trans keeps, cols, kt, x, made⟩

/-- The second product of a whole chunk (R162): the job waits for the next chunk, or has no phase left. -/
theorem State.rowSoftmax_output (arr : (s.core n).arr = some j) (task : s.task? j.owner.1 j.owner.2 = some t)
    (quiet : t.trap = false) (type : dType j.desc = 2) (func : fFn j.desc = 0) (phase : j.phase = 1)
    (whole : (s.takeLandings n j).2.whole = true) :
    let g := (s.takeLandings n j).2
    (j.chunk + 1 < fChunks j.desc → rowKeeps n s (s.rowSoftmax n) ∧
      ((s.rowSoftmax n).core n).arr = some { g with got := [], phase := 2 }) ∧
    (fChunks j.desc ≤ j.chunk + 1 → ((s.rowSoftmax n).core n).arr = some { g with got := [], phase := 3 } ∧
      (s.rowSoftmax n).homes = s.homes ∧ sameRegs (fun q i => q = .coreVecissue ∧ i = n) s (s.rowSoftmax n)) := by
  obtain ⟨only, -, job⟩ := s.takeLandings_took n j
  have gphase : (s.takeLandings n j).2.phase ≠ 0 := by rw [job]; exact phase ▸ Nat.one_ne_zero
  have chunks : ((s.takeLandings n j).2.chunk + 1 < fChunks (s.takeLandings n j).2.desc) ↔ (j.chunk + 1 < fChunks j.desc) := by
    rw [job]
  obtain ⟨u, counted, run⟩ := State.softOutput_counts (s := (s.takeLandings n j).1) (n := n) (j := (s.takeLandings n j).2) quiet
  have keeps := only.keeps.trans counted
  rw [State.rowSoftmax_whole arr type task func (by omega) whole, if_neg gphase, run]
  refine ⟨fun more => ?_, fun last => ?_⟩
  · rw [if_pos (chunks.2 more)]
    obtain ⟨stored, job'⟩ := u.setJob_fusedLoad n { (s.takeLandings n j).2 with got := [], phase := 2 }
    exact ⟨keeps.trans stored.keeps, job'⟩
  · rw [if_neg fun more => Nat.not_lt.2 last (chunks.1 more)]
    obtain ⟨ended, homes, regs⟩ := State.softEnd_ends (s := u) (n := n) (j := { (s.takeLandings n j).2 with got := [] }) quiet
    exact ⟨ended, homes.trans keeps.homes, fun r i hr => (State.reg_congr regs r i).trans (keeps.2.2 r i hr)⟩

end

/-- Settles O40: each clause by what the row function does with a job of its phase, whole or not. -/
theorem rowFunctionsWriteTheIntermediate : Obligations.RowFunctionsWriteTheIntermediate := by
  unfold Obligations.RowFunctionsWriteTheIntermediate
  intro n j t s up arr task trap type d g val
  have quiet : s.untrapped j.owner.1 j.owner.2 := fun t' ht => by
    rw [task] at ht
    cases ht
    exact trap
  obtain ⟨only, core, job⟩ := s.takeLandings_took n j
  have desc : (s.takeLandings n j).2.desc = j.desc := by rw [job]
  have owner : (s.takeLandings n j).2.owner = j.owner := by rw [job]
  have gphase : (s.takeLandings n j).2.phase = j.phase := by rw [job]
  have gchunk : (s.takeLandings n j).2.chunk = j.chunk := by rw [job]
  refine ⟨fun c fn hc => ?chunk, fun other => ?_, fun func phase part => ?_, fun func phase whole more => ?goesOn,
    fun func phase whole last => ?ends⟩
  case chunk =>
    rw [exec_rowFunction up n hc]
    refine ⟨fun other => ?_, fun func phase part => ?_, fun func phase whole pointwise => ?tiles,
      fun func phase whole rms more => ?kept, fun func phase whole rms last => ?scaled⟩
    · rw [State.rowFunction_other arr other]
    · refine ⟨_, rfl, ?_⟩
      rw [State.rowFunction_part arr type func phase part]
      obtain ⟨stored, frame⟩ := State.setJob_took only g
      refine ⟨stored, frame, fun b hb own => ?_⟩
      rw [State.setJob, State.core_modCore_same]
      exact s.takeLandings_empty n j hb own
    case tiles =>
      have run : s.rowFunction n fn = s.rowPointwise n fn := if_neg pointwise
      have named : fn = 1 ∨ fn = 2 ∨ fn = 3 := by omega
      have rows : fRows (s.takeLandings n j).2.desc = fRows d := by rw [desc]
      obtain ⟨⟨frame, others, regs⟩, made⟩ := State.rowPointwise_tiles arr quiet type func phase whole
      rw [run]
      refine ⟨_, rfl, ⟨_, made, rfl, rfl, rfl, desc, owner, length_tilesOf .., fun i r p hi hr hp small => ?_⟩, frame, others,
        regs⟩
      rw [ArrJob.withTiles, rows]
      exact (mget_tilesOf (pointOut fn d g.got) hi hr hp (Nat.min_le_right _ _)).trans (pointOut_bits named d g.got r _)
    case kept =>
      have run : s.rowFunction n fn = s.rowRms n := if_pos rms
      obtain ⟨job', homes, regs, mem⟩ := State.rowRms_keeps arr type (rms ▸ func) phase whole more
      have cells := (s.takeLandings_took n j).scratchCell
      have before : (s.takeLandings n j).1.mem = s.mem := by rw [only.1]
      rw [run]
      refine ⟨_, rfl, job', regs, homes, fun i q hi hq fits => ?_, fun y apart => ?_⟩
      · have stored := (s.takeLandings n j).1.word_keepChunk n (s.takeLandings n j).2 hi
          (by rw [desc]; exact hq) (by rw [desc, gchunk]; exact fits)
        rw [cells, desc] at stored
        exact (State.word_congr mem _).trans stored
      · have kept := (s.takeLandings n j).1.byte_keepChunk_other n (s.takeLandings n j).2 (y := y)
          (by rw [cells, desc]; exact apart)
        exact (State.byte_congr (congrArg Mem.bytes mem) y).trans (kept.trans (State.byte_congr (congrArg Mem.bytes before) y))
    case scaled =>
      have run : s.rowFunction n fn = s.rowRms n := if_pos rms
      obtain ⟨⟨x, made⟩, homes, regs⟩ := State.rowRms_scales arr quiet type (rms ▸ func) phase whole last
      rw [run]
      exact ⟨_, rfl, ⟨_, made, rfl, rfl, rfl, desc, owner, length_tilesOf ..⟩, homes, regs⟩
  · rw [exec_onlineSoftmax up, State.rowSoftmax_other arr other]
  · refine ⟨_, exec_onlineSoftmax up n, ?_⟩
    rw [State.rowSoftmax_part arr type task func phase part]
    exact State.setJob_took only g
  case goesOn =>
    refine ⟨_, exec_onlineSoftmax up n, ?_⟩
    obtain first | second : j.phase = 0 ∨ j.phase = 1 := by omega
    · obtain ⟨⟨frame, others, regs⟩, cols, kt, x, made⟩ := State.rowSoftmax_scores arr task quiet type func first whole
      exact ⟨⟨_, made, by rw [first]; rfl, rfl, desc, owner⟩, frame, others, regs⟩
    · obtain ⟨⟨frame, others, regs⟩, made⟩ := (State.rowSoftmax_output arr task trap type func second whole).1
        (more.resolve_left (by omega))
      exact ⟨⟨_, made, by rw [second], rfl, desc, owner⟩, frame, others, regs⟩
  case ends =>
    obtain ⟨made, homes, regs⟩ := (State.rowSoftmax_output arr task trap type func phase whole).2 last
    exact ⟨_, exec_onlineSoftmax up n, ⟨_, made, rfl, desc, owner⟩, homes, regs⟩

end Sys2Proof.Machine
end

section
/-! PROOF. A core's failed mortar links stay held (R221): neither the end of a task nor a core fault clears one. -/
namespace Sys2Proof.Machine

/-- The mortar links that each core holds failed. -/
def State.failedLinks (s : State) : Nat → List Nat := fun n => (s.core n).linkFail

theorem State.failedLinks_of_cores {s u : State} (h : u.cores = s.cores) : u.failedLinks = s.failedLinks := by
  unfold State.failedLinks State.core
  rw [h]

theorem State.failedLinks_of_work {s u : State} (h : u.work = s.work) : u.failedLinks = s.failedLinks :=
  State.failedLinks_of_cores (congrArg Prod.fst h)

theorem State.failedLinks_modCore (s : State) (n : Nat) (f : Core → Core) (hf : ∀ c, (f c).linkFail = c.linkFail) :
    (s.modCore n f).failedLinks = s.failedLinks := by
  funext m
  unfold State.failedLinks
  by_cases hm : m = n
  · rw [hm, State.core_modCore_same, hf]
  · rw [State.core_modCore_other s f hm]

theorem State.failedLinks_modQueue (s : State) (k : Nat) (f : Queue → Queue) : (s.modQueue k f).failedLinks = s.failedLinks := rfl

theorem State.failedLinks_foldl {α : Type} {f : State → α → State} (hf : ∀ s a, (f s a).failedLinks = s.failedLinks)
    (l : List α) (s : State) : (l.foldl f s).failedLinks = s.failedLinks :=
  List.foldlRecOn (motive := fun u => u.failedLinks = s.failedLinks) l f rfl fun x hx a _ => (hf x a).trans hx

theorem State.failedLinks_ite {s u v : State} {p : Prop} [Decidable p] (hu : u.failedLinks = s.failedLinks)
    (hv : v.failedLinks = s.failedLinks) : (if p then u else v).failedLinks = s.failedLinks := by
  split <;> assumption

/-! ### Queues and records -/

theorem State.failedLinks_setSb (s : State) (k e : Nat) (x : SbEntry) : (s.setSb k e x).failedLinks = s.failedLinks :=
  s.failedLinks_modCore _ _ fun _ => rfl

theorem State.failedLinks_startQueue (s : State) (k : Nat) : (s.startQueue k).failedLinks = s.failedLinks := by
  have cleared (x : State) : (x.clearSb k).failedLinks = x.failedLinks :=
    x.failedLinks_modCore _ _ fun c =>
      List.foldlRecOn (motive := fun y : Core => y.linkFail = c.linkFail) _ _ rfl fun _ hy _ _ => hy
  have dropped : (s.modCore (s.queue k).lcore fun c => c.dropChoice fun x => decide (x.1 = k)).failedLinks = s.failedLinks :=
    s.failedLinks_modCore _ _ fun _ => rfl
  unfold State.startQueue
  dsimp only
  rw [State.failedLinks_of_work (State.work_hwFld ..), State.failedLinks_of_cores (State.setQst_cores ..),
    State.failedLinks_modQueue]
  exact State.failedLinks_ite ((cleared _).trans dropped) dropped

theorem State.failedLinks_enter (s : State) (k st : Nat) : (s.enter k st).failedLinks = s.failedLinks := by
  unfold State.enter State.takeGo
  exact State.failedLinks_ite (State.failedLinks_startQueue _ k) rfl

theorem State.failedLinks_recordNow (s : State) (k : Nat) (e : Ended) : (s.recordNow k e).failedLinks = s.failedLinks := by
  have put : (s.putRecord k e.code e.ns e.task).failedLinks = s.failedLinks := by
    unfold State.putRecord
    rw [State.failedLinks_modQueue, State.failedLinks_of_work (State.work_setRfld ..)]
    exact State.failedLinks_ite (State.failedLinks_of_work (s.work_writeRecord ..)) rfl
  refine Eq.trans ?_ put
  unfold State.recordNow
  dsimp only
  generalize s.putRecord k e.code e.ns e.task = s1
  have irq (x : State) : (if dIrq e.task.desc then x.raiseTenant (k / 16) (k % 16) else x).work = x.work := by split <;> simp
  split
  · exact State.failedLinks_of_work (irq s1)
  split
  · refine (State.failedLinks_enter ..).trans (State.failedLinks_of_work ?_)
    split
    · exact (State.work_haltReport ..).trans ((irq _).trans (State.work_raiseTenant ..))
    · exact (irq _).trans (State.work_raiseTenant ..)
  · exact State.failedLinks_of_work ((irq _).trans (State.work_raiseTenant ..))

/-! ### Ends of tasks -/

theorem State.failedLinks_endTask (s : State) (k code : Nat) (t : Task) : (s.endTask k code t).failedLinks = s.failedLinks := by
  have flushed (x : State) : (x.flushRecords k).failedLinks = x.failedLinks := by
    unfold State.flushRecords
    exact (State.failedLinks_foldl (fun y e => y.failedLinks_recordNow k e) _ _).trans (x.failedLinks_modQueue k _)
  unfold State.endTask State.dropTask
  rw [flushed, State.failedLinks_modQueue, State.failedLinks_modQueue]
  exact State.failedLinks_of_work (s.work_countTask _ t)

theorem State.failedLinks_haloGone (s : State) (n : Nat) (o : Nat × Nat) : (s.haloGone n o).failedLinks = s.failedLinks := by
  unfold State.haloGone
  split
  · rfl
  · refine State.failedLinks_ite rfl (State.failedLinks_foldl (fun x l => ?_) _ s)
    split
    · rfl
    · exact x.failedLinks_modCore _ _ fun _ => rfl

/-- What follows the end of a task: its queue may be DONE. -/
theorem State.failedLinks_ranOut (s : State) (k : Nat) : (if s.ranOut k then s.enter k 4 else s).failedLinks = s.failedLinks :=
  State.failedLinks_ite (s.failedLinks_enter k 4) rfl

theorem State.failedLinks_abortTask (s : State) (k i code : Nat) : (s.abortTask k i code).failedLinks = s.failedLinks := by
  unfold State.abortTask
  split
  · rfl
  · next t _ =>
    have stopped : ((s.haloGone (s.queue k).lcore (k, i)).modCore (s.queue k).lcore fun c =>
        (c.stopOwner (k, i)).dropChoice fun x => decide (x = (k, t.index))).failedLinks = s.failedLinks :=
      (State.failedLinks_modCore _ _ (fun c => (c.stopOwner (k, i)).dropChoice _) fun _ => rfl).trans (s.failedLinks_haloGone ..)
    have voided (x : State) : ((t.xlates.filter fun y => decide (1 ≤ y.mode)).foldl
        (fun x y => x.voidWrite (k / 16) y.handle y.gen) x).failedLinks = x.failedLinks :=
      State.failedLinks_foldl (fun u y => State.failedLinks_of_work (u.work_voidWrite ..)) _ x
    refine (State.failedLinks_ranOut ..).trans ((State.failedLinks_endTask ..).trans ?_)
    refine (State.failedLinks_of_work (State.work_restOver ..)).trans ?_
    have before := (voided _).trans ((State.failedLinks_of_work (State.work_endMove _ k i)).trans stopped)
    exact State.failedLinks_ite ((State.failedLinks_setSb ..).trans before) before

theorem State.failedLinks_completeTask (s : State) (k i : Nat) : (s.completeTask k i).failedLinks = s.failedLinks := by
  unfold State.completeTask
  split
  · rfl
  · next t _ =>
    have written (x : State) : ((t.xlates.filter fun y => decide (y.mode = 1)).foldl
        (fun x y => x.endWrite (k / 16) y.handle y.gen) x).failedLinks = x.failedLinks :=
      State.failedLinks_foldl (fun u y => State.failedLinks_of_work (State.work_genUpdate (by split <;> rfl) ..)) _ x
    have released (x : State) : ((releaseEntries t.desc).foldl (fun x e => x.setSb k e .empty) x).failedLinks = x.failedLinks :=
      State.failedLinks_foldl (fun u e => u.failedLinks_setSb ..) _ x
    dsimp only
    rw [State.failedLinks_ranOut, State.failedLinks_modQueue, State.failedLinks_endTask,
      State.failedLinks_of_work (State.work_restOver ..)]
    have before := (released _).trans (written s)
    exact State.failedLinks_ite ((State.failedLinks_setSb ..).trans before) before

theorem State.failedLinks_abortAll (s : State) (k code : Nat) : (s.abortAll k code).failedLinks = s.failedLinks :=
  State.failedLinks_foldl (fun x (t : Task) => x.failedLinks_abortTask k t.serial code) _ s

theorem State.failedLinks_abortLink (s : State) (n l code : Nat) : (s.abortLink n l code).failedLinks = s.failedLinks :=
  State.failedLinks_foldl
    (fun x k => State.failedLinks_foldl (fun y (t : Task) => y.failedLinks_abortTask k t.serial code) _ x) _ s

theorem State.failedLinks_settleMoves (s : State) (k : Nat) : (s.settleMoves k).failedLinks = s.failedLinks := by
  refine State.failedLinks_foldl (fun x m => ?_) _ s
  refine State.failedLinks_ite rfl ((State.failedLinks_completeTask ..).trans ?_)
  exact State.failedLinks_of_work (State.work_genUpdate (by split <;> rfl) ..)

/-! ### Core faults -/

theorem State.work_recordCore (s : State) (n c what : Nat) : (s.recordCore n c what).work = s.work := s.work_log 6 [n, c, what]

theorem State.work_replaceReason (s : State) (b : Nat) : (s.replaceReason b).work = s.work := by
  unfold State.replaceReason
  split
  · rfl
  · dsimp only
    split
    · exact (State.work_noticeUp ..).trans ((State.work_log ..).trans (State.work_raise ..))
    · exact (State.work_log ..).trans (State.work_raise ..)

theorem State.failedLinks_loseYard (s : State) (n : Nat) : (s.loseYard n).failedLinks = s.failedLinks :=
  (State.failedLinks_foldl (fun x _ => State.failedLinks_of_cores (x.setSt_cores ..)) _ _).trans
    (State.failedLinks_foldl (fun x _ => x.failedLinks_abortTask ..) _ s)

theorem State.failedLinks_unmapCore (s : State) (n c : Nat) : (s.unmapCore n c).failedLinks = s.failedLinks := by
  have marked : ((s.recordCore n c 2).setDie (n / 8) 6 6 1).failedLinks = s.failedLinks :=
    State.failedLinks_of_work (s.work_recordCore n c 2)
  have halted (x : State) (k : Nat) : (let y := (x.settleMoves k).abortAll k 0x50
      if y.qst k = 2 then y.enter k 3 else y).failedLinks = x.failedLinks := by
    have aborted : ((x.settleMoves k).abortAll k 0x50).failedLinks = x.failedLinks :=
      (State.failedLinks_abortAll ..).trans (x.failedLinks_settleMoves k)
    exact State.failedLinks_ite ((State.failedLinks_enter ..).trans aborted) aborted
  unfold State.unmapCore
  refine (State.failedLinks_of_work (State.work_replaceReason ..)).trans ?_
  refine (State.failedLinks_loseYard _ n).trans ?_
  dsimp only
  split
  · exact State.failedLinks_ite marked marked
  · exact (State.failedLinks_foldl halted _ _).trans (State.failedLinks_ite marked marked)

theorem State.failedLinks_coreFault (s : State) (c : Nat) : (s.coreFault c).failedLinks = s.failedLinks := by
  unfold State.coreFault
  split
  · rfl
  · next n _ =>
    have stopped : (s.modCore n fun x => { x with stopped := true }).failedLinks = s.failedLinks :=
      s.failedLinks_modCore _ _ fun _ => rfl
    have aborted (l : List Nat) (x : State) :
        (l.foldl (fun x k => (x.settleMoves k).abortAll k 0x50) x).failedLinks = x.failedLinks :=
      State.failedLinks_foldl (fun y k => (State.failedLinks_abortAll ..).trans (y.failedLinks_settleMoves k)) l x
    have waiting := (aborted ((s.modCore n fun x => { x with stopped := true }).queuesOn n) _).trans stopped
    refine State.failedLinks_ite rfl (State.failedLinks_ite waiting (State.failedLinks_ite ?_ ?_))
    · exact (State.failedLinks_of_work (State.work_recordCore ..)).trans waiting
    · exact (State.failedLinks_unmapCore ..).trans waiting

end Sys2Proof.Machine
end

section
/-! PROOF. A mortar link that fails (R221, R512): between cores without queues no task ends, and the receiving core's
substitution begins. -/
namespace Sys2Proof.Machine

/-- A link fails: it is held, the tasks of its transfer abort, and the receiving core has a core fault (R221). -/
def State.linkFault (s : State) (n l : Nat) : State :=
  if (meshPartner n l).isSome then (match (s.linkFailed n l).phys n with
    | some c => (s.linkFailed n l).coreFault c
    | none => s.linkFailed n l)
  else s.linkFailed n l

theorem exec_mortarLinkFailed {s : State} (h : s.up = true) (n : Fin 16) (l : Fin 4) :
    exec (.mortarLinkFailed n l) s = .next (s.linkFault n l) := whenUp_up h fun x => x.linkFault n l

theorem exec_mortarFlitError {s : State} (h : s.up = true) (n : Fin 16) (l : Fin 4) : exec (.mortarFlitError n l) s =
    .next (if (meshPartner n l).isSome then s.countWrap .coreMreplay n 1 else s) :=
  whenUp_up h fun x => if (meshPartner n l).isSome then x.countWrap .coreMreplay n 1 else x

/-- Link l of core n is held failed. -/
def State.holdLink (s : State) (n l : Nat) : State :=
  s.modCore n fun c => { c with linkFail := if c.linkFail.contains l then c.linkFail else l :: c.linkFail }

theorem State.linkFailed_eq {s : State} {n l m : Nat} (hm : meshPartner n l = some m) :
    s.linkFailed n l = ((s.holdLink n l).abortLink n l 0x50).abortLink m (meshBack l) 0x50 := by
  unfold State.linkFailed
  rw [hm]
  rfl

theorem State.failedLinks_holdLink (s : State) (n l : Nat) : ((s.holdLink n l).failedLinks n).contains l = true := by
  unfold State.failedLinks State.holdLink
  rw [State.core_modCore_same]
  dsimp only
  split
  · assumption
  · exact List.contains_iff_mem.2 List.mem_cons_self

theorem State.linkFailed_holds {s : State} {n l m : Nat} (hm : meshPartner n l = some m) :
    ((s.linkFailed n l).failedLinks n).contains l = true := by
  rw [State.linkFailed_eq hm, State.failedLinks_abortLink, State.failedLinks_abortLink]
  exact s.failedLinks_holdLink n l

theorem State.abortLink_idle {s : State} {n : Nat} (idle : s.queuesOn n = []) (l code : Nat) : s.abortLink n l code = s := by
  unfold State.abortLink
  rw [idle]
  rfl

/-- Between cores without queues the failed link is all that changes. -/
theorem State.linkFailed_idle {s : State} {n l m : Nat} (hm : meshPartner n l = some m) (own : s.queuesOn n = [])
    (other : s.queuesOn m = []) : s.linkFailed n l = s.holdLink n l := by
  rw [State.linkFailed_eq hm, State.abortLink_idle (s := s.holdLink n l) own, State.abortLink_idle (s := s.holdLink n l) other]

/-- Logical core n on physical core c is stopped, with its substitution to come and no task to restart (R513). -/
def State.stopCore (s : State) (n c : Nat) : State :=
  { s.modCore n fun x => { x with stopped := true } with mon := { s.mon with subst := s.mon.subst ++ [(dieOf c, n, c, [])] } }

theorem State.stopCore_stopped (s : State) (n c : Nat) : ((s.stopCore n c).core n).stopped = true :=
  congrArg Core.stopped (s.core_modCore_same n fun x => { x with stopped := true })

/-- A core fault of a core without queues, with its spare left: the core is stopped and its substitution begins (R512, R513). -/
theorem State.coreFault_idle {s : State} {n c : Nat} (placed : s.logical c = some n) (idle : s.queuesOn n = [])
    (none : s.mon.subst = []) (spare : s.spareLeft (dieOf c) = true) :
    s.coreFault c = (s.stopCore n c).recordCore n c 0 := by
  have busy : s.dieBusy (dieOf c) = false := by unfold State.dieBusy; rw [none]; rfl
  have oldest : s.oldest n = [] := by unfold State.oldest; rw [idle]; rfl
  have still : (s.modCore n fun x => { x with stopped := true }).queuesOn n = [] := idle
  have spare' : (s.stopCore n c).spareLeft (dieOf c) = true := spare
  unfold State.coreFault
  simp only [placed, none, List.any_nil, Bool.false_eq_true, if_false, still, List.foldl_nil, busy, oldest]
  exact if_pos spare'

/-- The record of a failed core changes the flash and the list of failed cores alone (R516). -/
theorem State.recordCore_keeps (s : State) (n c what : Nat) : let u := s.recordCore n c what
    u.core n = s.core n ∧ u.mon.subst = s.mon.subst ∧ u.mem = s.mem ∧ u.homes = s.homes ∧ u.regs = s.regs := by
  have kept : s.log 6 [n, c, what] = { s with flash := (s.log 6 [n, c, what]).flash } := by
    unfold State.log
    rw [if_pos (.inr rfl)]
  unfold State.recordCore
  rw [kept]
  exact ⟨rfl, rfl, rfl, rfl, rfl⟩

/-- A link without a partner cannot fail. -/
theorem State.linkFault_none {s : State} {n l : Nat} (hm : meshPartner n l = none) : s.linkFault n l = s := by
  unfold State.linkFault State.linkFailed
  rw [hm]
  rfl

theorem State.linkFault_eq {s : State} {n l m : Nat} (hm : meshPartner n l = some m) : s.linkFault n l =
    match (s.linkFailed n l).phys n with
    | some c => (s.linkFailed n l).coreFault c
    | none => s.linkFailed n l := by
  unfold State.linkFault
  rw [hm]
  rfl

theorem State.linkFault_holds {s : State} {n l m : Nat} (hm : meshPartner n l = some m) :
    ((s.linkFault n l).core n).linkFail.contains l = true := by
  have held := s.linkFailed_holds hm
  rw [State.linkFault_eq hm]
  split
  · exact (congrArg (fun f => (f n).contains l) (State.failedLinks_coreFault ..)).trans held
  · exact held

/-- A link that fails between cores without queues, the receiving one with its spare left. -/
theorem State.linkFault_idle {s : State} {n l m c : Nat} (hm : meshPartner n l = some m) (place : s.phys n = some c)
    (placed : s.logical c = some n) (own : s.queuesOn n = []) (other : s.queuesOn m = []) (none : s.mon.subst = [])
    (spare : s.spareLeft (dieOf c) = true) : s.linkFault n l = ((s.holdLink n l).stopCore n c).recordCore n c 0 := by
  have place' : (s.holdLink n l).phys n = some c := place
  rw [State.linkFault_eq hm, State.linkFailed_idle hm own other, place']
  exact State.coreFault_idle (s := s.holdLink n l) placed own none spare

end Sys2Proof.Machine
end

section
/-! PROOF. The halo exchange (R215 to R219): what its parts leave alone, what an inbound link changes, and how the links of a
phase land. -/
namespace Sys2Proof.Machine

theorem exec_haloExchangeStart {s : State} (h : s.up = true) (n : Fin 16) :
    exec (.haloExchangeStart n) s = .next (s.haloStart n) := whenUp_up h fun x => x.haloStart n
theorem exec_haloToken {s : State} (h : s.up = true) (n : Fin 16) (l : Fin 4) :
    exec (.haloToken n l) s = .next (s.haloToken n l) := whenUp_up h fun x => x.haloToken n l
theorem exec_haloInboundComplete {s : State} (h : s.up = true) (n : Fin 16) :
    exec (.haloInboundComplete n) s = .next (s.haloInbound n) := whenUp_up h fun x => x.haloInbound n
theorem exec_haloPartnerAbort {s : State} (h : s.up = true) (n : Fin 16) :
    exec (.haloPartnerAbort n) s = .next (s.haloAbort n) := whenUp_up h fun x => x.haloAbort n

/-! ### What an exchange leaves alone -/

/-- Memory alone changes, and no byte of those apart. -/
def storesBut (apart : Nat → Prop) (s u : State) : Prop := u = { s with mem := u.mem } ∧ ∀ y, apart y → u.byte y = s.byte y

theorem storesBut.refl (apart : Nat → Prop) (s : State) : storesBut apart s s := ⟨rfl, fun _ _ => rfl⟩

theorem storesBut.putBytes {apart : Nat → Prop} {s u : State} (h : storesBut apart s u) {a : Nat} {bs : List Byte}
    (out : ∀ y, apart y → y < a ∨ a + bs.length ≤ y) : storesBut apart s (u.putBytes a bs) := by
  obtain ⟨frame, same⟩ := h
  refine ⟨?_, fun y hy => (u.byte_putBytes_other a y bs (out y hy)).trans (same y hy)⟩
  have store : u.putBytes a bs = { u with mem := (u.putBytes a bs).mem } := rfl
  refine store.trans ?_
  generalize (u.putBytes a bs).mem = m
  rw [frame]

/-- The registers that an exchange counts in. -/
def exchangeCounts (q : Reg) (_ : Nat) : Prop := q = .coreMtxbytes ∨ q = .coreArrissue ∨ q = .coreMhalowait ∨ q = .queSlip

/-- What every part of an exchange keeps: homes, places of the cores, registers but its counts, the cores of the queues, and
tasks out of trap mode. -/
structure exchangeKeeps (s u : State) : Prop where
  homes : u.homes = s.homes
  coreMap : u.coreMap = s.coreMap
  regs : sameRegs exchangeCounts s u
  lcore : ∀ k, (u.queue k).lcore = (s.queue k).lcore
  untrapped : ∀ k i, s.untrapped k i → u.untrapped k i

namespace exchangeKeeps
variable {s t u : State}

theorem refl (s : State) : exchangeKeeps s s := ⟨rfl, rfl, fun _ _ _ => rfl, fun _ => rfl, fun _ _ h => h⟩

theorem trans (h : exchangeKeeps s t) (h' : exchangeKeeps t u) : exchangeKeeps s u :=
  ⟨h'.homes.trans h.homes, h'.coreMap.trans h.coreMap, h.regs.trans h'.regs fun _ _ e => e,
    fun k => (h'.lcore k).trans (h.lcore k), fun k i e => h'.untrapped k i (h.untrapped k i e)⟩

theorem of_stores {apart : Nat → Prop} (stores : storesBut apart s u) : exchangeKeeps s u := by
  rw [stores.1]
  exact ⟨rfl, rfl, fun _ _ _ => rfl, fun _ => rfl, fun _ _ h => h⟩

theorem modCore (s : State) (n : Nat) (f : Core → Core) : exchangeKeeps s (s.modCore n f) :=
  ⟨rfl, rfl, fun _ _ _ => rfl, fun _ => rfl, fun _ _ h => h⟩

theorem countWrap (s : State) {r : Reg} {i : Nat} (hr : exchangeCounts r i) (v : Nat) : exchangeKeeps s (s.countWrap r i v) :=
  ⟨rfl, rfl, fun _ _ h => State.reg_setReg_other _ _ fun e => h (e.1 ▸ hr), fun _ => rfl, fun _ _ h => h⟩

/-- A change of a task in flight that keeps its number and its mode. -/
theorem modTask (s : State) (k i : Nat) {g : Task → Task} (hs : ∀ t, (g t).serial = t.serial) (hg : ∀ t, (g t).trap = t.trap) :
    exchangeKeeps s (s.modTask k i g) := by
  refine ⟨rfl, rfl, fun _ _ _ => rfl, fun j => ?_, fun j e h t ht => ?_⟩
  · unfold State.modTask
    by_cases hj : j = k
    · rw [hj, State.queue_modQueue_same]
    · rw [State.queue_modQueue_other _ _ hj]
  · rw [State.task?_modTask s j e k i hs] at ht
    split at ht
    · obtain ⟨x, hx, rfl⟩ := Option.map_eq_some_iff.1 ht
      exact (hg x).trans (h x hx)
    · exact h t ht

theorem checkLanded (s : State) (k i : Nat) : exchangeKeeps s (s.checkLanded k i) := by
  unfold State.checkLanded
  split
  · exact modTask s k i (fun _ => rfl) fun _ => rfl
  · exact refl s

end exchangeKeeps

/-! ### The cells of an inbound link -/

/-- Byte y lies outside the cells that core n's exchange h takes in over link l from the partner's exchange p. -/
def State.apartFrom (s : State) (n : Nat) (h p : Halo) (l y : Nat) : Prop :=
  let e := s.home (h.owner.1 / 16) (df h.desc 4 23 0)
  let a := s.yardAddr n (df h.desc 6 24 0)
  ∀ q ∈ haloCells h.desc e (s.home (p.owner.1 / 16) (df p.desc 4 23 0)) p.desc l, ∀ c, c < e.d3 →
    let o := a + convOff e (cPlanar h.desc) (cB8 h.desc) c q.1.1 q.1.2.1 q.1.2.2
    let b := a + convScaleOff e c q.1.1 q.1.2.1 q.1.2.2
    (y < o ∨ o + (if cB8 h.desc then 1 else 2) ≤ y) ∧ y ≠ b

/-- The copy of an inbound link stores its cells alone (R216). -/
theorem State.haloCopy_stores (s : State) (n m l : Nat) (h p : Halo) :
    storesBut (s.apartFrom n h p l) s (s.haloCopy n m l h p) := by
  unfold State.haloCopy
  refine List.foldlRecOn (motive := storesBut (s.apartFrom n h p l) s) _ _ (.refl _ s) fun u hu q hq => ?_
  refine List.foldlRecOn (motive := storesBut (s.apartFrom n h p l) s) _ _ hu fun v hv c hc => ?_
  have apart (y : Nat) (hy : s.apartFrom n h p l y) := hy q hq c (List.mem_range.1 hc)
  have element := hv.putBytes (bs := s.bytesAt (s.yardAddr m (df p.desc 6 24 0) + convOff
    (s.home (p.owner.1 / 16) (df p.desc 4 23 0)) (cPlanar h.desc) (cB8 h.desc) c q.2.1 q.2.2.1 q.2.2.2)
    (if cB8 h.desc then 1 else 2)) fun y hy => by rw [State.length_bytesAt]; exact (apart y hy).1
  dsimp only
  split
  · refine element.putBytes fun y hy => ?_
    rw [State.length_bytesAt]
    exact Nat.lt_or_gt_of_ne (apart y hy).2
  · exact element

/-! ### One inbound link -/

theorem meshPartner_ne {n l m : Nat} (h : meshPartner n l = some m) : m ≠ n := by
  unfold meshPartner at h
  split at h <;> (split at h <;> simp at h; omega)

/-- A core's links join it with different cores (R19). -/
theorem meshPartner_inj {n a b m : Nat} (ha : a < 4) (hb : b < 4) (ma : meshPartner n a = some m)
    (mb : meshPartner n b = some m) : a = b := by
  interval_cases a <;> interval_cases b <;>
    simp only [meshPartner, Option.ite_none_right_eq_some, Option.some.injEq] at ma mb <;> omega

section
variable {s : State} {n l m : Nat} {h p : Halo}

/-- The state in which the link's data have been copied, counted at the sender and marked at both ends. -/
def State.linkLanded (s : State) (n l m : Nat) (h p : Halo) : State :=
  ((((s.haloCopy n m l h p).countWrap .coreMtxbytes m (cdiv (s.haloBytes l h p) 256)).modCore n fun c =>
    { c with halo := some { h with landed := l :: h.landed } }).modCore m fun c =>
    { c with halo := if decide (p.phase = 3) && (haloLinks p.desc).all (meshBack l :: p.acked).contains then none
                     else some { p with acked := meshBack l :: p.acked } })

theorem State.core_checkLanded (s : State) (k i c : Nat) : (s.checkLanded k i).core c = s.core c := by
  rw [State.checkLanded_frame]
  rfl

theorem State.byte_checkLanded (s : State) (k i y : Nat) : (s.checkLanded k i).byte y = s.byte y := by
  rw [State.checkLanded_frame]
  rfl

theorem State.byte_modCore (s : State) (c y : Nat) (f : Core → Core) : (s.modCore c f).byte y = s.byte y := rfl
theorem State.byte_countWrap (s : State) (r : Reg) (i v y : Nat) : (s.countWrap r i v).byte y = s.byte y := rfl
theorem State.core_countWrap (s : State) (r : Reg) (i v c : Nat) : (s.countWrap r i v).core c = s.core c := rfl

theorem State.haloLand_eq (hh : (s.core n).halo = some h) (hm : meshPartner n l = some m) (hp : (s.core m).halo = some p) :
    s.haloLand n l = (s.linkLanded n l m h p).checkLanded p.owner.1 p.owner.2 := by
  unfold State.haloLand State.linkLanded
  simp only [hh, hm, hp]

theorem State.core_haloLand (hh : (s.core n).halo = some h) (hm : meshPartner n l = some m) (hp : (s.core m).halo = some p)
    (c : Nat) : (s.haloLand n l).core c = (s.linkLanded n l m h p).core c := by
  rw [State.haloLand_eq hh hm hp, State.core_checkLanded]

theorem State.core_haloCopy (s : State) (n m l : Nat) (h p : Halo) (c : Nat) : (s.haloCopy n m l h p).core c = s.core c := by
  rw [(s.haloCopy_stores n m l h p).1]
  rfl

/-- The link's data have landed at its core. -/
theorem State.haloLand_lands (hh : (s.core n).halo = some h) (hm : meshPartner n l = some m) (hp : (s.core m).halo = some p) :
    ((s.haloLand n l).core n).halo = some { h with landed := l :: h.landed } := by
  rw [State.core_haloLand hh hm hp]
  unfold State.linkLanded
  rw [State.core_modCore_other _ _ (meshPartner_ne hm).symm, State.core_modCore_same]

/-- Cores that the link does not join are not touched. -/
theorem State.haloLand_others (hh : (s.core n).halo = some h) (hm : meshPartner n l = some m) (hp : (s.core m).halo = some p)
    {c : Nat} (hn : c ≠ n) (hc : c ≠ m) : (s.haloLand n l).core c = s.core c := by
  rw [State.core_haloLand hh hm hp]
  unfold State.linkLanded
  rw [State.core_modCore_other _ _ hc, State.core_modCore_other _ _ hn, State.core_countWrap, State.core_haloCopy]

theorem State.haloLand_keeps (hh : (s.core n).halo = some h) (hm : meshPartner n l = some m) (hp : (s.core m).halo = some p) :
    exchangeKeeps s (s.haloLand n l) := by
  rw [State.haloLand_eq hh hm hp]
  refine exchangeKeeps.trans ?_ (exchangeKeeps.checkLanded ..)
  refine exchangeKeeps.trans ?_ (exchangeKeeps.modCore ..)
  refine exchangeKeeps.trans ?_ (exchangeKeeps.modCore ..)
  refine exchangeKeeps.trans ?_ (exchangeKeeps.countWrap _ (.inl rfl) _)
  exact exchangeKeeps.of_stores (s.haloCopy_stores n m l h p)

theorem State.byte_haloLand (hh : (s.core n).halo = some h) (hm : meshPartner n l = some m) (hp : (s.core m).halo = some p)
    {y : Nat} (apart : s.apartFrom n h p l y) : (s.haloLand n l).byte y = s.byte y := by
  rw [State.haloLand_eq hh hm hp, State.byte_checkLanded]
  unfold State.linkLanded
  rw [State.byte_modCore, State.byte_modCore, State.byte_countWrap]
  exact (s.haloCopy_stores n m l h p).2 y apart

end

/-! ### The links of a phase -/

/-- The inbound links of a list land, one after the other. -/
def State.landLinks (s : State) (n : Nat) (ls : List Nat) : State := ls.foldl (fun a l => a.haloLand n l) s

/-- The partner over link l of core n has an exchange. -/
def State.partnered (s : State) (n l : Nat) : Prop := ∃ m p, meshPartner n l = some m ∧ (s.core m).halo = some p

/-- Byte y lies outside the cells of every link of a list. -/
def State.apartFromLinks (s : State) (n : Nat) (h : Halo) (ls : List Nat) (y : Nat) : Prop :=
  ∀ l ∈ ls, ∀ m p, meshPartner n l = some m → (s.core m).halo = some p → s.apartFrom n h p l y

theorem State.apartFrom_congr {s u : State} (homes : u.homes = s.homes) (map : u.coreMap = s.coreMap) {n l y : Nat} {h g p : Halo}
    (owner : g.owner = h.owner) (desc : g.desc = h.desc) (apart : s.apartFrom n h p l y) : u.apartFrom n g p l y := by
  have home (t k : Nat) : u.home t k = s.home t k := congrArg (mget HEntry.free · (hkey t k)) homes
  have yard (o : Nat) : u.yardAddr n o = s.yardAddr n o := by
    unfold State.yardAddr State.phys
    rw [map]
  unfold State.apartFrom at *
  simp only [home, yard, owner, desc]
  exact apart

theorem State.landLinks_land {n : Nat} (ls : List Nat) : ∀ {s : State} {h : Halo}, (s.core n).halo = some h → ls.Nodup →
    (∀ l ∈ ls, l < 4 ∧ s.partnered n l) → ∃ landed, ((s.landLinks n ls).core n).halo = some { h with landed := landed } ∧
      (∀ l ∈ ls ++ h.landed, l ∈ landed) ∧ exchangeKeeps s (s.landLinks n ls) ∧
      ∀ y, s.apartFromLinks n h ls y → (s.landLinks n ls).byte y = s.byte y := by
  induction ls with
  | nil => exact fun hh _ _ => ⟨_, hh, fun _ hl => hl, .refl _, fun _ _ => rfl⟩
  | cons l ls ih =>
    intro s h hh nodup links
    obtain ⟨fresh, nodup'⟩ := List.nodup_cons.1 nodup
    obtain ⟨small, m, p, hm, hp⟩ := links l List.mem_cons_self
    have keeps := State.haloLand_keeps hh hm hp
    have partner {a c : Nat} (ha : a ∈ ls) (hc : meshPartner n a = some c) : (s.haloLand n l).core c = s.core c := by
      refine State.haloLand_others hh hm hp (meshPartner_ne hc) ?_
      rintro rfl
      exact fresh (meshPartner_inj small (links a (List.mem_cons_of_mem _ ha)).1 hm hc ▸ ha)
    obtain ⟨landed, halo, covers, keeps', same⟩ := ih (State.haloLand_lands hh hm hp) nodup' fun a ha => by
      obtain ⟨small', c, q, hc, hq⟩ := links a (List.mem_cons_of_mem _ ha)
      exact ⟨small', c, q, hc, by rw [partner ha hc, hq]⟩
    refine ⟨landed, halo, fun a ha => covers a ?_, keeps.trans keeps', fun y apart => (same y ?_).trans ?_⟩
    · simp only [List.mem_append, List.mem_cons] at ha ⊢
      tauto
    · intro a ha c q hc hq
      rw [partner ha hc] at hq
      exact State.apartFrom_congr keeps.homes keeps.coreMap rfl rfl (apart a (List.mem_cons_of_mem _ ha) c q hc hq)
    · exact State.byte_haloLand hh hm hp (apart l List.mem_cons_self m p hm hp)

end Sys2Proof.Machine
end

section
/-! PROOF. The first sweep of a CONV outside trap mode: the job that it leaves, and what it keeps (R206, R217). -/
namespace Sys2Proof.Machine

/-! ### Sweeps outside trap mode -/

theorem runSweep_quiet (o : Operands) (elem : Nat → Nat → Nat → Nat) (start : List (ArrUse × List (List W32))) :
    (runSweep o false elem start).trap = none :=
  List.foldlRecOn (motive := fun w : Sweep => w.trap = none) _ _ rfl fun w hw i _ => by
    unfold Sweep.step
    simp [hw]

theorem depthSweep_quiet (rdi rdf : Nat → Byte) (d : List W32) (e : HEntry) (m : Nat) (elem : Nat → Nat → Nat → Nat) :
    (depthSweep rdi rdf d e m false elem).trap = none := by
  unfold depthSweep
  refine List.foldlRecOn (motive := fun w : Sweep => w.trap = none) _ _ rfl fun w hw i _ => ?_
  simp [hw]

theorem State.untrapped_cases {s : State} {k i : Nat} (h : s.untrapped k i) :
    s.task? k i = none ∨ ∃ t, s.task? k i = some t ∧ t.trap = false := by
  cases ht : s.task? k i with
  | none => exact .inl rfl
  | some t => exact .inr ⟨t, rfl, h t ht⟩

/-- Banks b of a core's arrays hold the results of a sweep. -/
def Core.sweepBanks (c : Core) (b : Nat) (o : Nat × Nat) (tag : Nat) (banks : List (ArrUse × List (List Cell))) : Core :=
  banks.foldl (fun x p => x.setBank p.1.array b
    { st := .busy, use := .sweep, data := cellsData p.2, owner := o, tag := tag }) c

/-- The job and the exchange of a core are not its banks. -/
theorem Core.sweepBanks_keep (c : Core) (b : Nat) (o : Nat × Nat) (tag : Nat) (banks : List (ArrUse × List (List Cell))) :
    (c.sweepBanks b o tag banks).arr = c.arr ∧ (c.sweepBanks b o tag banks).halo = c.halo :=
  List.foldlRecOn (motive := fun x : Core => x.arr = c.arr ∧ x.halo = c.halo) _ _ ⟨rfl, rfl⟩ fun _ hx _ _ => hx

/-- Banks of the core of queue k hold a sweep's results, its events count for its task, and its cycles for the core. -/
def State.swept (s : State) (k i b tag : Nat) (banks : List (ArrUse × List (List Cell))) (cnt : Nat × Nat × Nat) (v : Nat) :
    State :=
  ((s.setCore (s.queue k).lcore ((s.core (s.queue k).lcore).sweepBanks b (k, i) tag banks)).addCounts
    k i cnt.1 cnt.2.1 cnt.2.2).countWrap .coreArrissue (s.queue k).lcore v

theorem State.sweep_quiet {s : State} {k i : Nat} (quiet : s.untrapped k i) (b : Nat) (uses : List ArrUse) (clear : Bool)
    (tag : Nat) (o : Operands) (elem : Nat → Nat → Nat → Nat) (handle : Nat) :
    ∃ banks cnt v, s.sweep k i b uses clear tag o elem handle = s.swept k i b tag banks cnt v := by
  unfold State.sweep State.swept Core.sweepBanks
  obtain ht | ⟨t, ht, trap⟩ := State.untrapped_cases quiet
  · simp only [ht, runSweep_quiet]
    exact ⟨_, _, _, rfl⟩
  · simp only [ht, trap, runSweep_quiet]
    exact ⟨_, _, _, rfl⟩

theorem State.convSweep_quiet {s : State} {k i : Nat} (quiet : s.untrapped k i) (m : Nat) (d : List W32)
    (first : Nat → Nat → Byte) : ∃ b banks cnt v, s.convSweep k i m d first = s.swept k i b m banks cnt v := by
  unfold State.convSweep
  by_cases depth : cGroup d = 1
  · unfold State.swept Core.sweepBanks
    obtain ht | ⟨t, ht, trap⟩ := State.untrapped_cases quiet
    · simp only [depth, if_true, ht, depthSweep_quiet]
      exact ⟨_, _, _, _, rfl⟩
    · simp only [depth, if_true, ht, trap, depthSweep_quiet]
      exact ⟨_, _, _, _, rfl⟩
  · rw [if_neg depth]
    exact ⟨_, State.sweep_quiet quiet ..⟩

section
variable (s : State) (k i b tag : Nat) (banks : List (ArrUse × List (List Cell))) (cnt : Nat × Nat × Nat) (v : Nat)

theorem State.swept_keeps : exchangeKeeps s (s.swept k i b tag banks cnt v) := by
  refine exchangeKeeps.trans ?_ (exchangeKeeps.countWrap _ (.inr (.inl rfl)) v)
  exact (exchangeKeeps.modCore s _ fun _ => _).trans (exchangeKeeps.modTask _ k i (fun _ => rfl) fun _ => rfl)

theorem State.byte_swept (y : Nat) : (s.swept k i b tag banks cnt v).byte y = s.byte y := by
  unfold State.swept
  rw [State.byte_countWrap, State.byte_addCounts]
  rfl

theorem State.swept_work (n : Nat) : ((s.swept k i b tag banks cnt v).core n).arr = (s.core n).arr ∧
    ((s.swept k i b tag banks cnt v).core n).halo = (s.core n).halo := by
  have core : (s.swept k i b tag banks cnt v).core n =
    (s.setCore (s.queue k).lcore ((s.core (s.queue k).lcore).sweepBanks b (k, i) tag banks)).core n := rfl
  rw [core]
  by_cases hn : n = (s.queue k).lcore
  · rw [hn, State.core_setCore_same]
    exact Core.sweepBanks_keep ..
  · rw [State.core_setCore_other _ _ hn]
    exact ⟨rfl, rfl⟩

end

/-! ### The start of a CONV -/

/-- Swapping edge files in touches neither the job nor the exchange of a core. -/
theorem Core.swapIns_keep (c : Core) (fs : List Nat) (swaps : Nat → Bool) (tile : Nat → SMap Byte)
    (next : Nat → Option (SMap Byte)) : let x := fs.foldl (fun x f => if swaps f then x.swapIn f (tile f) (next f) else x) c
    x.arr = c.arr ∧ x.halo = c.halo :=
  List.foldlRecOn (motive := fun x : Core => x.arr = c.arr ∧ x.halo = c.halo) _ _ ⟨rfl, rfl⟩ fun x hx f _ => by
    split <;> exact hx

/-- Sweep m of job j has begun on core n: the arrays hold the job, and the core's exchange stays. -/
structure convBegun (n m : Nat) (j : ArrJob) (s u : State) : Prop where
  keeps : exchangeKeeps s u
  byte : ∀ y, u.byte y = s.byte y
  job : ∃ left0 left1 more, (u.core n).arr = some { j with left0 := left0, left1 := left1, chunk := m, more := more }
  halo : (u.core n).halo = (s.core n).halo

theorem convBegun.modCore {n m : Nat} {j : ArrJob} (s : State) {f : Core → Core} (halo : ∀ c, (f c).halo = c.halo)
    (job : ∀ c, ∃ left0 left1 more, (f c).arr = some { j with left0 := left0, left1 := left1, chunk := m, more := more }) :
    convBegun n m j s (s.modCore n f) :=
  ⟨.modCore .., fun _ => rfl, by rw [State.core_modCore_same]; exact job _, by rw [State.core_modCore_same, halo]⟩

theorem convBegun.convSweep {n m k i : Nat} {j : ArrJob} {s u : State} (h : convBegun n m j s u) (quiet : s.untrapped k i)
    (d : List W32) (first : Nat → Nat → Byte) : convBegun n m j s (u.convSweep k i m d first) := by
  obtain ⟨keeps, byte, ⟨left0, left1, more, job⟩, halo⟩ := h
  obtain ⟨b, banks, cnt, v, swept⟩ := State.convSweep_quiet (keeps.untrapped k i quiet) m d first
  obtain ⟨arr, halo'⟩ := u.swept_work k i b m banks cnt v n
  rw [swept]
  exact ⟨keeps.trans (State.swept_keeps ..), fun y => (State.byte_swept ..).trans (byte y),
    ⟨left0, left1, more, arr.trans job⟩, halo'.trans halo⟩

theorem State.convBegin_begins {s : State} {n : Nat} {j : ArrJob} (quiet : s.untrapped j.owner.1 j.owner.2) (m index : Nat)
    (first : Option Nat) : convBegun n m j s (s.convBegin n j m index first) := by
  unfold State.convBegin
  refine convBegun.convSweep (.modCore s (fun c => ?_) fun c => ?_) quiet _ _
  · exact (Core.swapIns_keep _ _ _ _ _).2
  · exact ⟨_, _, _, (Core.swapIns_keep _ _ _ _ _).1⟩

/-- The first sweep of a CONV begins on its queue's core (R206, R217). -/
theorem State.convStart_begins {s : State} {k i : Nat} (quiet : s.untrapped k i) (d : List W32) :
    ∃ more, convBegun (s.queue k).lcore 0 { ArrJob.start (k, i) d with more := more } s (s.convStart k i d) :=
  ⟨_, State.convBegin_begins quiet 0 _ none⟩

end Sys2Proof.Machine
end

section
/-! PROOF. The commands of a halo exchange (R217 to R219): its start, its tokens, its inbound data and its end. -/
namespace Sys2Proof.Machine

/-! ### The start and the tokens -/

section
variable {s : State} {n : Nat} {h p : Halo} (hh : (s.core n).halo = some h)
include hh

theorem State.haloStart_starts (idle : h.started = false)
    (oldest : ((s.queue h.owner.1).tasks.head?).map (·.serial) = some h.owner.2) :
    s.haloStart n = s.modCore n fun c =>
      { c with halo := some { h with started := true, phase := if (phaseLinks h.desc 1).isEmpty then 2 else 1 } } := by
  unfold State.haloStart
  cases ht : (s.queue h.owner.1).tasks with
  | nil => simp [ht] at oldest
  | cons t l =>
    have first : t.serial = h.owner.2 := by simpa [ht] using oldest
    simp [hh, ht, first, idle]

theorem State.haloStart_not
    (no : h.started = true ∨ ((s.queue h.owner.1).tasks.head?).map (·.serial) ≠ some h.owner.2) : s.haloStart n = s := by
  unfold State.haloStart
  obtain started | other := no
  · simp [hh, started]
  · cases ht : (s.queue h.owner.1).tasks with
    | nil => simp [hh, ht]
    | cons t l =>
      have late : t.serial ≠ h.owner.2 := by simpa [ht] using other
      simp [hh, ht, late]

/-- A partner whose exchange names the link in both halves sends a token over it. -/
structure State.sends (s : State) (n l m : Nat) (h p : Halo) : Prop where
  partner : meshPartner n l = some m
  halo : (s.core m).halo = some p
  started : p.started = true
  theirs : (haloLinks p.desc).contains (meshBack l) = true
  ours : (haloLinks h.desc).contains l = true
  cls : (s.queue p.owner.1).cls = (s.queue h.owner.1).cls

variable {l m : Nat} (sent : s.sends n l m h p)
include sent

/-- A first token is checked; a second one counts from a partner in phase 2 (R217, R218). -/
theorem State.haloToken_eq : s.haloToken n l =
    if !h.ready.contains l then
      if s.tokenOk h p l then
        s.modCore n fun c =>
          { c with halo := some { h with ready := l :: h.ready, tokens := if l < 2 then l :: h.tokens else h.tokens } }
      else (s.abortTask h.owner.1 h.owner.2 0x10).abortTask p.owner.1 p.owner.2 0x10
    else if 2 ≤ l ∧ 2 ≤ p.phase ∧ !h.tokens.contains l then
      s.modCore n fun c => { c with halo := some { h with tokens := l :: h.tokens } }
    else s := by
  obtain ⟨partner, halo, started, theirs, ours, cls⟩ := sent
  unfold State.haloToken
  simp only [hh, partner, halo, started, theirs, ours, cls, decide_true, Bool.and_true, Bool.not_true, Bool.false_eq_true,
    if_false]

end

/-- Two aborts, one after the other, leave neither task in flight. -/
theorem State.abortTasks_end (s : State) (k i k' i' code : Nat) :
    let u := (s.abortTask k i code).abortTask k' i' code
    u.task? k i = none ∧ u.task? k' i' = none := by
  obtain ⟨kept, ended⟩ := (s.abortTask k i code).abortTask_ends k' i' code
  exact ⟨kept.2 k i (s.abortTask_ends k i code).2, ended⟩

/-! ### The inbound data -/

theorem mem_phaseLinks_lt {d : List W32} {phase l : Nat} (hl : l ∈ phaseLinks d phase) : l < 4 := by
  have named : l ∈ haloLinks d := List.mem_of_mem_filter hl
  exact List.mem_range.1 (List.mem_of_mem_filter named)

theorem phaseLinks_nodup (d : List W32) (phase : Nat) : (phaseLinks d phase).Nodup :=
  (List.nodup_range.filter _).filter _

/-- The exchange holds the phase's tokens on both sides of every link. -/
def State.tokensHeld (s : State) (n : Nat) (h : Halo) : Prop :=
  ∀ l ∈ phaseLinks h.desc h.phase, ∃ m p, meshPartner n l = some m ∧ (s.core m).halo = some p ∧
    h.tokens.contains l = true ∧ p.tokens.contains (meshBack l) = true

section
variable {s : State} {n : Nat} {h : Halo} (hh : (s.core n).halo = some h)
include hh

theorem State.haloInbound_not (no : h.started = false ∨ h.gone = true ∨ 3 ≤ h.phase) : s.haloInbound n = s := by
  unfold State.haloInbound
  obtain idle | gone | ended := no
  · simp [hh, idle]
  · simp [hh, gone]
  · simp [hh, Nat.not_lt.2 ended]

section
variable {g : Halo} (started : h.started = true) (there : h.gone = false) (phase : h.phase < 3) (held : s.tokensHeld n h)
  (landed : ((s.landLinks n (phaseLinks h.desc h.phase)).core n).halo = some g)
include started there phase held landed

/-- With its tokens held the phase's links land, and phase 2 or the first sweep follows. -/
theorem State.haloInbound_eq : s.haloInbound n = let x := s.landLinks n (phaseLinks h.desc h.phase)
    if g.phase = 1 ∧ !(phaseLinks g.desc 2).isEmpty then
      x.modCore n fun c => { c with halo := some { g with phase := 2 } }
    else (x.modCore n fun c =>
      { c with halo := if (haloLinks g.desc).all g.acked.contains then none else some { g with phase := 3 } }).haloDone n g := by
  unfold State.landLinks at *
  unfold State.haloInbound
  simp only [hh]
  rw [if_neg]
  · simp only [landed]
  · simp only [started, there, phase, decide_true, Bool.not_false, Bool.true_and, Bool.not_eq_true', Bool.not_eq_false,
      List.all_eq_true]
    intro l hl
    obtain ⟨m, p, hm, hp, own, theirs⟩ := held l hl
    simp only [hm, hp, own, theirs, Bool.and_self]

end
end

/-- The first sweep of an exchanged CONV begins, its wait counted (R219). -/
theorem State.haloDone_begins {s : State} {n : Nat} {h : Halo} (own : (s.queue h.owner.1).lcore = n)
    (quiet : s.untrapped h.owner.1 h.owner.2) :
    ∃ more, convBegun n 0 { ArrJob.start h.owner h.desc with more := more } s (s.haloDone n h) := by
  let x := (s.countWrap .coreMhalowait n ((s.clock.since - h.issued) * 7 / 5)).countWrap .queSlip h.owner.1
    ((s.clock.since - h.issued) / 10)
  have counted : exchangeKeeps s x := (exchangeKeeps.countWrap s (.inr (.inr (.inl rfl))) _).trans
    (exchangeKeeps.countWrap _ (.inr (.inr (.inr rfl))) _)
  obtain ⟨more, keeps, byte, job, halo⟩ := State.convStart_begins (counted.untrapped _ _ quiet) h.desc
  rw [counted.lcore, own] at job halo
  exact ⟨more, counted.trans keeps, byte, job, halo⟩

/-! ### The two ends of a phase -/

section
variable {s : State} {n : Nat} {h : Halo} (hh : (s.core n).halo = some h) (held : s.tokensHeld n h)
include hh held

/-- The phase's links have landed: what that keeps, and how the exchange stands. -/
theorem State.phaseLinks_land : let x := s.landLinks n (phaseLinks h.desc h.phase)
    ∃ landed, (x.core n).halo = some { h with landed := landed } ∧ (∀ l ∈ phaseLinks h.desc h.phase, l ∈ landed) ∧
      exchangeKeeps s x ∧ ∀ y, s.apartFromLinks n h (phaseLinks h.desc h.phase) y → x.byte y = s.byte y := by
  obtain ⟨landed, halo, covers, keeps, same⟩ := State.landLinks_land _ hh (phaseLinks_nodup h.desc h.phase) fun l hl => by
    obtain ⟨m, p, hm, hp, -⟩ := held l hl
    exact ⟨mem_phaseLinks_lt hl, m, p, hm, hp⟩
  exact ⟨landed, halo, fun l hl => covers l (List.mem_append_left _ hl), keeps, same⟩

variable (started : h.started = true) (there : h.gone = false)
include started there

/-- Phase 1 of an exchange with links in phase 2 ends in phase 2 (R217). -/
theorem State.haloInbound_next (first : h.phase = 1) (more : (phaseLinks h.desc 2).isEmpty = false) : let u := s.haloInbound n
    exchangeKeeps s u ∧ (∀ y, s.apartFromLinks n h (phaseLinks h.desc h.phase) y → u.byte y = s.byte y) ∧
      ∃ g, (u.core n).halo = some g ∧ g.phase = 2 ∧ g.owner = h.owner ∧ ∀ l ∈ phaseLinks h.desc 1, g.landed.contains l = true := by
  obtain ⟨landed, halo, covers, keeps, same⟩ := State.phaseLinks_land hh held
  rw [State.haloInbound_eq hh started there (by omega) held halo, if_pos ⟨first, by rw [more]; rfl⟩]
  refine ⟨keeps.trans (.modCore ..), same, { h with landed := landed, phase := 2 }, by rw [State.core_modCore_same], rfl, rfl,
    fun l hl => ?_⟩
  exact List.contains_iff_mem.2 (covers l (first ▸ hl))

/-- The last phase of an exchange ends in the task's first sweep (R217). -/
theorem State.haloInbound_sweeps (phase : h.phase = 1 ∨ h.phase = 2) (last : h.phase = 2 ∨ (phaseLinks h.desc 2).isEmpty = true)
    (own : (s.queue h.owner.1).lcore = n) (quiet : s.untrapped h.owner.1 h.owner.2) : let u := s.haloInbound n
    exchangeKeeps s u ∧ (∀ y, s.apartFromLinks n h (phaseLinks h.desc h.phase) y → u.byte y = s.byte y) ∧
      ((u.core n).arr).map (fun j => (j.owner, j.desc, j.chunk)) = some (h.owner, h.desc, 0) ∧
      ∀ g, (u.core n).halo = some g → g.phase = 3 := by
  obtain ⟨landed, halo, -, keeps, same⟩ := State.phaseLinks_land hh held
  rw [State.haloInbound_eq hh started there (by omega) held halo, if_neg]
  · have marked (x : State) (c : Option Halo) : exchangeKeeps x (x.modCore n fun y => { y with halo := c }) := .modCore ..
    have before := keeps.trans (marked _ (if (haloLinks h.desc).all h.acked.contains then none
      else some { h with landed := landed, phase := 3 }))
    obtain ⟨more, begun, byte, ⟨left0, left1, left, job⟩, exchange⟩ := State.haloDone_begins (h := { h with landed := landed })
      ((before.lcore h.owner.1).trans own) (before.untrapped _ _ quiet)
    refine ⟨before.trans begun, fun y hy => (byte y).trans (same y hy), by rw [job]; rfl, fun g hg => ?_⟩
    rw [exchange, State.core_modCore_same] at hg
    dsimp only at hg
    split at hg
    · cases hg
    · cases hg
      rfl
  · rintro ⟨first : h.phase = 1, more⟩
    obtain second | none := last
    · omega
    · simp [none] at more

end

/-! ### A partner that is gone -/

theorem State.haloAbort_gone {s : State} {n : Nat} {h : Halo} (hh : (s.core n).halo = some h) (gone : h.gone = true)
    (phase : h.phase < 3) : s.haloAbort n = s.abortTask h.owner.1 h.owner.2 0x60 := by
  unfold State.haloAbort
  simp only [hh, gone, phase, decide_true, Bool.and_self, if_true]

theorem State.haloAbort_not {s : State} {n : Nat} {h : Halo} (hh : (s.core n).halo = some h) (no : h.gone = false ∨ 3 ≤ h.phase) :
    s.haloAbort n = s := by
  unfold State.haloAbort
  obtain there | ended := no
  · simp [hh, there]
  · simp [hh, Nat.not_lt.2 ended]

theorem State.halo_none {s : State} {n : Nat} (none : (s.core n).halo = none) :
    s.haloStart n = s ∧ s.haloInbound n = s ∧ s.haloAbort n = s := by
  unfold State.haloStart State.haloInbound State.haloAbort
  simp only [none, and_self]

/-- Settles O47: the start, the tokens, the inbound data and the end of an exchange by their equations, the links by what a
failure leaves. -/
theorem mortarLinksExchangeHalos : Obligations.MortarLinksExchangeHalos := by
  unfold Obligations.MortarLinksExchangeHalos
  intro n s up
  refine ⟨fun h hh => ⟨fun idle oldest => ?_, fun no => ?_, fun l m p hm hp begun theirs ours cls => ?tokens,
    fun started there phase held own quiet => ?inbound, fun no => ?_, fun no => ?_, fun gone phase => ?_⟩, fun none => ?_,
    fun l => ⟨fun hm => ?_, fun hm => ⟨?_, ?_⟩, fun m hm => ?_, fun m c hm place placed idle other none spare => ?failed⟩⟩
  · rw [exec_haloExchangeStart up, State.haloStart_starts hh idle oldest]
  · rw [exec_haloExchangeStart up, State.haloStart_not hh no]
  case tokens =>
    have token := State.haloToken_eq hh (l := l) ⟨hm, hp, begun, theirs, ours, cls⟩
    rw [exec_haloToken up, token]
    refine ⟨fun first ok => ?_, fun first bad => ?_, fun ready side second fresh => ?_, fun ready no => ?_⟩
    · simp only [first, ok, Bool.not_false, if_true]
    · simp only [first, bad, Bool.not_false, if_true, Bool.false_eq_true, if_false]
      exact ⟨_, rfl, rfl, s.abortTasks_end ..⟩
    · simp only [ready, side, second, fresh, Bool.not_true, Bool.not_false, Bool.false_eq_true, if_false, and_self, if_true]
    · rw [ready, Bool.not_true, if_neg Bool.false_ne_true, if_neg]
      rintro ⟨side, second, fresh⟩
      obtain vertical | early | counted := no
      · omega
      · omega
      · rw [counted] at fresh
        cases fresh
  case inbound =>
    refine ⟨_, exec_haloInboundComplete up n, ?_⟩
    by_cases last : h.phase = 2 ∨ (phaseLinks h.desc 2).isEmpty = true
    · obtain ⟨keeps, same, job, ended⟩ := State.haloInbound_sweeps hh held started there phase last own quiet
      refine ⟨keeps.homes, fun first more => absurd last ?_, fun _ => ⟨job, ended⟩, keeps.regs, same⟩
      simp [first, more]
    · obtain ⟨later, more⟩ := not_or.1 last
      obtain ⟨keeps, same, next⟩ := State.haloInbound_next hh held started there (phase.resolve_right later)
        (Bool.eq_false_iff.2 more)
      exact ⟨keeps.homes, fun _ _ => next, fun h => absurd h last, keeps.regs, same⟩
  · rw [exec_haloInboundComplete up, State.haloInbound_not hh no]
  · rw [exec_haloPartnerAbort up, State.haloAbort_not hh no]
  · refine ⟨_, exec_haloPartnerAbort up n, State.haloAbort_gone hh gone phase, ?_⟩
    rw [State.haloAbort_gone hh gone phase]
    exact (s.abortTask_ends ..).2
  · rw [exec_haloExchangeStart up, exec_haloInboundComplete up, exec_haloPartnerAbort up]
    obtain ⟨start, inbound, abort⟩ := State.halo_none none
    rw [start, inbound, abort]
    exact ⟨rfl, rfl, rfl⟩
  · rw [exec_mortarFlitError up, if_pos hm]
    rfl
  · rw [exec_mortarFlitError up, hm]
    rfl
  · rw [exec_mortarLinkFailed up, State.linkFault_none hm]
  · exact ⟨_, exec_mortarLinkFailed up n l, State.linkFault_holds hm⟩
  case failed =>
    refine ⟨_, exec_mortarLinkFailed up n l, State.linkFault_holds hm, ?_⟩
    rw [State.linkFault_idle hm place placed idle other none spare]
    obtain ⟨core, subst, mem, homes, regs⟩ := ((s.holdLink n l).stopCore n c).recordCore_keeps n c 0
    refine ⟨by rw [core, State.stopCore_stopped], subst.trans (congrArg (· ++ _) none), mem, homes, fun r i _ => ?_⟩
    exact State.reg_congr regs r i

end Sys2Proof.Machine
end

section
/-! PROOF. What a lost port, a replace reason and the lanes of a training leave alone: phase, tiers, homes and every register
outside a named set. -/
namespace Sys2Proof.Machine

/-! ### What the parts of a training keep -/

/-- The phase of a start, the tiers, the homes, and every register outside `P`. -/
def State.keptBut (P : Reg → Bool) (s : State) : Phase × Bool × Mem × SMap HEntry × (Reg → Nat → W32) :=
  (s.power.phase, s.power.training, s.mem, s.homes, fun r i => if P r then 0 else s.reg r i)

theorem State.keptBut_iff {P : Reg → Bool} {s u : State} : u.keptBut P = s.keptBut P ↔
    u.power.phase = s.power.phase ∧ u.power.training = s.power.training ∧ u.mem = s.mem ∧ u.homes = s.homes ∧
      ∀ r i, P r = false → u.reg r i = s.reg r i := by
  unfold State.keptBut
  simp only [Prod.mk.injEq, funext_iff]
  refine and_congr_right fun _ => and_congr_right fun _ => and_congr_right fun _ => and_congr_right fun _ =>
    forall₂_congr fun r i => ?_
  cases P r <;> simp

theorem State.mem_of_kept {P : Reg → Bool} {s u : State} (h : u.keptBut P = s.keptBut P) : u.mem = s.mem :=
  (State.keptBut_iff.1 h).2.2.1

theorem State.reg_of_kept {P : Reg → Bool} {s u : State} (h : u.keptBut P = s.keptBut P) {r : Reg} (hr : P r = false) (i : Nat) :
    u.reg r i = s.reg r i := (State.keptBut_iff.1 h).2.2.2.2 r i hr

theorem State.rfld_of_kept {P : Reg → Bool} {s u : State} (h : u.keptBut P = s.keptBut P) {r : Reg} (hr : P r = false)
    (i hi lo : Nat) : u.rfld r i hi lo = s.rfld r i hi lo := congrArg (fun w => fld w hi lo) (State.reg_of_kept h hr i)

/-- What a wider set of registers leaves out of account, a narrower one does too. -/
theorem State.keptBut_mono {P Q : Reg → Bool} {s u : State} (h : u.keptBut P = s.keptBut P)
    (sub : ∀ r, Q r = false → P r = false) :
    u.keptBut Q = s.keptBut Q := by
  obtain ⟨phase, training, mem, homes, regs⟩ := State.keptBut_iff.1 h
  exact State.keptBut_iff.2 ⟨phase, training, mem, homes, fun r i hr => regs r i (sub r hr)⟩

theorem State.keptBut_foldl {α : Type} {P : Reg → Bool} {f : State → α → State}
    (hf : ∀ s a, (f s a).keptBut P = s.keptBut P)
    (l : List α) (s : State) : (l.foldl f s).keptBut P = s.keptBut P :=
  List.foldlRecOn (motive := fun u => u.keptBut P = s.keptBut P) l f rfl fun x hx a _ => (hf x a).trans hx

theorem State.keptBut_ite {P : Reg → Bool} {s u v : State} {c : Prop} [Decidable c] (hu : u.keptBut P = s.keptBut P)
    (hv : v.keptBut P = s.keptBut P) : (if c then u else v).keptBut P = s.keptBut P := by
  split
  · exact hu
  · exact hv

/-- The same change of the tiers on both sides. -/
theorem State.keptBut_modMem {P : Reg → Bool} {s u : State} (h : u.keptBut P = s.keptBut P) (g : Mem → Mem) :
    ({ u with mem := g u.mem } : State).keptBut P = ({ s with mem := g s.mem } : State).keptBut P := by
  obtain ⟨phase, training, mem, homes, regs⟩ := State.keptBut_iff.1 h
  exact State.keptBut_iff.2 ⟨phase, training, congrArg g mem, homes, regs⟩

section
variable {P : Reg → Bool} (s : State)

theorem State.keptBut_setReg {r : Reg} (hr : P r = true) (i : Nat) (v : W32) : (s.setReg r i v).keptBut P = s.keptBut P :=
  State.keptBut_iff.2 ⟨rfl, rfl, rfl, rfl, fun _ j hq => State.reg_setReg_other s v fun e => by simp [e.1 ▸ hq] at hr⟩

theorem State.keptBut_setRfld {r : Reg} (hr : P r = true) (i hi lo v : Nat) :
    (s.setRfld r i hi lo v).keptBut P = s.keptBut P := s.keptBut_setReg hr i _

theorem State.keptBut_countSat {r : Reg} (hr : P r = true) (i n : Nat) : (s.countSat r i n).keptBut P = s.keptBut P :=
  s.keptBut_setReg hr i _

theorem State.keptBut_countWrap {r : Reg} (hr : P r = true) (i n : Nat) : (s.countWrap r i n).keptBut P = s.keptBut P :=
  s.keptBut_setReg hr i _

@[simp] theorem State.keptBut_raise (f n : Nat) : (s.raise f n).keptBut P = s.keptBut P := by rw [State.raise_frame]; rfl

@[simp] theorem State.keptBut_noticeUp (c : Nat) (b : List Nat) : (s.noticeUp c b).keptBut P = s.keptBut P := by
  rw [State.noticeUp_frame]; rfl

@[simp] theorem State.keptBut_tunil (x : Tunil) : ({ s with tunil := x } : State).keptBut P = s.keptBut P := rfl
@[simp] theorem State.keptBut_modRoute (k : Nat) (f : Route → Route) : (s.modRoute k f).keptBut P = s.keptBut P := rfl
@[simp] theorem State.keptBut_pushFrame (p : Nat) (f : TxFrame) : (s.pushFrame p f).keptBut P = s.keptBut P := rfl

/-- A log record writes the flash, or counts a record lost. -/
theorem State.keptBut_log (hr : P .monLoglost = true) (k : Nat) (w : List Nat) : (s.log k w).keptBut P = s.keptBut P := by
  unfold State.log
  exact State.keptBut_ite rfl (State.keptBut_ite rfl (s.keptBut_countWrap hr 0 1))

theorem State.keptBut_record {r0 r1 : Reg} (h0 : P r0 = true) (h1 : P r1 = true) (i : Nat) (v0 v1 : W32) :
    (s.record i r0 v0 [(r1, v1)]).keptBut P = s.keptBut P := by
  rw [State.record_regs]
  split
  · exact s.keptBut_setReg h0 i _
  · exact ((s.setReg r0 i _).keptBut_setReg h1 i v1).trans (s.keptBut_setReg h0 i _)

end

/-! ### Ports that go -/

/-- The registers that a frame's sending may count or record in. -/
def frameReg : Reg → Bool
  | .hubCifault0 | .hubCifault1 | .hubCicnt | .monLoglost | .tunFinjcnt | .tunRetx => true
  | _ => false

theorem State.keptBut_ciFault (s : State) (key : Nat) (copy sweeper : Bool) :
    (s.ciFault key copy sweeper).keptBut frameReg = s.keptBut frameReg := by
  unfold State.ciFault
  dsimp only
  rw [State.keptBut_raise, State.keptBut_log _ rfl, State.keptBut_countSat _ rfl, State.keptBut_record _ rfl rfl]
  rfl

theorem State.keptBut_useRegs (s : State) (l : List (Reg × Nat)) : (s.useRegs l).keptBut frameReg = s.keptBut frameReg := by
  refine State.keptBut_foldl (fun x p => ?_) l s
  unfold State.useReg
  split
  · exact x.keptBut_ciFault ..
  · rfl

theorem State.keptBut_routeFrame (s : State) (key p : Nat) (f : TxFrame) :
    (s.routeFrame key p f).keptBut frameReg = s.keptBut frameReg := by
  have used := s.keptBut_useRegs [(.tunFinj, 0), (.tunFinjseed, 0)]
  unfold State.routeFrame
  refine State.keptBut_ite (s.keptBut_pushFrame p f) (Eq.trans ?_ used)
  generalize s.useRegs [(.tunFinj, 0), (.tunFinjseed, 0)] = s1
  have counted : (s1.countWrap .tunFinjcnt 0 1).keptBut frameReg = s1.keptBut frameReg := s1.keptBut_countWrap rfl 0 1
  dsimp only
  generalize injHit (fld (s.reg .tunFinj 0) 27 23)
    (injDraw (s.reg .tunFinjseed 0) s.tunil.injNo (0x800000 + keyNum key)).1 = hit
  cases hit with
  | false =>
    simp only [Bool.not_false, if_true, Bool.false_eq_true, if_false]
    split <;> rfl
  | true =>
    simp only [Bool.not_true, if_true, Bool.false_eq_true, if_false]
    split
    all_goals (split <;> exact counted)

theorem State.keptBut_resend (s : State) (key : Nat) (x : TxSeg) : (s.resend key x).keptBut frameReg = s.keptBut frameReg := by
  have placed (pcp : Nat) (seg : Seg) (avoid : Option Nat) :
      (s.placeSeg key pcp seg avoid).1.keptBut frameReg = s.keptBut frameReg := by
    unfold State.placeSeg
    split
    · rfl
    · exact s.keptBut_routeFrame ..
  unfold State.resend
  dsimp only
  split
  · rw [State.keptBut_modRoute]
  · rw [State.keptBut_modRoute, State.keptBut_countWrap _ rfl, placed]

theorem State.keptBut_sendDue (s : State) : s.sendDue.keptBut frameReg = s.keptBut frameReg := by
  refine State.keptBut_foldl (fun x e => ?_) _ s
  split
  · rfl
  · exact State.keptBut_foldl (fun y z => y.keptBut_resend e.1 z) _ x

/-- A port that is lost sends what was last sent on it again, and no longer counts as verified. -/
theorem State.keptBut_portLoss (s : State) (p : Nat) :
    (s.portLoss p).keptBut frameReg = (s.setRfld .portStatus p 28 28 0).keptBut frameReg :=
  (State.keptBut_sendDue _).trans rfl

end Sys2Proof.Machine
end

section
/-! PROOF. The failed state that a training may end in (R257, R258, R493): memory is untrained, READY is down, the ports are off
and the module asks for its replacement. -/
namespace Sys2Proof.Machine

/-- A change of another register leaves a field alone. -/
theorem State.rfld_setRfld_ne (s : State) {r r' : Reg} (h : r' ≠ r) (i j hi lo v hi' lo' : Nat) :
    (s.setRfld r i hi lo v).rfld r' j hi' lo' = s.rfld r' j hi' lo' :=
  congrArg (fun w => fld w hi' lo') (s.reg_setReg_ne i j _ h)

/-! ### Ports go off -/

/-- A port that is not off goes off and is lost to traffic. -/
def State.portOff (s : State) (p : Nat) : State := if s.portSt p = 0 then s else (s.setPortSt p 0).portLoss p

/-- What a failed start shows and records in, apart from the status of memory and hub. -/
def failedReg (r : Reg) : Bool := frameReg r || decide (r = .portStatus) || decide (r = .monReplace)

theorem State.setPortSt_off (s : State) {p : Nat} (on : s.portSt p ≠ 0) :
    s.setPortSt p 0 = (s.setRfld .portStatus p 31 29 0).raise 0 195 := by
  unfold State.setPortSt
  rw [if_neg on]
  simp

theorem State.keptBut_portOff (s : State) (p : Nat) : (s.portOff p).keptBut failedReg = s.keptBut failedReg := by
  unfold State.portOff
  by_cases on : s.portSt p = 0
  · rw [if_pos on]
  · have lost : ((s.setPortSt p 0).portLoss p).keptBut failedReg =
        ((s.setPortSt p 0).setRfld .portStatus p 28 28 0).keptBut failedReg :=
      State.keptBut_mono (State.keptBut_portLoss _ p) fun r hr => (Bool.or_eq_false_iff.1 (Bool.or_eq_false_iff.1 hr).1).1
    rw [if_neg on, lost, State.keptBut_setRfld _ rfl, s.setPortSt_off on, State.keptBut_raise, State.keptBut_setRfld _ rfl]

theorem State.portSt_portLoss (s : State) (p q : Nat) : (s.portLoss p).portSt q = s.portSt q := by
  have field : (s.portLoss p).portSt q = (s.setRfld .portStatus p 28 28 0).portSt q :=
    State.rfld_of_kept (s.keptBut_portLoss p) rfl q 31 29
  rw [field]
  by_cases hq : q = p
  · subst hq
    exact s.rfld_setRfld_other .portStatus q 28 28 0 31 29 (by omega) (by omega)
  · exact congrArg (fun w => fld w 31 29) (s.reg_setReg_other _ fun e => hq e.2)

theorem State.portSt_portOff (s : State) (p q : Nat) : (s.portOff p).portSt q = if q = p then 0 else s.portSt q := by
  unfold State.portOff
  by_cases on : s.portSt p = 0
  · rw [if_pos on]
    split
    next hq => rw [hq, on]
    · rfl
  have raised (x : State) : (x.raise 0 195).portSt q = x.portSt q :=
    congrArg (fun w => fld w 31 29) (State.reg_congr (x.raise_regs 0 195) .portStatus q)
  rw [if_neg on, State.portSt_portLoss, s.setPortSt_off on, raised]
  split
  next hq =>
    subst hq
    exact s.rfld_setRfld_same .portStatus q 31 29 0 (by omega)
  next hq => exact congrArg (fun w => fld w 31 29) (s.reg_setReg_other _ fun e => hq e.2)

/-- Every port of a list is off once each of them has gone off, and off it stays. -/
theorem State.portSt_foldl_portOff (l : List Nat) : ∀ s : State, ∀ q, q ∈ l ∨ s.portSt q = 0 →
    (l.foldl State.portOff s).portSt q = 0 := by
  induction l with
  | nil => exact fun s q hq => hq.resolve_left List.not_mem_nil
  | cons p l ih =>
    intro s q hq
    refine ih _ q ?_
    rw [State.portSt_portOff]
    by_cases e : q = p
    · exact .inr (if_pos e)
    · rw [if_neg e]
      exact hq.imp_left fun m => (List.mem_cons.1 m).resolve_left e

/-! ### Replace reasons -/

/-- What a training counts, shows and records in, apart from its outcome. -/
def trainingReg : Reg → Bool
  | .monReplace | .monLoglost | .memChstat | .memLanemap => true
  | _ => false

theorem State.replaceReason_keeps {P : Reg → Bool} (shown : P .monReplace = true) (log : P .monLoglost = true) (s : State)
    (b : Nat) :
    (s.replaceReason b).keptBut P = s.keptBut P := by
  unfold State.replaceReason
  refine State.keptBut_ite rfl ?_
  dsimp only
  refine State.keptBut_ite ((State.keptBut_noticeUp ..).trans ?_) ?_
  all_goals
    rw [State.keptBut_log _ log, State.keptBut_raise]
    exact s.keptBut_setReg shown 0 _

theorem State.recheckReason_keeps {P : Reg → Bool} (shown : P .monReplace = true) (log : P .monLoglost = true) (s : State)
    (b : Nat) (c : Bool) : (s.recheckReason b c).keptBut P = s.keptBut P := by
  unfold State.recheckReason
  refine State.keptBut_ite (State.replaceReason_keeps shown log s b) ?_
  exact State.keptBut_ite (s.keptBut_setReg shown 0 _) (s.keptBut_setReg shown 0 _)

/-- A reason that becomes set stands in MON_REPLACE: its notice, its interrupt and its record leave the register alone. -/
theorem State.replaceReason_set (s : State) {b : Nat} (hb : b < 31) : bit ((s.replaceReason b).reg .monReplace 0) b = true := by
  have told (x : State) : ((x.raise 0 192).log 7 [b]).reg .monReplace 0 = x.reg .monReplace 0 := by
    have kept := (State.keptBut_log (P := fun r => decide (r = .monLoglost)) (x.raise 0 192) rfl 7 [b]).trans
      (x.keptBut_raise 0 192)
    exact State.reg_of_kept kept rfl 0
  have set (w : W32) : bit (setBit (setBit w b true) 31 true) b = true := by
    unfold setBit
    rw [bit_setFld _ _ _ _ _ (by omega), if_neg (by omega), bit_setFld _ _ _ _ _ (by omega), if_pos (by omega), Nat.sub_self]
    rfl
  unfold State.replaceReason
  split
  · assumption
  · dsimp only
    split
    all_goals
      simp only [State.reg_congr (State.noticeUp_regs ..), told]
      exact (congrArg (bit · b) (s.reg_setReg_same .monReplace 0 _)).trans (set _)

/-! ### The failed state -/

/-- Training is over without success, and the module is not ready. -/
def State.untrained (s : State) : State :=
  let x : State := { s with power := { s.power with phase := .failed, training := false } }
  ((x.setRfld .memStatus 0 31 31 0).setRfld .memStatus 0 30 30 1).setRfld .hubStatus 0 31 31 0

theorem State.enterFailed_eq (s : State) :
    s.enterFailed = ((List.range 32).foldl State.portOff s.untrained).recheckReason 4 true := rfl

theorem State.enterFailed_keeps (s : State) : s.enterFailed.keptBut failedReg = s.untrained.keptBut failedReg := by
  rw [State.enterFailed_eq]
  exact (State.recheckReason_keeps rfl rfl _ 4 true).trans (State.keptBut_foldl State.keptBut_portOff _ _)

theorem State.untrained_status (s : State) : s.untrained.rfld .memStatus 0 31 31 = 0 ∧
    s.untrained.rfld .memStatus 0 30 30 = 1 ∧ s.untrained.rfld .hubStatus 0 31 31 = 0 := by
  unfold State.untrained
  refine ⟨?_, ?_, State.rfld_setRfld_same _ _ _ _ _ _ (by omega)⟩
  · rw [State.rfld_setRfld_ne _ (by decide), State.rfld_setRfld_other _ _ _ _ _ _ _ _ (by omega) (by omega)]
    exact State.rfld_setRfld_same _ _ _ _ _ _ (by omega)
  · rw [State.rfld_setRfld_ne _ (by decide)]
    exact State.rfld_setRfld_same _ _ _ _ _ _ (by omega)

theorem State.enterFailed_fails (s : State) : let t := s.enterFailed
    (∀ p, p < 32 → t.portSt p = 0) ∧ t.power.phase = .failed ∧ t.power.training = false ∧ t.rfld .memStatus 0 31 31 = 0 ∧
      t.rfld .memStatus 0 30 30 = 1 ∧ t.rfld .hubStatus 0 31 31 = 0 ∧ t.mem = s.mem ∧ t.homes = s.homes ∧
      bit (t.reg .monReplace 0) 4 = true := by
  have kept := s.enterFailed_keeps
  obtain ⟨phase, training, mem, homes, _⟩ := State.keptBut_iff.1 kept
  obtain ⟨notTrained, failed, notReady⟩ := s.untrained_status
  refine ⟨fun p hp => ?_, phase, training, (State.rfld_of_kept kept rfl 0 31 31).trans notTrained,
    (State.rfld_of_kept kept rfl 0 30 30).trans failed, (State.rfld_of_kept kept rfl 0 31 31).trans notReady, mem, homes,
    State.replaceReason_set _ (by omega)⟩
  have asked := State.recheckReason_keeps (P := trainingReg) rfl rfl ((List.range 32).foldl State.portOff s.untrained) 4 true
  exact (State.rfld_of_kept asked rfl p 31 29).trans (State.portSt_foldl_portOff _ _ p (.inl (List.mem_range.2 hp)))

end Sys2Proof.Machine
end

section
/-! PROOF. The end of a memory training (R255 to R258, R260): the lanes found failed go to spares and erasures, recorded rows are
repaired, and the erasures that are left decide the outcome. -/
namespace Sys2Proof.Machine

/-! ### Lanes -/

theorem State.erased_congr {s u : State} (h : u.mem = s.mem) (n : Nat) : u.erased n = s.erased n := by
  unfold State.erased; rw [h]

/-- The lanes that a channel holds as erasures when a training has found some failed: two of a fast channel have spares. -/
def heldLanes (n : Nat) (lanes : List Nat) : List Nat := if n < 256 then lanes.drop 2 else lanes

/-- The tiers with the erasures of channel n replaced. -/
def Mem.withErased (m : Mem) (n : Nat) (er : List Nat) : Mem := { m with erased := mset [] m.erased n er }

theorem State.keptBut_showErased {P : Reg → Bool} (stat : P .memChstat = true) (map : P .memLanemap = true) (s : State) (n : Nat) :
    (s.showErased n).keptBut P = s.keptBut P := by
  unfold State.showErased
  dsimp only
  rw [State.keptBut_setRfld _ map, State.keptBut_setRfld _ map]
  exact State.keptBut_ite ((State.keptBut_setRfld _ stat ..).trans (State.keptBut_setRfld _ stat ..))
    (State.keptBut_setRfld _ stat ..)

theorem State.keptBut_assignLanes (s : State) (n : Nat) (lanes : List Nat) : (s.assignLanes n lanes).keptBut trainingReg =
    ({ s with mem := s.mem.withErased n (heldLanes n lanes) } : State).keptBut trainingReg := by
  have logged (b : Nat) (l : List Nat) (x : State) :
      (l.foldl (fun y i => y.log 3 [n, i, b]) x).keptBut trainingReg = x.keptBut trainingReg :=
    State.keptBut_foldl (fun y i => y.keptBut_log rfl 3 [n, i, b]) l x
  unfold State.assignLanes
  dsimp only
  rw [logged, logged, State.keptBut_showErased rfl rfl]
  refine State.keptBut_modMem ?_ fun m => m.withErased n (heldLanes n lanes)
  rw [State.keptBut_setRfld _ rfl, State.keptBut_setRfld _ rfl, State.keptBut_setRfld _ rfl]

/-- The erasures of every channel that a training names, as it found them. -/
def Mem.withFound (m : Mem) (found : Nat → List Nat) (l : List Nat) : Mem :=
  l.foldl (fun m n => m.withErased n (heldLanes n (found n))) m

theorem State.keptBut_foldl_assignLanes (found : Nat → List Nat) (l : List Nat) : ∀ s : State,
    (l.foldl (fun x n => x.assignLanes n (found n)) s).keptBut trainingReg =
      ({ s with mem := s.mem.withFound found l } : State).keptBut trainingReg := by
  induction l with
  | nil => exact fun _ => rfl
  | cons n l ih =>
    intro s
    exact (ih _).trans (State.keptBut_modMem (s.keptBut_assignLanes n (found n)) fun m => m.withFound found l)

theorem Mem.erased_withFound (found : Nat → List Nat) (n : Nat) (l : List Nat) : ∀ m : Mem,
    mget [] (m.withFound found l).erased n = if n ∈ l then heldLanes n (found n) else mget [] m.erased n := by
  induction l with
  | nil => exact fun _ => rfl
  | cons k l ih =>
    intro m
    refine (ih (m.withErased k (heldLanes k (found k)))).trans ?_
    have first : mget [] (m.withErased k (heldLanes k (found k))).erased n =
      if n = k then heldLanes k (found k) else mget [] m.erased n := mget_mset ..
    rw [first]
    by_cases hk : n = k
    · subst hk
      simp
    · simp [hk]

theorem Mem.bytes_withFound (found : Nat → List Nat) (l : List Nat) (m : Mem) : (m.withFound found l).bytes = m.bytes :=
  List.foldlRecOn (motive := fun x : Mem => x.bytes = m.bytes) l _ rfl fun _ hx _ _ => hx

/-! ### Recorded rows -/

/-- A hard repair shows one row more, and changes nothing else of the tiers than the rows retired. -/
theorem State.keptBut_hardRepair (s : State) (bank row : Nat) : ∃ rows, (s.hardRepair bank row).keptBut trainingReg =
    ({ s with mem := { s.mem with retired := rows } } : State).keptBut trainingReg := by
  unfold State.hardRepair
  dsimp only
  generalize (if bank / 256 < 256 then 2 else 1 : Nat) = limit
  split
  · exact ⟨s.mem.retired, rfl⟩
  · exact ⟨_, State.keptBut_setRfld _ rfl ..⟩

theorem State.keptBut_hardRepairs (s : State) : ∃ rows, s.hardRepairs.keptBut trainingReg =
    ({ s with mem := { s.mem with retired := rows } } : State).keptBut trainingReg := by
  unfold State.hardRepairs
  refine List.foldlRecOn (motive := fun x : State => ∃ rows, x.keptBut trainingReg =
    ({ s with mem := { s.mem with retired := rows } } : State).keptBut trainingReg) _ _ ⟨s.mem.retired, rfl⟩ fun x hx r _ => ?_
  obtain ⟨before, hx⟩ := hx
  split
  case h_2 => exact ⟨before, hx⟩
  case h_1 bank row _ =>
    obtain ⟨rows, hr⟩ := x.keptBut_hardRepair bank row
    exact ⟨rows, hr.trans (State.keptBut_modMem hx fun m => { m with retired := rows })⟩

/-! ### The outcome -/

/-- The module when a training has assigned its lanes: it is over, and nothing is initialised. -/
def State.lanesAssigned (s : State) (failed : List (Fin 272 × Nat)) : State :=
  let x := ((failed.map fun p => p.1.val).eraseDups).foldl (fun x n => x.assignLanes n (lanesOf failed n)) s
  { x with mem := { x.mem with init := [], initNext := 0 }, power := { x.power with training := false } }

/-- What a training leaves, of a state as it was before: the fields that its outcome is about. -/
structure trainedBy (s : State) (failed : List (Fin 272 × Nat)) (t : State) : Prop where
  phase : t.power.phase = s.power.phase
  ended : t.power.training = false
  init : t.mem.init = []
  initNext : t.mem.initNext = 0
  bytes : t.mem.bytes = s.mem.bytes
  homes : t.homes = s.homes
  erased : ∀ n, t.erased n = if n ∈ (failed.map fun p => p.1.val) then heldLanes n (lanesOf failed n) else s.erased n

theorem trainedBy.of_kept {s t u : State} {failed : List (Fin 272 × Nat)} {P : Reg → Bool} (h : trainedBy s failed t)
    (kept : u.keptBut P = t.keptBut P) : trainedBy s failed u := by
  obtain ⟨phase, training, mem, homes, _⟩ := State.keptBut_iff.1 kept
  refine ⟨phase.trans h.phase, training.trans h.ended, ?_, ?_, ?_, homes.trans h.homes, fun n => ?_⟩
  · rw [mem, h.init]
  · rw [mem, h.initNext]
  · rw [mem, h.bytes]
  · exact (State.erased_congr mem n).trans (h.erased n)

theorem State.lanesAssigned_trained (s : State) (failed : List (Fin 272 × Nat)) : trainedBy s failed (s.lanesAssigned failed) := by
  have lanes := State.keptBut_foldl_assignLanes (lanesOf failed) ((failed.map fun p => p.1.val).eraseDups) s
  obtain ⟨phase, _, mem, homes, _⟩ := State.keptBut_iff.1 lanes
  refine ⟨phase, rfl, rfl, rfl, (congrArg Mem.bytes mem).trans (Mem.bytes_withFound ..), homes, fun n => ?_⟩
  refine (congrArg (fun m : Mem => mget [] m.erased n) mem).trans ((Mem.erased_withFound ..).trans ?_)
  simp only [List.mem_eraseDups]
  rfl

theorem State.hardRepairs_trained {s x : State} {failed : List (Fin 272 × Nat)} (h : trainedBy s failed x) :
    trainedBy s failed x.hardRepairs := by
  obtain ⟨rows, repaired⟩ := x.keptBut_hardRepairs
  have other : trainedBy s failed { x with mem := { x.mem with retired := rows } } :=
    ⟨h.phase, h.ended, h.init, h.initNext, h.bytes, h.homes, h.erased⟩
  exact other.of_kept repaired

/-- The end of a training: the replace reasons of lanes and rows, and then the outcome that the erasures decide. -/
theorem State.trainingDone_eq (s : State) (failed : List (Fin 272 × Nat)) : ∃ a b,
    let x := ((s.lanesAssigned failed).hardRepairs.recheckReason 0 a).recheckReason 2 b
    s.trainingDone failed = if (List.range 272).any fun n => failsChannel n (x.erased n) then x.enterFailed
      else (x.setRfld .memStatus 0 31 31 1).recheckReason 4 false := ⟨_, _, rfl⟩

/-- Memory that is marked trained stays so when the reason of a failed start goes. -/
theorem State.trained_recheck (s : State) : ((s.setRfld .memStatus 0 31 31 1).recheckReason 4 false).rfld .memStatus 0 31 31 = 1 :=
  (State.rfld_of_kept (State.recheckReason_keeps (P := trainingReg) rfl rfl _ 4 false) rfl 0 31 31).trans
    (State.rfld_setRfld_same _ _ _ _ _ _ (by omega))

/-- A training ends in one of two ways: some channel fails by its erasures, or none does and memory is trained. -/
theorem State.trainingDone_cases (s : State) (failed : List (Fin 272 × Nat)) : let t := s.trainingDone failed
    (∃ x, trainedBy s failed x ∧ t = x.enterFailed ∧ ∃ n < 272, failsChannel n (x.erased n) = true) ∨
    (trainedBy s failed t ∧ t.rfld .memStatus 0 31 31 = 1 ∧ ∀ n < 272, failsChannel n (t.erased n) = false) := by
  obtain ⟨a, b, ends⟩ := s.trainingDone_eq failed
  have found : trainedBy s failed (((s.lanesAssigned failed).hardRepairs.recheckReason 0 a).recheckReason 2 b) :=
    (State.hardRepairs_trained (s.lanesAssigned_trained failed)).of_kept (P := trainingReg)
      ((State.recheckReason_keeps rfl rfl _ 2 b).trans (State.recheckReason_keeps rfl rfl _ 0 a))
  dsimp only at ends ⊢
  rw [ends]
  generalize ((s.lanesAssigned failed).hardRepairs.recheckReason 0 a).recheckReason 2 b = x at found
  split
  next fails =>
    obtain ⟨n, hn, lost⟩ := List.any_eq_true.1 fails
    exact .inl ⟨x, found, rfl, n, List.mem_range.1 hn, lost⟩
  next holds =>
    have kept : ((x.setRfld .memStatus 0 31 31 1).recheckReason 4 false).keptBut
        (fun r => trainingReg r || decide (r = .memStatus)) =
        x.keptBut _ := (State.recheckReason_keeps rfl rfl _ 4 false).trans (State.keptBut_setRfld _ rfl ..)
    refine .inr ⟨found.of_kept kept, x.trained_recheck, fun n hn => ?_⟩
    have same : ((x.setRfld .memStatus 0 31 31 1).recheckReason 4 false).erased n = x.erased n :=
      State.erased_congr (State.mem_of_kept kept) n
    rw [same]
    exact Bool.eq_false_iff.2 fun lost => holds (List.any_eq_true.2 ⟨n, List.mem_range.2 hn, lost⟩)

/-! ### The commands -/

theorem exec_memoryTrainingDone {s : State} (clocked : s.clocked = true) (failed : List (Fin 272 × Nat)) :
    exec (.memoryTrainingDone failed) s = .next (if s.power.training then s.trainingDone failed else s) := whenClocked_on clocked _

theorem exec_trainingTimeout {s : State} (clocked : s.clocked = true) :
    exec .trainingTimeout s = .next (if s.power.training then s.enterFailed else s) := whenClocked_on clocked _

theorem State.trainingDone_lost (s : State) (lost : List (Fin 272 × Nat)) : let t := s.trainingDone lost
    t.power.training = false ∧ t.mem.bytes = s.mem.bytes ∧ t.homes = s.homes ∧
      (∀ n, n < 272 → t.erased n = if ∃ p ∈ lost, p.1.val = n then heldLanes n (lanesOf lost n) else s.erased n) ∧
      ((∃ n, n < 272 ∧ failsChannel n (t.erased n) = true) →
        t.power.phase = .failed ∧ t.rfld .memStatus 0 31 31 = 0 ∧ t.rfld .memStatus 0 30 30 = 1) ∧
      ((∀ n, n < 272 → failsChannel n (t.erased n) = false) →
        t.power.phase = s.power.phase ∧ t.rfld .memStatus 0 31 31 = 1) := by
  have named (n : Nat) : n ∈ (lost.map fun p => p.1.val) ↔ ∃ p ∈ lost, p.1.val = n := List.mem_map
  rcases s.trainingDone_cases lost with ⟨x, found, failed, n, hn, loses⟩ | ⟨found, trained, holds⟩
  · obtain ⟨_, phase, ended, notTrained, failedBit, _, mem, homes, _⟩ := x.enterFailed_fails
    have same (k : Nat) : x.enterFailed.erased k = x.erased k := State.erased_congr mem k
    dsimp only
    rw [failed]
    refine ⟨ended, (congrArg Mem.bytes mem).trans found.bytes, homes.trans found.homes, fun k _ => ?_,
      fun _ => ⟨phase, notTrained, failedBit⟩, fun all => ?_⟩
    · rw [same, found.erased]
      simp only [named]
    · rw [← same] at loses
      exact absurd (all n hn) (by simp [loses])
  · refine ⟨found.ended, found.bytes, found.homes, fun k _ => ?_, fun ⟨n, hn, loses⟩ => ?_, fun _ => ⟨found.phase, trained⟩⟩
    · rw [found.erased]
      simp only [named]
    · exact absurd (holds n hn) (by simp [loses])

/-- With no lanes lost and none held, no channel fails. -/
theorem State.trainingDone_none {s : State} (clean : ∀ n, n < 272 → s.erased n = []) : let t := s.trainingDone []
    t.power.training = false ∧ t.power.phase = s.power.phase ∧ t.rfld .memStatus 0 31 31 = 1 ∧
      t.mem.init = [] ∧ t.mem.initNext = 0 ∧ t.mem.bytes = s.mem.bytes ∧ t.homes = s.homes := by
  rcases s.trainingDone_cases [] with ⟨x, found, _, n, hn, loses⟩ | ⟨found, trained, _⟩
  · simp only [found.erased, List.map_nil, List.not_mem_nil, if_false, clean n hn] at loses
    simp [failsChannel] at loses
  · exact ⟨found.ended, found.phase, trained, found.init, found.initNext, found.bytes, found.homes⟩

/-- Settles O12: a training ends in one of two ways, by the erasures that its lanes leave, and a timeout in the failed state. -/
theorem trainingEndsReadyOrFailed : Obligations.TrainingEndsReadyOrFailed := by
  intro s clocked runs
  have done (lost : List (Fin 272 × Nat)) : exec (.memoryTrainingDone lost) s = .next (s.trainingDone lost) := by
    rw [exec_memoryTrainingDone clocked, if_pos runs]
  refine ⟨fun clean => ⟨_, done [], State.trainingDone_none clean⟩, fun lost => ⟨_, done lost, s.trainingDone_lost lost⟩,
    ⟨s.enterFailed, ?_, s.enterFailed_fails⟩, fun lost => ?_⟩
  · rw [exec_trainingTimeout clocked, if_pos runs]
  · exact exec_memoryTrainingDone (s := { s with power := { s.power with training := false } }) clocked lost

end Sys2Proof.Machine
end

section
/-! PROOF. A row's retirement can change a byte (R252, R266, R285, R128): its read meets a poisoned codeword, a MOVE whose
source holds it aborts, and the abort's completion record goes to its ring in the fast tier. -/
namespace Sys2Proof.Machine

/-! ### What a retirement stores -/

theorem exec_rowRetirement {s : State} (clocked : s.clocked = true) (trained : s.trained = true) {bank row : Nat}
    (rest : s.memRest = true) (asked : (bank, row) ∈ s.mem.retireQ) :
    exec (.rowRetirement bank row) s = .next (s.retireRow bank row) := by
  have retires : s.retire bank row = s.retireRow bank row := by
    unfold State.retire
    rw [rest, List.contains_iff_mem.2 asked]
    rfl
  refine (whenClocked_on clocked _).trans ?_
  rw [trained, if_pos rfl, retires]

/-- Within the bank's limit, the bytes after a retirement are those after the read of its row. -/
theorem State.retireRow_bytes {s : State} {bank row : Nat} (new : row ∉ mget [] s.mem.retired bank)
    (limit : (mget [] s.mem.retired bank).length < (if bank / 256 < 256 then 2 else 1)) :
    (s.retireRow bank row).mem.bytes = (s.readRow bank row).mem.bytes := by
  unfold State.retireRow
  dsimp only
  generalize (if bank / 256 < 256 then 2 else 1 : Nat) = most at limit ⊢
  have within : ((mget [] s.mem.retired bank).contains row || decide (most ≤ (mget [] s.mem.retired bank).length)) = false := by
    simp [new, Nat.not_le.2 limit]
  rw [within]
  simp only [Bool.false_eq_true, if_false]
  split
  · rfl
  · split
    · rw [State.mem_of_kept (State.replaceReason_keeps (P := trainingReg) rfl rfl _ 2), State.log_mem]
      rfl
    · rw [State.log_mem]
      rfl

theorem State.askRetire_asked {s : State} {cw : Nat} (h : (bankKey cw, Config.rowOf cw) ∈ s.mem.retireQ) : s.askRetire cw = s :=
  if_pos (List.contains_iff_mem.2 h)

/-! ### The counterexample -/

/-- A tensor of 256 bytes at the start of the fast tier, MOVING. -/
def rowTensor : HEntry := ⟨0x113, 0, 0, 1, 128, 1, 0x00010001, 1⟩

/-- A MOVE of that tensor to the bulk tier, before its switch. -/
def rowMove : MoveRec :=
  { tenant := 0, queue := 0, task := 1, handle := 1, gen := 0, dkind := 2, dcore := 0, daddr := bulkBase, node := 0, route := 0,
    pack := false, src := 0, dst := bulkBase, next := 0, total := 256, switched := false, acked := true }

/-- The task of that MOVE. -/
def rowTask : Task :=
  { serial := 1, index := 0, iter := 0, desc := [0x00010005], params := [], xlates := [], trap := false, sat := 0, flush := 0,
    nan := 0, waited := 0, landed := false, progress := 0, msg := 0, windowEnd := none, step := 0, count := 0, issued := 0 }

/-- A class-2 queue has that MOVE in flight; its completion ring starts at 32 KiB. No class-0 queue is open, and the tensor's
first codeword is poisoned, its row asked for. -/
def rowState : State :=
  let s : State := { State.reset with
    power := { State.reset.power with phase := .ready, pwrgd := true, perst := false }
    cfg := { Image.blank with tenants := [{ TenantRec.none with thSize := 1, cores := 1, fastWin := [⟨0, 1⟩] }] }
    mem := { State.reset.mem with initNext := 1, poison := [(0, true)], retireQ := [(bankKey 0, Config.rowOf 0)] }
    homes := [(hkey 0 1, rowTensor)]
    moves := [rowMove]
    queues := [(0, { Queue.init with img := [0, 0, 2, 1], next := 1, tasks := [rowTask] })]
    serial := 2 }
  ((s.setReg .memStatus 0 0x80000000).setReg .queRingbase 0 1).setReg .queStatus 0 0x00020000

theorem rowState_badInRow : rowState.badInRow (bankKey 0) (Config.rowOf 0) = [0] := by
  have listed : rowState.mem.latent = [] ∧ rowState.mem.poison = [(0, true)] := ⟨rfl, rfl⟩
  have once : [0].eraseDups = [0] := rfl
  simp [State.badInRow, listed, once, laneInsert]

/-- The codeword is recorded again, which asks for its row a second time to no effect; the report of it then aborts the MOVE,
and the record's fault code is stored. -/
theorem rowState_ueRecord_stores : ((rowState.ueRecord 0 0 3).reportUe [0] none).byte 32771 = 0x51#8 := by
  unfold State.ueRecord
  dsimp only
  rw [State.askRetire_asked (List.mem_singleton.2 rfl)]
  decide

theorem rowState_readRow_stores : (rowState.readRow (bankKey 0) (Config.rowOf 0)).byte 32771 = 0x51#8 := by
  have read : rowState.readCw 3 [] 0 = (rowState.ueRecord 0 0 3, false) := rfl
  unfold State.readRow
  rw [rowState_badInRow, List.foldl_cons, List.foldl_nil, read]
  exact rowState_ueRecord_stores

/-- Refutes O48: ROW_RETIREMENT keeps the bytes only while no MOVE is in flight, which its clause does not ask for. In
`rowState` the read of the row poisons the tensor of a MOVE, the MOVE aborts with 0x51, and its completion record is stored. -/
theorem not_tierControllersKeepTheData : ¬ Obligations.TierControllersKeepTheData := by
  intro h
  obtain ⟨_, _, _, retirement, _⟩ := h rowState rfl
  have bank : bankKey 0 / 256 = 0 := by
    have : chanOf 0 = some 0 := rfl
    simp only [bankKey, this, Option.getD_some]
    omega
  have limit : (mget [] rowState.mem.retired (bankKey 0)).length < (if bankKey 0 / 256 < 256 then 2 else 1) := by
    rw [bank]
    exact Nat.zero_lt_two
  have rest : rowState.memRest = true := by decide
  have asked : (bankKey 0, Config.rowOf 0) ∈ rowState.mem.retireQ := List.mem_singleton.2 rfl
  have new : Config.rowOf 0 ∉ mget [] rowState.mem.retired (bankKey 0) := List.not_mem_nil
  obtain ⟨t, ht, bytes, _⟩ := (retirement (bankKey 0) (Config.rowOf 0) rfl).2 rest asked new (by omega) limit rfl
  rw [exec_rowRetirement rfl rfl rest asked] at ht
  cases ht
  have stored := rowState_readRow_stores
  rw [State.byte_congr ((State.retireRow_bytes new limit).symm.trans bytes)] at stored
  exact absurd stored (by decide)

end Sys2Proof.Machine
end

section
/-! PROOF. The refutation of FillsMovesAndGrants: the release of a MOVE completes its task, and the record of a completing task
is half a codeword, which the ring's tier reads first (R128, R253). -/
namespace Sys2Proof.Machine

/-! ### A completion record onto a poisoned codeword -/

theorem State.record_homes (s : State) (i : Nat) (r0 : Reg) (v0 : W32) (more : List (Reg × W32)) :
    (s.record i r0 v0 more).homes = s.homes := by
  unfold State.record
  dsimp only
  split
  · exact List.foldlRecOn (motive := fun x : State => x.homes = s.homes) more _ rfl fun _ hx _ _ => hx
  · rfl

theorem State.askRetire_homes (s : State) (cw : Nat) : (s.askRetire cw).homes = s.homes := by
  unfold State.askRetire
  dsimp only
  split <;> rfl

theorem State.ueRecord_homes (s : State) (n cw source : Nat) : (s.ueRecord n cw source).homes = s.homes := by
  unfold State.ueRecord
  dsimp only
  rw [State.askRetire_homes, State.setLatent_homes, State.setPoison_homes, State.log_homes]
  split
  · exact State.record_homes ..
  · exact (State.raise_homes ..).trans (State.record_homes ..)

theorem State.stageCheck_homes (s : State) : s.stageCheck.homes = s.homes := by
  have sent (x : State) (nodes body : List Nat) : (x.notices 0x02 nodes body).homes = x.homes :=
    List.foldlRecOn (motive := fun y : State => y.homes = x.homes) nodes _ rfl fun y hy n _ => (y.notice_homes ..).trans hy
  unfold State.stageCheck
  split
  · rfl
  · dsimp only
    split
    · exact sent _ _ _
    · rfl

section
variable {s : State} {a n : Nat} (chan : chanOf (a / 64 * 64) = some n) (inited : s.inited (a / 64 * 64) = true)
  (poisoned : s.poisoned (a / 64 * 64) = true)
include chan inited poisoned

/-- Onto a poisoned codeword a record is dropped, and the tensors that hold the codeword are POISONED (R252, R253). -/
theorem State.writeRecord_poisoned (bs : List Byte) :
    s.writeRecord a bs = (s.ueRecord n (a / 64 * 64) 2).poisonHomes (a / 64 * 64) := by
  have read : s.readCw 2 [] (a / 64 * 64) = (s.ueRecord n (a / 64 * 64) 2, false) := by
    unfold State.readCw
    simp only [chan, inited, poisoned, Bool.not_true, Bool.false_eq_true, if_false, if_true]
  unfold State.writeRecord
  simp only [read, Bool.false_eq_true, if_false]

end

/-- The entries after the codeword at an address has been found poisoned (R252). -/
theorem State.poisonHomes_congr {s u : State} (h : u.homes = s.homes) (cw : Nat) :
    (u.poisonHomes cw).homes = (s.poisonHomes cw).homes := by
  unfold State.poisonHomes
  rw [h]

section
variable {s : State} {k n : Nat} (win : s.inWindows (k / 16) (s.recordAddr k) 32 = true) (fast : isFast (s.recordAddr k) = true)
  (chan : chanOf (s.recordAddr k / 64 * 64) = some n) (inited : s.inited (s.recordAddr k / 64 * 64) = true)
  (poisoned : s.poisoned (s.recordAddr k / 64 * 64) = true)
include win fast chan inited poisoned

theorem State.putRecord_poisoned (code ns : Nat) (t : Task) :
    (s.putRecord k code ns t).homes = (s.poisonHomes (s.recordAddr k / 64 * 64)).homes ∧
      ((s.putRecord k code ns t).queue k).next = (s.queue k).next ∧
      ((s.putRecord k code ns t).queue k).img = (s.queue k).img := by
  have inside : (s.inWindows (k / 16) (s.recordAddr k) 32 && isFast (s.recordAddr k)) = true := by rw [win, fast]; rfl
  have written := State.writeRecord_poisoned chan inited poisoned (recordBytes k (s.queue k).lcore code ns t)
  have record : s.putRecord k code ns t =
      ((((s.ueRecord n (s.recordAddr k / 64 * 64) 2).poisonHomes (s.recordAddr k / 64 * 64)).setRfld .queRinghead k 9 0
        ((s.rfld .queRinghead k 9 0 + 1) % 1024)).modQueue k fun q =>
          { q with ringFull := decide ((s.rfld .queRinghead k 9 0 + 1) % 1024 = s.rfld .queRingtail k 9 0) }) := by
    rw [← written]
    exact congrArg (fun y : State => (y.setRfld .queRinghead k 9 0 ((s.rfld .queRinghead k 9 0 + 1) % 1024)).modQueue k
      fun q => { q with ringFull := decide ((s.rfld .queRinghead k 9 0 + 1) % 1024 = s.rfld .queRingtail k 9 0) }) (if_pos inside)
  have queue : ((s.ueRecord n (s.recordAddr k / 64 * 64) 2).poisonHomes (s.recordAddr k / 64 * 64)).queue k = s.queue k :=
    State.queue_congr (congrArg Prod.snd (s.work_ueRecord n _ 2)) k
  rw [record, State.queue_modQueue_same, State.queue_setRfld, queue, State.modQueue, State.setQueue_homes, State.setRfld_eq,
    State.setReg_homes]
  exact ⟨State.poisonHomes_congr (s.ueRecord_homes ..) _, rfl, rfl⟩

/-- The oldest task of a queue completes while the codeword of its record is poisoned: the tensors that hold the codeword are
POISONED (R116, R128, R253). -/
theorem State.completeTask_poisoned {x : Task} (ht : s.task? k x.serial = some x) (bare : x.xlates = []) (open' : x.windowEnd = none)
    (unowed : (s.queue k).unrecorded = []) (quiet : dIrq x.desc = false) (alone : (s.queue k).tasks = [x])
    (more : (s.queue k).next < (s.queue k).descCount) :
    (s.completeTask k x.serial).homes = (s.poisonHomes (s.recordAddr k / 64 * 64)).homes := by
  have due : (((s.signals k x).endsTask k 0 x).queue k).unrecorded = [⟨x, 0, s.clock.ptp⟩] := by
    rw [State.signalled_queue, unowed]
    rfl
  have first : ∀ y ∈ (((s.signals k x).endsTask k 0 x).queue k).tasks, x.serial < y.serial := by
    rw [State.signalled_queue, alone]
    simp
  have records : (s.signals k x).endTask k 0 x = (s.recording k x).putRecord k 0 s.clock.ptp x := by
    rw [State.endTask_eq, State.flushRecords_first due first, State.recordNow_done _ k _ quiet, State.recording]
  have place := s.recording_recordAddr k x
  have mem := s.recording_mem k x
  obtain ⟨homes, next, img⟩ := State.putRecord_poisoned (s := s.recording k x) (k := k) (n := n)
    (by rw [place, State.inWindows_congr (s.recording_cfg k x)]; exact win) (by rw [place]; exact fast) (by rw [place]; exact chan)
    (by rw [place]; unfold State.inited at inited ⊢; rw [mem]; exact inited)
    (by rw [place]; unfold State.poisoned at poisoned ⊢; rw [mem]; exact poisoned) 0 s.clock.ptp x
  have goesOn : (((s.recording k x).putRecord k 0 s.clock.ptp x).modQueue k fun q => { q with ended := q.ended + 1 }).ranOut k =
      false := by
    refine State.ranOut_more ?_
    unfold Queue.descCount Queue.hdr at more ⊢
    rw [State.queue_modQueue_same]
    dsimp only
    rw [next, img, State.recording_queue]
    exact more
  rw [State.completeTask_eq ht bare open', records]
  dsimp only
  rw [if_neg (Bool.eq_false_iff.1 goesOn), State.modQueue, State.setQueue_homes, homes, place]
  exact State.poisonHomes_congr (s.recording_homes k x) _

end

/-! ### The release of a MOVE -/

/-- The records of a tenant's MOVE have gone. -/
def State.dropMove (s : State) (t task : Nat) : State :=
  { s with moves := s.moves.filter fun x => !(decide (x.tenant = t) && decide (x.task = task)) }

/-- The state in which the task of a released MOVE completes: its record has gone and the entry is VALID (R282). -/
def State.released (s : State) (t h : Nat) (m : MoveRec) : State := (s.dropMove t m.task).setSt t h stValid

theorem State.moveRelease_releases {s : State} {t h : Nat} {m : MoveRec} (move : s.moveOf t h = some m)
    (done : (m.switched && m.acked) = true) (free : s.oldHeld t h m.gen m.task = false) (gen : (s.home t h).gen = m.gen)
    (moving : (s.home t h).st = stMoving) :
    s.moveRelease t h = ((s.released t h m).completeTask (16 * t + m.queue) m.task).stageCheck := by
  have updated (x : State) (hx : x.homes = s.homes) : (x.genUpdate t h m.gen fun x =>
      if (x.home t h).st = stMoving then x.setSt t h stValid else x) = x.setSt t h stValid := by
    have home : x.home t h = s.home t h := congrArg (mget HEntry.free · (hkey t h)) hx
    unfold State.genUpdate
    rw [home, if_pos gen]
    exact if_pos (home ▸ moving)
  unfold State.moveRelease
  simp only [move, done, free, Bool.not_true, Bool.or_self, Bool.false_eq_true, if_false]
  exact congrArg (fun x => (x.completeTask (16 * t + m.queue) m.task).stageCheck) 
    (updated (s.dropMove t m.task) rfl)

/-! ### The counterexample -/

/-- A tensor of 256 bytes at 32 KiB of the fast tier, MOVING: it holds the first records of `rowState`'s completion ring. -/
def ringTensor : HEntry := { rowTensor with w1 := 0x8000 }

/-- The MOVE that has brought the tensor there, switched. -/
def ringMove : MoveRec := { rowMove with dkind := 1, daddr := 0x8000, dst := 0x8000, next := 256, switched := true }

/-- `rowState` with that MOVE, a second descriptor behind it, and the ring's first codeword poisoned. -/
def ringState : State :=
  { rowState with
    mem := { rowState.mem with poison := [(512, true)], retireQ := [] }
    homes := [(hkey 0 1, ringTensor)]
    moves := [ringMove]
    queues := [(0, { Queue.init with img := [0, 0, 2, 2], next := 1, tasks := [rowTask] })] }

/-- `ringState` when its MOVE is released, before the MOVE's task completes. -/
def ringReleased : State := ringState.released 0 1 ringMove

theorem ringState_release : ringState.moveRelease 0 1 = (ringReleased.completeTask 0 rowTask.serial).stageCheck :=
  State.moveRelease_releases (m := ringMove) rfl rfl (by decide) (by decide) (by decide)

/-- The record of the MOVE's task meets the poisoned codeword, which the tensor holds. -/
theorem ringState_release_poisons : (ringState.moveRelease 0 1).home 0 1 = ringTensor.withSt stPoisoned := by
  have homes := State.completeTask_poisoned (s := ringReleased) (k := 0) (n := 16) (x := rowTask) (by decide) (by decide) (by decide)
    (by decide) (by decide) rfl rfl rfl rfl rfl rfl (by decide)
  unfold State.home
  rw [ringState_release, State.stageCheck_homes, homes]
  decide

/-- Refutes O50: a released MOVE leaves its entry VALID only where the record of its task meets no poisoned codeword of the
tensor, which the clause does not ask for. In `ringState` the tensor has been moved onto its queue's completion ring. -/
theorem not_fillsMovesAndGrants : ¬ Obligations.FillsMovesAndGrants := by
  rintro ⟨entries, -⟩
  obtain ⟨-, -, -, moves, -⟩ := entries 0 1 ringState rfl
  obtain ⟨-, -, -, release⟩ := moves ringMove rfl
  obtain ⟨u, released, -, valid, -⟩ := release rfl rfl (by decide)
  have answer : exec (.moveRelease 0 1) ringState = .next (ringState.moveRelease 0 1) := whenUp_up rfl fun x => x.moveRelease 0 1
  rw [answer] at released
  cases released
  have entry := valid (by decide) (by decide)
  rw [show ((0 : Fin 8) : Nat) = 0 from rfl, show (1 : BitVec 24).toNat = 1 from rfl, ringState_release_poisons] at entry
  exact absurd entry (by decide)

end Sys2Proof.Machine
end

section
/-! PROOF. The commands on the tensor home table (R273, Tables 11-3 and 11-4): how a written command runs and ends, what each
OP makes of its entry, and the result codes in the order of their checks. -/
namespace Sys2Proof.Machine

/-! ### A command is written -/

/-- The word that a function writes to TH_CMD for an OP and a handle. -/
def thCmdWord (op h : Nat) : W32 := BitVec.ofNat 32 (2 ^ 31 + op % 8 * 2 ^ 24 + h % 2 ^ 24)

/-- TH_CMD after that word has landed on an old value. -/
def thCmdLanded (old : W32) (op h : Nat) : W32 := landValue .thCmd old (thCmdWord op h)

section
variable (old : W32) (op h : Nat)

theorem thCmdLanded_eq : thCmdLanded old op h =
    setFld (setFld (setFld old 31 31 1) 26 24 (op % 8)) 23 0 (h % 2 ^ 24) := by
  have word : (thCmdWord op h).toNat = 2 ^ 31 + op % 8 * 2 ^ 24 + h % 2 ^ 24 := by
    unfold thCmdWord
    rw [BitVec.toNat_ofNat]
    omega
  have go : fld (thCmdWord op h) 31 31 = 1 := by unfold fld; rw [word]; omega
  have code : fld (thCmdWord op h) 26 24 = op % 8 := by unfold fld; rw [word]; omega
  have handle : fld (thCmdWord op h) 23 0 = h % 2 ^ 24 := by unfold fld; rw [word]; omega
  have fields : thCmdLanded old op h = setFld (setFld (setFld old 31 31 (fld (thCmdWord op h) 31 31)) 26 24
    (fld (thCmdWord op h) 26 24)) 23 0 (fld (thCmdWord op h) 23 0) := rfl
  rw [fields, go, code, handle]

theorem thCmdLanded_go : bit (thCmdLanded old op h) 31 = true := by
  rw [thCmdLanded_eq, bit_setFld _ _ _ _ _ (by omega), if_neg (by omega), bit_setFld _ _ _ _ _ (by omega), if_neg (by omega),
    bit_setFld _ _ _ _ _ (by omega), if_pos (by omega)]
  rfl

theorem thCmdLanded_op : fld (thCmdLanded old op h) 26 24 = op % 8 := by
  rw [thCmdLanded_eq, fld_setFld_other _ _ _ _ _ _ (by omega) (by omega), fld_setFld_same _ _ _ _ (by omega)]
  omega

theorem thCmdLanded_handle : fld (thCmdLanded old op h) 23 0 = h % 2 ^ 24 := by
  rw [thCmdLanded_eq, fld_setFld_same _ _ _ _ (by omega)]
  omega

end

/-- The state in which a written command runs. -/
def State.commanded (s : State) (t op h : Nat) : State := s.setReg .thCmd t (thCmdLanded (s.reg .thCmd t) op h)

/-- A command ends with its result and DONE, without GO, and with source 34 (R273, Table 18-5). -/
def State.endCmd (s : State) (t code : Nat) : State :=
  let x := s.setReg .thCmdstat t (setFld (setBit (s.reg .thCmdstat t) 31 true) 7 0 code)
  (x.setRfld .thCmd t 31 31 0).raiseTenant t 34

theorem State.write_thCmd {s : State} {f t : Nat} (h : sound s) (view : s.inView f .thCmd t = true) (v : W32) :
    s.write f .thCmd t true v = (s.setReg .thCmd t (landValue .thCmd (s.reg .thCmd t) v), true) := by
  have lands : s.writeKind f .thCmd t true v = none := rfl
  have plain : s.land .thCmd t v = (s.repair (rkey .thCmd t)).setReg .thCmd t (landValue .thCmd (s.reg .thCmd t) v) := by
    unfold State.land
    rw [State.faulty_sound h]
    rfl
  unfold State.write
  rw [view, lands, plain, State.repair_sound h]
  rfl

/-- A written command runs on the state that its word leaves, and ends there (R273). -/
theorem exec_entryCommand {c : Instr} {s z : State} {f t op h code : Nat} (served : s.served = true) (sd : sound s)
    (view : s.inView f .thCmd t = true) (small : op < 8) (fits : h < 2 ^ 24)
    (meaning : exec c s = whenServed s fun x => x.thCommand f t op h)
    (result : (s.commanded t op h).homeCmd t op h = (z, code)) (kept : z.parity = s.parity) :
    exec c s = .next (z.endCmd t code) := by
  have sd' : sound (s.commanded t op h) := (sound_congr (State.setReg_parity ..)).2 sd
  have word : (s.commanded t op h).reg .thCmd t = thCmdLanded (s.reg .thCmd t) op h := State.reg_setReg_same ..
  have written : s.write f .thCmd t true (thCmdWord op h) = (s.commanded t op h, true) := State.write_thCmd sd view _
  have runs : (s.commanded t op h).runHomeCmd t = z.endCmd t code := by
    have sdz : sound (z.setReg .thCmdstat t (setFld (setBit (z.reg .thCmdstat t) 31 true) 7 0 code)) :=
      (sound_congr (State.setReg_parity ..)).2 ((sound_congr kept).2 sd)
    unfold State.runHomeCmd
    simp only [State.useRegs_sound sd', State.held_sound sd', word, thCmdLanded_op, thCmdLanded_handle, Nat.mod_eq_of_lt small,
      Nat.mod_eq_of_lt fits, result, Bool.false_eq_true, if_false, State.hwFld_sound sdz]
    rfl
  have command : s.thCommand f t op h = (s.commanded t op h).afterThCmd t :=
    (congrArg (fun r : State × Bool => if r.2 then r.1.afterThCmd t else r.1) written :)
  rw [meaning, whenServed_up served, command, State.afterThCmd, word, thCmdLanded_go, if_pos rfl, runs]

/-! ### What a command leaves -/

/-- The command c of a function answers a state in which tenant t's command has ended with a code and the handle's entry is
e'; it is the conclusion of EntryCommandsChangeTheirEntry for one command. -/
def commandEnds (f : Fin 9) (t : Fin 8) (hb : BitVec 24) (s : State) (c : Instr) (code : Nat) (e' : HEntry) : Prop :=
  ∃ u, exec c s = .next u ∧ u.rfld .thCmdstat t 7 0 = code ∧ bit (u.reg .thCmdstat t) 31 = true ∧
    bit (u.reg .thCmd t) 31 = false ∧ u.home t hb.toNat = e' ∧
    (∀ t' h', t' < 8 → h' < 2 ^ 24 → (t', h') ≠ (t.val, hb.toNat) → u.home t' h' = s.home t' h') ∧ u.mem = s.mem ∧
    u.queues = s.queues ∧ u.cores = s.cores ∧
    sameRegs (fun r i => ((r = .thCmd ∨ r = .thCmdstat) ∧ i = t.val) ∨
      (c = .thRead f t hb ∧ code = 0 ∧ r = .thEntry ∧ i / 8 = t.val)) s u ∧
    (c = .thRead f t hb → code = 0 → u.entryImage t = s.home t hb.toNat)

section
variable (s : State) (t code : Nat)

theorem State.endCmd_eq : s.endCmd t code = ((s.setReg .thCmdstat t (setFld (setBit (s.reg .thCmdstat t) 31 true) 7 0 code)).setReg
    .thCmd t (setFld (s.reg .thCmd t) 31 31 0)).raiseTenant t 34 := by
  unfold State.endCmd
  dsimp only
  rw [State.setRfld_eq, State.reg_setReg_ne _ _ _ _ (by decide)]

theorem State.reg_endCmd (r : Reg) (i : Nat) : (s.endCmd t code).reg r i =
    if r = .thCmd ∧ i = t then setFld (s.reg .thCmd t) 31 31 0
    else if r = .thCmdstat ∧ i = t then setFld (setBit (s.reg .thCmdstat t) 31 true) 7 0 code
    else s.reg r i := by
  rw [State.endCmd_eq, State.reg_congr (State.raiseTenant_regs ..), State.reg_setReg, State.reg_setReg]

theorem State.endCmd_frame : (s.endCmd t code).mem = s.mem ∧ (s.endCmd t code).queues = s.queues ∧
    (s.endCmd t code).cores = s.cores ∧ (s.endCmd t code).homes = s.homes := by
  rw [State.endCmd_eq]
  simp

end

theorem commandEnds_of {f : Fin 9} {t : Fin 8} {hb : BitVec 24} {s z : State} {c : Instr} {code : Nat} {e' : HEntry}
    (run : exec c s = .next (z.endCmd t code)) (small : code < 256) (home : z.home t hb.toNat = e')
    (others : ∀ t' h', t' < 8 → h' < 2 ^ 24 → (t', h') ≠ (t.val, hb.toNat) → z.home t' h' = s.home t' h')
    (frame : z.mem = s.mem ∧ z.queues = s.queues ∧ z.cores = s.cores)
    (regs : sameRegs (fun r i => (r = .thCmd ∧ i = t.val) ∨ (c = .thRead f t hb ∧ code = 0 ∧ r = .thEntry ∧ i / 8 = t.val)) s z)
    (image : c = .thRead f t hb → code = 0 → z.entryImage t = s.home t hb.toNat) :
    commandEnds f t hb s c code e' := by
  obtain ⟨mem, queues, cores, homes⟩ := z.endCmd_frame t code
  obtain ⟨mem', queues', cores'⟩ := frame
  have home' (a b : Nat) : (z.endCmd t code).home a b = z.home a b := congrArg (mget HEntry.free · (hkey a b)) homes
  have status : (z.endCmd t code).reg .thCmdstat t = setFld (setBit (z.reg .thCmdstat t) 31 true) 7 0 code := by
    rw [State.reg_endCmd, if_neg (by simp), if_pos ⟨rfl, rfl⟩]
  have entry (i : Nat) : (z.endCmd t code).reg .thEntry i = z.reg .thEntry i := by
    rw [State.reg_endCmd, if_neg (by simp), if_neg (by simp)]
  refine ⟨_, run, ?_, ?_, ?_, (home' ..).trans home, fun a b ha hb' hn => (home' a b).trans (others a b ha hb' hn), mem.trans mem',
    queues.trans queues', cores.trans cores', fun r i hr => ?_, fun hc h0 => ?_⟩
  · unfold State.rfld
    rw [status, fld_setFld_same _ _ _ _ (by omega)]
    exact Nat.mod_eq_of_lt small
  · rw [status, bit_setFld _ _ _ _ _ (by omega), if_neg (by omega)]
    unfold setBit
    rw [bit_setFld _ _ _ _ _ (by omega), if_pos (by omega)]
    rfl
  · rw [State.reg_endCmd, if_pos ⟨rfl, rfl⟩, bit_setFld _ _ _ _ _ (by omega), if_pos (by omega)]
    rfl
  · rw [State.reg_endCmd, if_neg fun e => hr (.inl ⟨.inl e.1, e.2⟩), if_neg fun e => hr (.inl ⟨.inr e.1, e.2⟩)]
    exact regs r i fun e => hr (e.imp (fun e => ⟨.inl e.1, e.2⟩) id)
  · unfold State.entryImage
    simp only [entry]
    exact image hc h0

/-! ### CREATE, DESTROY, CLEAR and REHOME -/

/-! What Tables 11-3 and 11-4 say of CREATE (1), DESTROY (2), CLEAR (4), and REHOME for another OP. -/

/-- The command runs on an entry in its present state. -/
def opState (op : Nat) (e : HEntry) : Bool :=
  match op with
  | 1 => decide (e.st = stFree)
  | 2 => !decide (e.st = stMoving)
  | 4 => decide (e.st = stUnwritten) || decide (e.st = stValid) || decide (e.st = stVoid) || decide (e.st = stPoisoned)
  | _ => decide (e.st = stUnwritten) || decide (e.st = stVoid)

/-- An image suits an entry that REHOME changes. -/
def rehomes (e im : HEntry) : Bool :=
  decide (im.fmt = e.fmt) && decide (im.layout = e.layout) && decide (im.bform = e.bform) && !im.packed

/-- The image that the command takes, and whether it suits the command. -/
def opImage (op : Nat) (e im : HEntry) : Option (HEntry × Bool) :=
  match op with
  | 1 => some (im, !im.packed)
  | 2 => none
  | 4 => none
  | _ => some (im, rehomes e im)

/-- The entry that the command makes. -/
def opEntry (op : Nat) (e im : HEntry) : HEntry :=
  match op with
  | 1 => (im.withSt stUnwritten).withGen (e.gen + 1)
  | 2 => (e.withSt stFree).nextGen
  | 4 => ((e.withSt stUnwritten).withPacked false).nextGen
  | _ => rehomed e im

/-- The result of the command. -/
def State.opResult (s : State) (t op h : Nat) : Nat :=
  s.cmdCheck t h (opState op (s.home t h)) (opImage op (s.home t h) (s.entryImage t))

theorem State.homeCmd_eq (s : State) {t op h : Nat} (hop : op = 1 ∨ op = 2 ∨ op = 4 ∨ op = 5) : s.homeCmd t op h =
    if s.opResult t op h = 0 then (s.setHome t h (opEntry op (s.home t h) (s.entryImage t)), 0)
    else (s, s.opResult t op h) := by
  rcases hop with rfl | rfl | rfl | rfl <;> rfl

theorem opState_moving {op : Nat} (hop : op = 1 ∨ op = 2 ∨ op = 4 ∨ op = 5) {e : HEntry} (moving : e.st = stMoving) :
    opState op e = false := by
  rcases hop with rfl | rfl | rfl | rfl <;> simp [opState, moving, stFree, stUnwritten, stValid, stMoving, stVoid, stPoisoned]

section
variable {e im : HEntry}

theorem opState_create (free : e.st = stFree) : opState 1 e = true := decide_eq_true free

theorem opState_create_taken (taken : e.st ≠ stFree) : opState 1 e = false := decide_eq_false taken

theorem opState_destroy (still : e.st ≠ stMoving) : opState 2 e = true := by simp [opState, still]

theorem opState_clear (held : e.st = stUnwritten ∨ e.st = stValid ∨ e.st = stVoid ∨ e.st = stPoisoned) : opState 4 e = true := by
  simpa [opState, or_assoc] using held

theorem opState_clear_free (free : e.st = stFree) : opState 4 e = false := by
  simp [opState, free, stFree, stUnwritten, stValid, stVoid, stPoisoned]

theorem opState_rehome (empty : e.st = stUnwritten ∨ e.st = stVoid) : opState 5 e = true := by simpa [opState] using empty

theorem opState_rehome_not (unwritten : e.st ≠ stUnwritten) (void : e.st ≠ stVoid) : opState 5 e = false := by
  simp [opState, unwritten, void]

theorem rehomes_iff : rehomes e im = true ↔ im.fmt = e.fmt ∧ im.layout = e.layout ∧ im.bform = e.bform ∧ im.packed = false := by
  simp [rehomes, and_assoc]

/-- REHOME refuses an image that is packed or fails its form, or of another format or layout (R273). -/
theorem rehomes_or_imageOk_false (bad : im.packed = true ∨ im.imageOk = false ∨ im.fmt ≠ e.fmt ∨ im.layout ≠ e.layout ∨
    im.bform ≠ e.bform) : rehomes e im = false ∨ im.imageOk = false := by
  refine or_iff_not_imp_left.2 fun suits => ?_
  obtain ⟨fmt, layout, bform, unpacked⟩ := rehomes_iff.1 (Bool.eq_true_of_not_eq_false suits)
  simpa [fmt, layout, bform, unpacked] using bad

end

section
variable (s : State) (t op h : Nat)

theorem State.commanded_home (a b : Nat) : (s.commanded t op h).home a b = s.home a b := rfl

theorem State.commanded_reg {r : Reg} (hr : r ≠ .thCmd) (i : Nat) : (s.commanded t op h).reg r i = s.reg r i :=
  s.reg_setReg_ne t i _ hr

theorem State.commanded_image : (s.commanded t op h).entryImage t = s.entryImage t := by
  unfold State.entryImage
  simp only [s.commanded_reg t op h (r := .thEntry) (by decide)]

theorem State.commanded_handleOk : (s.commanded t op h).handleOk t h = s.handleOk t h := by
  unfold State.handleOk State.thSize State.rfld
  rw [s.commanded_reg t op h (by decide)]

theorem State.commanded_check (ok : Bool) (image : Option (HEntry × Bool)) :
    (s.commanded t op h).cmdCheck t h ok image = s.cmdCheck t h ok image := by
  unfold State.cmdCheck
  rw [State.commanded_handleOk]
  rfl

theorem State.commanded_result : (s.commanded t op h).opResult t op h = s.opResult t op h := by
  unfold State.opResult
  rw [State.commanded_check, State.commanded_home, State.commanded_image]

end

theorem hkey_inj {t t' h h' : Nat} (hh : h < 2 ^ 24) (hh' : h' < 2 ^ 24) (e : hkey t h = hkey t' h') : t = t' ∧ h = h' := by
  unfold hkey at e
  omega

theorem State.home_setHome_other (s : State) {t t' h h' : Nat} (e : HEntry) (hh : h < 2 ^ 24) (hh' : h' < 2 ^ 24)
    (hn : (t', h') ≠ (t, h)) : (s.setHome t h e).home t' h' = s.home t' h' :=
  mget_mset_other _ _ _ fun same => hn (Prod.ext_iff.2 (hkey_inj hh' hh same))

section
variable {f : Fin 9} {t : Fin 8} {hb : BitVec 24} {s : State} (served : s.served = true) (sd : sound s)
  (view : s.inView f .thCmd t = true) {c : Instr} {op : Nat}
  (meaning : exec c s = whenServed s fun x => x.thCommand f t op hb.toNat)
include served sd view meaning

/-- A command that changes nothing beside its own registers. -/
theorem commandEnds_same (small : op < 8) {code : Nat} (cause : c = .thRead f t hb → code ≠ 0) (byte : code < 256)
    (result : (s.commanded t op hb.toNat).homeCmd t op hb.toNat = (s.commanded t op hb.toNat, code)) :
    commandEnds f t hb s c code (s.home t hb.toNat) :=
  commandEnds_of (exec_entryCommand served sd view small hb.isLt meaning result rfl) byte rfl (fun _ _ _ _ _ => rfl)
    ⟨rfl, rfl, rfl⟩ (fun _ _ hr => s.reg_setReg_other _ fun e => hr (.inl e)) fun hc h0 => absurd h0 (cause hc)

variable (hop : op = 1 ∨ op = 2 ∨ op = 4 ∨ op = 5) (write : c ≠ .thRead f t hb)
include hop write

theorem commandEnds_refused {code : Nat} (result : s.opResult t op hb.toNat = code) (nonzero : code ≠ 0) (byte : code < 256) :
    commandEnds f t hb s c code (s.home t hb.toNat) := by
  refine commandEnds_same served sd view meaning (by omega) (fun hc => absurd hc write) byte ?_
  rw [State.homeCmd_eq _ hop, State.commanded_result, result, if_neg nonzero]

theorem commandEnds_done (result : s.opResult t op hb.toNat = 0) :
    commandEnds f t hb s c 0 (opEntry op (s.home t hb.toNat) (s.entryImage t)) := by
  have makes : (s.commanded t op hb.toNat).homeCmd t op hb.toNat =
      ((s.commanded t op hb.toNat).setHome t hb.toNat (opEntry op (s.home t hb.toNat) (s.entryImage t)), 0) := by
    rw [State.homeCmd_eq _ hop, State.commanded_result, result, if_pos rfl, State.commanded_home, State.commanded_image]
  exact commandEnds_of (exec_entryCommand served sd view (by omega) hb.isLt meaning makes rfl) (by omega)
    (State.home_setHome_same ..) (fun _ _ _ hh' hn => State.home_setHome_other _ _ hb.isLt hh' hn) ⟨rfl, rfl, rfl⟩
    (fun _ _ hr => s.reg_setReg_other _ fun e => hr (.inl e)) fun hc _ => absurd hc write

end

/-! ### READ -/

theorem sound_setReg {s : State} (r : Reg) (i : Nat) (v : W32) : sound (s.setReg r i v) ↔ sound s :=
  sound_congr (State.setReg_parity ..)

theorem State.putImage_sound {s : State} (h : sound s) (t : Nat) (e : HEntry) : s.putImage t e =
    ((((((((s.setReg .thEntry (8 * t + 0) e.w0).setReg .thEntry (8 * t + 1) e.w1).setReg .thEntry (8 * t + 2) e.w2).setReg
      .thEntry (8 * t + 3) e.w3).setReg .thEntry (8 * t + 4) e.w4).setReg .thEntry (8 * t + 5) e.w5).setReg
      .thEntry (8 * t + 6) e.w6).setReg .thEntry (8 * t + 7) e.w7) := by
  unfold State.putImage
  simp only [State.hwSet_sound, sound_setReg, h]

section
variable {s : State} (sd : sound s) (t : Nat) (e : HEntry)
include sd

theorem State.putImage_frame : (s.putImage t e).parity = s.parity ∧ (s.putImage t e).mem = s.mem ∧
    (s.putImage t e).queues = s.queues ∧ (s.putImage t e).cores = s.cores ∧ (s.putImage t e).homes = s.homes := by
  rw [State.putImage_sound sd]
  simp

theorem State.putImage_image : (s.putImage t e).entryImage t = e := by
  rw [State.putImage_sound sd]
  simp [State.entryImage, State.reg_setReg]

theorem State.putImage_sameRegs : sameRegs (fun r i => r = .thEntry ∧ i / 8 = t) s (s.putImage t e) := by
  intro r i hr
  have other (x : State) (j : Nat) (v : W32) (hj : j < 8) : (x.setReg .thEntry (8 * t + j) v).reg r i = x.reg r i :=
    x.reg_setReg_other v fun e => hr ⟨e.1, by omega⟩
  rw [State.putImage_sound sd, other _ 7 _ (by omega), other _ 6 _ (by omega), other _ 5 _ (by omega), other _ 4 _ (by omega),
    other _ 3 _ (by omega), other _ 2 _ (by omega), other _ 1 _ (by omega), other _ 0 _ (by omega)]

end

theorem commandEnds_read {f : Fin 9} {t : Fin 8} {hb : BitVec 24} {s : State} (served : s.served = true) (sd : sound s)
    (view : s.inView f .thCmd t = true) (ok : s.handleOk t hb.toNat = true) :
    commandEnds f t hb s (.thRead f t hb) 0 (s.home t hb.toNat) := by
  have sd' : sound (s.commanded t 3 hb.toNat) := (sound_congr (State.setReg_parity ..)).2 sd
  obtain ⟨parity, mem, queues, cores, homes⟩ := State.putImage_frame sd' t (s.home t hb.toNat)
  have home (a b : Nat) : ((s.commanded t 3 hb.toNat).putImage t (s.home t hb.toNat)).home a b = s.home a b :=
    congrArg (mget HEntry.free · (hkey a b)) homes
  have result : (s.commanded t 3 hb.toNat).homeCmd t 3 hb.toNat =
      ((s.commanded t 3 hb.toNat).putImage t (s.home t hb.toNat), 0) :=
    if_pos ((s.commanded_handleOk t 3 hb.toNat).trans ok)
  refine commandEnds_of (exec_entryCommand served sd view (by omega) hb.isLt rfl result parity) (by omega) (home ..)
    (fun a b _ _ _ => home a b) ⟨mem, queues, cores⟩ (fun r i hr => ?_) fun _ _ => State.putImage_image sd' ..
  rw [State.putImage_sameRegs sd' t _ r i fun e => hr (.inr ⟨rfl, rfl, e.1, e.2⟩)]
  exact s.reg_setReg_other _ fun e => hr (.inl e)

/-! ### The checks in their order -/

section
variable {s : State} {t h : Nat} {ok : Bool}

theorem State.cmdCheck_badHandle (bad : s.handleOk t h = false) (image : Option (HEntry × Bool)) : s.cmdCheck t h ok image = 3 := by
  unfold State.cmdCheck
  simp [bad]

variable (good : s.handleOk t h = true)
include good

theorem State.cmdCheck_busy (busy : (s.home t h).st = stMoving ∨ s.filling t h = true)
    (moving : (s.home t h).st = stMoving → ok = false) (image : Option (HEntry × Bool)) : s.cmdCheck t h ok image = 1 := by
  unfold State.cmdCheck
  rcases busy with hm | hf
  · simp [good, hm, moving hm]
  · cases ok <;> simp [good, hf]

variable (idle : ¬ ((s.home t h).st = stMoving ∨ s.filling t h = true))
include idle

theorem State.cmdCheck_state (image : Option (HEntry × Bool)) (wrong : ok = false) : s.cmdCheck t h ok image = 2 := by
  obtain ⟨still, unfilled⟩ := not_or.1 idle
  unfold State.cmdCheck
  simp [good, wrong, still, unfilled]

theorem State.cmdCheck_entry (right : ok = true) : s.cmdCheck t h ok none = 0 := by
  obtain ⟨-, unfilled⟩ := not_or.1 idle
  unfold State.cmdCheck
  simp [good, right, unfilled]

section
variable (right : ok = true) {im : HEntry} {suits : Bool}
include right

theorem State.cmdCheck_badImage (bad : suits = false ∨ im.imageOk = false) : s.cmdCheck t h ok (some (im, suits)) = 4 := by
  obtain ⟨-, unfilled⟩ := not_or.1 idle
  unfold State.cmdCheck
  rcases bad with hs | hi
  · simp [good, right, unfilled, hs]
  · simp [good, right, unfilled, hi]

theorem State.cmdCheck_goodImage (suited : suits = true) (passes : im.imageOk = true) :
    s.cmdCheck t h ok (some (im, suits)) = if s.homeOk t im = false then 5 else 0 := by
  obtain ⟨-, unfilled⟩ := not_or.1 idle
  unfold State.cmdCheck
  simp [good, right, unfilled, suited, passes]

end

end

/-! ### The obligation -/

/-- Settles O49: every command by its result, the first check that fails, and READ by its own rule. -/
theorem entryCommandsChangeTheirEntry : Obligations.EntryCommandsChangeTheirEntry := by
  intro f t hb s served sd view h e im busy ends
  have refused {c : Instr} {op code : Nat} (meaning : exec c s = whenServed s fun x => x.thCommand f t op hb.toNat)
      (hop : op = 1 ∨ op = 2 ∨ op = 4 ∨ op = 5) (write : c ≠ .thRead f t hb) (result : s.opResult t op h = code)
      (nonzero : code ≠ 0) (byte : code < 256) : ends c code e :=
    commandEnds_refused served sd view meaning hop write result nonzero byte
  have done {c : Instr} {op : Nat} (meaning : exec c s = whenServed s fun x => x.thCommand f t op hb.toNat)
      (hop : op = 1 ∨ op = 2 ∨ op = 4 ∨ op = 5) (write : c ≠ .thRead f t hb) (result : s.opResult t op h = 0) :
      ends c 0 (opEntry op e im) :=
    commandEnds_done served sd view meaning hop write result
  refine ⟨fun bad => ?badHandle, fun good => ⟨commandEnds_read served sd view good, fun hbusy => ?busy, fun idle => ?idle⟩,
    fun op => ?unknown⟩
  case badHandle =>
    have three {op : Nat} : s.opResult t op h = 3 := State.cmdCheck_badHandle bad _
    rintro c (rfl | rfl | rfl | rfl | rfl)
    · exact refused (op := 1) rfl (by omega) nofun three (by omega) (by omega)
    · exact refused (op := 2) rfl (by omega) nofun three (by omega) (by omega)
    · refine commandEnds_same served sd view (op := 3) rfl (by omega) (fun _ => by omega) (by omega) (if_neg ?_)
      rw [State.commanded_handleOk, bad]
      exact Bool.false_ne_true
    · exact refused (op := 4) rfl (by omega) nofun three (by omega) (by omega)
    · exact refused (op := 5) rfl (by omega) nofun three (by omega) (by omega)
  case busy =>
    have one {op : Nat} (hop : op = 1 ∨ op = 2 ∨ op = 4 ∨ op = 5) : s.opResult t op h = 1 :=
      State.cmdCheck_busy good hbusy (opState_moving hop) _
    rintro c (rfl | rfl | rfl | rfl)
    · exact refused (op := 1) rfl (by omega) nofun (one (by omega)) (by omega) (by omega)
    · exact refused (op := 2) rfl (by omega) nofun (one (by omega)) (by omega) (by omega)
    · exact refused (op := 4) rfl (by omega) nofun (one (by omega)) (by omega) (by omega)
    · exact refused (op := 5) rfl (by omega) nofun (one (by omega)) (by omega) (by omega)
  case idle =>
    have two {op : Nat} (wrong : opState op e = false) : s.opResult t op h = 2 := State.cmdCheck_state good idle _ wrong
    have create {code : Nat} (result : s.opResult t 1 h = code) (nonzero : code ≠ 0) (byte : code < 256) :
        ends (.create f t hb) code e := refused (op := 1) rfl (by omega) nofun result nonzero byte
    have rehome {code : Nat} (result : s.opResult t 5 h = code) (nonzero : code ≠ 0) (byte : code < 256) :
        ends (.rehome f t hb) code e := refused (op := 5) rfl (by omega) nofun result nonzero byte
    refine ⟨done (op := 2) rfl (by omega) nofun (State.cmdCheck_entry good idle (opState_destroy (not_or.1 idle).1)),
      fun taken => create (two (opState_create_taken taken)) (by omega) (by omega), fun free bad => ?_,
      fun free unpacked passes out => ?_, fun free unpacked passes inside => ?_,
      fun held => done (op := 4) rfl (by omega) nofun (State.cmdCheck_entry good idle (opState_clear held)),
      fun free => refused (op := 4) rfl (by omega) nofun (two (opState_clear_free free)) (by omega) (by omega),
      fun unwritten void => rehome (two (opState_rehome_not unwritten void)) (by omega) (by omega),
      fun empty => ⟨fun bad => ?_, fun unpacked passes fmt layout bform => ?_⟩⟩
    · exact create (State.cmdCheck_badImage good idle (opState_create free) (bad.imp (fun p => by rw [p]; rfl) id)) (by omega)
        (by omega)
    · have result := State.cmdCheck_goodImage good idle (opState_create free) (suits := !im.packed) (by rw [unpacked]; rfl) passes
      exact create (result.trans (if_pos out)) (by omega) (by omega)
    · have result := State.cmdCheck_goodImage good idle (opState_create free) (suits := !im.packed) (by rw [unpacked]; rfl) passes
      exact done (op := 1) rfl (by omega) nofun (result.trans (if_neg (by rw [inside]; nofun)))
    · exact rehome (State.cmdCheck_badImage good idle (opState_rehome empty) (rehomes_or_imageOk_false bad)) (by omega) (by omega)
    · have result := State.cmdCheck_goodImage good idle (opState_rehome empty) (rehomes_iff.2 ⟨fmt, layout, bform, unpacked⟩) passes
      exact ⟨fun out => rehome (result.trans (if_pos out)) (by omega) (by omega),
        fun inside => done (op := 5) rfl (by omega) nofun (result.trans (if_neg (by rw [inside]; nofun)))⟩
  case unknown =>
    refine ⟨fun hop => ?_, fun h1 => h1 ▸ rfl, fun h2 => h2 ▸ rfl, fun h3 => h3 ▸ rfl, fun h4 => h4 ▸ rfl, fun h5 => h5 ▸ rfl⟩
    refine commandEnds_same served sd view (op := op.toNat) rfl op.isLt nofun (by omega) ?_
    rcases hop with rfl | rfl | rfl <;> rfl

end Sys2Proof.Machine
end

section
/-! PROOF. The services of the security processor and LOG_READ (R307, R461, R490, R492, R523): what a service that its
mailbox asks for does, and that a written boot record is the current one. -/
namespace Sys2Proof.Machine

/-! ### Host memory and boot records -/

theorem State.writeHost_mastered {s : State} {f : Nat} (h : mget false s.host.busMaster f = true) (addr : Nat)
    (bytes : List Byte) : s.writeHost f addr bytes = { s with sent := .hostWrite f addr bytes :: s.sent } := by
  unfold State.writeHost
  rw [if_pos h]
  rfl

/-- The record that is put into the sector not in use is the current one, while SEQ does not wrap (R488). -/
theorem Flash.current_putBoot {f : Flash} (h : f.current.seq + 1 < 2 ^ 32) (r : BootRec) :
    (f.putBoot r).current = { r with seq := f.current.seq + 1 } := by
  have seq : (f.current.seq + 1) % 2 ^ 32 = f.current.seq + 1 := Nat.mod_eq_of_lt h
  have second : (f.putBoot r).inSecond = !f.inSecond := by
    unfold Flash.putBoot
    rw [seq]
    unfold Flash.current Flash.inSecond
    rcases f.rec0 with _ | a <;> rcases f.rec1 with _ | b
    · rfl
    · simp
    · simp
    · by_cases lt : a.seq < b.seq <;> simp [lt]
  rw [Flash.current, second]
  unfold Flash.putBoot
  rw [seq]
  cases f.inSecond <;> rfl

/-! ### Security associations -/

/-- No association without `a` is `a`. -/
theorem State.sasWithout_ne (s : State) (a : Nat × Nat × Nat) : ∀ x ∈ s.sasWithout a, (x.1, x.2.1, x.2.2.1) ≠ a := by
  rintro x hx rfl
  simp [State.sasWithout] at hx

theorem State.secure_asked {s : State} {m code : Nat} (asked : s.asked m code = true) (f : List W32 → State) :
    s.secure m code f = f (s.svc m).body := by
  unfold State.secure
  rw [if_pos asked]

section
variable {s : State} {m : Fin 64} {b : List W32} (body : (s.svc m).body = b)
include body

/-- SAK_INSTALL of a body of the right form. -/
theorem exec_sakInstall (up : s.up = true) (asked : s.asked m 0x81 = true) (len : b.length = 17) (ok : saOk b = true)
    (unwraps : Bool) : exec (.sakInstall m unwraps) s = .next (if unwraps then
      if s.saInUse (saOf b) then s.endSvc m 2 else (s.putSa (saOf b) (b.drop 3)).endSvc m 0 else s.endSvc m 0x0103) := by
  refine (whenUp_up up fun x => x.secure m 0x81 fun b => x.sakInstall m unwraps b).trans ?_
  rw [State.secure_asked asked, body]
  unfold State.sakInstall
  cases unwraps <;> simp [len, ok]

/-- SAK_RETIRE of a body of the right form. -/
theorem exec_sakRetire (up : s.up = true) (asked : s.asked m 0x82 = true) (len : b.length = 3) (ok : saOk b = true) :
    exec (.sakRetire m) s =
      .next (if s.saInUse (saOf b) then s.endSvc m 2 else (s.dropSa (saOf b)).endSvc m 0) := by
  refine (whenUp_up up fun x => x.secure m 0x82 fun b => x.sakRetire m b).trans ?_
  rw [State.secure_asked asked, body]
  unfold State.sakRetire
  simp [len, ok]

/-! ### Logs and fuses -/

theorem exec_logRead (up : s.up = true) (asked : s.asked m 0x0B = true) (func : (s.svc m).func = 0) (len : b.length = 5)
    (area : (wordAt b 0).toNat ≤ 1) (least : 0 < (wordAt b 2).toNat) (most : (wordAt b 2).toNat ≤ 4096)
    (master : mget false s.host.busMaster 0 = true) :
    let l := s.logFrom (wordAt b 0).toNat (wordAt b 1).toNat (wordAt b 2).toNat
    exec (.logRead m) s = .next (({ s with
      sent := .hostWrite 0 (addr64 b 3) (leBytes 4 l.length ++ leBytes 4 0 ++ l.flatMap LogRec.bytes) :: s.sent } : State).endSvc
        m 0) := by
  refine (whenUp_up up fun x => x.secure m 0x0B fun b => x.logRead m b).trans ?_
  rw [State.secure_asked asked, body]
  unfold State.logRead
  have bad : ¬ (b.length ≠ 5 ∨ 1 < (wordAt b 0).toNat ∨ (wordAt b 2).toNat = 0 ∨ 4096 < (wordAt b 2).toNat) := by omega
  simp only [func, bad, State.writeHost_mastered master, ne_eq, not_true_eq_false, if_false]

theorem exec_fuseRead (served : s.served = true) (asked : s.asked m 0x84 = true) (len : b.length = 2)
    (master : mget false s.host.busMaster 0 = true) : exec (.fuseRead m) s = .next (({ s with
      sent := .hostWrite 0 (addr64 b 0) (leBytes 8 s.flash.fuses.serial ++ leBytes 4 (s.rfld .hubId 0 15 8) ++
        leBytes 4 s.flash.fuses.rollback ++ List.replicate 240 0) :: s.sent } : State).endSvc m 0) := by
  refine (whenServed_up served fun x => x.secure m 0x84 fun b => x.fuseRead m b).trans ?_
  rw [State.secure_asked asked, body]
  unfold State.fuseRead
  simp only [len, State.writeHost_mastered master, ne_eq, not_true_eq_false, if_false]

end

theorem State.logFrom_length (s : State) (area first count : Nat) : (s.logFrom area first count).length ≤ count :=
  List.length_take_le _ _

/-! ### A staged image -/

/-- The flash whose copy not in use is the staged image. -/
def State.stagedFlash (s : State) (img : Image) : Flash :=
  if s.power.copyB then { s.flash with copyA := some img } else { s.flash with copyB := some img }

/-- An image that fails a check of R492 is in the copy not in use, and both boot records stay; one that passes is also
preferred, on trial (R490). -/
theorem exec_imageStage {s : State} {m : Fin 64} (served : s.served = true) (asked : s.asked m 0x83 = true) (img : Image) :
    exec (.imageStage m img) s = .next (if (imageReason s.flash.fuses true false (some img)).1 = 0
      then (({ s with flash := s.stagedFlash img } : State).writeBoot fun r =>
        { r with pref := !s.power.copyB, trial := true, tries := 0 }).endSvc m 0
      else ({ s with flash := s.stagedFlash img } : State).endSvc m 3) := by
  refine (whenServed_up served fun x => x.secure m 0x83 fun _ => x.imageStage m img).trans ?_
  rw [State.secure_asked asked]
  unfold State.imageStage State.stagedFlash
  rw [ite_not]
  cases s.power.copyB <;> rfl

theorem State.stagedFlash_copies (s : State) (img : Image) :
    if s.power.copyB then (s.stagedFlash img).copyA = some img ∧ (s.stagedFlash img).copyB = s.flash.copyB
    else (s.stagedFlash img).copyB = some img ∧ (s.stagedFlash img).copyA = s.flash.copyA := by
  unfold State.stagedFlash
  cases s.power.copyB <;> exact ⟨rfl, rfl⟩

/-- Staging leaves the boot records alone. -/
theorem State.stagedFlash_records (s : State) (img : Image) : (s.stagedFlash img).rec0 = s.flash.rec0 ∧
    (s.stagedFlash img).rec1 = s.flash.rec1 ∧ (s.stagedFlash img).current = s.flash.current := by
  unfold State.stagedFlash
  cases s.power.copyB <;> exact ⟨rfl, rfl, rfl⟩

/-- A boot record leaves the copies alone. -/
theorem Flash.putBoot_copies (f : Flash) (r : BootRec) :
    (f.putBoot r).copyA = f.copyA ∧ (f.putBoot r).copyB = f.copyB := by
  unfold Flash.putBoot
  cases f.inSecond <;> exact ⟨rfl, rfl⟩

/-- Settles O31: every service by its equation, and the staged image's record by what it leaves current. -/
theorem secureServices : Obligations.SecureServices := by
  refine ⟨fun m s up => ⟨?install, ?retire, ?log⟩, fun m s served => ⟨?stage, ?fuses⟩⟩
  case install =>
    intro asked len ok
    have run := exec_sakInstall rfl up asked len ok
    exact ⟨fun free => by rw [run, free]; rfl, fun used => by rw [run, used]; rfl, run false⟩
  case retire =>
    intro asked len ok
    have run := exec_sakRetire rfl up asked len ok
    exact ⟨fun used => by rw [run, used]; rfl, fun free => ⟨by rw [run, free]; rfl, s.sasWithout_ne _⟩⟩
  case log =>
    intro asked func len area least most master
    exact ⟨exec_logRead rfl up asked func len area least most master, s.logFrom_length _ _ _⟩
  case fuses => exact fun asked len master => exec_fuseRead rfl served asked len master
  case stage =>
    intro asked img
    have copies := s.stagedFlash_copies img
    obtain ⟨rec0, rec1, current⟩ := s.stagedFlash_records img
    refine ⟨_, exec_imageStage served asked img, ?_⟩
    split
    case isTrue =>
      obtain ⟨keepA, keepB⟩ := (s.stagedFlash img).putBoot_copies
        { (s.stagedFlash img).current with pref := !s.power.copyB, trial := true, tries := 0 }
      rw [State.endSvc_mem, State.endSvc_regs, State.endSvc_homes, State.endSvc_flash, State.svc_endSvc]
      refine ⟨rfl, rfl, rfl, ?_, rfl, fun bound => ?_⟩
      · unfold State.writeBoot
        rw [keepA, keepB]
        exact copies
      · have now := Flash.current_putBoot (current.symm ▸ bound)
          { (s.stagedFlash img).current with pref := !s.power.copyB, trial := true, tries := 0 }
        unfold State.writeBoot
        rw [now]
        exact ⟨rfl, rfl, rfl⟩
    case isFalse =>
      rw [State.endSvc_mem, State.endSvc_regs, State.endSvc_homes, State.endSvc_flash, State.svc_endSvc]
      exact ⟨rfl, rfl, rfl, copies, rfl, rec0, rec1⟩

end Sys2Proof.Machine
end

section
/-! PROOF. A frame goes on the wire under port injection (R314, Table 12-3): what it may change, and what becomes of the
frame. -/
namespace Sys2Proof.Machine

@[simp] theorem State.port_modPort_same (s : State) (p : Nat) (g : Port → Port) : (s.modPort p g).port p = g (s.port p) :=
  s.port_setPort_same p _

@[simp] theorem State.port_emit (s : State) (e : Emit) (q : Nat) : (s.emit e).port q = s.port q := rfl

@[simp] theorem State.reg_modPort (s : State) (p : Nat) (g : Port → Port) (r : Reg) (i : Nat) :
    (s.modPort p g).reg r i = s.reg r i := rfl

@[simp] theorem State.port_setReg (s : State) (r : Reg) (i : Nat) (v : W32) (q : Nat) : (s.setReg r i v).port q = s.port q := rfl

theorem State.port_modPort_other (s : State) {p q : Nat} (g : Port → Port) (h : q ≠ p) :
    (s.modPort p g).port q = s.port q := s.port_setPort_other _ h

/-- A port whose change keeps some of it keeps it at every port. -/
theorem State.port_modPort_keeps {P : Port → Port → Prop} (refl : ∀ x, P x x) (s : State) (p : Nat) {g : Port → Port}
    (keeps : ∀ x, P x (g x)) (q : Nat) : P (s.port q) ((s.modPort p g).port q) := by
  by_cases h : q = p
  · subst h
    rw [State.port_modPort_same]
    exact keeps _
  · rw [s.port_modPort_other g h]
    exact refl _

theorem sameRegs.mono {P Q : Reg → Nat → Prop} {s t : State} (h : sameRegs P s t) (sub : ∀ r i, P r i → Q r i) :
    sameRegs Q s t := fun r i hr => h r i fun e => hr (sub r i e)

theorem sameRegs.of_regs {P : Reg → Nat → Prop} {s t : State} (h : t.regs = s.regs) : sameRegs P s t :=
  fun r i _ => State.reg_congr h r i

theorem sameRegs_setReg {P : Reg → Nat → Prop} (s : State) {r : Reg} {i : Nat} (h : P r i) (v : W32) :
    sameRegs P s (s.setReg r i v) := fun r' i' hr =>
  s.reg_setReg_other v fun e => hr (by rw [e.1, e.2]; exact h)

/-! ### What sending may change -/

/-- The ports' injection state and held frames, PORT_FINJCNT of one port, and what leaves: nothing that left is taken
back. -/
structure State.Wired (p : Nat) (s u : State) : Prop where
  frame : u = { s with ports := u.ports, regs := u.regs, sent := u.sent }
  regs : sameRegs (fun r i => r = .portFinjcnt ∧ i = p) s u
  port : ∀ q, u.port q = { s.port q with injNo := (u.port q).injNo, held := (u.port q).held }
  sent : ∀ e ∈ s.sent, e ∈ u.sent

namespace State.Wired

theorem refl (p : Nat) (s : State) : s.Wired p s := ⟨rfl, fun _ _ _ => rfl, fun _ => rfl, fun _ h => h⟩

theorem trans {p : Nat} {s t u : State} (h1 : s.Wired p t) (h2 : t.Wired p u) : s.Wired p u where
  frame := by rw [h2.frame, h1.frame]
  regs := h1.regs.trans h2.regs fun _ _ e => e
  port q := by rw [h2.port q, h1.port q]
  sent e h := h2.sent e (h1.sent e h)

theorem emit (p : Nat) (s : State) (e : Emit) : s.Wired p (s.emit e) :=
  ⟨rfl, fun _ _ _ => rfl, fun _ => rfl, fun _ h => List.mem_cons_of_mem _ h⟩

theorem modPort (p : Nat) (s : State) (q : Nat) {g : Port → Port}
    (keeps : ∀ x, g x = { x with injNo := (g x).injNo, held := (g x).held }) : s.Wired p (s.modPort q g) :=
  ⟨rfl, fun _ _ _ => rfl, s.port_modPort_keeps
    (P := fun x y => y = { x with injNo := y.injNo, held := y.held }) (fun _ => rfl) q keeps, fun _ h => h⟩

theorem count (p : Nat) (s : State) : s.Wired p (s.countWrap .portFinjcnt p 1) :=
  ⟨rfl, sameRegs_setReg s ⟨rfl, rfl⟩ _, fun _ => rfl, fun _ h => h⟩

theorem afterFrame (p : Nat) (s : State) (pcp : Nat) : s.Wired p (s.afterFrame p pcp) := by
  unfold State.afterFrame
  split
  · exact (modPort p s p fun _ => rfl).trans (emit ..)
  · exact refl p s

end State.Wired

theorem State.afterFrame_none {s : State} {p : Nat} (h : (s.port p).held = []) (pcp : Nat) : s.afterFrame p pcp = s := by
  unfold State.afterFrame
  rw [h]
  rfl

/-! ### What becomes of the frame -/

/-- Port injection looks at the frames of the priority (Table 12-3). -/
def State.injects (s : State) (p pcp : Nat) : Prop :=
  bit (s.reg .portFinj p) 31 = true ∧ fld (s.reg .portFinj p) 23 16 / 2 ^ pcp % 2 = 1

/-- The draw that port injection makes for the port's next frame. -/
def State.portDraw (s : State) (p : Nat) : W32 × W32 := injDraw (s.reg .portFinjseed p) (s.port p).injNo p

/-- The port has drawn. -/
def State.drawn (s : State) (p : Nat) : State := s.modPort p fun x => { x with injNo := (x.injNo + 1) % 2 ^ 40 }

theorem State.port_drawn (s : State) (p : Nat) :
    (s.drawn p).port p = { s.port p with injNo := ((s.port p).injNo + 1) % 2 ^ 40 } := s.port_modPort_same p _

section
variable {s : State} {p : Nat} {w : WireFrame}

theorem State.wire_plain (h : ¬ s.injects p w.pcp) : s.wire p w = (s.emit (w.out p)).afterFrame p w.pcp := by
  have blind : (!bit (s.reg .portFinj p) 31 || !decide (fld (s.reg .portFinj p) 23 16 / 2 ^ w.pcp % 2 = 1)) = true := by
    rw [← Bool.not_and, Bool.not_eq_true', ← Bool.not_eq_true]
    simpa [State.injects] using h
  exact if_pos blind

theorem State.wire_missed (sd : sound s) (h : s.injects p w.pcp)
    (miss : injHit (fld (s.reg .portFinj p) 28 24) (s.portDraw p).1 = false) :
    s.wire p w = ((s.drawn p).emit (w.out p)).afterFrame p w.pcp := by
  obtain ⟨on, named⟩ := h
  unfold State.portDraw at miss
  unfold State.wire State.drawn
  simp [on, named, miss, State.useRegs_sound sd]

/-- The draw has selected the frame, and it is counted. -/
def State.struck (s : State) (p : Nat) : State := (s.drawn p).countWrap .portFinjcnt p 1

theorem State.wire_hit (sd : sound s) (h : s.injects p w.pcp)
    (hit : injHit (fld (s.reg .portFinj p) 28 24) (s.portDraw p).1 = true) :
    s.wire p w = match fld (s.reg .portFinj p) 30 29 with
      | 0 => (s.struck p).afterFrame p w.pcp
      | 1 => ((s.struck p).emit
          (.flipped p ((s.portDraw p).2.toNat % (8 * s.wireLen p w)) false w)).afterFrame p w.pcp
      | 2 => ((s.struck p).emit
          (.flipped p ((s.portDraw p).2.toNat % (8 * s.wireLen p w)) true w)).afterFrame p w.pcp
      | _ => ((s.struck p).afterFrame p w.pcp).modPort p fun x => { x with held := x.held ++ [w] } := by
  obtain ⟨on, named⟩ := h
  unfold State.portDraw at *
  unfold State.wire State.struck State.drawn
  simp only [on, named, hit, State.useRegs_sound sd]
  rfl

theorem State.wired_drawn (s : State) (p : Nat) : s.Wired p (s.drawn p) := State.Wired.modPort p s p fun _ => rfl

theorem State.wired_struck (s : State) (p : Nat) : s.Wired p (s.struck p) := (s.wired_drawn p).trans (.count ..)

/-- Sending a frame touches nothing else. -/
theorem State.wired_wire (sd : sound s) : s.Wired p (s.wire p w) := by
  have counted : s.Wired p (s.struck p) := s.wired_struck p
  by_cases h : s.injects p w.pcp
  · cases hit : injHit (fld (s.reg .portFinj p) 28 24) (s.portDraw p).1 with
    | false =>
      rw [State.wire_missed sd h hit]
      exact ((s.wired_drawn p).trans (.emit ..)).trans (.afterFrame ..)
    | true =>
      rw [State.wire_hit sd h hit]
      split
      · exact counted.trans (.afterFrame ..)
      · exact (counted.trans (.emit ..)).trans (.afterFrame ..)
      · exact (counted.trans (.emit ..)).trans (.afterFrame ..)
      · exact (counted.trans (.afterFrame ..)).trans (.modPort _ _ _ fun _ => rfl)
  · rw [State.wire_plain h]
    exact (State.Wired.emit ..).trans (.afterFrame ..)

/-- A frame that no injection looks at leaves as it is. -/
theorem State.out_mem_wire (h : ¬ s.injects p w.pcp) : w.out p ∈ (s.wire p w).sent := by
  rw [State.wire_plain h]
  exact (State.Wired.afterFrame ..).sent _ List.mem_cons_self

/-- Where nothing is held either, only it leaves. -/
theorem State.wire_alone (h : ¬ s.injects p w.pcp) (none : (s.port p).held = []) : s.wire p w = s.emit (w.out p) := by
  exact (State.wire_plain h).trans (State.afterFrame_none (s := s.emit _) none _)

end

/-- A held frame that follows leaves the injection's registers and counts alone. -/
theorem State.afterFrame_keeps (s : State) (p pcp : Nat) :
    (s.afterFrame p pcp).regs = s.regs ∧ ∀ q, ((s.afterFrame p pcp).port q).injNo = (s.port q).injNo := by
  unfold State.afterFrame
  split
  · exact ⟨rfl, s.port_modPort_keeps (P := fun x y => y.injNo = x.injNo) (fun _ => rfl) p (g := fun y => { y with held := _ })
      fun _ => rfl⟩
  · exact ⟨rfl, fun _ => rfl⟩

/-! ### A selected frame -/

section
variable {s : State} {p : Nat} {w : WireFrame}

theorem State.struck_shows (s : State) (p : Nat) : ((s.struck p).port p).injNo = ((s.port p).injNo + 1) % 2 ^ 40 ∧
    (s.struck p).reg .portFinjcnt p = wrapAdd32 (s.reg .portFinjcnt p) 1 :=
  ⟨congrArg Port.injNo (s.port_drawn p), State.reg_setReg_same ..⟩

theorem State.held_struck (none : (s.port p).held = []) : ((s.struck p).port p).held = [] :=
  (congrArg Port.held (s.port_drawn p)).trans none

variable (sd : sound s) (h : s.injects p w.pcp) (hit : injHit (fld (s.reg .portFinj p) 28 24) (s.portDraw p).1 = true)
include sd h hit

/-- A selected frame is drawn for and counted, whatever becomes of it. -/
theorem State.wire_counted : ((s.wire p w).port p).injNo = ((s.port p).injNo + 1) % 2 ^ 40 ∧
    (s.wire p w).reg .portFinjcnt p = wrapAdd32 (s.reg .portFinjcnt p) 1 := by
  obtain ⟨injNo, count⟩ := s.struck_shows p
  have followed (x : State) (inj : (x.port p).injNo = ((s.struck p).port p).injNo) (regs : x.regs = (s.struck p).regs) :
      ((x.afterFrame p w.pcp).port p).injNo = ((s.port p).injNo + 1) % 2 ^ 40 ∧
        (x.afterFrame p w.pcp).reg .portFinjcnt p = wrapAdd32 (s.reg .portFinjcnt p) 1 := by
    obtain ⟨keptRegs, keptInj⟩ := x.afterFrame_keeps p w.pcp
    exact ⟨(keptInj p).trans (inj.trans injNo), (State.reg_congr (keptRegs.trans regs) ..).trans count⟩
  rw [State.wire_hit sd h hit]
  split
  · exact followed _ rfl rfl
  · exact followed _ rfl rfl
  · exact followed _ rfl rfl
  · rw [State.port_modPort_same, State.reg_modPort]
    exact followed _ rfl rfl

/-- Kind 0 drops the frame. -/
theorem State.wire_dropped (kind : fld (s.reg .portFinj p) 30 29 = 0) (none : (s.port p).held = []) :
    s.wire p w = s.struck p := by
  rw [State.wire_hit sd h hit, kind]
  exact State.afterFrame_none (State.held_struck none) _

/-- Kinds 1 and 2 flip a bit, and kind 2 corrects the FCS. -/
theorem State.wire_flipped (kind : fld (s.reg .portFinj p) 30 29 = 1 ∨ fld (s.reg .portFinj p) 30 29 = 2) :
    .flipped p ((s.portDraw p).2.toNat % (8 * s.wireLen p w)) (decide (fld (s.reg .portFinj p) 30 29 = 2)) w ∈
      (s.wire p w).sent := by
  rw [State.wire_hit sd h hit]
  rcases kind with kind | kind
  all_goals
    rw [kind]
    exact (State.Wired.afterFrame ..).sent _ List.mem_cons_self

/-- Kind 3 holds the frame. -/
theorem State.wire_held (kind : fld (s.reg .portFinj p) 30 29 = 3) (none : (s.port p).held = []) :
    s.wire p w = (s.struck p).modPort p fun x => { x with held := x.held ++ [w] } := by
  rw [State.wire_hit sd h hit, kind]
  exact congrArg (State.modPort · p _) (State.afterFrame_none (State.held_struck none) _)

end

/-- A command that puts a frame on the wire and does no more sends it. -/
theorem sendsOn_wire {c : Instr} {s : State} {p : Nat} {w : WireFrame} (sd : sound s) (run : exec c s = .next (s.wire p w)) :
    sendsOn p c w s := by
  obtain ⟨frame, regs, -, -⟩ := State.wired_wire (p := p) (w := w) sd
  refine ⟨_, run, frame, regs, fun h => ?plain, fun h => ?taken⟩
  case plain =>
    refine ⟨?_, State.out_mem_wire h, fun none => State.wire_alone h none⟩
    rw [State.wire_plain h]
    exact (State.afterFrame_keeps ..).1
  case taken =>
    cases hit : injHit (fld (s.reg .portFinj p) 28 24) (s.portDraw p).1 with
    | false =>
      rw [State.wire_missed sd h hit]
      obtain ⟨regs, inj⟩ := State.afterFrame_keeps ((s.drawn p).emit (w.out p)) p w.pcp
      exact ⟨(inj p).trans (congrArg Port.injNo (s.port_drawn p)),
        fun _ => ⟨(State.Wired.afterFrame ..).sent _ List.mem_cons_self, regs⟩,
        fun selected => absurd (selected.symm.trans hit) (by decide)⟩
    | true =>
      obtain ⟨injNo, count⟩ := State.wire_counted sd h hit
      refine ⟨injNo, fun missed => absurd (missed.symm.trans hit) (by decide), fun _ =>
        ⟨count, fun kind none => ?_, State.wire_flipped sd h hit, fun kind none => ?_⟩⟩
      · rw [State.wire_dropped sd h hit kind none]
        exact ⟨rfl, State.held_struck none⟩
      · rw [State.wire_held sd h hit kind none, State.port_modPort_same, State.held_struck none]
        exact ⟨rfl, rfl⟩

end Sys2Proof.Machine
end

section
/-! PROOF. Received frames and pauses (R298, R304, R305, R308, R316): the filters of FRAME_RECEIVE in their order, what a
frame that passes them leaves in its share, and the commands of priority flow control. -/
namespace Sys2Proof.Machine

theorem State.portTalks_iff {s : State} {p : Nat} : s.portTalks p = true ↔ s.portSt p = 2 ∨ s.portSt p = 3 := by
  unfold State.portTalks
  rw [Bool.or_eq_true, decide_eq_true_iff, decide_eq_true_iff]

theorem State.portTalks_false {s : State} {p : Nat} : s.portTalks p = false ↔ ¬ (s.portSt p = 2 ∨ s.portSt p = 3) := by
  rw [← State.portTalks_iff, Bool.not_eq_true]

/-- Whether a port carries frames is in its status, its role and its partner (R301). -/
theorem State.portUsable_congr {s u : State} {p : Nat} (status : u.reg .portStatus p = s.reg .portStatus p)
    (cfg : u.reg .portCfg p = s.reg .portCfg p) (matched : (u.port p).matched = (s.port p).matched) :
    u.portUsable p = s.portUsable p := by
  unfold State.portUsable State.portSt State.portRole State.rfld
  rw [status, cfg, matched]

theorem wrapAdd32_zero (w : W32) : wrapAdd32 w 0 = w := BitVec.ofNat_toNat 32 w

/-! ### What the MAC counts and notes of every frame -/

/-- A count that is not written when it is 0 reads as if it were. -/
theorem State.reg_countNonzero (s : State) (r r' : Reg) (i j n : Nat) :
    (if n = 0 then s else s.countWrap r i n).reg r' j = if r' = r ∧ j = i then wrapAdd32 (s.reg r i) n else s.reg r' j := by
  by_cases h : n = 0
  · rw [if_pos h, h, wrapAdd32_zero]
    split
    next e => rw [e.1, e.2]
    · rfl
  · rw [if_neg h]
    exact State.reg_setReg ..

/-- The FEC codewords of a frame are added, and nothing else is written (R315). -/
theorem State.reg_fecSeen (s : State) (p : Nat) (f : RxFrame) (r : Reg) (i : Nat) : (s.fecSeen p f).reg r i =
    if r = .portFecue ∧ i = p then wrapAdd32 (s.reg .portFecue p) f.fecUe
    else if r = .portFecce ∧ i = p then wrapAdd32 (s.reg .portFecce p) f.fecCe else s.reg r i := by
  unfold State.fecSeen
  rw [State.reg_countNonzero, State.reg_countNonzero, State.reg_countNonzero]
  rfl

theorem State.fecSeen_frame (s : State) (p : Nat) (f : RxFrame) : s.fecSeen p f = { s with regs := (s.fecSeen p f).regs } := by
  unfold State.fecSeen
  dsimp only
  (repeat' split) <;> rfl

theorem State.fecSeen_sameRegs (s : State) (p : Nat) (f : RxFrame) :
    sameRegs (fun r i => (r = .portFecce ∨ r = .portFecue) ∧ i = p) s (s.fecSeen p f) := by
  intro r i hr
  rw [State.reg_fecSeen, if_neg fun e => hr ⟨.inr e.1, e.2⟩, if_neg fun e => hr ⟨.inl e.1, e.2⟩]

theorem State.seePn_frame (s : State) (p : Nat) (f : RxFrame) :
    s.seePn p f = { s with host := { s.host with sas := (s.seePn p f).host.sas } } := by
  unfold State.seePn
  split <;> rfl

/-- A frame without a protected SecTAG moves no packet number. -/
theorem State.seePn_none {s : State} {p : Nat} {f : RxFrame}
    (h : bit (s.reg .portCfg p) 17 = false ∨ f.lldpOrPtp = true ∨ f.sec = none) : s.seePn p f = s := by
  unfold State.seePn
  rcases h with h | h | h <;> simp [h]

/-- The packet number expected of the association rises past the frame's (R308). -/
theorem State.seePn_moves {s : State} {p an pn n : Nat} {f : RxFrame} (on : bit (s.reg .portCfg p) 17 = true)
    (tunil : f.lldpOrPtp = false) (sec : f.sec = some (an, pn)) (sa : (p, 0, an, n) ∈ s.host.sas) :
    (p, 0, an, Nat.max n (pn + 1)) ∈ (s.seePn p f).host.sas := by
  unfold State.seePn
  simp only [on, tunil, sec, Bool.not_false, Bool.and_true, if_true]
  exact List.mem_map.2 ⟨_, sa, if_pos ⟨rfl, rfl, rfl⟩⟩

/-! ### The filters -/

/-- The filters of R298, R306 and R316 before MACsec: FCS, address, tag, fragment and length. -/
def State.admits (s : State) (p : Nat) (f : RxFrame) : Bool :=
  f.fcsOk && s.addrGood p f && f.tagOk && f.fragmentOk && decide (64 ≤ f.len) && decide (f.len ≤ 9216)

/-- A frame that MACsec should protect and does not (R308). -/
def State.exposed (s : State) (p : Nat) (f : RxFrame) : Bool :=
  bit (s.reg .portCfg p) 17 && !f.lldpOrPtp && !s.secGood p f

theorem State.addrGood_iff {s : State} {p : Nat} {f : RxFrame} : s.addrGood p f = true ↔
    (f.dst = none ∧ f.addrOk = true) ∨ f.dst = some (s.flash.fuses.macBase + p) ∨
      (f.lldpOrPtp = true ∧ ∃ d ∈ groupAddr, f.dst = some d) := by
  unfold State.addrGood State.macAddr
  cases f.dst with
  | none => simp
  | some d =>
    generalize groupAddr = l
    simp [@eq_comm _ d]

theorem State.admits_iff {s : State} {p : Nat} {f : RxFrame} : s.admits p f = true ↔
    f.fcsOk = true ∧ ((f.dst = none ∧ f.addrOk = true) ∨ f.dst = some (s.flash.fuses.macBase + p) ∨
      (f.lldpOrPtp = true ∧ ∃ d ∈ groupAddr, f.dst = some d)) ∧ f.tagOk = true ∧ f.fragmentOk = true ∧ 64 ≤ f.len ∧
      f.len ≤ 9216 := by
  unfold State.admits
  simp only [Bool.and_eq_true, decide_eq_true_iff, State.addrGood_iff, and_assoc]

theorem State.secGood_iff {s : State} {p : Nat} {f : RxFrame} : s.secGood p f = true ↔ f.macsecOk = true ∧
    ∀ an pn, f.sec = some (an, pn) → ∃ low, s.replayFrom p an = some low ∧ low ≤ pn := by
  unfold State.secGood
  rw [Bool.and_eq_true]
  refine and_congr_right fun _ => ?_
  rcases f.sec with _ | ⟨an, pn⟩
  · simp
  · cases low : s.replayFrom p an <;> simp [low]

theorem State.exposed_iff {s : State} {p : Nat} {f : RxFrame} : s.exposed p f = true ↔
    bit (s.reg .portCfg p) 17 = true ∧ f.lldpOrPtp = false ∧ ¬ (f.macsecOk = true ∧
      ∀ an pn, f.sec = some (an, pn) → ∃ low, s.replayFrom p an = some low ∧ low ≤ pn) := by
  unfold State.exposed
  simp only [Bool.and_eq_true, Bool.not_eq_true', ← Bool.not_eq_true (s.secGood p f), State.secGood_iff, and_assoc]

/-! ### FRAME_RECEIVE -/

theorem exec_frameReceive {s : State} (h : s.clocked = true) (p : Fin 32) (f : RxFrame) :
    exec (.frameReceive p f) s = .next (s.frameIn p f) := whenClocked_on h fun x => x.frameIn p f

theorem State.frameIn_silent {s : State} {p : Nat} (h : s.portTalks p = false) (f : RxFrame) : s.frameIn p f = s := by
  unfold State.frameIn
  rw [h]
  rfl

/-- What happens to a frame that has passed the filters: LLDP and PTP fit or not, another frame needs a usable port, the checks of
R316 and room in its share. -/
def State.frameOn (s t : State) (p : Nat) (f : RxFrame) : State :=
  let full (c : Nat) : Prop := s.shareSize p c < (s.port p).used c + f.len
  if f.lldpOrPtp then if full 0 then t.countWrap .portRxdrop p 1 else t
  else if s.portUsable p = false then t.countWrap .portRxdrop p 1
  else if framePasses f = false then t.countWrap .tunCrcdrop 0 1
  else if full (s.frameClass f.route f.pcp) then t.countWrap .portRxdrop p 1
  else t.holdFrame p (s.frameClass f.route f.pcp) f

/-- FRAME_RECEIVE in the order of its filters. -/
theorem State.frameIn_talks {s : State} {p : Nat} (h : s.portTalks p = true) (f : RxFrame) : let z := s.fecSeen p f
    s.frameIn p f =
      if f.pause then z.countWrap .portPauseign p 1
      else if s.admits p f = false then z.countWrap .portRxdrop p 1
      else if s.exposed p f then z.countWrap .portSecdrop p 1
      else s.frameOn (z.seePn p f) p f := by
  have regs := s.fecSeen_sameRegs p f
  have frame := s.fecSeen_frame p f
  unfold State.frameIn State.frameOn
  dsimp only
  generalize s.fecSeen p f = z at *
  have status : z.reg .portStatus p = s.reg .portStatus p := regs .portStatus p (by simp)
  have cfg : z.reg .portCfg p = s.reg .portCfg p := regs .portCfg p (by simp)
  have seen := z.seePn_frame p f
  have usable : (z.seePn p f).portUsable p = s.portUsable p := by
    refine State.portUsable_congr ?_ ?_ ?_
    · rw [seen]; exact status
    · rw [seen]; exact cfg
    · rw [seen, frame]; rfl
  have misfit : (!f.fcsOk || !z.addrGood p f || !f.tagOk || !f.fragmentOk || decide (f.len < 64) || decide (9216 < f.len)) =
      !s.admits p f := by
    rw [show z.addrGood p f = s.addrGood p f by rw [frame]; rfl]
    simp [State.admits, Bool.not_and, ← decide_not]
  have bare : (bit (z.reg .portCfg p) 17 && !f.lldpOrPtp && !z.secGood p f) = s.exposed p f := by
    rw [show z.secGood p f = s.secGood p f by rw [frame]; rfl, cfg]
    rfl
  have size (c : Nat) : (z.seePn p f).shareSize p c = s.shareSize p c := by rw [seen, frame]; rfl
  have used : (z.seePn p f).port p = s.port p := by rw [seen, frame]; rfl
  have share : (z.seePn p f).frameClass f.route f.pcp = s.frameClass f.route f.pcp := by rw [seen, frame]; rfl
  simp only [h, misfit, bare, usable, size, used, share]
  cases f.lldpOrPtp <;> simp

/-! ### The receive share -/

theorem Port.used_setUsed (x : Port) (c v : Nat) : (x.setUsed c v).used c = v := by
  match c with
  | 0 | 1 | _ + 2 => rfl

theorem Port.used_setXoff (x : Port) (c v : Nat) (b : Bool) : (x.setXoff c b).used v = x.used v := by
  unfold Port.setXoff
  split <;> rfl

theorem Port.xoff_setXoff (x : Port) (c : Nat) (b : Bool) : (x.setXoff c b).xoff c = b := by
  unfold Port.xoff Port.setXoff
  by_cases h : c = 1 <;> simp [h]

theorem Port.rx_setUsed (x : Port) (c v : Nat) : (x.setUsed c v).rx = x.rx := by
  unfold Port.setUsed
  split <;> rfl

theorem Port.rx_setXoff (x : Port) (c : Nat) (b : Bool) : (x.setXoff c b).rx = x.rx := by
  unfold Port.setXoff
  split <;> rfl

/-- A share that bytes of a frame take past its threshold (R305). -/
def State.crossesXoff (s : State) (p c len : Nat) : Prop :=
  c ≠ 0 ∧ s.pfcOn p (sharePcp c) = true ∧ (s.port p).used c ≤ s.xoffAt p ∧ s.xoffAt p < (s.port p).used c + len

/-- A second change of ports, and something that leaves. -/
theorem State.modPort_emit_frame {s t : State} (h : t = { s with ports := t.ports }) (p : Nat) (g : Port → Port) (e : Emit) :
    (t.modPort p g).emit e = { s with ports := ((t.modPort p g).emit e).ports, sent := e :: s.sent } := by
  rw [h]
  rfl

/-- Bytes enter a share, and XOFF leaves exactly when they take it past its threshold. -/
theorem State.fillShare_fills (s : State) (p c len : Nat) : let u := s.fillShare p c len
    (u.port p).used c = (s.port p).used c + len ∧ (u.port p).rx = (s.port p).rx ∧
      u = { s with ports := u.ports, sent := u.sent } ∧
      (s.crossesXoff p c len → u.sent = .macFrame p 0 (sharePcp c) :: s.sent) ∧
      (¬ s.crossesXoff p c len → u.sent = s.sent) := by
  unfold State.fillShare
  dsimp only
  split
  case isTrue crosses =>
    have frame := State.modPort_emit_frame (t := s.modPort p fun x => x.setUsed c ((s.port p).used c + len)) (s := s) rfl p
      (fun x => x.setXoff c true) (.macFrame p 0 (sharePcp c))
    have sent := (congrArg State.sent frame :)
    refine ⟨?_, ?_, frame, fun _ => sent, fun stays => absurd ⟨crosses.1, crosses.2.1, crosses.2.2.2, crosses.2.2.1⟩ stays⟩
    · rw [State.port_emit, State.port_modPort_same, Port.used_setXoff, State.port_modPort_same, Port.used_setUsed]
    · rw [State.port_emit, State.port_modPort_same, Port.rx_setXoff, State.port_modPort_same, Port.rx_setUsed]
  case isFalse stays =>
    refine ⟨?_, ?_, rfl, fun ⟨c0, on, low, high⟩ => absurd ⟨c0, on, high, low⟩ stays, fun _ => rfl⟩
    · rw [State.port_modPort_same, Port.used_setUsed]
    · rw [State.port_modPort_same, Port.rx_setUsed]

/-- A frame that names a route enters its share, and waits there behind the others (R304). -/
theorem State.holdFrame_enters {f : RxFrame} {fw : Bool} {r : Nat} (route : f.route = some (fw, r)) (s : State) (p c : Nat) :
    let u := s.holdFrame p c f
    (u.port p).used c = (s.port p).used c + f.len ∧ (u.port p).rx = (s.port p).rx ++ [⟨wireKey fw r, c, f.len⟩] ∧
      u = { s with ports := u.ports, sent := u.sent } ∧
      (s.crossesXoff p c f.len → u.sent = .macFrame p 0 (sharePcp c) :: s.sent) ∧
      (¬ s.crossesXoff p c f.len → u.sent = s.sent) := by
  intro u
  let t := s.modPort p fun x => { x with rx := x.rx ++ [⟨wireKey fw r, c, f.len⟩] }
  have port : t.port p = { s.port p with rx := (s.port p).rx ++ [⟨wireKey fw r, c, f.len⟩] } := s.port_modPort_same p _
  have fills : u = t.fillShare p c f.len := by
    change s.holdFrame p c f = _
    unfold State.holdFrame
    rw [route]
  obtain ⟨used, rx, frame, crosses, stays⟩ := t.fillShare_fills p c f.len
  have same : t.crossesXoff p c f.len ↔ s.crossesXoff p c f.len := by
    unfold State.crossesXoff
    rw [port]
    rfl
  rw [fills]
  refine ⟨?_, ?_, ?_, fun h => crosses (same.2 h), fun h => stays (mt same.1 h)⟩
  · rw [used, port]
    rfl
  · rw [rx, port]
  · exact frame

/-! ### Priority flow control -/

theorem exec_pfcReceive {s : State} (h : s.clocked = true) (p : Fin 32) (m : BitVec 8) (b : Bool) :
    exec (.pfcReceive p m b) s = .next (s.pfcIn p m.toNat b) := whenClocked_on h fun x => x.pfcIn p m.toNat b

theorem exec_pfcXoffRepeat {s : State} (h : s.clocked = true) (p : Fin 32) (four : Bool) :
    exec (.pfcXoffRepeat p four) s = .next (s.xoffRepeat p (if four then 1 else 2)) :=
  whenClocked_on h fun x => x.xoffRepeat p (if four then 1 else 2)

theorem State.pfcIn_silent {s : State} {p : Nat} (h : s.portTalks p = false) (m : Nat) (b : Bool) : s.pfcIn p m b = s := by
  unfold State.pfcIn
  rw [h]
  rfl

/-- A priority of a mask, as a number reads it. -/
theorem getLsbD_eq_decide {w : Nat} (m : BitVec w) (i : Nat) : decide (m.toNat / 2 ^ i % 2 = 1) = m.getLsbD i := by
  rw [BitVec.getLsbD, Nat.testBit_eq_decide_div_mod_eq]

/-- Enabled priorities of the mask pause or go on, and any other counts the frame as ignored (R305). -/
theorem State.pfcIn_pauses {s : State} {p : Nat} (talks : s.portTalks p = true) (m : BitVec 8) (b : Bool) :
    let u := s.pfcIn p m.toNat b
    let other := ∃ i, i < 8 ∧ m.getLsbD i = true ∧ ¬ ((i = 4 ∨ i = 2) ∧ s.pfcOn p i = true)
    u = { s with ports := u.ports, regs := u.regs } ∧
      (u.port p).paused4 = (if m.getLsbD 4 && s.pfcOn p 4 then b else (s.port p).paused4) ∧
      (u.port p).paused2 = (if m.getLsbD 2 && s.pfcOn p 2 then b else (s.port p).paused2) ∧
      (other → u.reg .portPauseign p = wrapAdd32 (s.reg .portPauseign p) 1) ∧ (¬ other → u.regs = s.regs) ∧
      sameRegs (fun r i => r = .portPauseign ∧ i = p) s u := by
  intro u other
  let t := s.modPort p fun x => { x with
    paused4 := if m.getLsbD 4 && s.pfcOn p 4 then b else x.paused4
    paused2 := if m.getLsbD 2 && s.pfcOn p 2 then b else x.paused2 }
  have named : ((List.range 8).any fun i => m.getLsbD i && !((decide (i = 4) || decide (i = 2)) && s.pfcOn p i)) = true ↔
      other := by
    simp only [other, List.any_eq_true, List.mem_range, Bool.and_eq_true, Bool.not_eq_true', ← Bool.not_eq_true,
      Bool.or_eq_true, decide_eq_true_iff]
  have run : u = if (List.range 8).any fun i => m.getLsbD i && !((decide (i = 4) || decide (i = 2)) && s.pfcOn p i)
      then t.countWrap .portPauseign p 1 else t := by
    change s.pfcIn p m.toNat b = _
    unfold State.pfcIn
    simp only [talks, getLsbD_eq_decide]
    rfl
  have port : t.port p = _ := s.port_modPort_same p _
  rw [run]
  by_cases h : other
  · rw [if_pos (named.2 h)]
    exact ⟨rfl, congrArg Port.paused4 port, congrArg Port.paused2 port, fun _ => State.reg_setReg_same .., fun no => absurd h no,
      sameRegs_setReg t ⟨rfl, rfl⟩ _⟩
  · rw [if_neg (mt named.1 h)]
    exact ⟨rfl, congrArg Port.paused4 port, congrArg Port.paused2 port, fun yes => absurd yes h, fun _ => rfl, fun _ _ _ => rfl⟩

/-- XOFF goes again while the share stays above its threshold. -/
theorem State.xoffRepeat_above {s : State} {p c : Nat} (talks : s.portTalks p = true) (on : s.pfcOn p (sharePcp c) = true)
    (above : s.xoffAt p < (s.port p).used c) :
    s.xoffRepeat p c = (s.modPort p fun x => x.setXoff c true).emit (.macFrame p 0 (sharePcp c)) := by
  unfold State.xoffRepeat
  rw [talks, on, decide_eq_true above]
  rfl

theorem State.xoffRepeat_not {s : State} {p c : Nat}
    (h : s.portTalks p = false ∨ s.pfcOn p (sharePcp c) = false ∨ (s.port p).used c ≤ s.xoffAt p) : s.xoffRepeat p c = s := by
  unfold State.xoffRepeat
  rw [if_neg]
  rintro all
  rw [Bool.and_eq_true, Bool.and_eq_true, decide_eq_true_iff] at all
  obtain ⟨⟨talks, on⟩, above⟩ := all
  rcases h with h | h | h
  · rw [talks] at h; cases h
  · rw [on] at h; cases h
  · omega

end Sys2Proof.Machine
end

section
/-! PROOF. FRAME_TRANSMIT and the release of held frames (R303, R307, R308, R314, R340): which frame a port takes, the packet
number that it uses, and what its sending changes. -/
namespace Sys2Proof.Machine

theorem State.port_congr {s u : State} (h : u.ports = s.ports) (p : Nat) : u.port p = s.port p :=
  congrArg (mget Port.init · p) h

/-! ### The next frame -/

/-- A frame that a port may send: of priority 6, or of a priority that is not paused (R303, R305). -/
def Port.maySend (x : Port) (g : TxFrame) : Prop :=
  g.pcp = 6 ∨ (g.pcp = 4 ∧ x.paused4 = false) ∨ (g.pcp = 2 ∧ x.paused2 = false)

theorem Port.first_mem {x : Port} {pcp : Nat} {f : TxFrame} (h : x.first pcp = some f) : f ∈ x.txq ∧ f.pcp = pcp :=
  ⟨List.mem_of_find?_eq_some h, by simpa using List.find?_some h⟩

theorem Port.first_none {x : Port} {pcp : Nat} : x.first pcp = none ↔ ∀ g ∈ x.txq, g.pcp ≠ pcp := by
  simp [Port.first]

theorem Port.first_unpaused {x : Port} {pcp : Nat} {paused : Bool} {g : TxFrame}
    (h : (if paused then none else x.first pcp) = some g) : g ∈ x.txq ∧ g.pcp = pcp ∧ paused = false := by
  cases paused with
  | true => cases h
  | false =>
    obtain ⟨mem, prio⟩ := Port.first_mem h
    exact ⟨mem, prio, rfl⟩

/-- The next frame is one that may go, of priority 6 if one waits, and choosing it changes the ETS account alone. -/
theorem Port.next_spec {x y : Port} {w4 : Nat} {bytes : TxFrame → Nat} {f : TxFrame} (h : x.next w4 bytes = some (f, y)) :
    f ∈ x.txq ∧ x.maySend f ∧ ((∃ g ∈ x.txq, g.pcp = 6) → f.pcp = 6) ∧ y = { x with ets4 := y.ets4, ets2 := y.ets2 } := by
  unfold Port.next at h
  split at h
  case h_1 g first =>
    obtain ⟨rfl, rfl⟩ := Prod.mk.inj (Option.some.inj h)
    obtain ⟨mem, pcp⟩ := Port.first_mem first
    exact ⟨mem, .inl pcp, fun _ => pcp, rfl⟩
  case h_2 empty =>
    have no6 (waits : ∃ g ∈ x.txq, g.pcp = 6) : f.pcp = 6 := by
      obtain ⟨g, mem, pcp⟩ := waits
      exact absurd pcp (Port.first_none.1 empty g mem)
    have four {g : TxFrame} (h : (if x.paused4 then none else x.first 4) = some g) : g ∈ x.txq ∧ x.maySend g :=
      have ⟨mem, go⟩ := Port.first_unpaused h
      ⟨mem, .inr (.inl go)⟩
    have two {g : TxFrame} (h : (if x.paused2 then none else x.first 2) = some g) : g ∈ x.txq ∧ x.maySend g :=
      have ⟨mem, go⟩ := Port.first_unpaused h
      ⟨mem, .inr (.inr go)⟩
    dsimp only at h
    split at h
    case h_1 ha hb =>
      split at h
      all_goals obtain ⟨rfl, rfl⟩ := Prod.mk.inj (Option.some.inj h)
      · exact ⟨(four ha).1, (four ha).2, no6, rfl⟩
      · exact ⟨(two hb).1, (two hb).2, no6, rfl⟩
    case h_2 ha _ =>
      obtain ⟨rfl, rfl⟩ := Prod.mk.inj (Option.some.inj h)
      exact ⟨(four ha).1, (four ha).2, no6, rfl⟩
    case h_3 hb =>
      obtain ⟨rfl, rfl⟩ := Prod.mk.inj (Option.some.inj h)
      exact ⟨(two hb).1, (two hb).2, no6, rfl⟩
    case h_4 => cases h

/-- A port without a next frame has none that may go. -/
theorem Port.next_none {x : Port} {w4 : Nat} {bytes : TxFrame → Nat} (h : x.next w4 bytes = none) :
    ∀ g ∈ x.txq, ¬ x.maySend g := by
  unfold Port.next at h
  split at h
  case h_1 => cases h
  case h_2 six =>
    dsimp only at h
    split at h
    case h_1 =>
      split at h
      all_goals cases h
    case h_2 => cases h
    case h_3 => cases h
    case h_4 four two =>
      rintro g mem (pcp | ⟨pcp, free⟩ | ⟨pcp, free⟩)
      · exact Port.first_none.1 six g mem pcp
      · rw [free] at four
        exact Port.first_none.1 four g mem pcp
      · rw [free] at two
        exact Port.first_none.1 two g mem pcp

/-! ### Packet numbers -/

/-- A D2H notice to the security processor touches the host's side and the mailbox's status alone. -/
theorem State.noticeSecure_frame (s : State) (c : Nat) (b : List W32) : s.noticeSecure c b =
    { s with host := { s.host with d2h := (s.noticeSecure c b).host.d2h }, regs := (s.noticeSecure c b).regs } := by
  unfold State.noticeSecure State.queueNotice
  split
  · dsimp only
    split <;> rfl
  · rfl

theorem State.reg_noticeSecure (s : State) (c : Nat) (b : List W32) {r : Reg} (h : r ≠ .mbxStatus) (i : Nat) :
    (s.noticeSecure c b).reg r i = s.reg r i := by
  unfold State.noticeSecure State.queueNotice
  split
  · dsimp only
    split
    · rfl
    · exact State.reg_setReg_ne _ _ _ _ h
  · rfl

/-- The packet number of a transmit association rises by 1. -/
def State.risePn (s : State) (p an : Nat) : List (Nat × Nat × Nat × Nat) :=
  s.host.sas.map fun a => if a.1 = p ∧ a.2.1 = 1 ∧ a.2.2.1 = an then (a.1, a.2.1, a.2.2.1, a.2.2.2 + 1) else a

theorem find?_risePn (l : List (Nat × Nat × Nat × Nat)) (p an : Nat) :
    (l.map fun a => if a.1 = p ∧ a.2.1 = 1 ∧ a.2.2.1 = an then (a.1, a.2.1, a.2.2.1, a.2.2.2 + 1) else a).find?
        (fun a => decide (a.1 = p) && decide (a.2.1 = 1) && decide (a.2.2.1 = an)) =
      (l.find? fun a => decide (a.1 = p) && decide (a.2.1 = 1) && decide (a.2.2.1 = an)).map
        fun a => (a.1, a.2.1, a.2.2.1, a.2.2.2 + 1) := by
  induction l with
  | nil => rfl
  | cons a l ih =>
    rw [List.map_cons, List.find?_cons, List.find?_cons, ih]
    by_cases h : a.1 = p ∧ a.2.1 = 1 ∧ a.2.2.1 = an
    · simp [h]
    · rw [if_neg h]
      have : (decide (a.1 = p) && decide (a.2.1 = 1) && decide (a.2.2.1 = an)) = false := by
        rw [Bool.and_assoc, ← Bool.decide_and, ← Bool.decide_and]
        exact decide_eq_false h
      rw [this]

/-- A protected frame has taken its number, and the association is the port's. -/
def State.pnTaken (s : State) (p an : Nat) : State :=
  ({ s with host := { s.host with sas := s.risePn p an } } : State).modPort p fun x => { x with an := an }

/-- What a protected frame takes: the next packet number of its association, which is then the port's (R308). -/
structure State.UsesPn (p an : Nat) (s u : State) : Prop where
  frame : u = { s with ports := u.ports, regs := u.regs
                       host := { s.host with sas := s.risePn p an, d2h := u.host.d2h } }
  regs : sameRegs (fun r _ => r = .mbxStatus) s u
  port : u.port p = { s.port p with an := an }

theorem State.usePn_uses (s : State) (p an : Nat) : s.UsesPn p an (s.usePn p an) := by
  have taken : (s.pnTaken p an).port p = { s.port p with an := an } := State.port_modPort_same ..
  have told (c : Nat) (b : List W32) : s.UsesPn p an ((s.pnTaken p an).noticeSecure c b) := by
    have frame := (s.pnTaken p an).noticeSecure_frame c b
    refine ⟨frame.trans (by rw [frame]; rfl), fun r i hr => State.reg_noticeSecure _ c b hr i, ?_⟩
    exact (State.port_congr (congrArg State.ports frame) p).trans taken
  unfold State.usePn
  dsimp only
  split
  · exact told ..
  · exact ⟨rfl, fun _ _ _ => rfl, taken⟩

/-- The association's next packet number after one has been taken. -/
theorem txPn_risePn {s u : State} {p an pn : Nat} (sas : u.host.sas = s.risePn p an) (now : s.txPn p an = some pn) :
    u.txPn p an = some (pn + 1) := by
  unfold State.txPn at *
  rw [sas]
  unfold State.risePn
  rw [find?_risePn, Option.map_map]
  obtain ⟨a, found, rfl⟩ := Option.map_eq_some_iff.1 now
  rw [found]
  rfl

/-! ### FRAME_TRANSMIT -/

theorem exec_frameTransmit {s : State} (h : s.clocked = true) (p : Fin 32) : exec (.frameTransmit p) s = .next (s.transmit p) :=
  whenClocked_on h fun x => x.transmit p

theorem State.transmit_unusable {s : State} {p : Nat} (h : s.portUsable p = false) : s.transmit p = s := by
  unfold State.transmit
  rw [h]
  rfl

/-- The bytes that a frame takes at a port. -/
def State.txBytes (s : State) (p : Nat) (f : TxFrame) : Nat := s.frameBytes p (segBytes f.seg)

/-- The port's next frame, and its ETS account after it. -/
def State.nextFrame (s : State) (p : Nat) : Option (TxFrame × Port) := (s.port p).next (s.cfg.port p).ets4 (s.txBytes p)

/-- The association that the next frame uses, if it is protected. -/
def State.txSa (s : State) (p : Nat) : Option Nat := if bit (s.reg .portCfg p) 17 then s.txAn p else none

/-- The frame is off the queue. -/
def State.unqueued (s : State) (p : Nat) (f : TxFrame) (x : Port) : State := s.setPort p { x with txq := x.txq.erase f }

/-- Its packet number is used, if it is protected. -/
def State.numbered (s : State) (p : Nat) (f : TxFrame) (x : Port) : State :=
  match s.txSa p with
  | some a => (s.unqueued p f x).usePn p a
  | none => s.unqueued p f x

/-- Its bytes count, at priority 6. -/
def State.frameTaken (s : State) (p : Nat) (f : TxFrame) (x : Port) : State :=
  if f.pcp = 6 then (s.numbered p f x).countCl0 p (s.txBytes p f) else s.numbered p f x

/-- A usable port takes its next frame and sends it, but for a frame that MACsec can not protect. -/
theorem State.transmit_eq {s : State} {p : Nat} (sd : sound s) (usable : s.portUsable p = true) : s.transmit p =
    match s.nextFrame p with
    | none => s
    | some (f, x) => if bit (s.reg .portCfg p) 17 && (s.txAn p).isNone then s
      else (s.frameTaken p f x).wire p
        (.tunil f (s.wireBytes p ((s.txSa p).map fun a => (a, (s.txPn p a).getD 0)) f)) := by
  unfold State.transmit
  rw [usable, State.held_sound sd]
  rfl

/-- What the bytes of a frame of priority 6 count in (R315). -/
structure State.CountsCl0 (p : Nat) (s u : State) : Prop where
  frame : u = { s with ports := u.ports, regs := u.regs }
  regs : sameRegs (fun r i => r = .portTxcl0 ∧ i = p) s u
  port : u.port p = { s.port p with cl0Bytes := (u.port p).cl0Bytes }

theorem State.countCl0_counts (s : State) (p n : Nat) : s.CountsCl0 p (s.countCl0 p n) := by
  refine ⟨rfl, sameRegs_setReg (s.modPort p _) ⟨rfl, rfl⟩ _, ?_⟩
  unfold State.countCl0
  rw [State.countWrap_eq, State.port_setReg, State.port_modPort_same]

theorem State.frameTaken_counts (s : State) (p : Nat) (f : TxFrame) (x : Port) :
    (s.numbered p f x).CountsCl0 p (s.frameTaken p f x) := by
  unfold State.frameTaken
  split
  · exact State.countCl0_counts ..
  · exact ⟨rfl, fun _ _ _ => rfl, rfl⟩

section
variable {s : State} {p : Nat} {f : TxFrame} {x : Port} (ets : x = { s.port p with ets4 := x.ets4, ets2 := x.ets2 })
include ets

theorem State.port_unqueued : (s.unqueued p f x).port p =
    { s.port p with ets4 := x.ets4, ets2 := x.ets2, txq := (s.port p).txq.erase f } := by
  unfold State.unqueued
  rw [State.port_setPort_same, ets]

/-- An unprotected frame changes its port and the count of priority 6. -/
theorem State.frameTaken_plain (plain : s.txSa p = none) : let t := s.frameTaken p f x
    t = { s with ports := t.ports, regs := t.regs } ∧ sameRegs (fun r i => r = .portTxcl0 ∧ i = p) s t ∧
      (t.port p).txq = (s.port p).txq.erase f ∧ (t.port p).held = (s.port p).held := by
  obtain ⟨frame, regs, port⟩ := s.frameTaken_counts p f x
  have none : s.numbered p f x = s.unqueued p f x := by
    unfold State.numbered
    rw [plain]
  rw [none] at frame regs port
  rw [State.port_unqueued ets] at port
  exact ⟨frame, regs, (congrArg Port.txq port :), (congrArg Port.held port :)⟩

/-- A protected one also takes the next packet number of its association, and may tell the security processor. -/
theorem State.frameTaken_protected {an : Nat} (sa : s.txSa p = some an) : let t := s.frameTaken p f x
    t = { s with ports := t.ports, regs := t.regs, host := { s.host with sas := s.risePn p an, d2h := t.host.d2h } } ∧
      sameRegs (fun r i => r = .mbxStatus ∨ (r = .portTxcl0 ∧ i = p)) s t ∧
      (t.port p).txq = (s.port p).txq.erase f ∧ (t.port p).held = (s.port p).held ∧ (t.port p).an = an := by
  obtain ⟨frame, regs, port⟩ := s.frameTaken_counts p f x
  have uses : (s.unqueued p f x).UsesPn p an (s.numbered p f x) := by
    unfold State.numbered
    rw [sa]
    exact State.usePn_uses ..
  have host : (s.frameTaken p f x).host = (s.numbered p f x).host := (congrArg State.host frame :)
  rw [uses.port, State.port_unqueued ets] at port
  refine ⟨?_, ?_, (congrArg Port.txq port :), (congrArg Port.held port :), (congrArg Port.an port :)⟩
  · rw [host]
    refine frame.trans ?_
    rw [uses.frame]
    rfl
  · exact (show sameRegs (fun r _ => r = .mbxStatus) s (s.numbered p f x) from uses.regs).trans
      (regs.mono fun _ _ => .inr) fun _ _ => .inl

end

/-- A frame of another priority leaves the count of priority 6 alone. -/
theorem State.frameTaken_cl0 {s : State} {p : Nat} {f : TxFrame} (h : f.pcp ≠ 6) (x : Port) :
    (s.frameTaken p f x).reg .portTxcl0 p = s.reg .portTxcl0 p := by
  unfold State.frameTaken
  rw [if_neg h]
  unfold State.numbered
  split
  · exact (State.usePn_uses ..).regs .portTxcl0 p nofun
  · rfl

/-- What taking a frame leaves, protected or not. -/
theorem State.frameTaken_leaves {s : State} {p : Nat} {f : TxFrame} {x : Port}
    (ets : x = { s.port p with ets4 := x.ets4, ets2 := x.ets2 }) : let t := s.frameTaken p f x
    t = { s with ports := t.ports, regs := t.regs, host := t.host } ∧ t.reg .portFinj p = s.reg .portFinj p ∧
      (t.port p).txq = (s.port p).txq.erase f ∧ (t.port p).held = (s.port p).held := by
  dsimp only
  cases sa : s.txSa p with
  | none =>
    obtain ⟨frame, regs, txq, held⟩ := State.frameTaken_plain (f := f) ets sa
    exact ⟨frame.trans (by rw [frame]), regs _ _ (by simp), txq, held⟩
  | some an =>
    obtain ⟨frame, regs, txq, held, -⟩ := State.frameTaken_protected (f := f) ets sa
    exact ⟨frame.trans (by rw [frame]), regs _ _ (by simp), txq, held⟩

/-- A frame that may go leaves, where MACsec has an association for it. -/
theorem State.transmit_sends {s : State} {p : Nat} (sd : sound s) (usable : s.portUsable p = true)
    (waits : ∃ g ∈ (s.port p).txq, (s.port p).maySend g)
    (sa : bit (s.reg .portCfg p) 17 = true → s.txAn p ≠ none) :
    ∃ f x, s.nextFrame p = some (f, x) ∧ s.transmit p = (s.frameTaken p f x).wire p
      (.tunil f (s.wireBytes p ((s.txSa p).map fun a => (a, (s.txPn p a).getD 0)) f)) := by
  have blocked : (bit (s.reg .portCfg p) 17 && (s.txAn p).isNone) = false := by
    cases on : bit (s.reg .portCfg p) 17 with
    | false => rfl
    | true => simpa [Option.isSome_iff_ne_none] using sa on
  rw [State.transmit_eq sd usable]
  cases next : s.nextFrame p with
  | none =>
    obtain ⟨g, mem, may⟩ := waits
    exact absurd may (Port.next_none next g mem)
  | some fx =>
    refine ⟨fx.1, fx.2, rfl, ?_⟩
    dsimp only
    rw [blocked]
    rfl

/-- Nothing goes without a frame that may go, nor a protected frame without an association. -/
theorem State.transmit_idle {s : State} {p : Nat} (sd : sound s) (usable : s.portUsable p = true)
    (h : (∀ g ∈ (s.port p).txq, ¬ (s.port p).maySend g) ∨ (bit (s.reg .portCfg p) 17 = true ∧ s.txAn p = none)) :
    s.transmit p = s := by
  rw [State.transmit_eq sd usable]
  split
  case h_1 => rfl
  case h_2 f x next =>
    obtain ⟨mem, may, -, -⟩ := Port.next_spec next
    obtain ⟨on, none⟩ := h.resolve_left fun h => h f mem may
    rw [on, none]
    rfl

section
variable {s : State} {p : Nat} {f : TxFrame} {x : Port} {bytes : List Byte} (sd : sound s)
  (ets : x = { s.port p with ets4 := x.ets4, ets2 := x.ets2 })
include sd ets

theorem State.sound_frameTaken : sound (s.frameTaken p f x) :=
  (sound_congr (congrArg State.parity (State.frameTaken_leaves (f := f) ets).1 :)).2 sd

/-- What leaves alone a frame on its way: the tiers, the homes, the routes, and the rest of the queue. -/
theorem State.sentFrame_leaves : let u := (s.frameTaken p f x).wire p (.tunil f bytes)
    (u.port p).txq = (s.port p).txq.erase f ∧ u.mem = s.mem ∧ u.homes = s.homes ∧ u.tunil = s.tunil ∧
      (f.pcp ≠ 6 → u.reg .portTxcl0 p = s.reg .portTxcl0 p) := by
  obtain ⟨frame, -, txq, -⟩ := State.frameTaken_leaves (f := f) ets
  have wired := State.wired_wire (p := p) (w := .tunil f bytes) (State.sound_frameTaken (f := f) sd ets)
  have all : _ = _ := wired.frame.trans (by rw [frame])
  refine ⟨?_, (congrArg State.mem all :), (congrArg State.homes all :), (congrArg State.tunil all :), fun h => ?_⟩
  · exact (congrArg Port.txq (wired.port p)).trans txq
  · exact (wired.regs .portTxcl0 p (by simp)).trans (State.frameTaken_cl0 h x)

/-- An unprotected frame changes no more than its port, its counts and what leaves. -/
theorem State.sentFrame_plain (plain : s.txSa p = none) : let u := (s.frameTaken p f x).wire p (.tunil f bytes)
    u = { s with ports := u.ports, regs := u.regs, sent := u.sent } ∧
      sameRegs (fun r i => (r = .portTxcl0 ∨ r = .portFinjcnt) ∧ i = p) s u := by
  obtain ⟨frame, regs, -, -⟩ := State.frameTaken_plain (f := f) ets plain
  have wired := State.wired_wire (p := p) (w := .tunil f bytes) (State.sound_frameTaken (f := f) sd ets)
  exact ⟨wired.frame.trans (by rw [frame]), (regs.mono fun _ _ e => ⟨.inl e.1, e.2⟩).trans
    (wired.regs.mono fun _ _ e => ⟨.inr e.1, e.2⟩) fun _ _ e => e⟩

/-- A protected frame has used the next packet number of its association. -/
theorem State.sentFrame_protected {an pn : Nat} (sa : s.txSa p = some an) (now : s.txPn p an = some pn) :
    let u := (s.frameTaken p f x).wire p (.tunil f bytes)
    u.txPn p an = some (pn + 1) ∧ (u.port p).an = an := by
  obtain ⟨frame, -, -, -, used⟩ := State.frameTaken_protected (f := f) ets sa
  have wired := State.wired_wire (p := p) (w := .tunil f bytes) (State.sound_frameTaken (f := f) sd ets)
  have sas : (((s.frameTaken p f x).wire p (.tunil f bytes)).host).sas = s.risePn p an :=
    (congrArg (fun y => y.host.sas) (wired.frame.trans (by rw [frame])) :)
  exact ⟨txPn_risePn sas now, (congrArg Port.an (wired.port p)).trans used⟩

end

/-- With injection off and nothing held the frame leaves alone. -/
theorem State.sentFrame_alone {s : State} {p : Nat} {f : TxFrame} {x : Port} (bytes : List Byte)
    (ets : x = { s.port p with ets4 := x.ets4, ets2 := x.ets2 }) (off : bit (s.reg .portFinj p) 31 = false) (none : (s.port p).held = []) :
    ((s.frameTaken p f x).wire p (.tunil f bytes)).sent = .frame p f bytes :: s.sent := by
  obtain ⟨frame, inj, -, held⟩ := State.frameTaken_leaves (f := f) ets
  have quiet : ¬ (s.frameTaken p f x).injects p f.pcp := by
    unfold State.injects
    rw [inj, off]
    exact fun e => nomatch e.1
  rw [State.wire_alone (w := .tunil f bytes) quiet (held.trans none), frame]
  rfl

/-! ### Frames that injection holds -/

theorem exec_finjHoldRelease_none {s : State} (h : s.clocked = true) {p : Fin 32} (none : (s.port p).held = []) :
    exec (.finjHoldRelease p) s = .next s := by
  change execFinjHoldRelease p s = _
  unfold execFinjHoldRelease
  rw [whenClocked_on h, none]

theorem exec_finjHoldRelease_some {s : State} (h : s.clocked = true) {p : Fin 32} {w : WireFrame} {rest : List WireFrame}
    (held : (s.port p).held = w :: rest) :
    exec (.finjHoldRelease p) s = .next ((s.modPort p fun y => { y with held := rest }).emit (w.out p)) := by
  change execFinjHoldRelease p s = _
  unfold execFinjHoldRelease
  rw [whenClocked_on h, held]

theorem exec_routeFinjHoldRelease_none {s : State} (h : s.clocked = true) (none : s.tunil.held = none) :
    exec .routeFinjHoldRelease s = .next s := by
  change execRouteFinjHoldRelease s = _
  unfold execRouteFinjHoldRelease
  rw [whenClocked_on h, none]

theorem exec_routeFinjHoldRelease_some {s : State} (h : s.clocked = true) {q : Nat} {f : TxFrame}
    (held : s.tunil.held = some (q, f)) : exec .routeFinjHoldRelease s =
      .next (({ s with tunil := { s.tunil with held := none } } : State).pushFrame q f) := by
  change execRouteFinjHoldRelease s = _
  unfold execRouteFinjHoldRelease
  rw [whenClocked_on h, held]

/-! ### The obligation -/

/-- A frame received on a port that talks, by the filter that drops it or the share that it enters. -/
theorem frameReceive_outcomes {s : State} {p : Fin 32} (h : s.clocked = true) (talks : s.portTalks p = true) (f : RxFrame) :
    let c := Instr.frameReceive p f
    let bump (z : State) (r : Reg) (i : Nat) := z.setReg r i (wrapAdd32 (z.reg r i) 1)
    let z := s.fecSeen p f
    let t := z.seePn p f
    (f.pause = true → exec c s = .next (bump z .portPauseign p)) ∧
    (f.pause = false →
      (s.admits p f = false → exec c s = .next (bump z .portRxdrop p)) ∧
      (s.admits p f = true → s.exposed p f = true → exec c s = .next (bump z .portSecdrop p)) ∧
      (s.admits p f = true → s.exposed p f = false → exec c s = .next (s.frameOn t p f))) := by
  intro c bump z t
  have run : exec c s = .next (s.frameIn p f) := exec_frameReceive h p f
  rw [State.frameIn_talks talks] at run
  refine ⟨fun pause => ?_, fun plain => ⟨fun misfit => ?_, fun fits bare => ?_, fun fits secure => ?_⟩⟩
  · rw [run, if_pos pause]; rfl
  · rw [run, plain, misfit]; rfl
  · rw [run, plain, fits, bare]; rfl
  · rw [run, plain, fits, secure]; rfl

theorem State.txSa_plain {s : State} {p : Nat} (plain : ¬ bit (s.reg .portCfg p) 17 = true) : s.txSa p = none := by
  unfold State.txSa
  rw [if_neg plain]

theorem State.txSa_protected {s : State} {p : Nat} (on : bit (s.reg .portCfg p) 17 = true) : s.txSa p = s.txAn p := by
  unfold State.txSa
  rw [if_pos on]

/-- What FRAME_TRANSMIT does on a usable port. -/
theorem frameTransmit_outcomes {s : State} {p : Fin 32} (clocked : s.clocked = true) (sd : sound s)
    (usable : s.portUsable p = true) :
    let x := s.port p
    let protects := bit (s.reg .portCfg p) 17 = true
    ((∀ g ∈ x.txq, ¬ x.maySend g) → exec (.frameTransmit p) s = .next s) ∧
    (protects → s.txAn p = none → exec (.frameTransmit p) s = .next s) ∧
    (∀ an, (∃ g ∈ x.txq, x.maySend g) → (protects → s.txAn p = some an) → ∃ f u, exec (.frameTransmit p) s = .next u ∧
      f ∈ x.txq ∧ x.maySend f ∧ ((∃ g ∈ x.txq, g.pcp = 6) → f.pcp = 6) ∧ (u.port p).txq = x.txq.erase f ∧ u.mem = s.mem ∧
      u.homes = s.homes ∧ u.tunil = s.tunil ∧ (f.pcp ≠ 6 → u.reg .portTxcl0 p = s.reg .portTxcl0 p) ∧
      (¬ protects → u = { s with ports := u.ports, regs := u.regs, sent := u.sent } ∧
        sameRegs (fun r i => (r = .portTxcl0 ∨ r = .portFinjcnt) ∧ i = p) s u) ∧
      (bit (s.reg .portFinj p) 31 = false → x.held = [] →
        (¬ protects → u.sent = .frame p f (s.wireBytes p none f) :: s.sent) ∧
        (∀ pn, protects → s.txPn p an = some pn → .frame p f (s.wireBytes p (some (an, pn)) f) ∈ u.sent)) ∧
      (∀ pn, protects → s.txPn p an = some pn → u.txPn p an = some (pn + 1) ∧ (u.port p).an = an)) := by
  intro x protects
  have run := exec_frameTransmit clocked p
  refine ⟨fun idle => ?_, fun on none => ?_, fun an waits sa => ?_⟩
  · rw [run, State.transmit_idle sd usable (.inl idle)]
  · rw [run, State.transmit_idle sd usable (.inr ⟨on, none⟩)]
  · obtain ⟨f, y, next, sends⟩ := State.transmit_sends sd usable waits fun on => by rw [sa on]; exact nofun
    obtain ⟨mem, may, six, ets⟩ := Port.next_spec next
    rw [sends] at run
    generalize bytes : s.wireBytes p ((s.txSa p).map fun a => (a, (s.txPn p a).getD 0)) f = out at run
    obtain ⟨txq, keptMem, keptHomes, keptTunil, cl0⟩ := State.sentFrame_leaves (f := f) (bytes := out) sd ets
    refine ⟨f, _, run, mem, may, six, txq, keptMem, keptHomes, keptTunil, cl0,
      fun plain => State.sentFrame_plain sd ets (State.txSa_plain plain), fun off none => ?_,
      fun pn on now => State.sentFrame_protected sd ets ((State.txSa_protected on).trans (sa on)) now⟩
    have alone := State.sentFrame_alone (f := f) out ets off none
    refine ⟨fun plain => ?_, fun pn on now => ?_⟩
    · rw [alone, ← bytes, State.txSa_plain plain]
      rfl
    · rw [alone, ← bytes, State.txSa_protected on, sa on, Option.map_some, now]
      exact List.mem_cons_self

/-- What FRAME_RECEIVE notes of every frame on a port that talks. -/
theorem frameReceive_notes (s : State) (p : Nat) (f : RxFrame) :
    let z := s.fecSeen p f
    let t := z.seePn p f
    t = { z with host := { s.host with sas := t.host.sas } } ∧
    (bit (s.reg .portCfg p) 17 = false ∨ f.lldpOrPtp = true ∨ f.sec = none → t = z) ∧
    (∀ an pn n, bit (s.reg .portCfg p) 17 = true → f.lldpOrPtp = false → f.sec = some (an, pn) → (p, 0, an, n) ∈ s.host.sas →
      (p, 0, an, Nat.max n (pn + 1)) ∈ t.host.sas) := by
  intro z t
  have cfg : z.reg .portCfg p = s.reg .portCfg p := s.fecSeen_sameRegs p f .portCfg p (by simp)
  have host : z.host = s.host := (congrArg State.host (s.fecSeen_frame p f) :)
  refine ⟨?_, fun h => State.seePn_none (by rwa [cfg]), fun an pn n on tunil sec sa => ?_⟩
  · rw [← host]
    exact z.seePn_frame p f
  · exact State.seePn_moves (by rw [cfg]; exact on) tunil sec (by rw [host]; exact sa)

section
variable {s t : State} {p : Nat} {f : RxFrame}

theorem State.frameOn_control (control : f.lldpOrPtp = true) : s.frameOn t p f =
    if s.shareSize p 0 < (s.port p).used 0 + f.len then t.countWrap .portRxdrop p 1 else t := by
  unfold State.frameOn
  rw [control]
  rfl

variable (tunil : f.lldpOrPtp = false)
include tunil

theorem State.frameOn_unusable (down : s.portUsable p = false) : s.frameOn t p f = t.countWrap .portRxdrop p 1 := by
  unfold State.frameOn
  simp only [tunil, down]
  rfl

variable (usable : s.portUsable p = true)
include usable

theorem State.frameOn_bad (bad : framePasses f = false) : s.frameOn t p f = t.countWrap .tunCrcdrop 0 1 := by
  unfold State.frameOn
  simp only [tunil, usable, bad]
  rfl

theorem State.frameOn_passes (passes : framePasses f = true) : let k := s.frameClass f.route f.pcp
    s.frameOn t p f =
      if s.shareSize p k < (s.port p).used k + f.len then t.countWrap .portRxdrop p 1 else t.holdFrame p k f := by
  unfold State.frameOn
  simp only [tunil, usable, passes]
  rfl

end

/-- Priorities 0, 1, 3 and 5 are class 2's (R302). -/
theorem State.frameClass_bulk (s : State) (route : Option (Bool × Nat)) {pcp : Fin 8}
    (h : pcp = 0 ∨ pcp = 1 ∨ pcp = 3 ∨ pcp = 5) : s.frameClass route pcp = 2 := by
  unfold State.frameClass
  rw [if_pos]
  rcases h with rfl | rfl | rfl | rfl <;> decide

/-- Whether bytes take a share past its threshold is in the port, its configuration and the image. -/
theorem State.crossesXoff_congr {s t : State} {p : Nat} (port : t.port p = s.port p) (cfg : t.cfg = s.cfg)
    (reg : t.reg .portCfg p = s.reg .portCfg p) (c len : Nat) : t.crossesXoff p c len ↔ s.crossesXoff p c len := by
  unfold State.crossesXoff State.pfcOn State.xoffAt State.rfld
  rw [port, cfg, reg]

/-- A frame for a route enters its share on the port whose packet numbers and codewords it has moved. -/
theorem frameReceive_enters {s : State} {p c : Nat} {f : RxFrame} {fw : Bool} {r : Nat} (route : f.route = some (fw, r)) :
    let t := (s.fecSeen p f).seePn p f
    let u := t.holdFrame p c f
    (u.port p).used c = (s.port p).used c + f.len ∧ (u.port p).rx = (s.port p).rx ++ [⟨wireKey fw r, c, f.len⟩] ∧
      u = { t with ports := u.ports, sent := u.sent } ∧
      (s.crossesXoff p c f.len → u.sent = .macFrame p 0 (sharePcp c) :: s.sent) ∧
      (¬ s.crossesXoff p c f.len → u.sent = s.sent) := by
  intro t u
  obtain ⟨used, rx, frame, crosses, stays⟩ := State.holdFrame_enters route t p c
  have z := s.fecSeen_frame p f
  have seen := (s.fecSeen p f).seePn_frame p f
  have reg : t.reg .portCfg p = s.reg .portCfg p :=
    (State.reg_congr (congrArg State.regs seen :) ..).trans (s.fecSeen_sameRegs p f .portCfg p (by simp))
  have port : t.port p = s.port p := State.port_congr ((congrArg State.ports seen :).trans (congrArg State.ports z :)) p
  have sent : t.sent = s.sent := (congrArg State.sent seen :).trans (congrArg State.sent z :)
  have cfg : t.cfg = s.cfg := (congrArg State.cfg seen :).trans (congrArg State.cfg z :)
  have same := State.crossesXoff_congr port cfg reg c f.len
  rw [port] at used rx
  exact ⟨used, rx, frame, fun h => sent ▸ crosses (same.2 h), fun h => sent ▸ stays (mt same.1 h)⟩

/-- Settles O52: a received frame by the first filter that drops it or the share that it enters, pauses by their mask, and a frame
that leaves by the port's choice, its packet number and the wire. -/
theorem portsCarryFrames : Obligations.PortsCarryFrames := by
  intro p s clocked
  dsimp only
  refine ⟨fun f => ⟨fun silent => ?silent, fun talks => ?receive⟩, fun m b => ⟨fun silent => ?pfcSilent, fun talks => ?pfc⟩,
    fun four => ⟨?expiry, fun talks on above => ?xoff, fun not => ?noXoff⟩, fun down => ?down, fun sd usable => ?transmit,
    exec_finjHoldRelease_none clocked, fun w rest held => ?released, exec_routeFinjHoldRelease_none clocked,
    fun q f held => ?routeReleased⟩
  case silent => rw [exec_frameReceive clocked, State.frameIn_silent (State.portTalks_false.2 silent)]
  case pfcSilent => rw [exec_pfcReceive clocked, State.pfcIn_silent (State.portTalks_false.2 silent)]
  case pfc =>
    obtain ⟨frame, four, two, other, none, regs⟩ := State.pfcIn_pauses (State.portTalks_iff.2 talks) m b
    exact ⟨_, exec_pfcReceive clocked p m b, frame, four, two, other, none, regs⟩
  case expiry =>
    exact whenClocked_on clocked fun x => x.modPort p fun y =>
      if four then { y with paused4 := false } else { y with paused2 := false }
  case xoff =>
    refine ⟨_, exec_pfcXoffRepeat clocked p four, ?_⟩
    rw [State.xoffRepeat_above (State.portTalks_iff.2 talks) on above, State.port_emit, State.port_modPort_same, Port.xoff_setXoff]
    exact ⟨rfl, rfl, rfl⟩
  case noXoff =>
    rw [exec_pfcXoffRepeat clocked, State.xoffRepeat_not (not.imp_left State.portTalks_false.2)]
  case down => rw [exec_frameTransmit clocked, State.transmit_unusable down]
  case released =>
    refine ⟨_, exec_finjHoldRelease_some clocked held, ?_⟩
    rw [State.port_emit, State.port_modPort_same]
    exact ⟨rfl, rfl⟩
  case routeReleased =>
    exact ⟨_, exec_routeFinjHoldRelease_some clocked held, rfl, congrArg Port.txq (State.port_modPort_same ..), rfl⟩
  case transmit => exact frameTransmit_outcomes clocked sd usable
  case receive =>
    have ce : (s.fecSeen p f).reg .portFecce p = wrapAdd32 (s.reg .portFecce p) f.fecCe := by simp [State.reg_fecSeen]
    have ue : (s.fecSeen p f).reg .portFecue p = wrapAdd32 (s.reg .portFecue p) f.fecUe := by simp [State.reg_fecSeen]
    obtain ⟨t, same, moves⟩ := frameReceive_notes s p f
    obtain ⟨pause, others⟩ := frameReceive_outcomes clocked (State.portTalks_iff.2 talks) f
    refine ⟨ce, ue, s.fecSeen_frame p f, s.fecSeen_sameRegs p f, t, same, moves, pause, fun plain => ?_⟩
    obtain ⟨misfit, bare, passes⟩ := others plain
    refine ⟨fun bad => misfit ?_, fun good expo => bare ?_ ?_, fun good control => ?_, fun good secure tunil => ?_⟩
    · rw [← Bool.not_eq_true, State.admits_iff]; exact bad
    · rw [State.admits_iff]; exact good
    · rw [State.exposed_iff]; exact expo
    · have guarded : s.exposed p f = false := by
        rw [← Bool.not_eq_true, State.exposed_iff, control]
        exact fun e => nomatch e.2.1
      rw [passes (State.admits_iff.2 good) guarded, State.frameOn_control control]
      rfl
    · have guarded : s.exposed p f = false := by
        rw [← Bool.not_eq_true, State.exposed_iff]
        exact secure
      have run := passes (State.admits_iff.2 good) guarded
      refine ⟨fun down => ?_, fun usable bad => ?_, fun usable ok => ⟨s.frameClass_bulk f.route, fun full => ?_,
        fun fits none => ?_, fun fw r fits route => ?_⟩⟩
      · rw [run, State.frameOn_unusable tunil down]; rfl
      · rw [run, State.frameOn_bad tunil usable bad]; rfl
      all_goals rw [State.frameOn_passes tunil usable ok] at run
      · rw [run, if_pos full]; rfl
      · rw [run, if_neg (Nat.not_lt.2 fits)]
        unfold State.holdFrame
        rw [none]
      · rw [if_neg (Nat.not_lt.2 fits)] at run
        exact ⟨_, run, frameReceive_enters route⟩

end Sys2Proof.Machine
end

section
/-! PROOF. Segments that are due on other ports (R322, R325, R332, R340): they join the queues of usable ports alone, and a
port that is lost to traffic is left without frames. -/
namespace Sys2Proof.Machine

/-! ### What sending again may change -/

/-- Segments sent again change the routes, the transmit queues and two counts. A port that is not usable, and for which route
injection holds no frame, gets none. -/
structure State.Resends (s u : State) : Prop where
  frame : u = { s with ports := u.ports, tunil := u.tunil, regs := u.regs }
  regs : sameRegs (fun r _ => r = .tunRetx ∨ r = .tunFinjcnt) s u
  port : ∀ q, u.port q = { s.port q with txq := (u.port q).txq }
  idle : ∀ q, s.portUsable q = false → (∀ f, s.tunil.held ≠ some (q, f)) →
    (u.port q).txq = (s.port q).txq ∧ ∀ f, u.tunil.held ≠ some (q, f)

namespace State.Resends

theorem refl (s : State) : s.Resends s := ⟨rfl, fun _ _ _ => rfl, fun _ => rfl, fun _ _ h => ⟨rfl, h⟩⟩

/-- Ports stay as usable as they were. -/
theorem usable {s u : State} (h : s.Resends u) (q : Nat) : u.portUsable q = s.portUsable q :=
  State.portUsable_congr (h.regs _ _ (by simp)) (h.regs _ _ (by simp)) (by rw [h.port q])

theorem trans {s t u : State} (h1 : s.Resends t) (h2 : t.Resends u) : s.Resends u where
  frame := by rw [h2.frame, h1.frame]
  regs := h1.regs.trans h2.regs fun _ _ e => e
  port q := by rw [h2.port q, h1.port q]
  idle q down none := by
    obtain ⟨txq1, none1⟩ := h1.idle q down none
    obtain ⟨txq2, none2⟩ := h2.idle q ((h1.usable q).trans down) none1
    exact ⟨txq2.trans txq1, none2⟩

theorem sound {s u : State} (h : s.Resends u) (sd : Machine.sound s) : Machine.sound u :=
  (sound_congr (congrArg State.parity h.frame :)).2 sd

theorem count (s : State) {r : Reg} (h : r = .tunRetx ∨ r = .tunFinjcnt) (i n : Nat) : s.Resends (s.countWrap r i n) :=
  ⟨rfl, sameRegs_setReg s h _, fun _ => rfl, fun _ _ h => ⟨rfl, h⟩⟩

/-- A change of the routes and of the injection's numbers. -/
theorem tunil (s : State) {x : Tunil} (h : x.held = s.tunil.held) : s.Resends { s with tunil := x } :=
  ⟨rfl, fun _ _ _ => rfl, fun _ => rfl, fun _ _ none => ⟨rfl, fun f => h ▸ none f⟩⟩

theorem txq_pushFrame_other (s : State) {p q : Nat} (f : TxFrame) (h : q ≠ p) :
    ((s.pushFrame p f).port q).txq = (s.port q).txq := congrArg Port.txq (s.port_modPort_other _ h)

theorem port_pushFrame (s : State) (p : Nat) (f : TxFrame) (q : Nat) :
    (s.pushFrame p f).port q = { s.port q with txq := ((s.pushFrame p f).port q).txq } :=
  s.port_modPort_keeps (P := fun x y => y = { x with txq := y.txq }) (fun _ => rfl) p (fun _ => rfl) q

/-- A frame joins the queue of a usable port. -/
theorem push {s : State} {p : Nat} (up : s.portUsable p = true) (f : TxFrame) : s.Resends (s.pushFrame p f) := by
  refine ⟨rfl, fun _ _ _ => rfl, port_pushFrame s p f, fun q down none => ⟨txq_pushFrame_other s f ?_, none⟩⟩
  rintro rfl
  rw [up] at down
  cases down

end State.Resends

/-- The frame that route injection holds goes to its port. -/
def State.heldFreed (s : State) : State := match s.tunil.held with
  | some (q, g) => ({ s with tunil := { s.tunil with held := none } } : State).pushFrame q g
  | none => s

namespace State.Resends

theorem freed (s : State) : s.Resends s.heldFreed := by
  unfold State.heldFreed
  split
  case h_1 q g held =>
    refine ⟨rfl, fun _ _ _ => rfl, fun r => port_pushFrame _ q g r, fun r _ none => ⟨txq_pushFrame_other _ g ?_, nofun⟩⟩
    rintro rfl
    exact none g held
  case h_2 => exact refl s

/-- Route injection holds a frame for a usable port. -/
theorem hold {s : State} {p : Nat} (up : s.portUsable p = true) (f : TxFrame) :
    s.Resends { s with tunil := { s.tunil with held := some (p, f) } } := by
  refine ⟨rfl, fun _ _ _ => rfl, fun _ => rfl, fun q down _ => ⟨rfl, fun g e => ?_⟩⟩
  obtain ⟨rfl, -⟩ := Prod.mk.inj (Option.some.inj e)
  rw [up] at down
  cases down

end State.Resends

/-! ### Placing a segment -/

theorem State.resends_routeFrame {s : State} (sd : sound s) {p : Nat} (up : s.portUsable p = true) (key : Nat) (f : TxFrame) :
    s.Resends (s.routeFrame key p f) := by
  have pushFreed {t : State} (h : s.Resends t) (g : TxFrame) : s.Resends (t.pushFrame p g).heldFreed :=
    (h.trans (.push ((h.usable p).trans up) g)).trans (.freed _)
  unfold State.routeFrame
  rw [State.useRegs_sound sd]
  dsimp only
  split
  · exact .push up f
  · have drawn : s.Resends { s with tunil := { s.tunil with injNo := (s.tunil.injNo + 1) % 2 ^ 40 } } := .tunil s rfl
    generalize ({ s with tunil := { s.tunil with injNo := (s.tunil.injNo + 1) % 2 ^ 40 } } : State) = t at drawn
    have counted := drawn.trans (.count t (.inr rfl) 0 1)
    cases injHit (fld (s.reg .tunFinj 0) 27 23) (injDraw (s.reg .tunFinjseed 0) s.tunil.injNo (0x800000 + keyNum key)).1 with
    | false => exact pushFreed drawn f
    | true =>
      simp only [Bool.not_true, Bool.false_eq_true, if_false, if_true]
      split
      · exact counted.trans (.freed _)
      · exact pushFreed counted _
      · exact pushFreed counted _
      · have free := counted.trans (.freed _)
        exact free.trans (.hold ((free.usable p).trans up) f)
      · have first := counted.trans (.push ((counted.usable p).trans up) f)
        exact pushFreed first f

theorem foldl_pick_mem (lt : Nat → Nat → Prop) [DecidableRel lt] (l : List Nat) : ∀ b : Option Nat, ∀ p,
    l.foldl (fun b p => match b with | none => some p | some q => if lt p q then some p else some q) b = some p →
      p ∈ l ∨ b = some p := by
  induction l with
  | nil => exact fun b p h => .inr h
  | cons a l ih =>
    intro b p h
    rcases ih _ p h with mem | h
    · exact .inl (List.mem_cons_of_mem a mem)
    dsimp only at h
    split at h
    · exact .inl (Option.some.inj h ▸ List.mem_cons_self)
    · split at h
      · exact .inl (Option.some.inj h ▸ List.mem_cons_self)
      · exact .inr h

/-- Only a usable port is chosen (R322). -/
theorem State.pickPort_usable {s : State} {mask pcp : Nat} {avoid : Option Nat} {p : Nat}
    (h : s.pickPort mask pcp avoid = some p) : s.portUsable p = true := by
  let waiting (q : Nat) : Nat := ((s.port q).txq.filter fun f => decide (f.pcp = pcp)).length
  unfold State.pickPort at h
  have chosen := (foldl_pick_mem (fun p q => waiting p < waiting q) _ none p h).resolve_right nofun
  split at chosen
  · exact (List.mem_filter.1 chosen).2
  · exact (List.mem_filter.1 (List.mem_filter.1 chosen).1).2

theorem State.resends_placeSeg {s : State} (sd : sound s) (key pcp : Nat) (seg : Seg) (avoid : Option Nat) :
    s.Resends (s.placeSeg key pcp seg avoid).1 := by
  unfold State.placeSeg
  split
  case h_1 => exact .refl s
  case h_2 p picked => exact s.resends_routeFrame sd (State.pickPort_usable picked) key _

theorem State.resends_resend {s : State} (sd : sound s) (key : Nat) (x : TxSeg) : s.Resends (s.resend key x) := by
  have placed := State.resends_placeSeg sd key (classPcp (s.route key).cls) { x.seg with retx := true } (some x.port)
  unfold State.resend
  dsimp only
  split
  · exact .tunil s rfl
  · exact (placed.trans (.count _ (.inl rfl) 0 1)).trans (.tunil _ rfl)

theorem State.resends_foldl {α : Type} {f : State → α → State} (hf : ∀ s a, sound s → s.Resends (f s a)) (l : List α)
    {s : State} (sd : sound s) : s.Resends (l.foldl f s) :=
  List.foldlRecOn (motive := fun u => s.Resends u) l f (.refl s) fun x hx a _ => hx.trans (hf x a (hx.sound sd))

/-- The due segments of every route. -/
theorem State.resends_sendDue {s : State} (sd : sound s) : s.Resends s.sendDue := by
  unfold State.sendDue
  refine State.resends_foldl (fun x e sx => ?_) _ sd
  split
  · exact .refl x
  · exact State.resends_foldl (fun y z sy => State.resends_resend sy e.1 z) _ sx

/-! ### A port that is lost -/

/-- A port without its frames, its pauses and its partner. -/
def Port.lost (x : Port) : Port :=
  { x with txq := [], held := [], paused4 := false, paused2 := false, xoff4 := false, xoff2 := false, matched := false
           foreign := none }

/-- A port is lost: preemption is not verified any more, and what was last sent on the port is due. -/
def State.lost (s : State) (p : Nat) : State :=
  let x := (s.setRfld .portStatus p 28 28 0).modPort p Port.lost
  { x with tunil := { x.tunil with routes := mmap Route.init x.tunil.routes fun _ r =>
      { r with unacked := r.unacked.map fun y => if y.port = p then { y with due := true } else y } } }

theorem State.portLoss_eq (s : State) (p : Nat) : s.portLoss p = (s.lost p).sendDue := rfl

theorem State.port_lost (s : State) (p : Nat) : (s.lost p).port p = (s.port p).lost :=
  State.port_modPort_same (s.setRfld .portStatus p 28 28 0) p Port.lost

/-- What the loss of a port leaves: its status without verified preemption, and, unless it is still usable or route injection
holds a frame, an empty queue. -/
theorem State.portLoss_loses {s : State} (sd : sound s) (p : Nat) : let u := s.portLoss p
    u = { s with ports := u.ports, tunil := u.tunil, regs := u.regs } ∧
      sameRegs (fun r i => (r = .portStatus ∧ i = p) ∨ r = .tunRetx ∨ r = .tunFinjcnt) s u ∧
      u.reg .portStatus p = setFld (s.reg .portStatus p) 28 28 0 ∧
      (s.portSt p ≠ 2 → s.tunil.held = none → (u.port p).txq = []) := by
  have sdl : sound (s.lost p) := sd
  have again := State.resends_sendDue sdl
  have status : (s.lost p).reg .portStatus p = setFld (s.reg .portStatus p) 28 28 0 := State.reg_setReg_same ..
  have first : sameRegs (fun r i => r = .portStatus ∧ i = p) s (s.lost p) := sameRegs_setReg s ⟨rfl, rfl⟩ _
  rw [State.portLoss_eq]
  refine ⟨again.frame, ?_, (again.regs .portStatus p (by simp)).trans status, fun down none => ?_⟩
  · exact (first.mono fun _ _ => .inl).trans (again.regs.mono fun _ _ => .inr) fun _ _ e => e
  · have idle : (s.lost p).portUsable p = false := by
      have st : (s.lost p).portSt p = s.portSt p := by
        unfold State.portSt State.rfld
        rw [status, fld_setFld_other _ _ _ _ _ _ (by omega) (by omega)]
      unfold State.portUsable
      rw [st, decide_eq_false down]
      rfl
    rw [(again.idle p idle fun f e => nomatch none.symm.trans e).1, State.port_lost]
    rfl

end Sys2Proof.Machine
end

section
/-! PROOF. Bring-up, retrain and hold (R311 to R313): what a change of a port's state may touch, and what each of them leaves
in the port and its status. -/
namespace Sys2Proof.Machine

/-! ### What a port's moves may change -/

/-- The ports, the routes, the host's pending bits, what leaves, and the registers of `P`; nothing that left is taken back. -/
structure State.MovesPort (P : Reg → Nat → Prop) (s u : State) : Prop where
  frame : u = { s with ports := u.ports, tunil := u.tunil, regs := u.regs, host := u.host, sent := u.sent }
  regs : sameRegs P s u
  sent : ∀ e ∈ s.sent, e ∈ u.sent

namespace State.MovesPort
variable {P Q : Reg → Nat → Prop} {s t u : State}

theorem trans (h1 : s.MovesPort P t) (h2 : t.MovesPort P u) : s.MovesPort P u where
  frame := by rw [h2.frame, h1.frame]
  regs := h1.regs.trans h2.regs fun _ _ e => e
  sent e h := h2.sent e (h1.sent e h)

theorem mono (h : s.MovesPort P u) (sub : ∀ r i, P r i → Q r i) : s.MovesPort Q u := ⟨h.frame, h.regs.mono sub, h.sent⟩

theorem sound (h : s.MovesPort P u) (sd : Machine.sound s) : Machine.sound u :=
  (sound_congr (congrArg State.parity h.frame :)).2 sd

theorem mem (h : s.MovesPort P u) : u.mem = s.mem := (congrArg State.mem h.frame :)
theorem homes (h : s.MovesPort P u) : u.homes = s.homes := (congrArg State.homes h.frame :)

theorem modPort (s : State) (p : Nat) (g : Port → Port) : s.MovesPort P (s.modPort p g) :=
  ⟨rfl, fun _ _ _ => rfl, fun _ h => h⟩

theorem setReg (s : State) {r : Reg} {i : Nat} (h : P r i) (v : W32) : s.MovesPort P (s.setReg r i v) :=
  ⟨rfl, sameRegs_setReg s h v, fun _ h => h⟩

theorem of_wired {p : Nat} (h : s.Wired p u) : s.MovesPort (fun r i => r = .portFinjcnt ∧ i = p) u :=
  ⟨h.frame.trans (by rw [h.frame]), h.regs, h.sent⟩

theorem of_resends (h : s.Resends u) : s.MovesPort (fun r _ => r = .tunRetx ∨ r = .tunFinjcnt) u :=
  ⟨h.frame.trans (by rw [h.frame]), h.regs, fun e he => by rw [h.frame]; exact he⟩

/-- The same image and serial number: LLDP tells the same. -/
theorem lldpArg (h : s.MovesPort P u) (p : Nat) : u.lldpArg p = s.lldpArg p := by
  rw [h.frame]
  rfl

end State.MovesPort

theorem State.portLoss_moves {s : State} (sd : sound s) (p : Nat) :
    s.MovesPort (fun r i => (r = .portStatus ∧ i = p) ∨ r = .tunRetx ∨ r = .tunFinjcnt) (s.portLoss p) := by
  obtain ⟨frame, regs, -, -⟩ := State.portLoss_loses sd p
  exact ⟨frame.trans (by rw [frame]), regs, fun e he => by rw [frame]; exact he⟩

/-! ### PORT_STATUS.STATE -/

theorem State.raise_sent {s : State} {e : Emit} (h : e ∈ s.sent) (f n : Nat) : e ∈ (s.raise f n).sent := by
  unfold State.raise State.sendVec
  dsimp only
  (repeat' split)
  · exact List.mem_cons_of_mem _ h
  all_goals exact h

theorem State.noticeUp_sent {s : State} {e : Emit} (h : e ∈ s.sent) (c : Nat) (b : List Nat) : e ∈ (s.noticeUp c b).sent := by
  unfold State.noticeUp
  split
  · exact List.mem_cons_of_mem _ h
  · exact h

/-- A port that changes its state shows it, and beyond that only tells of it. -/
theorem State.setPortSt_sets (s : State) (p : Nat) {v : Nat} (small : v < 8) : let u := s.setPortSt p v
    s.MovesPort (fun r i => r = .portStatus ∧ i = p) u ∧ u.ports = s.ports ∧ u.tunil = s.tunil ∧ u.portSt p = v ∧
      ∀ hi lo, hi < 29 → u.rfld .portStatus p hi lo = s.rfld .portStatus p hi lo := by
  have set := s.reg_setReg_same .portStatus p (setFld (s.reg .portStatus p) 31 29 v)
  have raised : let u := (s.setRfld .portStatus p 31 29 v).raise 0 195
      s.MovesPort (fun r i => r = .portStatus ∧ i = p) u ∧ u.ports = s.ports ∧ u.tunil = s.tunil ∧
        u.reg .portStatus p = setFld (s.reg .portStatus p) 31 29 v := by
    have frame := (s.setRfld .portStatus p 31 29 v).raise_frame 0 195
    have regs := (s.setRfld .portStatus p 31 29 v).raise_regs 0 195
    refine ⟨⟨frame.trans (by rw [frame]; rfl), ?_, fun e he => State.raise_sent (s := State.setRfld ..) he 0 195⟩,
      State.raise_ports .., State.raise_tunil .., (State.reg_congr regs ..).trans set⟩
    exact (sameRegs_setReg s ⟨rfl, rfl⟩ _).trans (sameRegs.of_regs regs) fun _ _ e => e
  have fields {u : State} (h : u.reg .portStatus p = setFld (s.reg .portStatus p) 31 29 v) : u.portSt p = v ∧
      ∀ hi lo, hi < 29 → u.rfld .portStatus p hi lo = s.rfld .portStatus p hi lo := by
    unfold State.portSt State.rfld
    rw [h, fld_setFld_same _ _ _ _ (by omega)]
    exact ⟨Nat.mod_eq_of_lt small, fun hi lo low => fld_setFld_other _ _ _ _ _ _ (by omega) (by omega)⟩
  obtain ⟨moves, ports, tunil, reg⟩ := raised
  unfold State.setPortSt
  split
  case isTrue same => exact ⟨⟨rfl, fun _ _ _ => rfl, fun _ h => h⟩, rfl, rfl, same, fun _ _ _ => rfl⟩
  case isFalse =>
    dsimp only
    split
    · have regs := State.noticeUp_regs ((s.setRfld .portStatus p 31 29 v).raise 0 195) 0x08 [p, v]
      refine ⟨moves.trans ⟨?_, sameRegs.of_regs regs, fun e he => State.noticeUp_sent he _ _⟩, ?_, ?_,
        fields ((State.reg_congr regs ..).trans reg)⟩
      · rw [State.noticeUp_frame]
      · rw [State.noticeUp_ports, ports]
      · rw [State.noticeUp_tunil, tunil]
    · exact ⟨moves, ports, tunil, fields reg⟩

/-! ### Retraining -/

/-- The status of a port that retrains: counted, with preemption not verified, and its request taken. -/
def State.retraining (s : State) (p : Nat) : State :=
  ((((s.setPortSt p 4).setRfld .portStatus p 23 16 (Nat.min 255 (s.rfld .portStatus p 23 16 + 1))).setRfld
    .portStatus p 28 28 0).setRfld .portCtrl p 31 31 0)

theorem State.retrain_eq {s : State} (sd : sound s) (p : Nat) : s.retrain p = (s.retraining p).portLoss p := by
  unfold State.retrain
  dsimp only
  rw [State.hwFld_sound]
  · rfl
  · exact (s.setPortSt_sets p (by omega : 4 < 8)).1.sound sd

/-- What a retrain leaves (R312). -/
theorem State.retrain_retrains {s : State} (sd : sound s) (p : Nat) : let u := s.retrain p
    s.MovesPort (fun r i => ((r = .portStatus ∨ r = .portCtrl) ∧ i = p) ∨ r = .tunRetx ∨ r = .tunFinjcnt) u ∧ u.portSt p = 4 ∧
      u.rfld .portStatus p 23 16 = Nat.min 255 (s.rfld .portStatus p 23 16 + 1) ∧ bit (u.reg .portStatus p) 28 = false ∧
      bit (u.reg .portCtrl p) 31 = false ∧ (s.tunil.held = none → (u.port p).txq = []) := by
  obtain ⟨moves, -, tunil, st, -⟩ := s.setPortSt_sets p (by omega : 4 < 8)
  have status : (s.retraining p).reg .portStatus p = setFld (setFld ((s.setPortSt p 4).reg .portStatus p) 23 16
      (Nat.min 255 (s.rfld .portStatus p 23 16 + 1))) 28 28 0 := by
    unfold State.retraining
    simp [State.setRfld_eq]
  have ctrl : bit ((s.retraining p).reg .portCtrl p) 31 = false := by
    unfold State.retraining
    rw [State.setRfld_eq, State.reg_setReg_same, bit_setFld _ _ _ _ _ (by omega)]
    rfl
  have first : s.MovesPort (fun r i => ((r = .portStatus ∨ r = .portCtrl) ∧ i = p) ∨ r = .tunRetx ∨ r = .tunFinjcnt)
      (s.retraining p) :=
    (((moves.mono fun _ _ e => .inl ⟨.inl e.1, e.2⟩).trans (.setReg _ (.inl ⟨.inl rfl, rfl⟩) _)).trans
      (.setReg _ (.inl ⟨.inl rfl, rfl⟩) _)).trans (.setReg _ (.inl ⟨.inr rfl, rfl⟩) _)
  have st4 : (s.retraining p).portSt p = 4 := by
    unfold State.portSt State.rfld
    rw [status, fld_setFld_other _ _ _ _ _ _ (by omega) (by omega), fld_setFld_other _ _ _ _ _ _ (by omega) (by omega)]
    exact st
  have sdr := first.sound sd
  obtain ⟨-, regs, lost, idle⟩ := State.portLoss_loses sdr p
  rw [State.retrain_eq sd]
  refine ⟨first.trans ((State.portLoss_moves sdr p).mono fun _ _ e => e.imp_left fun e => ⟨.inl e.1, e.2⟩),
    (State.portSt_portLoss ..).trans st4, ?_, ?_, ?_, fun none => idle (by omega) (tunil ▸ none)⟩
  · rw [State.rfld, lost, status, fld_setFld_other _ _ _ _ _ _ (by omega) (by omega),
      fld_setFld_other _ _ _ _ _ _ (by omega) (by omega), fld_setFld_same _ _ _ _ (by omega)]
    exact Nat.mod_eq_of_lt (Nat.lt_of_le_of_lt (Nat.min_le_left ..) (by omega))
  · rw [lost, bit_setFld _ _ _ _ _ (by omega)]
    rfl
  · rw [regs .portCtrl p (by simp), ctrl]

/-! ### Bring-up -/

/-- The registers that a port's link-up, loss or next state may change. -/
def linkRegs (p : Nat) (r : Reg) (i : Nat) : Prop :=
  ((r = .portStatus ∨ r = .portFinjcnt) ∧ i = p) ∨ r = .tunRetx ∨ r = .tunFinjcnt

/-- A port in training or retraining (R311). -/
def State.inBringup (s : State) (p : Nat) : Prop := s.portSt p = 1 ∨ s.portSt p = 4

theorem State.bringup_decide {s : State} {p : Nat} :
    (decide (s.portSt p = 1) || decide (s.portSt p = 4)) = true ↔ s.inBringup p := by
  rw [Bool.or_eq_true, decide_eq_true_iff, decide_eq_true_iff]
  rfl

/-- A port whose bring-up has succeeded. -/
def Port.linked (bond : Bool) (x : Port) : Port := { x with fails := 0, firstEnded := true, verifyFails := 0, matched := !bond }

/-- The port is UP. -/
def State.linking (s : State) (p : Nat) : State := (s.modPort p (Port.linked (decide (s.portRole p = 1)))).setPortSt p 2

/-- LLDP has left, and the segments that waited have gone (R301, R332). -/
def State.linked (s : State) (p : Nat) : State := ((s.linking p).sendLldp p).sendDue

theorem State.linking_up (s : State) (p : Nat) : let u := s.linking p
    s.MovesPort (linkRegs p) u ∧ u.portSt p = 2 ∧ u.rfld .portStatus p 23 16 = s.rfld .portStatus p 23 16 ∧
      u.port p = (s.port p).linked (decide (s.portRole p = 1)) := by
  obtain ⟨moves, ports, -, st, fields⟩ :=
    (s.modPort p (Port.linked (decide (s.portRole p = 1)))).setPortSt_sets p (by omega : 2 < 8)
  exact ⟨(State.MovesPort.modPort s p _).trans (moves.mono fun _ _ e => .inl ⟨.inl e.1, e.2⟩), st, fields 23 16 (by omega),
    (State.port_congr ports p).trans (s.port_modPort_same p _)⟩

/-- What a link-up leaves before a waiting RETRAIN is taken (R311). -/
theorem State.linked_up {s : State} (sd : sound s) (p : Nat) : let u := s.linked p
    s.MovesPort (linkRegs p) u ∧ u.portSt p = 2 ∧ u.rfld .portStatus p 23 16 = s.rfld .portStatus p 23 16 ∧
      (u.port p).fails = 0 ∧ (u.port p).verifyFails = 0 ∧ (u.port p).matched = (!decide (s.portRole p = 1)) ∧
      (bit (s.reg .portFinj p) 31 = false → .macFrame p 2 (s.lldpArg p) ∈ u.sent) := by
  obtain ⟨moves, st, count, port⟩ := s.linking_up p
  have wired : (s.linking p).Wired p ((s.linking p).sendLldp p) := State.wired_wire (moves.sound sd)
  have lldp := moves.trans ((State.MovesPort.of_wired wired).mono fun _ _ e => .inl ⟨.inr e.1, e.2⟩)
  have again : ((s.linking p).sendLldp p).Resends (s.linked p) := State.resends_sendDue (lldp.sound sd)
  have status : (s.linked p).reg .portStatus p = (s.linking p).reg .portStatus p :=
    (again.regs _ _ (by simp)).trans (wired.regs _ _ (by simp))
  have kept := (again.port p).trans (by rw [wired.port p, port])
  refine ⟨lldp.trans ((State.MovesPort.of_resends again).mono fun _ _ => .inr), ?_, ?_, ?_, ?_, ?_, fun quiet => ?_⟩
  · rw [State.portSt, State.rfld, status]; exact st
  · rw [State.rfld, status]; exact count
  · rw [kept]; rfl
  · rw [kept]; rfl
  · rw [kept]; rfl
  · have off : ¬ (s.linking p).injects p 7 := fun e => by
      have on := e.1
      rw [moves.regs .portFinj p (by simp [linkRegs]), quiet] at on
      cases on
    have out := State.out_mem_wire (s := s.linking p) (w := .mac 2 ((s.linking p).lldpArg p)) off
    rw [moves.lldpArg] at out
    exact (State.MovesPort.of_resends again).sent _ (by rw [State.sendLldp, moves.lldpArg]; exact out)

/-- PORT_LINK_UP of a port in bring-up, and the RETRAIN that waits (R311, R313). -/
theorem State.linkUp_eq {s : State} (sd : sound s) {p : Nat} (h : s.inBringup p) :
    s.linkUp p = if bit (s.reg .portCtrl p) 31 then (s.linked p).retrain p else s.linked p := by
  have up := (State.linked_up sd p).1
  have run : s.linkUp p = if bit (((s.linked p).useReg .portCtrl p).reg .portCtrl p) 31 &&
      !((s.linked p).useReg .portCtrl p).faulty .portCtrl p then ((s.linked p).useReg .portCtrl p).retrain p
      else (s.linked p).useReg .portCtrl p := by
    unfold State.linkUp
    rw [State.bringup_decide.2 h]
    rfl
  rw [run, State.useReg_sound (up.sound sd), State.faulty_sound (up.sound sd), up.regs .portCtrl p (by simp [linkRegs]),
    Bool.not_false, Bool.and_true]

theorem State.linkUp_not {s : State} {p : Nat} (h : ¬ s.inBringup p) : s.linkUp p = s := by
  unfold State.linkUp
  rw [Bool.eq_false_iff.2 (mt State.bringup_decide.1 h)]
  rfl

end Sys2Proof.Machine
end

section
/-! PROOF. The statement about a port's states: bring-up (R311), PORT_CTRL (R312, R313), LLDP and cabling (R300, R301),
preemption (R306) and PTP (R309, R352), command by command. -/
namespace Sys2Proof.Machine

/-! ### Bring-up -/

section
variable {s : State} {p : Fin 32} (clocked : s.clocked = true)
include clocked

theorem exec_portLinkUp : exec (.portLinkUp p) s = .next (s.linkUp p) := whenClocked_on clocked fun x => x.linkUp p

theorem exec_portBringupFail : exec (.portBringupFail p) s = .next (s.bringupFail p) :=
  whenClocked_on clocked fun x => x.bringupFail p

theorem exec_portBringupRetry : exec (.portBringupRetry p) s = .next (if decide (0 < (s.port p).fails) &&
    (decide (s.portSt p = 1) || decide (s.portSt p = 4)) then s.setPortSt p 1 else s) :=
  whenClocked_on clocked fun x => if decide (0 < (x.port p).fails) && (decide (x.portSt p = 1) || decide (x.portSt p = 4))
    then x.setPortSt p 1 else x

theorem exec_portRetrain : exec (.portRetrain p) s = .next (if s.portTalks p then s.retrain p else s) :=
  whenClocked_on clocked fun x => if x.portTalks p then x.retrain p else x

theorem exec_lldpTransmit : exec (.lldpTransmit p) s = .next (if s.portTalks p then s.sendLldp p else s) :=
  whenClocked_on clocked fun x => if x.portTalks p then x.sendLldp p else x

theorem exec_lldpReceive (sender : LldpSender) (slot : Fin 16) (port : Fin 32) :
    exec (.lldpReceive p sender slot port) s = .next (s.lldp p sender.chassis sender.bond.toNat slot port) :=
  whenClocked_on clocked fun x => x.lldp p sender.chassis sender.bond.toNat slot port

theorem exec_lldpPartnerTimeout : exec (.lldpPartnerTimeout p) s = .next (if decide (s.portSt p = 2) &&
    decide (s.portRole p = 1) && !(s.port p).matched then s.setPortSt p 3 else s) :=
  whenClocked_on clocked fun x => if decide (x.portSt p = 2) && decide (x.portRole p = 1) && !(x.port p).matched
    then x.setPortSt p 3 else x

theorem exec_preemptVerify (ok : Bool) : exec (.preemptVerify p ok) s = .next (s.verify p ok) :=
  whenClocked_on clocked fun x => x.verify p ok

theorem exec_ptpMessage (m : PtpMsg) (lock : Bool) : exec (.ptpMessage p m lock) s = .next (s.ptp p m lock) :=
  whenClocked_on clocked fun x => x.ptp p m lock

end

/-- A failed attempt that is not the eighth in a row is counted (R311). -/
theorem State.bringupFail_counted {s : State} {p : Nat} (h : s.inBringup p) (few : (s.port p).fails + 1 < 8) :
    s.bringupFail p = s.modPort p fun x => { x with fails := (s.port p).fails + 1, firstEnded := true } := by
  unfold State.bringupFail
  rw [State.bringup_decide.2 h]
  dsimp only
  rw [if_neg (Nat.not_le.2 few)]
  rfl

/-- The eighth leaves the port FAILED, and its frames are dropped. -/
theorem State.bringupFail_failed {s : State} (sd : sound s) {p : Nat} (h : s.inBringup p) (many : 8 ≤ (s.port p).fails + 1) :
    let u := s.bringupFail p
    s.MovesPort (linkRegs p) u ∧ u.portSt p = 5 ∧ (s.tunil.held = none → (u.port p).txq = []) := by
  have run : s.bringupFail p = ((s.modPort p fun x => { x with fails := (s.port p).fails + 1, firstEnded := true }).setPortSt
      p 5).portLoss p := by
    unfold State.bringupFail
    rw [State.bringup_decide.2 h]
    dsimp only
    rw [if_pos many]
    rfl
  have set := State.MovesPort.modPort (P := linkRegs p) s p fun x => { x with fails := (s.port p).fails + 1, firstEnded := true }
  have held : (s.modPort p fun x => { x with fails := (s.port p).fails + 1, firstEnded := true }).tunil = s.tunil := rfl
  rw [run]
  generalize (s.modPort p fun x => { x with fails := (s.port p).fails + 1, firstEnded := true }) = a at *
  obtain ⟨moves, -, tunil, st, -⟩ := a.setPortSt_sets p (by omega : 5 < 8)
  have shown := set.trans (moves.mono fun _ _ e => .inl ⟨.inl e.1, e.2⟩)
  obtain ⟨-, -, -, idle⟩ := State.portLoss_loses (shown.sound sd) p
  exact ⟨shown.trans ((State.portLoss_moves (shown.sound sd) p).mono fun _ _ e => e.imp_left fun e => ⟨.inl e.1, e.2⟩),
    (State.portSt_portLoss ..).trans st, fun none => idle (by omega) (by rw [tunil, held, none])⟩

theorem State.bringupFail_not {s : State} {p : Nat} (h : ¬ s.inBringup p) : s.bringupFail p = s := by
  unfold State.bringupFail
  rw [Bool.eq_false_iff.2 (mt State.bringup_decide.1 h)]
  rfl

/-! ### PORT_CTRL -/

/-- The word of PORT_CTRL after a landed write. -/
def ctrlOf (old v : W32) : W32 := landValue .portCtrl old v

theorem bit_ctrlOf (old v : W32) : bit (ctrlOf old v) 31 = bit v 31 ∧ bit (ctrlOf old v) 30 = bit v 30 := by
  have fields : ctrlOf old v = setFld (setFld old 31 31 (fld v 31 31)) 30 30 (fld v 30 30) := rfl
  have read (i : Nat) : (fld v i i).testBit 0 = bit v i := by
    rw [testBit_fld]
    simp [bit]
  rw [fields, bit_setFld _ _ _ _ _ (by omega), bit_setFld _ _ _ _ _ (by omega), bit_setFld _ _ _ _ _ (by omega)]
  exact ⟨read 31, read 30⟩

theorem bit_setBit (w : W32) {i : Nat} (b : Bool) {j : Nat} (hj : j < 32) :
    bit (setBit w i b) j = if j = i then b else bit w j := by
  unfold setBit
  rw [bit_setFld _ _ _ _ _ hj]
  by_cases h : j = i
  · rw [if_pos (by omega), if_pos h, h, Nat.sub_self]
    cases b <;> rfl
  · rw [if_neg (by omega), if_neg h]

theorem State.write_portCtrl {s : State} {f p : Nat} (h : sound s) (view : s.inView f .portCtrl p = true) (v : W32) :
    s.write f .portCtrl p true v = (s.setReg .portCtrl p (ctrlOf (s.reg .portCtrl p) v), true) := by
  have lands : s.writeKind f .portCtrl p true v = none := rfl
  have plain : s.land .portCtrl p v = (s.repair (rkey .portCtrl p)).setReg .portCtrl p (ctrlOf (s.reg .portCtrl p) v) := by
    unfold State.land
    rw [State.faulty_sound h]
    rfl
  unfold State.write
  rw [view, lands, plain, State.repair_sound h]
  rfl

/-- An access that goes wrong writes the error log, and may tell the host (R473). -/
theorem State.regError_logs (s : State) (kind bar f off : Nat) (aer : Bool) : let u := s.regError kind bar f off aer
    u = { s with regs := u.regs, sent := u.sent } ∧ sameRegs errorLog s u := by
  have recorded (w0 w1 : W32) : let x := s.record 0 .hubRegerr0 w0 [(.hubRegerr1, w1)]
      x = { s with regs := x.regs } ∧ sameRegs errorLog s x := by
    dsimp only
    rw [State.record_regs]
    split
    · exact ⟨rfl, sameRegs_setReg s ⟨.inl rfl, rfl⟩ _⟩
    · exact ⟨rfl, (sameRegs_setReg s ⟨.inl rfl, rfl⟩ _).trans (sameRegs_setReg (P := errorLog) (State.setReg ..)
        ⟨.inr (.inl rfl), rfl⟩ _) fun _ _ e => e⟩
  obtain ⟨frame, regs⟩ := recorded (BitVec.ofNat 32 (kind % 16 * 2 ^ 24 + bar % 4 * 2 ^ 22 + f % 16 * 2 ^ 16 +
    off / 2 ^ 32 % 16)) (BitVec.ofNat 32 off)
  unfold State.regError
  dsimp only
  generalize s.record 0 .hubRegerr0 _ _ = x at *
  have counted : sameRegs errorLog s (x.countSat .hubRegerrcnt 0 1) :=
    regs.trans (sameRegs_setReg (P := errorLog) x ⟨.inr (.inr rfl), rfl⟩ _) fun _ _ e => e
  rw [frame] at counted ⊢
  cases aer with
  | false => exact ⟨rfl, counted⟩
  | true => exact ⟨rfl, counted⟩

/-- PORT_CTRL is written: a function that does not see it has the access logged. -/
theorem offView_portCtrl {s : State} {f p : Nat} {c : Instr} {v : W32} (run : exec c s = .next (s.portCtrl f p v)) :
    offView f .portCtrl p c s := by
  intro hidden
  have logged := s.regError_logs 1 (b2n (inBar2 .portCtrl)) f (offsetFor f .portCtrl p) true
  refine ⟨_, run, ?_⟩
  unfold State.portCtrl State.write
  rw [hidden]
  exact logged

/-- The register is written, and nothing has come of it. -/
def State.ctrlPut (s : State) (p : Nat) (v : W32) : State := s.setReg .portCtrl p (ctrlOf (s.reg .portCtrl p) v)

section
variable (s : State) (p : Nat) (v : W32)

theorem State.reg_ctrlPut : bit ((s.ctrlPut p v).reg .portCtrl p) 31 = bit v 31 ∧
    bit ((s.ctrlPut p v).reg .portCtrl p) 30 = bit v 30 := by
  rw [State.ctrlPut, State.reg_setReg_same]
  exact bit_ctrlOf _ v

theorem State.ctrlPut_sameRegs : sameRegs (fun r i => r = .portCtrl ∧ i = p) s (s.ctrlPut p v) := sameRegs_setReg s ⟨rfl, rfl⟩ _

theorem State.portSt_ctrlPut : (s.ctrlPut p v).portSt p = s.portSt p :=
  congrArg (fun w => fld w 31 29) (s.ctrlPut_sameRegs p v .portStatus p (by simp))

theorem State.portUsed_ctrlPut : (s.ctrlPut p v).portUsed p = s.portUsed p := by
  have cfg := s.ctrlPut_sameRegs p v .portCfg p (by simp)
  unfold State.portUsed State.portMode State.portRole State.rfld
  rw [cfg]

end

/-- What HOLD makes of a written PORT_CTRL: it takes the port off, and its release starts the port (R313). -/
def State.ctrlTaken (s : State) (p : Nat) (v : W32) : State :=
  if bit v 30 then (s.ctrlPut p v).portOff p
  else if bit (s.reg .portCtrl p) 30 then (s.ctrlPut p v).startPort p else s.ctrlPut p v

/-- A landed write acts on HOLD, and a port that talks then takes a RETRAIN. -/
theorem State.portCtrl_lands {s : State} {f p : Nat} (sd : sound s) (view : s.inView f .portCtrl p = true) (v : W32) :
    s.portCtrl f p v = if bit v 31 && (s.ctrlTaken p v).portTalks p then (s.ctrlTaken p v).retrain p else s.ctrlTaken p v := by
  have sdz : sound (s.ctrlPut p v) := sd
  obtain ⟨b31, b30⟩ := s.reg_ctrlPut p v
  unfold State.portCtrl
  rw [State.write_portCtrl sd view]
  change (s.ctrlPut p v).afterPortCtrl p _ = _
  unfold State.afterPortCtrl
  rw [State.useReg_sound sdz]
  dsimp only
  rw [b31, b30]
  rfl

/-- A port that goes off, or is off, has no frame left unless it was off before (R313). -/
theorem State.portOff_off {s : State} (sd : sound s) (p : Nat) : let u := s.portOff p
    u.portSt p = 0 ∧ u.reg .portCtrl p = s.reg .portCtrl p ∧ u.mem = s.mem ∧
      (s.portSt p ≠ 0 → s.tunil.held = none → (u.port p).txq = []) := by
  refine ⟨by rw [State.portSt_portOff, if_pos rfl], ?_⟩
  unfold State.portOff
  split
  case isTrue off => exact ⟨rfl, rfl, fun on => absurd off on⟩
  case isFalse =>
    obtain ⟨moves, -, tunil, st, -⟩ := s.setPortSt_sets p (by omega : 0 < 8)
    have sdo := moves.sound sd
    obtain ⟨-, regs, -, idle⟩ := State.portLoss_loses sdo p
    refine ⟨(regs .portCtrl p (by simp)).trans (moves.regs .portCtrl p (by simp)),
      (State.portLoss_moves sdo p).mem.trans moves.mem, fun _ none => idle (by omega) (tunil ▸ none)⟩

/-- Bring-up starts from attempt 0 (R311). -/
theorem State.startPort_starts {s : State} {p : Nat} (used : s.portUsed p = true) : let u := s.startPort p
    s.MovesPort (fun r i => r = .portStatus ∧ i = p) u ∧ u.portSt p = 1 ∧ (u.port p).fails = 0 := by
  have port := s.port_modPort_same p fun x => { x with fails := 0, firstEnded := false, matched := false }
  have set := State.MovesPort.modPort (P := fun r i => r = .portStatus ∧ i = p) s p fun x =>
    { x with fails := 0, firstEnded := false, matched := false }
  unfold State.startPort
  rw [used]
  simp only [Bool.not_true, Bool.false_eq_true, if_false]
  generalize (s.modPort p fun x => { x with fails := 0, firstEnded := false, matched := false }) = a at *
  obtain ⟨moves, ports, -, st, -⟩ := a.setPortSt_sets p (by omega : 1 < 8)
  exact ⟨set.trans moves, st, (congrArg Port.fails ((State.port_congr ports p).trans port) :)⟩

theorem State.startPort_unused {s : State} {p : Nat} (unused : s.portUsed p = false) : s.startPort p = s := by
  unfold State.startPort
  rw [unused]
  rfl

/-! ### The three writes of PORT_CTRL -/

section
variable {s : State} {f p : Nat} {v : W32} (sd : sound s) (view : s.inView f .portCtrl p = true)
include sd view

/-- A port that is held goes off, and a RETRAIN waits. -/
theorem State.portCtrl_hold (hold : bit v 30 = true) : s.portCtrl f p v = (s.ctrlPut p v).portOff p := by
  have taken : s.ctrlTaken p v = (s.ctrlPut p v).portOff p := if_pos hold
  have silent : ((s.ctrlPut p v).portOff p).portTalks p = false := by
    rw [State.portTalks_false, State.portSt_portOff, if_pos rfl]
    omega
  rw [State.portCtrl_lands sd view, taken, silent, Bool.and_false]
  rfl

/-- A port that is not held and was not takes a RETRAIN where it talks. -/
theorem State.portCtrl_free (free : bit v 30 = false) (was : bit (s.reg .portCtrl p) 30 = false) :
    s.portCtrl f p v = if bit v 31 && s.portTalks p then (s.ctrlPut p v).retrain p else s.ctrlPut p v := by
  have taken : s.ctrlTaken p v = s.ctrlPut p v := by
    unfold State.ctrlTaken
    rw [free, was]
    rfl
  have talks : (s.ctrlPut p v).portTalks p = s.portTalks p := by
    unfold State.portTalks
    rw [State.portSt_ctrlPut]
  rw [State.portCtrl_lands sd view, taken, talks]

/-- A used port that is released trains. -/
theorem State.portCtrl_release (free : bit v 30 = false) (was : bit (s.reg .portCtrl p) 30 = true)
    (used : s.portUsed p = true) : s.portCtrl f p v = (s.ctrlPut p v).startPort p := by
  have taken : s.ctrlTaken p v = (s.ctrlPut p v).startPort p := by
    unfold State.ctrlTaken
    rw [free, was]
    rfl
  obtain ⟨-, st, -⟩ := State.startPort_starts ((s.portUsed_ctrlPut p v).trans used)
  have silent : ((s.ctrlPut p v).startPort p).portTalks p = false := by
    rw [State.portTalks_false]
    omega
  rw [State.portCtrl_lands sd view, taken, silent, Bool.and_false]
  rfl

/-- One that was not held, or that the image does not use, only has the word written. -/
theorem State.portCtrl_release_idle (free : bit v 30 = false) (calm : bit v 31 = false)
    (h : bit (s.reg .portCtrl p) 30 = false ∨ s.portUsed p = false) : s.portCtrl f p v = s.ctrlPut p v := by
  have taken : s.ctrlTaken p v = s.ctrlPut p v := by
    unfold State.ctrlTaken
    rw [free]
    rcases h with was | unused
    · rw [was]
      rfl
    · rw [State.startPort_unused ((s.portUsed_ctrlPut p v).trans unused)]
      exact ite_self _
  rw [State.portCtrl_lands sd view, taken, calm]
  rfl

end

end Sys2Proof.Machine
end

section
/-! PROOF. LLDP (R300, R301), preemption (R306) and PTP (R309, R352) on a port that talks, and the statement about a port's
states. -/
namespace Sys2Proof.Machine

/-! ### LLDP -/

/-- The word of PORT_PEER (R301). -/
def peerWord (bond slot port : Nat) : W32 := BitVec.ofNat 32 (bond * 65536 + slot * 4096 + port)

section
variable {s : State} {p : Nat} (talks : s.portTalks p = true) (chassis bond slot port : Nat)
include talks

/-- A port that is no bond port keeps the partner's chassis ID. -/
theorem State.lldp_other (role : s.portRole p ≠ 1) : s.lldp p chassis bond slot port =
    (s.setReg .portPeer p (peerWord bond slot port)).modPort p fun x => { x with chassis := some chassis } := by
  unfold State.lldp
  rw [talks]
  dsimp only
  rw [if_pos role]
  rfl

/-- A bond port compares its partner with the cabling (R300). -/
theorem State.lldp_bond (sd : sound s) (role : s.portRole p = 1) (good : Bool)
    (hgood : good = (decide (bond = s.carBond) && decide ((slot, port) = cabled s.ownSlot p))) :
    let u := s.lldp p chassis bond slot port
    s.MovesPort (fun r i => linkRegs p r i ∨ (r = .portPeer ∧ i = p)) u ∧ u.reg .portPeer p = peerWord bond slot port ∧
      u.portSt p = (if good then 2 else 3) ∧ (u.port p).matched = good := by
  let a := (s.setReg .portPeer p (peerWord bond slot port)).modPort p fun x => { x with matched := good }
  have run : s.lldp p chassis bond slot port = if good then (a.setPortSt p (if good then 2 else 3)).sendDue
      else a.setPortSt p (if good then 2 else 3) := by
    unfold State.lldp
    rw [talks, ← hgood]
    dsimp only
    rw [if_neg (not_not_intro role)]
    rfl
  have put : s.MovesPort (fun r i => linkRegs p r i ∨ (r = .portPeer ∧ i = p)) a :=
    (State.MovesPort.setReg s (.inr ⟨rfl, rfl⟩) _).trans (.modPort _ p _)
  have peer : a.reg .portPeer p = peerWord bond slot port := State.reg_setReg_same ..
  have port1 : (a.port p).matched = good := (congrArg Port.matched (State.port_modPort_same (s.setReg ..) p _) :)
  obtain ⟨moves, ports, -, st, -⟩ := a.setPortSt_sets p (by split <;> omega : (if good then 2 else 3) < 8)
  have shown := put.trans (moves.mono fun _ _ e => .inl (.inl ⟨.inl e.1, e.2⟩))
  have peer2 := (moves.regs .portPeer p (by simp)).trans peer
  have matched := (congrArg Port.matched (State.port_congr ports p)).trans port1
  rw [run]
  generalize a.setPortSt p (if good then 2 else 3) = b at *
  cases good with
  | true =>
    have again := State.resends_sendDue (shown.sound sd)
    rw [if_pos rfl, if_pos rfl]
    refine ⟨shown.trans ((State.MovesPort.of_resends again).mono fun _ _ e => .inl (.inr e)),
      (again.regs .portPeer p (by simp)).trans peer2, ?_, ?_⟩
    · rw [State.portSt, State.rfld, again.regs .portStatus p (by simp)]
      exact st
    · rw [again.port p]
      exact matched
  | false => exact ⟨shown, peer2, st, matched⟩

end

theorem State.lldp_silent {s : State} {p : Nat} (silent : s.portTalks p = false) (chassis bond slot port : Nat) :
    s.lldp p chassis bond slot port = s := by
  unfold State.lldp
  rw [silent]
  rfl

/-! ### Preemption -/

/-- Preemption is still to be verified: it is enabled, not verified, and three attempts have not failed (R306). -/
def State.verifies (s : State) (p : Nat) : Prop :=
  bit (s.reg .portCfg p) 19 = true ∧ bit (s.reg .portStatus p) 28 = false ∧ (s.port p).verifyFails < 3

theorem State.verify_eq {s : State} {p : Nat} (talks : s.portTalks p = true) (h : s.verifies p) (ok : Bool) :
    s.verify p ok = if ok then s.setRfld .portStatus p 28 28 1
      else s.modPort p fun x => { x with verifyFails := x.verifyFails + 1 } := by
  obtain ⟨on, unverified, few⟩ := h
  unfold State.verify
  rw [on, talks, unverified, decide_eq_true few]
  rfl

theorem State.verify_not {s : State} {p : Nat} (h : s.portTalks p = false ∨ ¬ s.verifies p) (ok : Bool) : s.verify p ok = s := by
  unfold State.verify
  rw [if_pos]
  rcases h with h | h
  · simp [h]
  · rw [Bool.not_eq_true', ← Bool.not_eq_true]
    intro all
    simp only [Bool.and_eq_true, Bool.not_eq_true', decide_eq_true_iff] at all
    exact h ⟨all.1.1.1, all.1.2, all.2⟩

/-! ### PTP -/

section
variable {s : State} {p : Nat} {m : PtpMsg} {lock : Bool}

theorem State.ptp_silent (h : s.portTalks p = false ∨ s.portRole p = 0) : s.ptp p m lock = s := by
  unfold State.ptp
  rw [if_pos]
  rcases h with h | h <;> simp [h]

theorem State.ptp_management (kind : m.kind = .management) : s.ptp p m lock = s := by
  unfold State.ptp
  rw [kind]
  split <;> rfl

theorem State.ptp_foreign (kind : m.kind ≠ .send) (domain : m.domain ≠ s.ptpDomain) : s.ptp p m lock = s := by
  unfold State.ptp
  split
  · rfl
  · cases k : m.kind with
    | send => exact absurd k kind
    | management => rfl
    | announce => rfl
    | delayRequest => rfl
    | sync => rfl

variable (talks : s.portTalks p = true) (role : s.portRole p ≠ 0)
include talks role

theorem State.ptp_active : (!s.portTalks p || decide (s.portRole p = 0)) = false := by
  rw [talks, decide_eq_false role]
  rfl

theorem State.ptp_send (kind : m.kind = .send) :
    s.ptp p m lock = if s.ptpParent = some p then s else s.wire p (.mac 3 s.clock.ptp) := by
  unfold State.ptp
  rw [State.ptp_active talks role, kind]
  rfl

variable (domain : m.domain = s.ptpDomain)
include domain

theorem State.ptp_announce (kind : m.kind = .announce) :
    s.ptp p m lock = s.modPort p fun x => { x with foreign := some m.dataset } := by
  unfold State.ptp
  rw [State.ptp_active talks role, kind]
  exact (if_neg Bool.false_ne_true).trans (if_neg (not_not_intro domain))

theorem State.ptp_delayRequest (kind : m.kind = .delayRequest) : s.ptp p m lock = s.wire p (.mac 4 s.clock.ptp) := by
  unfold State.ptp
  rw [State.ptp_active talks role, kind]
  exact (if_neg Bool.false_ne_true).trans (if_neg (not_not_intro domain))

theorem State.ptp_sync (kind : m.kind = .sync) : s.ptp p m lock = if s.ptpParent ≠ some p then s else
    ({ s with clock := { s.clock with ptp := s.asymTime p m.time, locked := lock } } : State).setRfld .carStatus 0 24 24
      (b2n lock) := by
  unfold State.ptp
  rw [State.ptp_active talks role, kind]
  exact (if_neg Bool.false_ne_true).trans (if_neg (not_not_intro domain))

end

/-! ### The obligation -/

section
variable {s : State} {f : Fin 9} {p : Fin 32} (served : s.served = true)
include served

theorem exec_portRetrainRequest :
    exec (.portRetrainRequest f p) s = .next (s.portCtrl f p (setBit (s.reg .portCtrl p) 31 true)) :=
  whenServed_up served fun x => x.portCtrl f p (setBit (x.reg .portCtrl p) 31 true)

theorem exec_portHold : exec (.portHold f p) s = .next (s.portCtrl f p (setBit (s.reg .portCtrl p) 30 true)) :=
  whenServed_up served fun x => x.portCtrl f p (setBit (x.reg .portCtrl p) 30 true)

theorem exec_portHoldRelease :
    exec (.portHoldRelease f p) s = .next (s.portCtrl f p (setBit (s.reg .portCtrl p) 30 false)) :=
  whenServed_up served fun x => x.portCtrl f p (setBit (x.reg .portCtrl p) 30 false)

end

/-- LLDP on a port that talks, by the port's role. -/
theorem lldpReceive_outcomes {s : State} {p : Fin 32} (clocked : s.clocked = true) (sd : sound s) (talks : s.portTalks p = true)
    (sender : LldpSender) (slot : Fin 16) (port : Fin 32) : ∃ u, exec (.lldpReceive p sender slot port) s = .next u ∧
      u.reg .portPeer p = peerWord sender.bond.toNat slot port ∧ u.mem = s.mem ∧
      (s.portRole p ≠ 1 → u = { s with regs := u.regs, ports := u.ports } ∧ u.portSt p = s.portSt p ∧
        u.port p = { s.port p with chassis := some sender.chassis }) ∧
      (s.portRole p = 1 →
        let good := sender.bond.toNat = s.carBond ∧ slot.val = (s.ownSlot + p.val / 2 + 1) % 9 ∧
          port.val = 2 * (7 - p.val / 2) + p.val % 2
        (good → u.portSt p = 2 ∧ (u.port p).matched = true) ∧ (¬ good → u.portSt p = 3 ∧ (u.port p).matched = false)) ∧
      sameRegs (fun r i => linkRegs p r i ∨ (r = .portPeer ∧ i = p)) s u := by
  refine ⟨_, exec_lldpReceive clocked sender slot port, ?_⟩
  by_cases role : s.portRole p = 1
  · have cable : (decide (sender.bond.toNat = s.carBond) && decide ((slot.val, port.val) = cabled s.ownSlot p)) = true ↔
        sender.bond.toNat = s.carBond ∧ slot.val = (s.ownSlot + p.val / 2 + 1) % 9 ∧
          port.val = 2 * (7 - p.val / 2) + p.val % 2 := by
      rw [Bool.and_eq_true, decide_eq_true_iff, decide_eq_true_iff]
      unfold cabled
      rw [Prod.mk.injEq]
    obtain ⟨moves, peer, st, matched⟩ := State.lldp_bond talks sender.chassis sender.bond.toNat slot port sd role _ rfl
    refine ⟨peer, moves.mem, fun other => absurd role other, fun _ => ⟨fun good => ?_, fun bad => ?_⟩, moves.regs⟩
    · rw [st, matched, cable.2 good]
      exact ⟨rfl, rfl⟩
    · rw [st, matched, Bool.eq_false_iff.2 (mt cable.1 bad)]
      exact ⟨rfl, rfl⟩
  · rw [State.lldp_other talks _ _ _ _ role]
    have same := sameRegs_setReg (P := fun r i => linkRegs p r i ∨ (r = .portPeer ∧ i = p)) s (.inr ⟨rfl, rfl⟩)
      (peerWord sender.bond.toNat slot port)
    refine ⟨State.reg_setReg_same .., rfl, fun _ => ⟨rfl, ?_, State.port_modPort_same ..⟩, fun bond => absurd bond role, same⟩
    exact congrArg (fun w => fld w 31 29) (s.reg_setReg_ne p p (peerWord sender.bond.toNat slot port) (by decide))

/-- PTP on a port that talks, by the message's kind and domain. -/
theorem ptpMessage_outcomes {s : State} {p : Fin 32} (clocked : s.clocked = true) (sd : sound s) (talks : s.portTalks p = true)
    (m : PtpMsg) (lock : Bool) : let c := Instr.ptpMessage p m lock
    (s.portRole p = 0 ∨ m.kind = .management → exec c s = .next s) ∧
    (s.portRole p ≠ 0 → m.kind = .send →
      if s.ptpParent = some p.val then exec c s = .next s else sendsOn p c (.mac 3 s.clock.ptp) s) ∧
    (m.kind ≠ .send → m.domain ≠ s.ptpDomain → exec c s = .next s) ∧
    (s.portRole p ≠ 0 → m.domain = s.ptpDomain →
      (m.kind = .announce → exec c s = .next (s.modPort p fun x => { x with foreign := some m.dataset })) ∧
      (m.kind = .delayRequest → sendsOn p c (.mac 4 s.clock.ptp) s) ∧
      (m.kind = .sync → s.ptpParent ≠ some p.val → exec c s = .next s) ∧
      (m.kind = .sync → s.ptpParent = some p.val → ∃ u, exec c s = .next u ∧
        u = { s with clock := { s.clock with ptp := s.asymTime p m.time, locked := lock }, regs := u.regs } ∧
        bit (u.reg .carStatus 0) 24 = lock ∧ sameRegs (fun r i => r = .carStatus ∧ i = 0) s u)) := by
  intro c
  have run : exec c s = .next (s.ptp p m lock) := exec_ptpMessage clocked m lock
  refine ⟨fun h => ?_, fun role kind => ?_, fun kind domain => ?_, fun role domain => ⟨fun kind => ?_, fun kind => ?_,
    fun kind parent => ?_, fun kind parent => ?_⟩⟩
  · rcases h with role | kind
    · rw [run, State.ptp_silent (.inr role)]
    · rw [run, State.ptp_management kind]
  · rw [State.ptp_send talks role kind] at run
    split
    case isTrue parent => rw [run, if_pos parent]
    case isFalse parent =>
      rw [if_neg parent] at run
      exact sendsOn_wire sd run
  · rw [run, State.ptp_foreign kind domain]
  · rw [run, State.ptp_announce talks role domain kind]
  · rw [State.ptp_delayRequest talks role domain kind] at run
    exact sendsOn_wire sd run
  · rw [run, State.ptp_sync talks role domain kind, if_pos parent]
  · rw [State.ptp_sync talks role domain kind, if_neg (not_not_intro parent)] at run
    refine ⟨_, run, rfl, ?_, ?_⟩
    · rw [State.setRfld_eq, State.reg_setReg_same, bit_setFld _ _ _ _ _ (by omega)]
      cases lock <;> rfl
    · exact sameRegs_setReg (P := fun r i => r = .carStatus ∧ i = 0) (State.mk ..) ⟨rfl, rfl⟩ _

/-- The commands of bring-up on a port in training or retraining (R311, R313). -/
theorem bringup_outcomes {s : State} {p : Fin 32} (clocked : s.clocked = true) (sd : sound s) (bringup : s.inBringup p) :
    let quiet := bit (s.reg .portFinj p) 31 = false
    let lldp : Emit := .macFrame p 2 (s.lldpArg p)
    (bit (s.reg .portCtrl p) 31 = false → ∃ u, exec (.portLinkUp p) s = .next u ∧ u.portSt p = 2 ∧ (quiet → lldp ∈ u.sent) ∧
      (u.port p).fails = 0 ∧ (u.port p).verifyFails = 0 ∧ (u.port p).matched = (!decide (s.portRole p = 1)) ∧ u.mem = s.mem ∧
      u.homes = s.homes ∧ sameRegs (linkRegs p) s u) ∧
    (bit (s.reg .portCtrl p) 31 = true → ∃ u, exec (.portLinkUp p) s = .next u ∧ u.portSt p = 4 ∧
      u.rfld .portStatus p 23 16 = Nat.min 255 (s.rfld .portStatus p 23 16 + 1) ∧ (quiet → lldp ∈ u.sent) ∧
      bit (u.reg .portCtrl p) 31 = false ∧ u.mem = s.mem) ∧
    ((s.port p).fails + 1 < 8 → exec (.portBringupFail p) s =
      .next (s.modPort p fun x => { x with fails := (s.port p).fails + 1, firstEnded := true })) ∧
    (8 ≤ (s.port p).fails + 1 → ∃ u, exec (.portBringupFail p) s = .next u ∧ u.portSt p = 5 ∧
      (s.tunil.held = none → (u.port p).txq = []) ∧ u.mem = s.mem ∧ sameRegs (linkRegs p) s u) ∧
    (0 < (s.port p).fails → ∃ u, exec (.portBringupRetry p) s = .next u ∧ u.portSt p = 1 ∧ u.mem = s.mem ∧
      u.ports = s.ports ∧ sameRegs (fun r i => r = .portStatus ∧ i = p.val) s u) ∧
    ((s.port p).fails = 0 → exec (.portBringupRetry p) s = .next s) := by
  refine ⟨fun calm => ?linkUp, fun asked => ?linkUpRetrain, fun few => ?counted, fun many => ?failed, fun tried => ?retry,
    fun fresh => ?noRetry⟩
  case linkUp =>
    obtain ⟨moves, st, -, fails, verifyFails, matched, told⟩ := State.linked_up sd p
    refine ⟨_, exec_portLinkUp clocked, ?_⟩
    rw [State.linkUp_eq sd bringup, calm]
    exact ⟨st, told, fails, verifyFails, matched, moves.mem, moves.homes, moves.regs⟩
  case linkUpRetrain =>
    obtain ⟨moves, -, count, -, -, -, told⟩ := State.linked_up sd p
    obtain ⟨again, st, counted, -, taken, -⟩ := State.retrain_retrains (moves.sound sd) p
    refine ⟨_, exec_portLinkUp clocked, ?_⟩
    rw [State.linkUp_eq sd bringup, asked, if_pos rfl]
    exact ⟨st, by rw [counted, count], fun quiet => again.sent _ (told quiet), taken, again.mem.trans moves.mem⟩
  case counted => rw [exec_portBringupFail clocked, State.bringupFail_counted bringup few]
  case failed =>
    obtain ⟨moves, st, txq⟩ := State.bringupFail_failed sd bringup many
    exact ⟨_, exec_portBringupFail clocked, st, txq, moves.mem, moves.regs⟩
  case retry =>
    obtain ⟨moves, ports, -, st, -⟩ := s.setPortSt_sets p (by omega : 1 < 8)
    refine ⟨_, exec_portBringupRetry clocked, ?_⟩
    rw [decide_eq_true tried, Bool.true_and, State.bringup_decide.2 bringup, if_pos rfl]
    exact ⟨st, moves.mem, ports, moves.regs⟩
  case noRetry =>
    rw [exec_portBringupRetry clocked, fresh]
    rfl

/-- The writes of PORT_CTRL by a function that sees it (R312, R313). -/
theorem portCtrl_outcomes {s : State} {f : Fin 9} {p : Fin 32} (sd : sound s) (served : s.served = true)
    (view : s.inView f .portCtrl p = true) :
    (bit (s.reg .portCtrl p) 30 = true → ∃ u, exec (.portRetrainRequest f p) s = .next u ∧ u.portSt p = 0 ∧
      bit (u.reg .portCtrl p) 31 = true ∧ u.mem = s.mem) ∧
    (bit (s.reg .portCtrl p) 30 = false → s.portSt p = 2 ∨ s.portSt p = 3 → ∃ u, exec (.portRetrainRequest f p) s = .next u ∧
      u.portSt p = 4 ∧ u.rfld .portStatus p 23 16 = Nat.min 255 (s.rfld .portStatus p 23 16 + 1) ∧
      bit (u.reg .portCtrl p) 31 = false ∧ u.mem = s.mem) ∧
    (bit (s.reg .portCtrl p) 30 = false → s.portSt p ≠ 2 → s.portSt p ≠ 3 → ∃ u,
      exec (.portRetrainRequest f p) s = .next u ∧ u.portSt p = s.portSt p ∧ bit (u.reg .portCtrl p) 31 = true ∧
      u.ports = s.ports ∧ u.mem = s.mem) ∧
    (∃ u, exec (.portHold f p) s = .next u ∧ u.portSt p = 0 ∧ bit (u.reg .portCtrl p) 30 = true ∧ u.mem = s.mem ∧
      (s.portSt p ≠ 0 → s.tunil.held = none → (u.port p).txq = [])) ∧
    (bit (s.reg .portCtrl p) 30 = true → s.portUsed p = true → ∃ u, exec (.portHoldRelease f p) s = .next u ∧
      u.portSt p = 1 ∧ bit (u.reg .portCtrl p) 30 = false ∧ (u.port p).fails = 0 ∧ u.mem = s.mem ∧
      sameRegs (fun r i => (r = .portStatus ∨ r = .portCtrl) ∧ i = p.val) s u) ∧
    (bit (s.reg .portCtrl p) 30 = false ∨ s.portUsed p = false → bit (s.reg .portCtrl p) 31 = false →
      ∃ u, exec (.portHoldRelease f p) s = .next u ∧ u = { s with regs := u.regs } ∧ bit (u.reg .portCtrl p) 30 = false ∧
        sameRegs (fun r i => r = .portCtrl ∧ i = p.val) s u) := by
  refine ⟨fun held => ?requestHeld, fun free talks => ?request, fun free no2 no3 => ?requestWaits, ?hold,
    fun held used => ?release, fun idle calm => ?releaseIdle⟩
  case requestHeld =>
    have stays : bit (setBit (s.reg .portCtrl p) 31 true) 30 = true := (bit_setBit _ _ (by omega)).trans held
    obtain ⟨off, ctrl, mem, -⟩ := State.portOff_off (s := s.ctrlPut p (setBit (s.reg .portCtrl p) 31 true)) sd p
    refine ⟨_, exec_portRetrainRequest served, ?_⟩
    rw [State.portCtrl_hold sd view stays, ctrl, (State.reg_ctrlPut ..).1, bit_setBit _ _ (by omega)]
    exact ⟨off, rfl, mem⟩
  case request =>
    have stays : bit (setBit (s.reg .portCtrl p) 31 true) 30 = false := (bit_setBit _ _ (by omega)).trans free
    have asked : bit (setBit (s.reg .portCtrl p) 31 true) 31 = true := bit_setBit _ _ (by omega)
    have status := s.ctrlPut_sameRegs p (setBit (s.reg .portCtrl p) 31 true) .portStatus p (by simp)
    obtain ⟨moves, st, count, -, taken, -⟩ :=
      State.retrain_retrains (s := s.ctrlPut p (setBit (s.reg .portCtrl p) 31 true)) sd p
    refine ⟨_, exec_portRetrainRequest served, ?_⟩
    rw [State.portCtrl_free sd view stays free, asked, State.portTalks_iff.2 talks]
    exact ⟨st, by rw [Bool.and_self, if_pos rfl, count, State.rfld, status]; rfl, taken, moves.mem⟩
  case requestWaits =>
    have stays : bit (setBit (s.reg .portCtrl p) 31 true) 30 = false := (bit_setBit _ _ (by omega)).trans free
    have silent : s.portTalks p = false := State.portTalks_false.2 fun h => h.elim no2 no3
    refine ⟨_, exec_portRetrainRequest served, ?_⟩
    rw [State.portCtrl_free sd view stays free, silent, Bool.and_false, if_neg Bool.false_ne_true, State.portSt_ctrlPut,
      (State.reg_ctrlPut ..).1, bit_setBit _ _ (by omega)]
    exact ⟨rfl, rfl, rfl, rfl⟩
  case hold =>
    have hold : bit (setBit (s.reg .portCtrl p) 30 true) 30 = true := bit_setBit _ _ (by omega)
    obtain ⟨off, ctrl, mem, txq⟩ := State.portOff_off (s := s.ctrlPut p (setBit (s.reg .portCtrl p) 30 true)) sd p
    rw [State.portSt_ctrlPut] at txq
    refine ⟨_, exec_portHold served, ?_⟩
    rw [State.portCtrl_hold sd view hold, ctrl, (State.reg_ctrlPut ..).2]
    exact ⟨off, hold, mem, txq⟩
  case release =>
    have free : bit (setBit (s.reg .portCtrl p) 30 false) 30 = false := bit_setBit _ _ (by omega)
    obtain ⟨moves, st, fails⟩ := State.startPort_starts ((s.portUsed_ctrlPut p (setBit (s.reg .portCtrl p) 30 false)).trans used)
    have same := (s.ctrlPut_sameRegs p (setBit (s.reg .portCtrl p) 30 false)).mono (Q := fun r i =>
      (r = .portStatus ∨ r = .portCtrl) ∧ i = p.val) fun _ _ e => ⟨.inr e.1, e.2⟩
    refine ⟨_, exec_portHoldRelease served, ?_⟩
    rw [State.portCtrl_release sd view free held used, moves.regs .portCtrl p (by simp), (State.reg_ctrlPut ..).2]
    exact ⟨st, free, fails, moves.mem, same.trans (moves.regs.mono fun _ _ e => ⟨.inl e.1, e.2⟩) fun _ _ e => e⟩
  case releaseIdle =>
    have free : bit (setBit (s.reg .portCtrl p) 30 false) 30 = false := bit_setBit _ _ (by omega)
    have waits : bit (setBit (s.reg .portCtrl p) 30 false) 31 = false := (bit_setBit _ _ (by omega)).trans calm
    refine ⟨_, exec_portHoldRelease served, ?_⟩
    rw [State.portCtrl_release_idle sd view free waits idle, (State.reg_ctrlPut ..).2]
    exact ⟨rfl, free, s.ctrlPut_sameRegs p _⟩

/-- Settles O51: each command by its equation, and what it leaves by the moves, the sending and the loss of a port. -/
theorem portsMoveBetweenTheirStates : Obligations.PortsMoveBetweenTheirStates := by
  intro p s clocked sd
  dsimp only
  refine ⟨fun bringup => ?bringup, fun no1 no4 => ?noBringup, fun talks => ⟨?retrain, ?lldpTransmit,
      fun sender slot port => ?lldpReceive, fun ok on unverified few => ⟨fun yes => ?verified, fun no => ?unverified⟩,
      fun ok not => ?verifyNot, fun m lock => ?ptp⟩,
    fun no2 no3 => ?silent, fun up role unmatched => ?timeout, fun not => ?noTimeout, fun f served => ?hidden,
    fun f served view => ?ctrl⟩
  case bringup => exact bringup_outcomes clocked sd bringup
  case noBringup =>
    have idle : ¬ s.inBringup p := fun h => h.elim no1 no4
    rw [exec_portLinkUp clocked, exec_portBringupFail clocked, exec_portBringupRetry clocked, State.linkUp_not idle,
      State.bringupFail_not idle, Bool.eq_false_iff.2 (mt State.bringup_decide.1 idle), Bool.and_false]
    exact ⟨rfl, rfl, rfl⟩
  case retrain =>
    obtain ⟨moves, st, count, unverified, -, txq⟩ := State.retrain_retrains sd p
    refine ⟨_, exec_portRetrain clocked, ?_⟩
    rw [if_pos (State.portTalks_iff.2 talks)]
    exact ⟨st, count, txq, unverified, moves.mem⟩
  case lldpTransmit =>
    have run := exec_lldpTransmit (p := p) clocked
    rw [if_pos (State.portTalks_iff.2 talks)] at run
    exact sendsOn_wire sd run
  case lldpReceive => exact lldpReceive_outcomes clocked sd (State.portTalks_iff.2 talks) sender slot port
  case verified =>
    rw [exec_preemptVerify clocked, State.verify_eq (State.portTalks_iff.2 talks) ⟨on, unverified, few⟩, yes]
    rfl
  case unverified =>
    rw [exec_preemptVerify clocked, State.verify_eq (State.portTalks_iff.2 talks) ⟨on, unverified, few⟩, no]
    rfl
  case verifyNot =>
    have no : ¬ s.verifies p := by
      rintro ⟨on, unverified, few⟩
      rcases not with h | h | h
      · rw [on] at h; cases h
      · rw [unverified] at h; cases h
      · omega
    rw [exec_preemptVerify clocked, State.verify_not (.inr no)]
  case ptp => exact ptpMessage_outcomes clocked sd (State.portTalks_iff.2 talks) m lock
  case silent =>
    have silent : s.portTalks p = false := State.portTalks_false.2 fun h => h.elim no2 no3
    refine ⟨?_, ?_, fun sender slot port => ?_, fun ok => ?_, fun m ok => ?_⟩
    · rw [exec_portRetrain clocked, silent]; rfl
    · rw [exec_lldpTransmit clocked, silent]; rfl
    · rw [exec_lldpReceive clocked, State.lldp_silent silent]
    · rw [exec_preemptVerify clocked, State.verify_not (.inl silent)]
    · rw [exec_ptpMessage clocked, State.ptp_silent (.inl silent)]
  case timeout =>
    obtain ⟨moves, ports, -, st, -⟩ := s.setPortSt_sets p (by omega : 3 < 8)
    refine ⟨_, exec_lldpPartnerTimeout clocked, ?_⟩
    rw [up, role, unmatched]
    exact ⟨st, ports, moves.mem, moves.regs⟩
  case noTimeout =>
    rw [exec_lldpPartnerTimeout clocked, if_neg]
    intro all
    simp only [Bool.and_eq_true, Bool.not_eq_true', decide_eq_true_iff] at all
    obtain ⟨⟨up, role⟩, unmatched⟩ := all
    rcases not with h | h | h
    · exact h up
    · exact h role
    · rw [unmatched] at h; cases h
  case hidden =>
    intro c hc
    simp only [List.mem_cons, List.not_mem_nil, or_false] at hc
    rcases hc with rfl | rfl | rfl
    · exact offView_portCtrl (exec_portRetrainRequest served)
    · exact offView_portCtrl (exec_portHold served)
    · exact offView_portCtrl (exec_portHoldRelease served)
  case ctrl => exact portCtrl_outcomes sd served view

end Sys2Proof.Machine
end

section
/-! PROOF. What an abort leaves of the routes and of the tasks in flight (R132, R326, R334): it touches no route and takes from
its queue the tasks of one serial number alone. -/
namespace Sys2Proof.Machine

/-- The Tunil engines, and the tasks in flight of every queue. -/
def State.traffic (s : State) : Tunil × (Nat → List Task) := (s.tunil, fun k => (s.queue k).tasks)

theorem State.tunil_of_traffic {s u : State} (h : u.traffic = s.traffic) : u.tunil = s.tunil := congrArg Prod.fst h

theorem State.tasks_of_traffic {s u : State} (h : u.traffic = s.traffic) (k : Nat) : (u.queue k).tasks = (s.queue k).tasks :=
  congrFun (congrArg Prod.snd h) k

/-- What leaves cores, queues and Tunil alone. -/
theorem State.traffic_of_work {s u : State} (hw : u.work = s.work) (ht : u.tunil = s.tunil) : u.traffic = s.traffic := by
  have hq : u.queues = s.queues := congrArg Prod.snd hw
  unfold State.traffic State.queue
  rw [ht, hq]

theorem State.traffic_modQueue (s : State) (k : Nat) (f : Queue → Queue) (hf : ∀ q, (f q).tasks = q.tasks) :
    (s.modQueue k f).traffic = s.traffic := by
  refine congrArg (Prod.mk s.tunil) (funext fun j => ?_)
  by_cases hj : j = k
  · rw [hj, State.queue_modQueue_same, hf]
  · rw [State.queue_modQueue_other s f hj]

theorem State.traffic_foldl {α : Type} {f : State → α → State} (hf : ∀ s a, (f s a).traffic = s.traffic) (l : List α)
    (s : State) : (l.foldl f s).traffic = s.traffic :=
  List.foldlRecOn (motive := fun u => u.traffic = s.traffic) l f rfl fun x hx a _ => (hf x a).trans hx

theorem State.traffic_ite {s u v : State} {p : Prop} [Decidable p] (hu : u.traffic = s.traffic) (hv : v.traffic = s.traffic) :
    (if p then u else v).traffic = s.traffic := by
  split <;> assumption

/-! ### Registers, interrupts and reports -/

@[simp] theorem State.traffic_setReg (s : State) (r : Reg) (i : Nat) (v : W32) : (s.setReg r i v).traffic = s.traffic := rfl
@[simp] theorem State.traffic_setRfld (s : State) (r : Reg) (i hi lo v : Nat) : (s.setRfld r i hi lo v).traffic = s.traffic := rfl
@[simp] theorem State.traffic_setPoison (s : State) (cw : Nat) (b : Bool) : (s.setPoison cw b).traffic = s.traffic := rfl
@[simp] theorem State.traffic_setLatent (s : State) (cw : Nat) (e : List (Nat × Nat)) : (s.setLatent cw e).traffic = s.traffic := rfl
@[simp] theorem State.traffic_putBytes (s : State) (a : Nat) (bs : List Byte) : (s.putBytes a bs).traffic = s.traffic := rfl
@[simp] theorem State.traffic_modCore (s : State) (n : Nat) (f : Core → Core) : (s.modCore n f).traffic = s.traffic := rfl
@[simp] theorem State.traffic_setQst (s : State) (k v : Nat) : (s.setQst k v).traffic = s.traffic := rfl

@[simp] theorem State.traffic_raise (s : State) (f n : Nat) : (s.raise f n).traffic = s.traffic :=
  State.traffic_of_work (s.work_raise f n) (s.raise_tunil f n)

@[simp] theorem State.traffic_raiseTenant (s : State) (t n : Nat) : (s.raiseTenant t n).traffic = s.traffic :=
  State.traffic_of_work (s.work_raiseTenant t n) (s.raiseTenant_tunil t n)

@[simp] theorem State.traffic_log (s : State) (k : Nat) (w : List Nat) : (s.log k w).traffic = s.traffic :=
  State.traffic_of_work (s.work_log k w) (s.log_tunil k w)

theorem State.traffic_record (s : State) (i : Nat) (r0 : Reg) (v0 : W32) (more : List (Reg × W32)) :
    (s.record i r0 v0 more).traffic = s.traffic := by
  unfold State.record
  refine State.traffic_ite (Eq.trans (State.traffic_foldl (fun x p => ?_) more _) rfl) rfl
  rfl

theorem State.traffic_ciFault (s : State) (key : Nat) (copy sweeper : Bool) :
    (s.ciFault key copy sweeper).traffic = s.traffic :=
  (State.traffic_raise ..).trans ((State.traffic_log ..).trans (State.traffic_record ..))

theorem State.traffic_hwFld (s : State) (r : Reg) (i hi lo v : Nat) : (s.hwFld r i hi lo v).traffic = s.traffic := by
  have used : (s.useReg r i).traffic = s.traffic := State.traffic_ite (s.traffic_ciFault ..) rfl
  exact State.traffic_ite used used

theorem State.traffic_haltReport (s : State) (k code core index peer : Nat) :
    (s.haltReport k code core index peer).traffic = s.traffic :=
  State.traffic_ite (State.traffic_of_work (State.work_noticeUp ..) (State.noticeUp_tunil ..)) rfl

/-! ### Reads of the tiers -/

theorem State.traffic_ueRecord (s : State) (n cw source : Nat) : (s.ueRecord n cw source).traffic = s.traffic := by
  have asked (x : State) : (x.askRetire cw).traffic = x.traffic := State.traffic_ite rfl rfl
  unfold State.ueRecord
  dsimp only
  rw [asked, State.traffic_setLatent, State.traffic_setPoison, State.traffic_log]
  split
  · exact State.traffic_record ..
  · exact (State.traffic_raise ..).trans (State.traffic_record ..)

theorem State.traffic_laneHistory (s : State) (n : Nat) (lanes : List Nat) : (s.laneHistory n lanes).traffic = s.traffic := by
  have shown (x : State) : (x.showErased n).traffic = x.traffic := by
    unfold State.showErased
    dsimp only
    rw [State.traffic_setRfld, State.traffic_setRfld]
    split
    · rw [State.traffic_setRfld, State.traffic_setRfld]
    · rw [State.traffic_setRfld]
  have erased (x : State) (lane : Nat) : (x.eraseLane n lane).traffic = x.traffic :=
    State.traffic_ite rfl ((State.traffic_log ..).trans (shown _))
  exact State.traffic_foldl (fun x l => State.traffic_ite (erased x l) rfl) lanes _

theorem State.traffic_readCw (s : State) (source : Nat) (errs : List CwErr) (cw : Nat) :
    (s.readCw source errs cw).1.traffic = s.traffic := by
  unfold State.readCw
  split
  case h_1 => rfl
  case h_2 n _ =>
    dsimp only
    split
    · rfl
    split
    · exact s.traffic_ueRecord n cw source
    split
    case h_1 => exact s.traffic_ueRecord n cw source
    case h_2 => exact State.traffic_ite rfl rfl
    case h_3 =>
      split
      all_goals exact (State.traffic_laneHistory ..).trans (State.traffic_ite rfl rfl)

/-! ### Aborts -/

theorem State.traffic_genUpdate {s : State} {f : State → State} (hf : (f s).traffic = s.traffic) (t h g : Nat) :
    (s.genUpdate t h g f).traffic = s.traffic := State.traffic_ite hf rfl

theorem State.traffic_endMove (s : State) (k i : Nat) : (s.endMove k i).traffic = s.traffic := by
  unfold State.endMove
  split
  · rfl
  · exact (State.traffic_genUpdate (by split <;> rfl) ..).trans rfl

theorem State.traffic_voidWrite (s : State) (t h g : Nat) : (s.voidWrite t h g).traffic = s.traffic :=
  State.traffic_genUpdate (by dsimp only; split <;> rfl) t h g

theorem State.traffic_haloGone (s : State) (n : Nat) (o : Nat × Nat) : (s.haloGone n o).traffic = s.traffic := by
  unfold State.haloGone
  split
  · rfl
  · refine State.traffic_ite rfl (State.traffic_foldl (fun x l => ?_) _ s)
    split <;> rfl

theorem State.traffic_restOver (s : State) (k : Nat) (t : Task) : (s.restOver k t).traffic = s.traffic := by
  unfold State.restOver
  dsimp only
  split
  · rfl
  · split <;> split <;> rfl

theorem State.traffic_putRecord (s : State) (k code ns : Nat) (t : Task) : (s.putRecord k code ns t).traffic = s.traffic := by
  have written (a : Nat) (bs : List Byte) : (s.writeRecord a bs).traffic = s.traffic := by
    have read := s.traffic_readCw 2 [] (a / 64 * 64)
    have initialised (x : State) : (x.initGranule (a / 64 * 64)).traffic = x.traffic :=
      State.traffic_of_work (x.work_initGranule _) (by rw [State.initGranule_eq])
    have corrected (x : State) : (x.writeCorrected (a / 64 * 64)).traffic = x.traffic := rfl
    unfold State.writeRecord
    dsimp only
    split
    · rw [State.traffic_putBytes]
      split
      · rw [initialised, read]
      · rw [corrected, initialised, read]
    · exact read
  unfold State.putRecord
  dsimp only
  rw [State.traffic_modQueue, State.traffic_setRfld]
  · exact State.traffic_ite (written ..) rfl
  · exact fun _ => rfl

theorem State.traffic_enter (s : State) (k st : Nat) : (s.enter k st).traffic = s.traffic := by
  have started (x : State) : (x.startQueue k).traffic = x.traffic := by
    unfold State.startQueue
    dsimp only
    rw [State.traffic_hwFld, State.traffic_setQst, State.traffic_modQueue]
    · have cleared (x : State) : (x.clearSb k).traffic = x.traffic := rfl
      split
      · rw [cleared, State.traffic_modCore]
      · rw [State.traffic_modCore]
    · exact fun _ => rfl
  exact State.traffic_ite (started _) rfl

theorem State.traffic_recordNow (s : State) (k : Nat) (e : Ended) : (s.recordNow k e).traffic = s.traffic := by
  have put := s.traffic_putRecord k e.code e.ns e.task
  unfold State.recordNow
  dsimp only
  generalize s.putRecord k e.code e.ns e.task = s1 at put
  have irq (x : State) : (if dIrq e.task.desc then x.raiseTenant (k / 16) (k % 16) else x).traffic = x.traffic :=
    State.traffic_ite (x.traffic_raiseTenant ..) rfl
  refine Eq.trans ?_ put
  split
  · exact irq s1
  split
  · refine (State.traffic_enter ..).trans ?_
    split
    · exact (State.traffic_haltReport ..).trans ((irq _).trans (State.traffic_raiseTenant ..))
    · exact (irq _).trans (State.traffic_raiseTenant ..)
  · exact (irq _).trans (State.traffic_raiseTenant ..)

/-- The tasks of a serial number that leave a queue. -/
theorem State.tasks_dropTask (s : State) (k i j : Nat) : ((s.dropTask k i).queue j).tasks =
    if j = k then (s.queue k).tasks.filter fun t => !decide (t.serial = i) else (s.queue j).tasks := by
  unfold State.dropTask
  split
  · next h => rw [h, State.queue_modQueue_same]
  · next h => rw [State.queue_modQueue_other _ _ h]

theorem State.traffic_dropTask {s u : State} (h : u.traffic = s.traffic) (k i : Nat) :
    (u.dropTask k i).traffic = (s.dropTask k i).traffic := by
  refine Prod.ext (congrArg Prod.fst h :) (funext fun j => ?_)
  show ((u.dropTask k i).queue j).tasks = ((s.dropTask k i).queue j).tasks
  rw [State.tasks_dropTask, State.tasks_dropTask, State.tasks_of_traffic h, State.tasks_of_traffic h]

/-- A task that ends leaves its queue, and no other goes. -/
theorem State.traffic_endTask (s : State) (k code : Nat) (t : Task) :
    (s.endTask k code t).traffic = (s.dropTask k t.serial).traffic := by
  have flushed (x : State) : (x.flushRecords k).traffic = x.traffic := by
    unfold State.flushRecords
    exact (State.traffic_foldl (fun y e => y.traffic_recordNow k e) _ _).trans (x.traffic_modQueue k _ fun _ => rfl)
  unfold State.endTask
  rw [flushed, State.traffic_modQueue]
  · exact State.traffic_dropTask (State.traffic_of_work (s.work_countTask _ t) rfl) k t.serial
  · exact fun _ => rfl

/-- An abort takes the task that it names from its queue (R132): routes and the other tasks in flight stay. -/
theorem State.traffic_abortTask (s : State) (k i code : Nat) : (s.abortTask k i code).traffic = (s.dropTask k i).traffic := by
  unfold State.abortTask
  split
  case h_1 none =>
    refine Prod.ext rfl (funext fun j => ?_)
    show (s.queue j).tasks = ((s.dropTask k i).queue j).tasks
    rw [State.tasks_dropTask]
    split
    · next h =>
      subst h
      exact (List.filter_eq_self.2 fun t ht => by simpa using List.find?_eq_none.1 none t ht).symm
    · rfl
  case h_2 t found =>
    obtain rfl := State.task?_serial found
    have stopped : ((s.haloGone (s.queue k).lcore (k, t.serial)).modCore (s.queue k).lcore fun c =>
        (c.stopOwner (k, t.serial)).dropChoice fun x => decide (x = (k, t.index))).traffic = s.traffic := s.traffic_haloGone ..
    have voided (x : State) : ((t.xlates.filter fun y => decide (1 ≤ y.mode)).foldl
        (fun x y => x.voidWrite (k / 16) y.handle y.gen) x).traffic = x.traffic :=
      State.traffic_foldl (fun u y => u.traffic_voidWrite ..) _ x
    have before := (voided _).trans ((State.traffic_endMove _ k t.serial).trans stopped)
    have signalled : (if dSigValid t.desc then _ else _ : State).traffic = s.traffic :=
      State.traffic_ite ((rfl : (State.setSb _ k (dSig t.desc) ⟨2, dDst t.desc, code⟩).traffic = _).trans before) before
    have ended := (State.traffic_endTask _ k code t).trans
      (State.traffic_dropTask ((State.traffic_restOver _ k t).trans signalled) k t.serial)
    exact State.traffic_ite ((State.traffic_enter ..).trans ended) ended

theorem State.tunil_abortTask (s : State) (k i code : Nat) : (s.abortTask k i code).tunil = s.tunil :=
  congrArg Prod.fst (s.traffic_abortTask k i code)

theorem State.tasks_abortTask (s : State) (k i code j : Nat) : ((s.abortTask k i code).queue j).tasks =
    if j = k then (s.queue k).tasks.filter fun t => !decide (t.serial = i) else (s.queue j).tasks :=
  (congrFun (congrArg Prod.snd (s.traffic_abortTask k i code)) j).trans (s.tasks_dropTask k i j)

end Sys2Proof.Machine
end

section
/-! PROOF. Segments that leave for the ports (R317, R322, R324, R340): what placing a frame may change, with and without route
injection, and what the requests to the engines leave of the routes. -/
namespace Sys2Proof.Machine

@[simp] theorem State.route_modRoute_same (s : State) (k : Nat) (f : Route → Route) : (s.modRoute k f).route k = f (s.route k) :=
  s.route_setRoute_same k _

@[simp] theorem State.modRoute_regs (s : State) (k : Nat) (f : Route → Route) : (s.modRoute k f).regs = s.regs := rfl
@[simp] theorem State.modRoute_mem (s : State) (k : Nat) (f : Route → Route) : (s.modRoute k f).mem = s.mem := rfl
@[simp] theorem State.modRoute_homes (s : State) (k : Nat) (f : Route → Route) : (s.modRoute k f).homes = s.homes := rfl

theorem State.route_modRoute_other (s : State) {k j : Nat} (f : Route → Route) (h : j ≠ k) :
    (s.modRoute k f).route j = s.route j := s.route_setRoute_other _ h

theorem State.route_congr {s u : State} (h : u.tunil.routes = s.tunil.routes) (k : Nat) : u.route k = s.route k :=
  congrArg (mget Route.init · k) h

/-! ### What sending may change -/

theorem State.record_frame (s : State) (i : Nat) (r0 r1 : Reg) (v0 v1 : W32) :
    s.record i r0 v0 [(r1, v1)] = { s with regs := (s.record i r0 v0 [(r1, v1)]).regs } := by
  rw [State.record_regs]
  split <;> rfl

/-- A configuration fault is noted in registers, log, interrupts and parity, and nowhere else (R477). -/
theorem State.ciFault_frame (s : State) (key : Nat) (copy sweeper : Bool) : let u := s.ciFault key copy sweeper
    u = { s with parity := u.parity, regs := u.regs, flash := u.flash, host := u.host, sent := u.sent } := by
  have noted (t : State) (h : t = { s with parity := t.parity, regs := t.regs }) (k f n : Nat) (w : List Nat) :
      (t.log k w).raise f n = { s with
        parity := ((t.log k w).raise f n).parity, regs := ((t.log k w).raise f n).regs
        flash := ((t.log k w).raise f n).flash, host := ((t.log k w).raise f n).host, sent := ((t.log k w).raise f n).sent } := by
    rw [State.raise_frame, State.log_frame, h]
  unfold State.ciFault
  dsimp only
  refine noted _ ?_ ..
  rw [State.record_frame]
  rfl

/-- Frames leave for the ports: queues of the ports, the injection's state and its count change, and a configuration fault may be
found on the way. No route and no service changes; in a module without faults the count of hits alone. -/
structure State.Sends (s u : State) : Prop where
  frame : u = { s with parity := u.parity, regs := u.regs, flash := u.flash, host := u.host, sent := u.sent
                       tunil := u.tunil, ports := u.ports }
  routes : u.tunil.routes = s.tunil.routes
  svc : u.host.svc = s.host.svc
  regs : sound s → sound u ∧ sameRegs (fun r i => r = .tunFinjcnt ∧ i = 0) s u

namespace State.Sends

variable {s t u : State}

theorem mem (h : s.Sends u) : u.mem = s.mem := (congrArg State.mem h.frame :)
theorem homes (h : s.Sends u) : u.homes = s.homes := (congrArg State.homes h.frame :)
theorem queues (h : s.Sends u) : u.queues = s.queues := (congrArg State.queues h.frame :)
theorem route (h : s.Sends u) (k : Nat) : u.route k = s.route k := State.route_congr h.routes k

theorem refl (s : State) : s.Sends s := ⟨rfl, rfl, rfl, fun sd => ⟨sd, fun _ _ _ => rfl⟩⟩

theorem trans (h1 : s.Sends t) (h2 : t.Sends u) : s.Sends u where
  frame := by rw [h2.frame, h1.frame]
  routes := h2.routes.trans h1.routes
  svc := h2.svc.trans h1.svc
  regs sd := by
    obtain ⟨sound1, regs1⟩ := h1.regs sd
    obtain ⟨sound2, regs2⟩ := h2.regs sound1
    exact ⟨sound2, regs1.trans regs2 fun _ _ e => e⟩

theorem push (s : State) (p : Nat) (f : TxFrame) : s.Sends (s.pushFrame p f) :=
  ⟨rfl, rfl, rfl, fun sd => ⟨sd, fun _ _ _ => rfl⟩⟩

/-- A change of the injection's state. -/
theorem tunil (s : State) {x : Tunil} (h : x.routes = s.tunil.routes) : s.Sends { s with tunil := x } :=
  ⟨rfl, h, rfl, fun sd => ⟨sd, fun _ _ _ => rfl⟩⟩

theorem count (s : State) : s.Sends (s.countWrap .tunFinjcnt 0 1) :=
  ⟨rfl, rfl, rfl, fun sd => ⟨sd, sameRegs_setReg s ⟨rfl, rfl⟩ _⟩⟩

theorem freed (s : State) : s.Sends s.heldFreed := by
  unfold State.heldFreed
  split
  · exact .trans (t := { s with tunil := { s.tunil with held := none } }) (tunil s rfl) (push ..)
  · exact refl s

theorem useReg (s : State) (r : Reg) (i : Nat) : s.Sends (s.useReg r i) := by
  unfold State.useReg
  split
  case isTrue flip =>
    have svc : (s.ciFault (rkey r i) false false).host.svc = s.host.svc := congrArg Prod.snd (State.abiding_ciFault ..)
    refine ⟨?_, congrArg Tunil.routes (State.tunil_of_traffic (State.traffic_ciFault ..)), svc, fun sd => ?_⟩
    · rw [State.ciFault_frame]
    · rw [sd.1] at flip
      cases flip
  case isFalse => exact refl s

theorem useRegs (s : State) (l : List (Reg × Nat)) : s.Sends (s.useRegs l) :=
  List.foldlRecOn (motive := fun u => s.Sends u) l _ (refl s) fun x hx p _ => hx.trans (useReg x p.1 p.2)

end State.Sends

/-! ### Placing a segment -/

theorem State.sends_routeFrame (s : State) (key p : Nat) (f : TxFrame) : s.Sends (s.routeFrame key p f) := by
  have pushFreed {t : State} (h : s.Sends t) (g : TxFrame) : s.Sends (t.pushFrame p g).heldFreed :=
    (h.trans (.push t p g)).trans (.freed _)
  unfold State.routeFrame
  dsimp only
  split
  · exact .push s p f
  · have used := State.Sends.useRegs s [(.tunFinj, 0), (.tunFinjseed, 0)]
    generalize s.useRegs [(.tunFinj, 0), (.tunFinjseed, 0)] = t at used
    have drawn : s.Sends { t with tunil := { t.tunil with injNo := (t.tunil.injNo + 1) % 2 ^ 40 } } := used.trans (.tunil t rfl)
    generalize ({ t with tunil := { t.tunil with injNo := (t.tunil.injNo + 1) % 2 ^ 40 } } : State) = x at drawn
    have counted := drawn.trans (.count x)
    cases injHit (fld (s.reg .tunFinj 0) 27 23) (injDraw (s.reg .tunFinjseed 0) s.tunil.injNo (0x800000 + keyNum key)).1 with
    | false => exact pushFreed drawn f
    | true =>
      simp only [Bool.not_true, Bool.false_eq_true, if_false, if_true]
      split
      · exact counted.trans (.freed _)
      · exact pushFreed counted _
      · exact pushFreed counted _
      · exact (counted.trans (.freed _)).trans (.tunil _ rfl)
      · exact pushFreed (counted.trans (.push _ p f)) f

theorem State.sends_placeSeg (s : State) (key pcp : Nat) (seg : Seg) (avoid : Option Nat) :
    s.Sends (s.placeSeg key pcp seg avoid).1 := by
  unfold State.placeSeg
  split
  · exact .refl s
  · exact s.sends_routeFrame ..

theorem State.sends_sendCtl (s : State) (key pcp : Nat) (seg : Seg) : s.Sends (s.sendCtl key pcp seg) :=
  s.sends_placeSeg ..

/-- Without route injection a frame joins its port's queue. -/
theorem State.routeFrame_quiet {s : State} (quiet : bit (s.reg .tunFinj 0) 31 = false) (key p : Nat) (f : TxFrame) :
    s.routeFrame key p f = s.pushFrame p f := by
  unfold State.routeFrame
  simp only [quiet, Bool.not_false, Bool.true_or, if_true]

theorem State.placeSeg_quiet {s : State} (quiet : bit (s.reg .tunFinj 0) 31 = false) {key pcp p : Nat} {avoid : Option Nat}
    (picked : s.pickPort (s.route key).ports pcp avoid = some p) (seg : Seg) : s.placeSeg key pcp seg avoid =
      (s.pushFrame p { pcp := pcp, fw := keyFw key, route := keyNum key, seg := seg, flip := none }, some p) := by
  unfold State.placeSeg
  rw [picked]
  dsimp only
  rw [State.routeFrame_quiet quiet]

theorem State.sendCtl_quiet {s : State} (quiet : bit (s.reg .tunFinj 0) 31 = false) {key pcp p : Nat}
    (picked : s.pickPort (s.route key).ports pcp none = some p) (seg : Seg) : s.sendCtl key pcp seg =
      s.pushFrame p { pcp := pcp, fw := keyFw key, route := keyNum key, seg := seg, flip := none } :=
  congrArg Prod.fst (State.placeSeg_quiet quiet picked seg)

@[simp] theorem State.txq_pushFrame_same (s : State) (p : Nat) (f : TxFrame) :
    ((s.pushFrame p f).port p).txq = (s.port p).txq ++ [f] := congrArg Port.txq (s.port_modPort_same p _)

/-- Ports are chosen by their registers and queues, whatever the routes are. -/
theorem State.pickPort_congr {s u : State} (regs : u.regs = s.regs) (ports : u.ports = s.ports) (mask pcp : Nat)
    (avoid : Option Nat) : u.pickPort mask pcp avoid = s.pickPort mask pcp avoid := by
  have port (p : Nat) : u.port p = s.port p := congrArg (mget Port.init · p) ports
  have usable : u.portUsable = s.portUsable := funext fun p =>
    State.portUsable_congr (State.reg_congr regs ..) (State.reg_congr regs ..) (congrArg Port.matched (port p))
  unfold State.pickPort
  rw [usable]
  simp only [port]

/-! ### Acknowledgements that go out -/

/-- An ACK goes and none is owed any more (R324). -/
theorem State.sends_sendAck (s : State) (key : Nat) :
    (s.setRoute key { s.route key with rxPending := 0 }).Sends (s.sendAck key) := State.sends_sendCtl ..

/-! ### Requests to the engines -/

/-- A segment's task is in flight, or its MOVE goes on without one, or it is the firmware's. -/
def State.lives (s : State) (o : Nat × Nat) : Bool :=
  decide (o = (0, 0)) || (s.task? o.1 o.2).isSome ||
    s.moves.any fun m => m.detached && decide ((m.tenant * 16 + m.queue, m.task) = o)

theorem State.route_dropDead (s : State) (k : Nat) :
    s.dropDead.route k = { s.route k with toSend := (s.route k).toSend.filter fun p => s.lives p.task } :=
  mget_mmap Route.init s.tunil.routes (fun _ r => { r with toSend := r.toSend.filter fun p => s.lives p.task }) k rfl

/-- Asking the engines drops what tasks that have gone left unsent, and touches the shared units besides. -/
theorem State.tunilRequests_frame (s : State) :
    s.tunilRequests = { s with tunil := s.dropDead.tunil, units := s.tunilRequests.units } := by
  unfold State.tunilRequests
  refine List.foldlRecOn (motive := fun x : State => x = { s with tunil := s.dropDead.tunil, units := x.units }) _ _ rfl
    fun x hx e _ => ?_
  split
  · split
    · rw [State.request_frame, hx]
    · exact hx
  · exact hx

theorem State.route_tunilRequests (s : State) (k : Nat) :
    s.tunilRequests.route k = { s.route k with toSend := (s.route k).toSend.filter fun p => s.lives p.task } := by
  rw [← State.route_dropDead, State.tunilRequests_frame]
  rfl

end Sys2Proof.Machine
end

section
/-! PROOF. Routes that end (R326, R334): the tasks on a route abort, and what a route holds when it is TIMEDOUT. -/
namespace Sys2Proof.Machine

/-! ### Tasks on a route -/

/-- Tunil is as it was, and a queue has no task in flight that it had not. -/
structure State.Thins (s u : State) : Prop where
  tunil : u.tunil = s.tunil
  tasks : ∀ k, (u.queue k).tasks ⊆ (s.queue k).tasks

namespace State.Thins

variable {s t u : State}

theorem refl (s : State) : s.Thins s := ⟨rfl, fun _ => List.Subset.refl _⟩

theorem trans (h1 : s.Thins t) (h2 : t.Thins u) : s.Thins u :=
  ⟨h2.tunil.trans h1.tunil, fun k => List.Subset.trans (h2.tasks k) (h1.tasks k)⟩

theorem of_traffic (h : u.traffic = s.traffic) : s.Thins u :=
  ⟨State.tunil_of_traffic h, fun k => State.tasks_of_traffic h k ▸ List.Subset.refl _⟩

theorem abort (s : State) (k i code : Nat) : s.Thins (s.abortTask k i code) := by
  refine ⟨s.tunil_abortTask k i code, fun j => ?_⟩
  rw [State.tasks_abortTask]
  split
  · next h => exact h ▸ List.filter_subset_self _
  · exact List.Subset.refl _

theorem foldl {α : Type} {f : State → α → State} (hf : ∀ (s : State) a, s.Thins (f s a)) (l : List α) (s : State) :
    s.Thins (l.foldl f s) :=
  List.foldlRecOn (motive := fun u => s.Thins u) l f (refl s) fun x hx a _ => hx.trans (hf x a)

end State.Thins

/-- Tasks of a queue that are aborted one after another are gone. -/
theorem State.abortTasks_gone (k code : Nat) (l : List Task) : ∀ s : State, ∀ t ∈ l,
    t ∉ ((l.foldl (fun y t => y.abortTask k t.serial code) s).queue k).tasks := by
  induction l with
  | nil => exact fun _ _ h => nomatch h
  | cons a l ih =>
    intro s t ht
    rcases List.mem_cons.1 ht with rfl | ht
    · intro still
      have rest := (State.Thins.foldl (fun y (x : Task) => .abort y k x.serial code) l (s.abortTask k t.serial code)).tasks k still
      rw [State.tasks_abortTask, if_pos rfl] at rest
      simpa using (List.mem_filter.1 rest).2
    · exact ih _ t ht

section
variable (s : State) (key code : Nat)

/-- The tasks of one queue that are not landed and name the route abort. -/
def State.abortOn (s : State) (key code : Nat) (p : Task → Bool) (k : Nat) : State :=
  ((s.queue k).tasks.filter fun t => !t.landed && namesRoute t.desc key && p t).foldl
    (fun y t => y.abortTask k t.serial code) s

theorem State.thins_abortOn (p : Task → Bool) (k : Nat) : s.Thins (s.abortOn key code p k) :=
  .foldl (fun y (t : Task) => .abort y k t.serial code) _ s

theorem State.abortRoute_eq (p : Task → Bool) : s.abortRoute key code p =
    if keyFw key then s else (queuesOf (s.route key).tenant).foldl (fun x k => x.abortOn key code p k) s := rfl

theorem State.thins_abortRoute (p : Task → Bool) : s.Thins (s.abortRoute key code p) := by
  rw [State.abortRoute_eq]
  split
  · exact .refl s
  · exact .foldl (fun x k => x.thins_abortOn key code p k) _ s

/-- After the abort of a tenant route no task of its tenant that names it waits to land (R326, R334). -/
theorem State.abortRoute_gone (tenant : keyFw key = false) : ∀ k ∈ queuesOf (s.route key).tenant,
    ∀ t ∈ ((s.abortRoute key code fun _ => true).queue k).tasks, t.landed = false → namesRoute t.desc key = false := by
  rw [State.abortRoute_eq, tenant, if_neg Bool.false_ne_true]
  generalize queuesOf (s.route key).tenant = ks
  induction ks generalizing s with
  | nil => exact fun _ h => nomatch h
  | cons a ks ih =>
    intro k hk t ht landed
    rcases List.mem_cons.1 hk with rfl | hk
    · by_contra names
      have here := (State.Thins.foldl (fun x j => x.thins_abortOn key code (fun _ => true) j) ks
        (s.abortOn key code (fun _ => true) k)).tasks k ht
      refine State.abortTasks_gone k code _ s t (List.mem_filter.2 ⟨(s.thins_abortOn key code _ k).tasks k here, ?_⟩) here
      simpa [landed] using names
    · exact ih _ k hk t ht landed

end

/-! ### MOVEs and messages of the route -/

theorem State.traffic_endHeld (s : State) (key : Nat) (done : MoveRec → Bool) : (s.endHeld key done).traffic = s.traffic := by
  unfold State.endHeld
  refine (State.traffic_foldl (fun x m => State.traffic_genUpdate ?_ ..) _ _).trans rfl
  split <;> rfl

theorem State.mem_endHeld (s : State) (key : Nat) (done : MoveRec → Bool) : (s.endHeld key done).mem = s.mem := by
  unfold State.endHeld
  refine List.foldlRecOn (motive := fun x : State => x.mem = s.mem) _ _ rfl fun x hx m _ => Eq.trans ?_ hx
  unfold State.genUpdate
  split
  · dsimp only
    split <;> rfl
  · rfl

/-- Without MOVEs in progress none ends with its route. -/
theorem State.endHeld_none {s : State} (h : s.moves = []) (key : Nat) (done : MoveRec → Bool) : s.endHeld key done = s := by
  unfold State.endHeld
  rw [h]
  simp only [List.filter_nil, List.foldl_nil]
  rw [← h]

theorem State.traffic_voidMsg (s : State) (key : Nat) (m : RxMsg) : (s.voidMsg key m).traffic = s.traffic := by
  unfold State.voidMsg
  dsimp only
  split
  · rfl
  split
  · exact State.traffic_genUpdate (by split <;> rfl) ..
  · exact s.traffic_voidWrite ..

/-- Messages that a route has not delivered void what they wrote. -/
def State.voidMsgs (s : State) (key : Nat) : State :=
  if keyFw key then s else (s.route key).msgs.foldl (fun x m => x.voidMsg key m) s

theorem State.traffic_voidMsgs (s : State) (key : Nat) : (s.voidMsgs key).traffic = s.traffic :=
  State.traffic_ite rfl (State.traffic_foldl (fun x m => x.traffic_voidMsg key m) _ s)

/-! ### The services that wait for routes -/

/-- Only the mailbox that a route reports to may have changed. -/
def State.renoted (s u : State) : Prop := ∀ k, ∃ b, u.route k = { s.route k with mailbox := b }

theorem State.renoted.refl (s : State) : s.renoted s := fun k => ⟨(s.route k).mailbox, rfl⟩

theorem State.renoted_endRoutes (s : State) (m code : Nat) : s.renoted (s.endRoutes m code) := by
  intro k
  have changed : (s.endRoutes m code).route k =
      if (s.route k).mailbox = some m then { s.route k with mailbox := none } else s.route k :=
    mget_mmap Route.init s.tunil.routes (fun _ r => if r.mailbox = some m then { r with mailbox := none } else r) k rfl
  rw [changed]
  split
  · exact ⟨none, rfl⟩
  · exact ⟨_, rfl⟩

/-- A service that takes note of a route ends or goes on: routes keep all but their mailbox, and the service alone changes. -/
theorem State.routeNoted_notes (s : State) (key : Nat) : s.renoted (s.routeNoted key) ∧
    s.routeNoted key = { s with tunil := { s.tunil with routes := (s.routeNoted key).tunil.routes }
                                host := (s.routeNoted key).host } := by
  unfold State.routeNoted
  split
  · next m _ =>
    unfold State.routeService
    dsimp only
    split
    · exact ⟨.refl s, rfl⟩
    split
    · exact ⟨s.renoted_endRoutes _ _, rfl⟩
    split
    · exact ⟨s.renoted_endRoutes _ _, rfl⟩
    · exact ⟨.refl s, rfl⟩
  · exact ⟨.refl s, rfl⟩

theorem State.routeNoted_none {s : State} {key : Nat} (h : (s.route key).mailbox = none) : s.routeNoted key = s := by
  unfold State.routeNoted
  rw [h]

/-! ### TIMEDOUT -/

/-- A route that has timed out: nothing to send, nothing unacknowledged, no message in progress (R326). -/
def Route.timedOut (r : Route) : Route :=
  { r with st := 4, held := false, solo := none, retry := none, toSend := [], unacked := [], msgs := [], rxPending := 0 }

/-- The tasks on a route abort, MOVEs that wait for it end, and what its messages wrote is VOID. -/
def State.endsRoute (s : State) (key code : Nat) : State :=
  ((s.abortRoute key code fun _ => true).endHeld key fun _ => false).voidMsgs key

theorem State.thins_endsRoute (s : State) (key code : Nat) : s.Thins (s.endsRoute key code) :=
  ((s.thins_abortRoute key code _).trans (.of_traffic (State.traffic_endHeld ..))).trans (.of_traffic (State.traffic_voidMsgs ..))

/-- What is left of the routes when one times out: it is TIMEDOUT, and the others keep their state. -/
theorem State.timeOut_route (s : State) (key k : Nat) : ∃ b p, (s.timeOut key).route k =
    let r := if k = key then (s.route key).timedOut else s.route k
    { r with mailbox := b, toSend := r.toSend.filter p } := by
  have ends := State.route_congr (congrArg Tunil.routes (s.thins_endsRoute key 0x61).tunil)
  let x := ((s.endsRoute key 0x61).modRoute key fun r => { r with msgs := [], rxPending := 0 }).modRoute key fun r =>
    { r with st := 4, held := false, solo := none, retry := none, toSend := [], unacked := [] }
  have shut : x.route k = if k = key then (s.route key).timedOut else s.route k := by
    by_cases h : k = key
    · subst h
      rw [if_pos rfl, State.route_modRoute_same, State.route_modRoute_same, ends]
      rfl
    · rw [if_neg h, State.route_modRoute_other _ _ h, State.route_modRoute_other _ _ h, ends]
  obtain ⟨b, noted⟩ := (x.routeNoted_notes key).1 k
  refine ⟨b, fun p => (x.routeNoted key).lives p.task, ?_⟩
  show (x.routeNoted key).dropDead.route k = _
  rw [State.route_dropDead, noted, shut]

/-- A route that has timed out is TIMEDOUT and empty. -/
theorem State.timeOut_ends (s : State) (key : Nat) : let r := (s.timeOut key).route key
    r.st = 4 ∧ r.unacked = [] ∧ r.toSend = [] ∧ r.msgs = [] := by
  obtain ⟨b, p, ended⟩ := s.timeOut_route key key
  rw [if_pos rfl] at ended
  dsimp only
  rw [ended]
  exact ⟨rfl, rfl, rfl, rfl⟩

theorem State.timeOut_other (s : State) {key k : Nat} (h : k ≠ key) : ((s.timeOut key).route k).st = (s.route k).st := by
  obtain ⟨b, p, kept⟩ := s.timeOut_route key k
  rw [kept, if_neg h]

end Sys2Proof.Machine
end

section
/-! PROOF. The route services (R318, R319, R326): ROUTE_OPEN starts the handshake of each route that its entries name, and
ROUTE_CLOSE closes the routes that it names. -/
namespace Sys2Proof.Machine

/-! ### The entries of an image -/

theorem length_entriesOf (b : List W32) : (entriesOf b).length = b.length / 4 := by
  induction b using entriesOf.induct with
  | case1 w x y z t ih =>
    simp only [entriesOf, List.length_cons, ih]
    omega
  | case2 b short =>
    match b, short with
    | [], _ | [_], _ | [_, _], _ | [_, _, _], _ => simp [entriesOf]
    | w :: x :: y :: z :: t, short => exact absurd rfl (short w x y z t)

theorem entriesOf_single {b : List W32} (h : b.length = 4) : entriesOf b = [b] := by
  match b, h with
  | [_, _, _, _], _ => rfl

theorem rtRoute_lt (e : List W32) : rtRoute e < 8192 := fld_lt ..

/-! ### ROUTE_OPEN -/

theorem exec_routeOpen {s : State} {m : Fin 64} {t : Nat} (h : s.up = true) (tenant : s.cfg.funcTenant (s.svc m).func = some t)
    (asked : s.asked m 3 = true) : exec (.routeOpen m) s = .next (s.routeOpen m t (s.svc m).body) :=
  (whenUp_up h _).trans (congrArg _ (State.serve_asked asked tenant _))

/-- The route that an entry opens in the place of an old one. -/
def openingRoute (old : Route) (m t : Nat) (e : List W32) : Route :=
  { Route.init with st := 1, cls := rtClass e, tenant := t, peerRoute := rtPeerRoute e, peerNode := rtNode e
                    peerTenant := rtTenant e, hops := rtHops e, ports := rtPorts e, mailbox := some m, kiln := old.kiln }

theorem State.sends_startRoute (s : State) (m t : Nat) (e : List W32) :
    (s.setRoute (rtRoute e) (openingRoute (s.route (rtRoute e)) m t e)).Sends (s.startRoute m t e) :=
  State.sends_sendCtl ..

theorem State.route_startRoute_same (s : State) (m t : Nat) (e : List W32) :
    (s.startRoute m t e).route (rtRoute e) = openingRoute (s.route (rtRoute e)) m t e :=
  ((s.sends_startRoute m t e).route _).trans (State.route_setRoute_same ..)

theorem State.route_startRoute_other (s : State) (m t : Nat) {e : List W32} {k : Nat} (h : k ≠ rtRoute e) :
    (s.startRoute m t e).route k = s.route k :=
  ((s.sends_startRoute m t e).route _).trans (State.route_setRoute_other _ _ h)

/-- Handshakes that begin change no memory, home or service. -/
theorem State.startRoutes_keeps (m t : Nat) (es : List (List W32)) (s : State) :
    let u := es.foldl (fun x e => x.startRoute m t e) s
    u.mem = s.mem ∧ u.homes = s.homes ∧ u.host.svc = s.host.svc :=
  List.foldlRecOn (motive := fun u : State => u.mem = s.mem ∧ u.homes = s.homes ∧ u.host.svc = s.host.svc) es _
    ⟨rfl, rfl, rfl⟩ fun x ⟨mem, homes, svc⟩ e _ =>
      have sent := x.sends_startRoute m t e
      ⟨sent.mem.trans mem, sent.homes.trans homes, sent.svc.trans svc⟩

theorem State.startRoutes_other (m t k : Nat) (es : List (List W32)) (s : State) (h : ∀ e ∈ es, k ≠ rtRoute e) :
    (es.foldl (fun x e => x.startRoute m t e) s).route k = s.route k :=
  List.foldlRecOn (motive := fun u : State => u.route k = s.route k) es _ rfl fun x hx e he =>
    (x.route_startRoute_other m t (h e he)).trans hx

/-- Routes of an image that names none twice begin their handshakes, each by its own entry. -/
theorem State.startRoutes_opens (m t : Nat) (es : List (List W32)) : ∀ s : State, (es.map rtRoute).Nodup →
    ∀ e ∈ es, (es.foldl (fun x e => x.startRoute m t e) s).route (rtRoute e) = openingRoute (s.route (rtRoute e)) m t e := by
  induction es with
  | nil => exact fun _ _ _ h => nomatch h
  | cons a es ih =>
    intro s nodup e he
    obtain ⟨fresh, nodup⟩ := List.nodup_cons.1 nodup
    have apart {f : List W32} (hf : f ∈ es) : rtRoute a ≠ rtRoute f := fun h => fresh (h ▸ List.mem_map_of_mem hf)
    rw [List.foldl_cons]
    rcases List.mem_cons.1 he with rfl | he
    · rw [State.startRoutes_other m t _ es _ fun f hf => apart hf, State.route_startRoute_same]
    · rw [ih _ nodup e he, State.route_startRoute_other s m t (apart he).symm]

section
variable {s : State} {m t : Nat} {b : List W32} (fours : b.length % 4 = 0) (filled : 0 < b.length) (few : b.length ≤ 1020)
include fours filled few

theorem State.routeOpen_eq : s.routeOpen m t b =
    match ((entriesOf b).map (s.routeRefusal t)).find? fun c => decide (c ≠ 0) with
    | some c => s.endSvc m c
    | none => (entriesOf b).foldl (fun x e => x.startRoute m t e) (s.beginSvc m) := by
  have count := length_entriesOf b
  exact if_neg (by omega)

theorem State.routeOpen_passes (pass : ∀ e ∈ entriesOf b, s.routeRefusal t e = 0) :
    s.routeOpen m t b = (entriesOf b).foldl (fun x e => x.startRoute m t e) (s.beginSvc m) := by
  have clear : ((entriesOf b).map (s.routeRefusal t)).find? (fun c => decide (c ≠ 0)) = none := by
    simpa using pass
  rw [State.routeOpen_eq fours filled few, clear]

theorem State.routeOpen_refused {c : Nat} (refused : ((entriesOf b).map (s.routeRefusal t)).find? (fun c => decide (c ≠ 0)) = some c) :
    s.routeOpen m t b = s.endSvc m c := by
  rw [State.routeOpen_eq fours filled few, refused]

/-- What ROUTE_OPEN leaves where every entry passes. -/
theorem State.routeOpen_opens (unended : (s.svc m).result = none) (pass : ∀ e ∈ entriesOf b, s.routeRefusal t e = 0)
    (nodup : ((entriesOf b).map rtRoute).Nodup) : let u := s.routeOpen m t b
    (u.svc m).begun = true ∧ (u.svc m).result = none ∧ u.mem = s.mem ∧ u.homes = s.homes ∧
      (∀ k, (∀ e ∈ entriesOf b, k ≠ rtRoute e) → u.route k = s.route k) ∧
      ∀ e ∈ entriesOf b, u.route (rtRoute e) = openingRoute (s.route (rtRoute e)) m t e := by
  dsimp only
  rw [State.routeOpen_passes fours filled few pass]
  obtain ⟨mem, homes, svc⟩ := State.startRoutes_keeps m t (entriesOf b) (s.beginSvc m)
  have begun : ((entriesOf b).foldl (fun x e => x.startRoute m t e) (s.beginSvc m)).svc m = { s.svc m with begun := true } :=
    (congrArg (mget Svc.init · m) svc).trans (State.svc_setSvc_same ..)
  rw [begun]
  exact ⟨rfl, unended, mem, homes, fun k => State.startRoutes_other m t k _ (s.beginSvc m),
    State.startRoutes_opens m t _ (s.beginSvc m) nodup⟩

end

/-- Without route injection a control segment changes no register; where a port is usable it waits there. -/
theorem State.sendCtl_sends {s : State} (quiet : bit (s.reg .tunFinj 0) 31 = false) (key pcp : Nat) (seg : Seg) :
    (s.sendCtl key pcp seg).regs = s.regs ∧ ∀ p, s.pickPort (s.route key).ports pcp none = some p →
      ((s.sendCtl key pcp seg).port p).txq = (s.port p).txq ++
        [{ pcp := pcp, fw := keyFw key, route := keyNum key, seg := seg, flip := none }] := by
  cases picked : s.pickPort (s.route key).ports pcp none with
  | none =>
    refine ⟨?_, nofun⟩
    unfold State.sendCtl State.placeSeg
    rw [picked]
  | some q =>
    rw [State.sendCtl_quiet quiet picked]
    refine ⟨rfl, fun p h => ?_⟩
    obtain rfl := Option.some.inj h
    exact State.txq_pushFrame_same ..

/-- The OPEN of a single entry waits at the port picked for it. -/
theorem State.startRoute_sends {s : State} (quiet : bit (s.reg .tunFinj 0) 31 = false) (m t : Nat) (b : List W32) :
    (s.startRoute m t b).regs = s.regs ∧ ∀ p, s.pickPort (rtPorts b) (ackPcp (rtClass b)) none = some p →
      ∃ f, ((s.startRoute m t b).port p).txq = (s.port p).txq ++ [f] ∧ f.seg.typ = 5 ∧ f.seg.dstNode = rtNode b ∧
        f.route = rtRoute b := by
  let x := s.setRoute (rtRoute b) (openingRoute (s.route (rtRoute b)) m t b)
  have here : x.route (rtRoute b) = openingRoute (s.route (rtRoute b)) m t b := State.route_setRoute_same ..
  have sent := State.sendCtl_sends (s := x) quiet (rtRoute b) (ackPcp (x.route (rtRoute b)).cls)
    { x.segOf (rtRoute b) 5 with aux := keyNum (rtRoute b) }
  refine ⟨sent.1, fun p picked => ⟨_, sent.2 p ?_, rfl, ?_, ?_⟩⟩
  · rw [here]
    exact (State.pickPort_congr rfl rfl ..).trans picked
  · exact congrArg Route.peerNode here
  · exact Nat.mod_eq_of_lt (by have := rtRoute_lt b; omega)

/-! ### ROUTE_CLOSE -/

theorem exec_routeClose {s : State} {m : Fin 64} {t : Nat} (h : s.up = true) (tenant : s.cfg.funcTenant (s.svc m).func = some t)
    (asked : s.asked m 4 = true) : exec (.routeClose m) s = .next (s.routeClose m t (s.svc m).body) :=
  (whenUp_up h _).trans (congrArg _ (State.serve_asked asked tenant _))

@[simp] theorem State.route_endSvc (s : State) (m c k : Nat) : (s.endSvc m c).route k = s.route k := rfl

theorem State.shutRoute_opened {s : State} {key : Nat} (h : (s.route key).st ≠ 0) :
    s.shutRoute key = (s.timeOut key).modRoute key fun r => { r with st := 0, mailbox := none } := if_neg h

theorem State.shutRoute_closed (s : State) (key : Nat) : ((s.shutRoute key).route key).st = 0 := by
  by_cases h : (s.route key).st = 0
  · rw [show s.shutRoute key = s from if_pos h, h]
  · rw [State.shutRoute_opened h, State.route_modRoute_same]

/-- A closed route stays closed when another closes. -/
theorem State.shutRoute_keeps {s : State} {k : Nat} (closed : (s.route k).st = 0) (key : Nat) :
    ((s.shutRoute key).route k).st = 0 := by
  by_cases h : k = key
  · exact h ▸ s.shutRoute_closed key
  · unfold State.shutRoute
    split
    · exact closed
    · rw [State.route_modRoute_other _ _ h, State.timeOut_other s h, closed]

theorem State.shutRoutes_closed (l : List W32) : ∀ s : State, ∀ w : W32, w ∈ l ∨ (s.route w.toNat).st = 0 →
    ((l.foldl (fun x w => x.shutRoute w.toNat) s).route w.toNat).st = 0 := by
  induction l with
  | nil => exact fun s w h => h.resolve_left nofun
  | cons a l ih =>
    intro s w h
    refine ih _ w ?_
    rcases h with h | h
    · rcases List.mem_cons.1 h with rfl | h
      · exact .inr (s.shutRoute_closed _)
      · exact .inl h
    · exact .inr (State.shutRoute_keeps h _)

theorem State.routeClose_eq {s : State} {m t : Nat} {b : List W32} (filled : 0 < b.length) (few : b.length ≤ 255)
    (own : ∀ w ∈ b, w.toNat < 8192 ∧ ((s.route w.toNat).st = 0 ∨ (s.route w.toNat).tenant = t)) :
    s.routeClose m t b = (b.foldl (fun x w => x.shutRoute w.toNat) s).endSvc m 0 := by
  have listed : (b.any fun w => decide (8192 ≤ w.toNat)) = false := by
    rw [List.any_eq_false]
    exact fun w hw => by simpa using (own w hw).1
  have owned : (b.any fun w => decide ((s.route w.toNat).st ≠ 0) && decide ((s.route w.toNat).tenant ≠ t)) = false := by
    rw [List.any_eq_false]
    intro w hw
    simpa [or_iff_not_imp_left] using (own w hw).2
  unfold State.routeClose
  rw [listed, owned, if_neg (by simp only [Bool.false_eq_true, or_false]; omega)]
  rfl

/-- Where no queue has a task, no abort takes place. -/
theorem State.abortRoute_idle {s : State} (idle : ∀ k, (s.queue k).tasks = []) (key code : Nat) (p : Task → Bool) :
    s.abortRoute key code p = s := by
  rw [State.abortRoute_eq]
  split
  · rfl
  · refine List.foldlRecOn (motive := fun x : State => x = s) _ _ rfl fun x hx k _ => ?_
    rw [hx]
    unfold State.abortOn
    rw [idle]
    rfl

theorem State.timeOut_eq (s : State) (key : Nat) : s.timeOut key =
    ((((s.endsRoute key 0x61).modRoute key fun x => { x with msgs := [], rxPending := 0 }).modRoute key fun x =>
      { x with st := 4, held := false, solo := none, retry := none, toSend := [], unacked := [] }).routeNoted key).dropDead := rfl

/-- A route without tasks, MOVEs, messages or a service that waits for it times out in the route table alone. -/
theorem State.timeOut_idle {s : State} {key : Nat} (idle : ∀ k, (s.queue k).tasks = []) (still : s.moves = [])
    (unsaid : (s.route key).msgs = []) (quiet : (s.route key).mailbox = none) :
    s.timeOut key = { s with tunil := (s.timeOut key).tunil } := by
  have ends : s.endsRoute key 0x61 = s := by
    unfold State.endsRoute
    rw [State.abortRoute_idle idle, State.endHeld_none still]
    unfold State.voidMsgs
    rw [unsaid]
    exact ite_self s
  rw [State.timeOut_eq, ends, State.routeNoted_none]
  · rfl
  · rw [State.route_modRoute_same, State.route_modRoute_same]
    exact quiet

/-- Settles O30: ROUTE_OPEN by its entries one after another, ROUTE_CLOSE by the routes that time out and close. -/
theorem routeServices : Obligations.RouteServices := by
  unfold Obligations.RouteServices
  intro m t s up tenant b
  refine ⟨fun asked fours filled few => ⟨fun pass nodup => ?opens, fun c refused => ?refused⟩, fun asked quiet four pass => ?single,
    fun asked filled few own => ?closes, fun asked w single listed own opened quiet unsaid queues moves => ?one⟩
  case opens =>
    obtain ⟨begun, result, mem, homes, other, routes⟩ :=
      State.routeOpen_opens (m := m) fours filled few (State.asked_result asked) pass nodup
    refine ⟨_, exec_routeOpen up tenant asked, begun, result, mem, homes, other, fun e he => ?_⟩
    rw [routes e he]
    exact ⟨rfl, rfl, rfl, rfl, rfl, rfl, rfl⟩
  case refused => rw [exec_routeOpen up tenant asked, State.routeOpen_refused fours filled few refused]
  case single =>
    refine ⟨_, exec_routeOpen up tenant asked, ?_⟩
    have entries : entriesOf (s.svc m).body = [(s.svc m).body] := entriesOf_single four
    replace four : (s.svc m).body.length = 4 := four
    rw [State.routeOpen_passes (by omega) (by omega) (by omega) (by rw [entries]; simpa using pass), entries]
    exact State.startRoute_sends (s := s.beginSvc m) quiet m t b
  case closes =>
    refine ⟨_, exec_routeClose up tenant asked, ?_⟩
    rw [State.routeClose_eq filled few own]
    exact ⟨congrArg Svc.result (State.svc_endSvc ..), fun w hw => State.shutRoutes_closed b s w (.inl hw)⟩
  case one =>
    have nonzero : (s.route w.toNat).st ≠ 0 := by omega
    have idle (k : Nat) : (s.queue k).tasks = [] := by
      unfold State.queue
      rw [queues]
      rfl
    have ended := State.timeOut_idle idle moves unsaid quiet
    obtain ⟨-, unacked, toSend, -⟩ := s.timeOut_ends w.toNat
    refine ⟨_, exec_routeClose up tenant asked, ?_⟩
    rw [show (s.svc m).body = [w] from single, State.routeClose_eq (by simp) (by simp) (by simpa using ⟨listed, .inr own⟩),
      List.foldl_cons, List.foldl_nil, State.shutRoute_opened nonzero]
    have stays : ((s.timeOut w.toNat).regs, (s.timeOut w.toNat).mem, (s.timeOut w.toNat).homes) = (s.regs, s.mem, s.homes) := by
      rw [ended]
    obtain ⟨regs, mem, homes⟩ := by simpa only [Prod.mk.injEq] using stays
    have closed : ((((s.timeOut w.toNat).modRoute w.toNat fun r => { r with st := 0, mailbox := none }).endSvc m 0).route w.toNat) =
        { (s.timeOut w.toNat).route w.toNat with st := 0, mailbox := none } := by
      rw [State.route_endSvc, State.route_modRoute_same]
    rw [closed]
    exact ⟨rfl, toSend, unacked, congrArg Svc.result (State.svc_endSvc ..), by simpa using regs, by simpa using mem,
      by simpa using homes⟩

end Sys2Proof.Machine
end

section
/-! PROOF. Segments without a sequence number (R320, R323, R326, R334): which of them reach their route, and what ACK,
PARTICIPANT_RESET and ROUTE_FAIL leave of it. -/
namespace Sys2Proof.Machine

/-! ### A segment leaves its receive share -/

/-- What a received segment leaves behind at its port: receive shares and pauses alone. -/
structure State.Drained (s t : State) : Prop where
  frame : t = { s with ports := t.ports, sent := t.sent }
  matched : ∀ q, (t.port q).matched = (s.port q).matched

theorem Port.matched_setUsed (x : Port) (c v : Nat) : (x.setUsed c v).matched = x.matched := by
  unfold Port.setUsed
  split <;> rfl

theorem Port.matched_setXoff (x : Port) (c : Nat) (b : Bool) : (x.setXoff c b).matched = x.matched := by
  unfold Port.setXoff
  split <;> rfl

theorem State.drained_modPort (s : State) (p : Nat) {g : Port → Port} (keeps : ∀ x, (g x).matched = x.matched) :
    s.Drained (s.modPort p g) :=
  ⟨rfl, s.port_modPort_keeps (P := fun x y => y.matched = x.matched) (fun _ => rfl) p keeps⟩

theorem State.Drained.trans {s t u : State} (h1 : s.Drained t) (h2 : t.Drained u) : s.Drained u :=
  ⟨by rw [h2.frame, h1.frame], fun q => (h2.matched q).trans (h1.matched q)⟩

theorem State.drained_takeFrame (s : State) (p : Nat) (g : Seg) : s.Drained (s.takeFrame p g) := by
  unfold State.takeFrame
  split
  · next h _ =>
    refine (s.drained_modPort p (g := fun x => { x with rx := x.rx.erase h }) fun _ => rfl).trans ?_
    generalize s.modPort p (fun x => { x with rx := x.rx.erase h }) = x
    have drained := x.drained_modPort p (g := fun y => y.setUsed h.share ((x.port p).used h.share - h.len))
      fun y => y.matched_setUsed ..
    unfold State.drainShare
    dsimp only
    split
    · exact (drained.trans (State.drained_modPort _ p fun y => y.matched_setXoff ..)).trans ⟨rfl, fun _ => rfl⟩
    · exact drained
  · exact ⟨rfl, fun _ => rfl⟩

namespace State.Drained

variable {s t : State} (h : s.Drained t)
include h

theorem regs : t.regs = s.regs := (congrArg State.regs h.frame :)
theorem tunil : t.tunil = s.tunil := (congrArg State.tunil h.frame :)
theorem mem : t.mem = s.mem := (congrArg State.mem h.frame :)
theorem homes : t.homes = s.homes := (congrArg State.homes h.frame :)
theorem queues : t.queues = s.queues := (congrArg State.queues h.frame :)
theorem moves : t.moves = s.moves := (congrArg State.moves h.frame :)
theorem parity : t.parity = s.parity := (congrArg State.parity h.frame :)
theorem reg (r : Reg) (i : Nat) : t.reg r i = s.reg r i := State.reg_congr h.regs r i
theorem route (k : Nat) : t.route k = s.route k := State.route_congr (congrArg Tunil.routes h.tunil) k
theorem carNode : t.carNode = s.carNode := congrArg (fun w => fld w 15 0) (h.reg .carStatus 0)
theorem usable (q : Nat) : t.portUsable q = s.portUsable q := State.portUsable_congr (h.reg ..) (h.reg ..) (h.matched q)

end State.Drained

/-! ### Segments for this node and its routes -/

theorem State.strayNode_here {s : State} {g : Seg} (here : g.dstNode = s.carNode) : s.strayNode g = false :=
  decide_eq_false (not_not.2 here)

theorem State.strayNode_other {s : State} {g : Seg} (other : g.dstNode ≠ s.carNode) : s.strayNode g = true :=
  decide_eq_true other

section
variable {s : State} {p : Nat} {g : Seg}

theorem State.control_stray (other : g.dstNode ≠ s.carNode) (f : State → Nat → State) :
    s.control p g f = (s.takeFrame p g).countWrap .tunStale 0 1 := by
  unfold State.control
  dsimp only
  rw [State.strayNode_other (by rwa [(s.drained_takeFrame p g).carNode])]
  rfl

variable (here : g.dstNode = s.carNode)
include here

theorem State.control_eq (f : State → Nat → State) : s.control p g f =
    if (s.route (segKey g)).st = 0 then s.takeFrame p g
    else if !(s.route (segKey g)).ofRecord g && decide ((s.route (segKey g)).st ≠ 1) then
      (s.takeFrame p g).countWrap .tunStale 0 1
    else f (s.takeFrame p g) (segKey g) := by
  have taken := s.drained_takeFrame p g
  unfold State.control
  dsimp only
  rw [State.strayNode_here (by rw [taken.carNode, here]), taken.route]
  rfl

theorem State.control_closed (closed : (s.route (segKey g)).st = 0) (f : State → Nat → State) :
    s.control p g f = s.takeFrame p g := by
  rw [State.control_eq here, if_pos closed]

theorem State.control_stale (opened : 2 ≤ (s.route (segKey g)).st) (other : (s.route (segKey g)).ofRecord g = false)
    (f : State → Nat → State) : s.control p g f = (s.takeFrame p g).countWrap .tunStale 0 1 := by
  have not0 : (s.route (segKey g)).st ≠ 0 := by omega
  have not1 : (s.route (segKey g)).st ≠ 1 := by omega
  rw [State.control_eq here, if_neg not0, other, decide_eq_true not1]
  rfl

theorem State.control_known
    (known : (s.route (segKey g)).st = 1 ∨ ((s.route (segKey g)).st ≠ 0 ∧ (s.route (segKey g)).ofRecord g = true))
    (f : State → Nat → State) : s.control p g f = f (s.takeFrame p g) (segKey g) := by
  rw [State.control_eq here]
  rcases known with opening | ⟨opened, record⟩
  · rw [opening, if_neg Nat.one_ne_zero, decide_eq_false (not_not.2 rfl), Bool.and_false]
    rfl
  · rw [if_neg opened, record]
    rfl

end

/-! ### The commands -/

section
variable {s : State} {p : Fin 32} {g : Seg} (on : s.clocked = true) (taken : s.takes p g = true)
include on taken

theorem exec_ack : exec (.ack p g) s = .next (s.control p g fun y k => y.ackRoute k g) :=
  (whenClocked_on on _).trans (congrArg _ (if_pos taken))

theorem exec_notReady : exec (.notReady p g) s = .next (s.control p g fun y k => y.notReadyIn k) :=
  (whenClocked_on on _).trans (congrArg _ (if_pos taken))

theorem exec_busy : exec (.busy p g) s = .next (s.control p g fun y k => y.busyIn k g) :=
  (whenClocked_on on _).trans (congrArg _ (if_pos taken))

theorem exec_refused : exec (.refused p g) s = .next (s.control p g fun y k => y.refusedIn k g) :=
  (whenClocked_on on _).trans (congrArg _ (if_pos taken))

theorem exec_routeFail : exec (.routeFail p g) s = .next (s.control p g fun y k => y.peerFail k) :=
  (whenClocked_on on _).trans (congrArg _ (if_pos taken))

theorem exec_participantReset_eq : exec (.participantReset p g) s = .next (
    let y := s.takeFrame p g
    let r := y.route (segKey g)
    if y.strayNode g then y.stale
    else if r.st = 0 then y
    else if !(decide (g.epoch = r.peerEpoch) || decide (g.epoch = g.aux % 65536)) then y.stale
    else y.peerReset (segKey g)) :=
  (whenClocked_on on _).trans (congrArg _ (if_pos taken))

theorem exec_participantReset_stray (other : g.dstNode ≠ s.carNode) :
    exec (.participantReset p g) s = .next ((s.takeFrame p g).countWrap .tunStale 0 1) := by
  rw [exec_participantReset_eq on taken]
  dsimp only
  rw [State.strayNode_other (by rwa [(s.drained_takeFrame p g).carNode])]
  rfl

theorem exec_participantReset_here (here : g.dstNode = s.carNode) : exec (.participantReset p g) s = .next (
    if (s.route (segKey g)).st = 0 then s.takeFrame p g
    else if g.epoch = (s.route (segKey g)).peerEpoch ∨ g.epoch = g.aux % 65536 then (s.takeFrame p g).peerReset (segKey g)
    else (s.takeFrame p g).countWrap .tunStale 0 1) := by
  have drained := s.drained_takeFrame p g
  rw [exec_participantReset_eq on taken]
  dsimp only
  rw [State.strayNode_here (by rw [drained.carNode, here]), drained.route, if_neg Bool.false_ne_true]
  by_cases e : g.epoch = (s.route (segKey g)).peerEpoch ∨ g.epoch = g.aux % 65536
  · simp only [e, if_true, ← Bool.decide_or, decide_true, Bool.not_true, Bool.false_eq_true, if_false]
  · simp only [e, if_false, ← Bool.decide_or, decide_false, Bool.not_false, if_true]
    rfl

end

/-! ### ACK -/

/-- The tasks whose last segment an ACK has covered, and whether it was a COMMIT. -/
def Route.ackedBy (r : Route) (g : Seg) : List ((Nat × Nat) × Bool) :=
  let left := r.unacked.filter fun x => !ackCovers g x.seg.seq
  (((r.unacked.filter fun x => ackCovers g x.seg.seq).map fun x => (x.task, decide (x.seg.typ = 7))).eraseDups).filter fun o =>
    decide (o.1 ≠ (0, 0)) && !(left.any fun x => decide (x.task = o.1)) && !(r.toSend.any fun p => decide (p.task = o.1))

theorem Route.mem_ackedBy {r : Route} {g : Seg} {x : TxSeg} (hx : x ∈ r.unacked) (task : x.task ≠ (0, 0))
    (covered : ∀ y ∈ r.unacked, y.task = x.task → ackCovers g y.seg.seq = true) (sent : ∀ y ∈ r.toSend, y.task ≠ x.task) :
    (x.task, decide (x.seg.typ = 7)) ∈ r.ackedBy g := by
  refine List.mem_filter.2 ⟨List.mem_eraseDups.2 (List.mem_map.2 ⟨x, List.mem_filter.2 ⟨hx, covered x hx rfl⟩, rfl⟩), ?_⟩
  simp only [task, ne_eq, not_false_eq_true, decide_true, Bool.true_and, Bool.and_eq_true, Bool.not_eq_true', List.any_eq_false,
    decide_eq_true_iff]
  refine ⟨fun y hy same => ?_, sent⟩
  obtain ⟨hy, left⟩ := List.mem_filter.1 hy
  rw [covered y hy same] at left
  cases left

/-- The window after an ACK (R323). -/
def Route.acked (r : Route) (g : Seg) : Route :=
  let left := r.unacked.filter fun x => !ackCovers g x.seg.seq
  { r with unacked := left
           solo := match r.solo with
             | some q => if left.any fun x => decide (x.seg.seq = q) then some q else none
             | none => none }

theorem State.ackRoute_open {s : State} {key : Nat} (opened : (s.route key).st = 2) (still : (s.route key).resetSent = false)
    (g : Seg) : s.ackRoute key g = (((s.route key).ackedBy g).foldl (fun x o => x.ackedTask o.1 o.2)
      (s.setRoute key ((s.route key).acked g))).tunilRequests := by
  exact (if_neg (by simp [still])).trans (if_neg (not_not.2 opened))

theorem State.ackRoute_idle {s : State} {key : Nat} (closed : (s.route key).st ≠ 2) (still : (s.route key).resetSent = false)
    (g : Seg) : s.ackRoute key g = s := by
  exact (if_neg (by simp [still])).trans (if_pos closed)

theorem State.ackedTask_frame (s : State) (o : Nat × Nat) (c : Bool) :
    s.ackedTask o c = { s with moves := (s.ackedTask o c).moves, queues := (s.ackedTask o c).queues } := by
  unfold State.ackedTask
  split <;> rfl

theorem State.ackedTasks_frame (l : List ((Nat × Nat) × Bool)) (s : State) :
    let u := l.foldl (fun x o => x.ackedTask o.1 o.2) s
    u = { s with moves := u.moves, queues := u.queues } :=
  List.foldlRecOn (motive := fun u : State => u = { s with moves := u.moves, queues := u.queues }) l _ rfl
    fun x hx o _ => by rw [State.ackedTask_frame, hx]

theorem State.ackedTask_none {s : State} (h : s.moves = []) (o : Nat × Nat) (c : Bool) :
    s.ackedTask o c = s.landTask o.1 o.2 := by
  unfold State.ackedTask
  rw [h]
  rfl

/-- A task in flight that has landed is still landed when another lands. -/
theorem State.landTask_keeps {s : State} {k i : Nat} (h : ∀ t, s.task? k i = some t → t.landed = true) (k' i' : Nat) :
    ∀ t, (s.landTask k' i').task? k i = some t → t.landed = true := by
  intro t ht
  rw [show (s.landTask k' i').task? k i = _ from s.task?_modTask k i k' i' fun _ => rfl] at ht
  split at ht
  · obtain ⟨x, -, rfl⟩ := Option.map_eq_some_iff.1 ht
    rfl
  · exact h t ht

/-- While no MOVE runs, the tasks whose last segment is acknowledged have landed (R116). -/
theorem State.ackedTasks_landed (l : List ((Nat × Nat) × Bool)) : ∀ s : State, s.moves = [] → ∀ o c,
    (o, c) ∈ l ∨ (∀ t, s.task? o.1 o.2 = some t → t.landed = true) →
    ∀ t, (l.foldl (fun x o => x.ackedTask o.1 o.2) s).task? o.1 o.2 = some t → t.landed = true := by
  induction l with
  | nil => exact fun s _ o c h => h.resolve_left nofun
  | cons a l ih =>
    intro s still o c h
    simp only [List.foldl_cons, State.ackedTask_none still]
    refine ih (s.landTask a.1.1 a.1.2) still o c ?_
    rcases h with h | h
    · rcases List.mem_cons.1 h with rfl | h
      · exact .inr fun t => State.task?_landTask
      · exact .inl h
    · exact .inr (State.landTask_keeps h _ _)

/-- What an ACK leaves of an open route (R323). -/
theorem State.ackRoute_clears {s : State} {key : Nat} (opened : (s.route key).st = 2) (still : (s.route key).resetSent = false)
    (g : Seg) : let u := s.ackRoute key g
    u.mem = s.mem ∧ u.homes = s.homes ∧ u.regs = s.regs ∧
      (u.route key).unacked = (s.route key).unacked.filter (fun x => !ackCovers g x.seg.seq) ∧
      (s.moves = [] → ∀ o c, (o, c) ∈ (s.route key).ackedBy g → ∀ t, u.task? o.1 o.2 = some t → t.landed = true) := by
  have done := State.ackedTasks_frame ((s.route key).ackedBy g) (s.setRoute key ((s.route key).acked g))
  have landed := State.ackedTasks_landed ((s.route key).ackedBy g) (s.setRoute key ((s.route key).acked g))
  dsimp only
  rw [State.ackRoute_open opened still]
  generalize ((s.route key).ackedBy g).foldl (fun x o => x.ackedTask o.1 o.2) (s.setRoute key ((s.route key).acked g)) = x
    at done landed
  have asked := x.tunilRequests_frame
  have tunil : x.tunil = (s.setRoute key ((s.route key).acked g)).tunil := (congrArg State.tunil done :)
  refine ⟨?_, ?_, ?_, ?_, fun none o c mem t ht => landed none o c (.inl mem) t ?_⟩
  · rw [asked, done]
    rfl
  · rw [asked, done]
    rfl
  · rw [asked, done]
    rfl
  · rw [State.route_tunilRequests, State.route_congr (congrArg Tunil.routes tunil), State.route_setRoute_same]
    rfl
  · rwa [show x.tunilRequests.task? o.1 o.2 = x.task? o.1 o.2 by rw [asked]; rfl] at ht

/-- An ACK that a PARTICIPANT_RESET waits for ends the wait (R334). -/
theorem State.ackRoute_reset {s : State} {key : Nat} (waits : (s.route key).resetSent = true) (g : Seg) :
    (s.ackRoute key g).mem = s.mem ∧ (s.ackRoute key g).route key =
      { s.route key with resetSent := false, st := if (s.route key).st = 1 then 1 else 0, held := false, toSend := []
                         unacked := [] } := by
  unfold State.ackRoute
  dsimp only
  rw [waits, if_pos rfl]
  exact ⟨s.mem_endHeld .., State.route_setRoute_same ..⟩

/-! ### PARTICIPANT_RESET and ROUTE_FAIL -/

/-- After what ends a tenant route no task of its tenant that names it waits to land. -/
theorem State.endsRoute_gone (s : State) (key code : Nat) (tenant : keyFw key = false) :
    ∀ k ∈ queuesOf (s.route key).tenant, ∀ t ∈ ((s.endsRoute key code).queue k).tasks, t.landed = false →
      namesRoute t.desc key = false := by
  intro k hk t ht
  have same : (s.endsRoute key code).traffic = (s.abortRoute key code fun _ => true).traffic :=
    (State.traffic_voidMsgs ..).trans (State.traffic_endHeld ..)
  rw [State.tasks_of_traffic same] at ht
  exact s.abortRoute_gone key code tenant k hk t ht

theorem State.peerReset_eq (s : State) (key : Nat) : s.peerReset key =
    ((((s.sendCtl key (ackPcp (s.route key).cls)
      { s.segOf key 2 with seq := (s.route key).rxNext, payload := (s.route key).ackMap }).endsRoute key 0x60).modRoute key fun r =>
      { r with msgs := [], rxPending := 0 }).modRoute key fun r =>
      { r with st := if r.st = 0 ∨ r.st = 4 then r.st else 3, held := false, solo := none, retry := none, toSend := []
               unacked := [] }).dropDead := rfl

/-- A PARTICIPANT_RESET that is taken leaves the route RESET and empty, and no task on it waits to land (R334). -/
theorem State.peerReset_ends {s : State} {key : Nat} (opened : (s.route key).st ≠ 0) : let u := s.peerReset key
    (u.route key).st = (if (s.route key).st = 4 then 4 else 3) ∧ (u.route key).toSend = [] ∧ (u.route key).unacked = [] ∧
      (u.route key).msgs = [] ∧ (keyFw key = false → ∀ k ∈ queuesOf (s.route key).tenant,
        ∀ x ∈ (u.queue k).tasks, x.landed = false → namesRoute x.desc key = false) := by
  have sent := s.sends_sendCtl key (ackPcp (s.route key).cls)
    { s.segOf key 2 with seq := (s.route key).rxNext, payload := (s.route key).ackMap }
  dsimp only
  rw [State.peerReset_eq]
  generalize s.sendCtl key (ackPcp (s.route key).cls)
    { s.segOf key 2 with seq := (s.route key).rxNext, payload := (s.route key).ackMap } = x at sent
  have gone := x.endsRoute_gone key 0x60
  have ended : (x.endsRoute key 0x60).route key = s.route key :=
    (State.route_congr (congrArg Tunil.routes (x.thins_endsRoute key 0x60).tunil) key).trans (sent.route key)
  rw [sent.route] at gone
  generalize x.endsRoute key 0x60 = y at gone ended
  rw [State.route_dropDead, State.route_modRoute_same, State.route_modRoute_same, ended]
  refine ⟨?_, rfl, rfl, rfl, gone⟩
  by_cases h : (s.route key).st = 4 <;> simp [h, opened]

theorem State.peerFail_idle {s : State} {key : Nat} (not1 : (s.route key).st ≠ 1) (not2 : (s.route key).st ≠ 2) :
    s.peerFail key = s := if_neg (not_or.2 ⟨not2, not1⟩)

theorem State.peerFail_ends {s : State} {key : Nat} (h : (s.route key).st = 2 ∨ (s.route key).st = 1) :
    s.peerFail key = s.timeOut key := if_pos h

end Sys2Proof.Machine
end

section
/-! PROOF. The timers of a route (R324, R325, R326, R329, R334, R337): what each leaves of it, and the statement about
acknowledgements, retries and ends. -/
namespace Sys2Proof.Machine

/-! ### The commands -/

section
variable {s : State} (on : s.clocked = true)
include on

theorem exec_ackSend (fw : Bool) (n : Fin 16384) : exec (.ackSend fw n) s = .next (
    if (s.route (routeKey fw n)).st = 2 ∧ 0 < (s.route (routeKey fw n)).rxPending then s.sendAck (routeKey fw n) else s) :=
  whenClocked_on on _

theorem exec_retransmit (fw : Bool) (n : Fin 16384) (w : W32) :
    exec (.retransmit fw n w) s = .next (s.retransmit (routeKey fw n) w.toNat) :=
  whenClocked_on on fun x => x.retransmit (routeKey fw n) w.toNat

theorem exec_routeTimeout (fw : Bool) (n : Fin 16384) :
    exec (.routeTimeout fw n) s = .next (s.routeLimit (routeKey fw n)) :=
  whenClocked_on on fun x => x.routeLimit (routeKey fw n)

theorem exec_retryAfterExpiry (fw : Bool) (n : Fin 16384) :
    exec (.retryAfterExpiry fw n) s = .next (s.retryOver (routeKey fw n)) :=
  whenClocked_on on fun x => x.retryOver (routeKey fw n)

theorem exec_midMessageTimeout (fw : Bool) (n : Fin 16384) :
    exec (.midMessageTimeout fw n) s = .next (s.midLimit (routeKey fw n)) :=
  whenClocked_on on fun x => x.midLimit (routeKey fw n)

theorem exec_participantResetRepeat (n : Fin 8192) :
    exec (.participantResetRepeat n) s = .next (if (s.route n).resetSent then s.sendReset n else s) := whenClocked_on on _

end

theorem keyFw_tenant {n : Nat} (h : n < 16384) : keyFw n = false := decide_eq_false (by omega)

/-! ### ACK_SEND -/

/-- An ACK that is sent says what the route has received and owes none any more (R324). -/
theorem State.sendAck_sends (s : State) (key : Nat) : let u := s.sendAck key
    (u.route key).rxPending = 0 ∧ (u.route key).rxNext = (s.route key).rxNext ∧ u.mem = s.mem ∧ u.homes = s.homes ∧
      (bit (s.reg .tunFinj 0) 31 = false → u.regs = s.regs ∧
        ∀ q, s.pickPort (s.route key).ports (ackPcp (s.route key).cls) none = some q →
          ∃ f, (u.port q).txq = (s.port q).txq ++ [f] ∧ f.seg.typ = 2 ∧ f.seg.seq = (s.route key).rxNext ∧
            f.seg.payload = (s.route key).ackMap) := by
  have sent := s.sends_sendAck key
  have told : (s.sendAck key).route key = { s.route key with rxPending := 0 } :=
    (sent.route key).trans (State.route_setRoute_same ..)
  dsimp only
  rw [told]
  refine ⟨rfl, rfl, sent.mem, sent.homes, fun quiet => ?_⟩
  let x := s.setRoute key { s.route key with rxPending := 0 }
  obtain ⟨regs, placed⟩ := State.sendCtl_sends (s := x) quiet key (ackPcp (s.route key).cls)
    { s.segOf key 0x2 with seq := (s.route key).rxNext, payload := (s.route key).ackMap }
  refine ⟨regs, fun q picked => ⟨_, placed q ?_, rfl, rfl, rfl⟩⟩
  rw [State.route_setRoute_same]
  exact (State.pickPort_congr rfl rfl ..).trans picked

/-! ### RETRANSMIT -/

theorem State.retransmit_idle {s : State} {key seq : Nat}
    (h : (s.route key).held = true ∨ ((s.route key).st ≠ 1 ∧ ∀ y ∈ (s.route key).unacked, y.seg.seq ≠ seq)) :
    s.retransmit key seq = s := by
  unfold State.retransmit
  dsimp only
  split
  · rfl
  · next free =>
    obtain ⟨closed, none⟩ := h.resolve_left fun held => free (by rw [held]; rfl)
    rw [if_neg closed, List.find?_eq_none.2 fun y hy => by simpa using none y hy]
    exact ite_self s

section
variable {s : State} {key : Nat} (free : (s.route key).held = false) (sound : s.held .tunil = false)
include free sound

theorem State.retransmit_opening (opening : (s.route key).st = 1) (seq : Nat) : s.retransmit key seq = s.sendOpen key :=
  (if_neg (by simp [free, sound])).trans (if_pos opening)

theorem State.retransmit_open (opened : (s.route key).st = 2) (none : (s.route key).solo = none) {seq : Nat} {x : TxSeg}
    (found : (s.route key).unacked.find? (fun y => decide (y.seg.seq = seq)) = some x) : s.retransmit key seq = s.resend key x := by
  have goes : (s.route key).resends x = true := by
    unfold Route.resends
    rw [opened]
    rfl
  refine (if_neg (by simp [free, sound])).trans ((if_neg (by simp [opened])).trans ?_)
  rw [none, found]
  exact if_pos goes

end

/-- A segment that goes again changes the window of its route, and no memory, home or other part of the route. -/
theorem State.resend_keeps (s : State) (key : Nat) (x : TxSeg) : (s.resend key x).mem = s.mem ∧
    (s.resend key x).homes = s.homes ∧ ∃ l, (s.resend key x).route key = { s.route key with unacked := l } := by
  have sent := s.sends_placeSeg key (classPcp (s.route key).cls) { x.seg with retx := true } (some x.port)
  unfold State.resend
  dsimp only
  split
  · exact ⟨rfl, rfl, _, State.route_modRoute_same ..⟩
  · refine ⟨sent.mem, sent.homes, ?_⟩
    rw [State.route_modRoute_same, show ∀ z : State, (z.countWrap .tunRetx 0 1).route key = z.route key from fun _ => rfl, sent.route]
    exact ⟨_, rfl⟩

/-- Without route injection the segment waits at the port picked, with RETX, and is counted (R325). -/
theorem State.resend_quiet {s : State} (quiet : bit (s.reg .tunFinj 0) 31 = false) {key q : Nat} {x : TxSeg}
    (picked : s.pickPort (s.route key).ports (classPcp (s.route key).cls) (some x.port) = some q) : let u := s.resend key x
    u.reg .tunRetx 0 = wrapAdd32 (s.reg .tunRetx 0) 1 ∧ sameRegs (fun z i => z = .tunRetx ∧ i = 0) s u ∧
      (u.port q).txq = (s.port q).txq ++ [{ pcp := classPcp (s.route key).cls, fw := keyFw key, route := keyNum key
                                            seg := { x.seg with retx := true }, flip := none }] := by
  unfold State.resend
  dsimp only
  rw [State.placeSeg_quiet quiet picked]
  dsimp only
  generalize moved : s.pushFrame q { pcp := classPcp (s.route key).cls, fw := keyFw key, route := keyNum key
                                     seg := { x.seg with retx := true }, flip := none } = y
  have regs : y.regs = s.regs := by rw [← moved]; rfl
  refine ⟨?_, ?_, ?_⟩
  · exact (State.reg_setReg_same y ..).trans (by rw [State.reg_congr regs])
  · exact sameRegs.trans (.of_regs regs) (sameRegs_setReg y ⟨rfl, rfl⟩ _) fun _ _ e => e
  · rw [← State.txq_pushFrame_same, moved]
    rfl

/-! ### ROUTE_TIMEOUT -/

theorem State.limitRuns_iff {s : State} {r : Route} : s.limitRuns r = true ↔
    r.st = 2 ∧ (r.unacked ≠ [] ∨ (r.toSend ≠ [] ∧ ∀ q ∈ portsOf r.ports, s.portUsable q = false)) := by
  unfold State.limitRuns
  simp only [Bool.and_eq_true, Bool.or_eq_true, decide_eq_true_iff, Bool.not_eq_true', List.isEmpty_eq_false_iff, List.all_eq_true]

theorem State.routeLimit_held {s : State} {key : Nat} (h : (s.route key).held = true) : s.routeLimit key = s := if_pos h

theorem State.routeLimit_idle {s : State} {key : Nat} (not1 : (s.route key).st ≠ 1) (still : (s.route key).resetSent = false)
    (stands : s.limitRuns (s.route key) = false) : s.routeLimit key = s := by
  unfold State.routeLimit
  dsimp only
  split
  · rfl
  · simp only [still, stands, Bool.false_eq_true, if_false]

section
variable {s : State} {key : Nat} (free : (s.route key).held = false)
include free

/-- A route whose limit has run out is TIMEDOUT and empty (R326). -/
theorem State.routeLimit_ends (still : (s.route key).resetSent = false)
    (h : (s.route key).st = 1 ∨ s.limitRuns (s.route key) = true) : let r := (s.routeLimit key).route key
    r.st = 4 ∧ r.unacked = [] ∧ r.toSend = [] ∧ r.msgs = [] := by
  unfold State.routeLimit
  dsimp only
  rw [if_neg (by simp [free]), if_neg (by simp [still])]
  split
  · exact s.timeOut_ends key
  · next closed =>
    rw [if_pos (h.resolve_left closed)]
    exact State.timeOut_ends _ key

/-- A reset that found no answer is waited for no longer (R334). -/
theorem State.routeLimit_reset (waits : (s.route key).resetSent = true) : (s.routeLimit key).mem = s.mem ∧
    ((s.routeLimit key).route key).st = (if (s.route key).st = 1 then 1 else 0) ∧
    ((s.routeLimit key).route key).resetSent = false := by
  have same := State.route_congr (congrArg Tunil.routes (State.tunil_of_traffic (s.traffic_endHeld key fun _ => false))) key
  unfold State.routeLimit
  dsimp only
  rw [if_neg (by simp [free]), if_pos waits, State.route_modRoute_same, same]
  exact ⟨s.mem_endHeld .., rfl, rfl⟩

end

/-! ### RETRY_AFTER_EXPIRY -/

theorem State.retryOver_idle {s : State} {key : Nat} (h : (s.route key).held = false) : s.retryOver key = s :=
  if_pos (by rw [h]; rfl)

/-- The end of a retry-after lets the route go on, in the state that it has (R329, R337). -/
theorem State.retryOver_frees {s : State} {key : Nat} (held : (s.route key).held = true) : let u := s.retryOver key
    (u.route key).held = false ∧ (u.route key).st = (s.route key).st ∧ u.mem = s.mem ∧ u.homes = s.homes := by
  unfold State.retryOver
  dsimp only
  rw [if_neg (by simp [held])]
  split
  · have sent : (s.setRoute key { s.route key with held := false }).Sends
        ((s.setRoute key { s.route key with held := false }).sendOpen key) := State.sends_sendCtl ..
    rw [sent.route, State.route_setRoute_same]
    exact ⟨rfl, rfl, sent.mem, sent.homes⟩
  split
  · next x _ =>
    obtain ⟨mem, homes, l, route⟩ := (s.setRoute key { s.route key with held := false, retry := none
                                                                        solo := some x.seg.seq }).resend_keeps key x
    rw [route, State.route_setRoute_same]
    exact ⟨rfl, rfl, mem, homes⟩
  · rw [State.route_tunilRequests, State.route_setRoute_same]
    refine ⟨rfl, rfl, ?_, ?_⟩
    · rw [State.tunilRequests_frame]
      rfl
    · rw [State.tunilRequests_frame]
      rfl

/-! ### MID_MESSAGE_TIMEOUT -/

/-- A message has begun to arrive for a task that waits on the route. -/
def State.midMessage (s : State) (key : Nat) : Bool :=
  (s.route key).msgs.any (fun m => decide (m.msgNo = (s.route key).rxMsg) && !m.whole && decide (m.code = 0) && !m.got.isEmpty) &&
    (s.oldestWait (queuesOf (s.route key).tenant) fun d => decide ((dRoute d).map (·.2) = some key)).isSome

theorem State.midLimit_eq (s : State) (key : Nat) : s.midLimit key =
    if (s.route key).st = 2 ∧ keyFw key = false ∧ s.midMessage key = true then s.timeOut key else s := by
  unfold State.midLimit State.midMessage
  simp only [Bool.and_eq_true, decide_eq_true_iff, Bool.not_eq_true', and_assoc]

/-! ### The obligation -/

/-- The frames of a PARTICIPANT_RESET that is sent again (R334). -/
theorem State.sendReset_quiet {s : State} (quiet : bit (s.reg .tunFinj 0) 31 = false) {key q : Nat}
    (picked : s.pickPort (s.route key).ports (ackPcp (s.route key).cls) none = some q) : s.sendReset key =
      s.pushFrame q { pcp := ackPcp (s.route key).cls, fw := keyFw key, route := keyNum key
                      seg := { s.segOf key 4 with aux := s.ownEpoch key }, flip := none } :=
  State.sendCtl_quiet quiet picked _

/-- What the segments that end or confirm leave of their route. -/
theorem routeSegments_outcomes {p : Fin 32} {g : Seg} {s : State} (on : s.clocked = true) (taken : s.takes p g = true)
    (here : g.dstNode = s.carNode) :
    let key := segKey g
    let r := s.route key
    let known := r.st = 1 ∨ (r.st ≠ 0 ∧ r.ofRecord g = true)
    (known → r.st ≠ 2 → r.resetSent = false → exec (.ack p g) s = .next (s.takeFrame p g)) ∧
    (r.st = 2 → r.ofRecord g = true → r.resetSent = false → ∃ u, exec (.ack p g) s = .next u ∧ u.mem = s.mem ∧
      u.homes = s.homes ∧ u.regs = s.regs ∧ (u.route key).unacked = r.unacked.filter (fun x => !ackCovers g x.seg.seq) ∧
      (∀ x ∈ r.unacked, x.task ≠ (0, 0) → (∀ y ∈ r.unacked, y.task = x.task → ackCovers g y.seg.seq = true) →
        (∀ y ∈ r.toSend, y.task ≠ x.task) → s.moves = [] →
        ∀ t, u.task? x.task.1 x.task.2 = some t → t.landed = true)) ∧
    (known → r.resetSent = true → ∃ u, exec (.ack p g) s = .next u ∧ (u.route key).st = (if r.st = 1 then 1 else 0) ∧
      (u.route key).resetSent = false ∧ (u.route key).unacked = [] ∧ (u.route key).toSend = [] ∧ u.mem = s.mem) ∧
    (r.st ≠ 0 → g.epoch ≠ r.peerEpoch → g.epoch ≠ g.aux % 65536 →
      exec (.participantReset p g) s = .next ((s.takeFrame p g).countWrap .tunStale 0 1)) ∧
    (r.st ≠ 0 → g.epoch = r.peerEpoch ∨ g.epoch = g.aux % 65536 → ∃ u, exec (.participantReset p g) s = .next u ∧
      (u.route key).st = (if r.st = 4 then 4 else 3) ∧ (u.route key).toSend = [] ∧ (u.route key).unacked = [] ∧ (u.route key).msgs = [] ∧
      (keyFw key = false →
        ∀ k ∈ queuesOf r.tenant, ∀ x ∈ (u.queue k).tasks, x.landed = false → namesRoute x.desc key = false)) ∧
    (known → r.st ≠ 1 → r.st ≠ 2 → exec (.routeFail p g) s = .next (s.takeFrame p g)) ∧
    (r.st = 1 ∨ (r.st = 2 ∧ r.ofRecord g = true) → ∃ u, exec (.routeFail p g) s = .next u ∧ (u.route key).st = 4 ∧
      (u.route key).toSend = [] ∧ (u.route key).msgs = []) := by
  dsimp only
  have drained := s.drained_takeFrame p g
  have route := drained.route (segKey g)
  generalize drawn : s.takeFrame p g = x at drained route
  refine ⟨fun known not2 still => ?_, fun opened record still => ?_, fun known waits => ?_, fun opened old new => ?_,
    fun opened epoch => ?_, fun known not1 not2 => ?_, fun h => ?_⟩
  · rw [exec_ack on taken, State.control_known here known, drawn, State.ackRoute_idle (by rwa [route]) (by rwa [route])]
  · obtain ⟨mem, homes, regs, left, landed⟩ :=
      State.ackRoute_clears (s := x) (key := segKey g) (by rwa [route]) (by rwa [route]) g
    refine ⟨_, exec_ack on taken, ?_⟩
    rw [State.control_known here (.inr ⟨by omega, record⟩), drawn]
    rw [route] at left landed
    refine ⟨mem.trans drained.mem, homes.trans drained.homes, regs.trans drained.regs, left, fun y hy task covered sent none => ?_⟩
    exact landed (drained.moves.trans none) _ _ (Route.mem_ackedBy hy task covered sent)
  · obtain ⟨mem, ended⟩ := State.ackRoute_reset (s := x) (key := segKey g) (by rwa [route]) g
    refine ⟨_, exec_ack on taken, ?_⟩
    rw [State.control_known here known, drawn, ended, route]
    exact ⟨rfl, rfl, rfl, rfl, mem.trans drained.mem⟩
  · rw [exec_participantReset_here on taken here, if_neg opened, if_neg (not_or.2 ⟨old, new⟩), drawn]
  · have ended := State.peerReset_ends (s := x) (key := segKey g) (by rwa [route])
    refine ⟨_, exec_participantReset_here on taken here, ?_⟩
    rw [if_neg opened, if_pos epoch, drawn]
    rwa [route] at ended
  · rw [exec_routeFail on taken, State.control_known here known, drawn,
      State.peerFail_idle (by rwa [route]) (by rwa [route])]
  · have known : (s.route (segKey g)).st = 1 ∨ ((s.route (segKey g)).st ≠ 0 ∧ (s.route (segKey g)).ofRecord g = true) :=
      h.imp id fun ⟨opened, record⟩ => ⟨by omega, record⟩
    obtain ⟨st, -, toSend, msgs⟩ := x.timeOut_ends (segKey g)
    refine ⟨_, exec_routeFail on taken, ?_⟩
    rw [State.control_known here known, drawn, State.peerFail_ends (by rw [route]; exact h.symm.imp And.left id)]
    exact ⟨st, toSend, msgs⟩

/-- Settles O54: the segments by what reaches their route, the timers by the branch that each takes. -/
theorem routesAcknowledgeRetryAndEnd : Obligations.RoutesAcknowledgeRetryAndEnd := by
  unfold Obligations.RoutesAcknowledgeRetryAndEnd
  refine ⟨fun p g s on taken here => routeSegments_outcomes on taken here, fun fw n s on => ?timers, fun n s on => ?repeats⟩
  case timers =>
    refine ⟨fun opened owed => ?ackSend, fun h => ?ackNot, fun w x q opened free sd alone found picked quiet => ?again,
      fun w opening free sd => ?opening, fun w h => ?notAgain, fun held => ?held, ⟨fun not1 still stands => ?stands,
      fun free still h => ?ends⟩, fun free waits => ?reset, fun free => ?notHeld, fun held => ?frees, fun h => ?midNot,
      fun m k t tenant opened mem no part code got waiter => ?mid⟩
    case ackSend =>
      obtain ⟨pending, next, mem, homes, sent⟩ := s.sendAck_sends (routeKey fw n)
      refine ⟨_, exec_ackSend on fw n, ?_⟩
      rw [if_pos ⟨opened, owed⟩]
      exact ⟨pending, next, mem, homes, fun q picked quiet => ⟨(sent quiet).1, (sent quiet).2 q picked⟩⟩
    case ackNot => rw [exec_ackSend on, if_neg (by omega)]
    case again =>
      obtain ⟨counted, regs, txq⟩ := State.resend_quiet quiet picked
      have seq : x.seg.seq = w.toNat := by simpa using List.find?_some found
      refine ⟨_, exec_retransmit on fw n w, ?_⟩
      rw [State.retransmit_open free sd opened alone found]
      exact ⟨counted, (s.resend_keeps _ x).1, regs, _, txq, seq, rfl, rfl, rfl⟩
    case opening => rw [exec_retransmit on, State.retransmit_opening free sd opening]
    case notAgain => rw [exec_retransmit on, State.retransmit_idle h]
    case held => rw [exec_routeTimeout on, State.routeLimit_held held]
    case stands =>
      rw [exec_routeTimeout on, State.routeLimit_idle not1 still (Bool.eq_false_iff.2 fun h => stands (State.limitRuns_iff.1 h))]
    case ends => exact ⟨_, exec_routeTimeout on fw n, State.routeLimit_ends free still (h.imp id State.limitRuns_iff.2)⟩
    case reset =>
      obtain ⟨mem, st, ended⟩ := State.routeLimit_reset free waits
      exact ⟨_, exec_routeTimeout on fw n, st, ended, mem⟩
    case notHeld => rw [exec_retryAfterExpiry on, State.retryOver_idle free]
    case frees => exact ⟨_, exec_retryAfterExpiry on fw n, State.retryOver_frees held⟩
    case midNot =>
      rw [exec_midMessageTimeout on, State.midLimit_eq, if_neg]
      rintro ⟨opened, -, begun⟩
      obtain ⟨arrives, waits⟩ := Bool.and_eq_true_iff.1 begun
      rcases h with h | h | h
      · exact h opened
      · obtain ⟨m, mem, part⟩ := List.any_eq_true.1 arrives
        simp only [Bool.and_eq_true, decide_eq_true_iff, Bool.not_eq_true', List.isEmpty_eq_false_iff] at part
        obtain ⟨⟨⟨no, part⟩, code⟩, got⟩ := part
        rcases h m mem no with h | h | h
        · rw [part] at h
          cases h
        · exact h code
        · exact got h
      · rw [h] at waits
        cases waits
    case mid =>
      subst tenant
      have begun : s.midMessage (routeKey false n) = true := Bool.and_eq_true_iff.2
        ⟨List.any_eq_true.2 ⟨m, mem, by simp [no, part, code, got]⟩, by rw [waiter]; rfl⟩
      obtain ⟨st, -, -, msgs⟩ := s.timeOut_ends (routeKey false n)
      refine ⟨_, exec_midMessageTimeout on false n, ?_⟩
      rw [State.midLimit_eq, if_pos ⟨opened, keyFw_tenant n.isLt, begun⟩]
      exact ⟨st, msgs⟩
  case repeats =>
    refine ⟨fun still => ?not, fun q waits picked quiet => ?sends⟩
    case not => rw [exec_participantResetRepeat on, still]; rfl
    case sends =>
      rw [exec_participantResetRepeat on, if_pos waits, State.sendReset_quiet quiet picked]
      refine ⟨_, _, rfl, rfl, State.txq_pushFrame_same .., rfl, ?_⟩
      exact if_neg (by rw [keyFw_tenant (by omega : n.val < 16384)]; exact Bool.false_ne_true)

end Sys2Proof.Machine
end

section
/-! PROOF. What a segment meets on its way to its route (R316, R319, R320, R323, R337): the answers that it may get, and the
checks before its sequence number counts. -/
namespace Sys2Proof.Machine

/-! ### Answers -/

/-- A frame with a segment of a type to a node waits at a port. -/
def State.says (u : State) (p typ aux node : Nat) : Prop :=
  ∃ f ∈ (u.port p).txq, f.seg.typ = typ ∧ f.seg.aux = aux ∧ f.seg.dstNode = node

theorem State.says_congr {u v : State} (ports : v.ports = u.ports) {p typ aux node : Nat} (h : u.says p typ aux node) :
    v.says p typ aux node := by
  unfold State.says
  rwa [show v.port p = u.port p from congrArg (mget Port.init · p) ports]

theorem State.says_pushFrame (s : State) (p : Nat) (f : TxFrame) :
    (s.pushFrame p f).says p f.seg.typ f.seg.aux f.seg.dstNode := by
  unfold State.says
  rw [State.txq_pushFrame_same]
  exact ⟨f, List.mem_append_right _ (List.mem_singleton_self f), rfl, rfl, rfl⟩

theorem State.sends_answer (s : State) (p : Nat) (g : Seg) (typ aux : Nat) : s.Sends (s.answer p g typ aux) := by
  unfold State.answer State.answerAt
  dsimp only
  split
  · split
    · exact .push ..
    · exact .refl s
  · split
    · exact s.sends_routeFrame ..
    · exact .refl s

/-- Without route injection an answer waits at the port that its segment came by, addressed to the sender (R317). -/
theorem State.answer_says {s : State} {p : Nat} (quiet : bit (s.reg .tunFinj 0) 31 = false) (usable : s.portUsable p = true)
    (g : Seg) (typ aux : Nat) : (s.answer p g typ aux).says p typ aux g.srcNode := by
  unfold State.answer State.answerAt
  dsimp only
  simp only [usable, if_true, State.routeFrame_quiet quiet]
  split <;> exact State.says_pushFrame ..

/-- NOT_READY changes no route, memory, home or queue; with no fault, two counters at most (R337). -/
theorem State.notReady_keeps (s : State) (p : Nat) (g : Seg) (retry : Nat) : let u := s.notReady p g retry
    u.mem = s.mem ∧ u.homes = s.homes ∧ u.queues = s.queues ∧ u.tunil.routes = s.tunil.routes ∧
      (sound s → sameRegs (fun q i => (q = .tunNotready ∨ q = .tunFinjcnt) ∧ i = 0) s u) := by
  unfold State.notReady
  dsimp only
  split
  · exact ⟨rfl, rfl, rfl, rfl, fun _ => sameRegs_setReg s ⟨.inl rfl, rfl⟩ _⟩
  · let noted := mset 0 s.tunil.notReadyAt (65536 * segKey g + g.srcNode % 65536) (s.clock.since + 1)
    have sent := ({ s with tunil := { s.tunil with notReadyAt := noted } } : State).sends_answer p g 3 retry
    exact ⟨sent.mem, sent.homes, sent.queues, sent.routes, fun sd => (sent.regs sd).2.mono fun _ _ ⟨e, i⟩ => ⟨.inr e, i⟩⟩

/-- The first NOT_READY to a node on a route goes out. -/
theorem State.notReady_says {s : State} {p : Nat} {g : Seg}
    (first : mget 0 s.tunil.notReadyAt (65536 * segKey g + g.srcNode % 65536) = 0)
    (quiet : bit (s.reg .tunFinj 0) 31 = false) (usable : s.portUsable p = true) (retry : Nat) :
    (s.notReady p g retry).says p 3 retry g.srcNode := by
  unfold State.notReady
  dsimp only
  rw [if_neg (by simp [first])]
  refine State.answer_says ?_ ?_ g 3 retry
  · exact quiet
  · exact usable

/-! ### Acknowledgements owed -/

/-- Between s and u a route came to its new value and acknowledgements may have gone out. -/
structure State.Acks (key : Nat) (r : Route) (s u : State) : Prop where
  frame : u = { s with parity := u.parity, regs := u.regs, flash := u.flash, host := u.host, sent := u.sent
                       tunil := u.tunil, ports := u.ports }
  route : u.route key = r
  regs : sound s → sameRegs (fun q i => q = .tunFinjcnt ∧ i = 0) s u

namespace State.Acks

variable {key : Nat} {r : Route} {s t u : State}

theorem mem (h : State.Acks key r s u) : u.mem = s.mem := (congrArg State.mem h.frame :)
theorem homes (h : State.Acks key r s u) : u.homes = s.homes := (congrArg State.homes h.frame :)
theorem queues (h : State.Acks key r s u) : u.queues = s.queues := (congrArg State.queues h.frame :)

theorem of_setRoute {x : Route} (h : State.Acks key r (s.setRoute key x) u) : State.Acks key r s u where
  frame := h.frame
  route := h.route
  regs := h.regs

theorem of_sends (h : s.Sends t) (h' : State.Acks key r t u) : State.Acks key r s u where
  frame := by rw [h'.frame, h.frame]
  route := h'.route
  regs sd := (h.regs sd).2.trans (h'.regs (h.regs sd).1) fun _ _ e => e

end State.Acks

theorem State.Sends.acks {s u : State} (h : s.Sends u) (key : Nat) : State.Acks key (s.route key) s u :=
  ⟨h.frame, h.route key, fun sd => (h.regs sd).2⟩

theorem State.oweAck_acks (s : State) (key : Nat) :
    ∃ n, State.Acks key { s.route key with rxPending := n } s (s.oweAck key) := by
  unfold State.oweAck
  dsimp only
  let x := s.modRoute key fun r => { r with rxPending := (s.route key).rxPending + 1 }
  have owed : x.route key = { s.route key with rxPending := (s.route key).rxPending + 1 } := State.route_modRoute_same ..
  split
  · have sent := (x.sends_sendAck key).acks key
    rw [State.route_setRoute_same, owed] at sent
    exact ⟨0, sent.of_setRoute.of_setRoute⟩
  · exact ⟨_, rfl, owed, fun _ _ _ _ => rfl⟩

theorem State.markSeq_acks (s : State) (key seq : Nat) : ∃ next marks n,
    State.Acks key { s.route key with rxNext := next, rxMarks := marks, rxPending := n } s (s.markSeq key seq) := by
  unfold State.markSeq
  obtain ⟨n, acks⟩ := (s.modRoute key fun r => { r with rxNext := (rxAdvance 257 r.rxNext (seq :: r.rxMarks)).1
                                                        rxMarks := (rxAdvance 257 r.rxNext (seq :: r.rxMarks)).2 }).oweAck_acks key
  rw [State.route_modRoute_same] at acks
  exact ⟨_, _, n, acks.of_setRoute⟩

/-! ### The checks of a sequenced segment -/

theorem State.Drained.ready {s t : State} (h : s.Drained t) : t.tunReady = s.tunReady := congrArg (bit · 30) (h.reg .tunCtrl 0)

section
variable {s : State} {p : Nat} {g : Seg}

theorem State.sequenced_stray (other : g.dstNode ≠ s.carNode) (f : State → Nat → State) :
    s.sequenced p g f = (s.takeFrame p g).countWrap .tunStale 0 1 := by
  unfold State.sequenced
  dsimp only
  rw [State.strayNode_other (by rwa [(s.drained_takeFrame p g).carNode])]
  rfl

variable (here : g.dstNode = s.carNode)
include here

theorem State.sequenced_unready (down : s.tunReady = false) (f : State → Nat → State) :
    s.sequenced p g f = (s.takeFrame p g).notReadyYet p g := by
  have drained := s.drained_takeFrame p g
  unfold State.sequenced
  dsimp only
  rw [State.strayNode_here (here.trans drained.carNode.symm), drained.ready, down]
  rfl

variable (up : s.tunReady = true)
include up

theorem State.sequenced_reset (reset : (s.route (segKey g)).st = 3) (f : State → Nat → State) :
    s.sequenced p g f = s.takeFrame p g := by
  have drained := s.drained_takeFrame p g
  unfold State.sequenced
  dsimp only
  rw [State.strayNode_here (here.trans drained.carNode.symm), drained.ready, up, drained.route, if_pos reset]
  rfl

theorem State.sequenced_closed (not3 : (s.route (segKey g)).st ≠ 3) (not2 : (s.route (segKey g)).st ≠ 2)
    (f : State → Nat → State) : s.sequenced p g f = (s.takeFrame p g).notReady p g 100 := by
  have drained := s.drained_takeFrame p g
  unfold State.sequenced
  dsimp only
  rw [State.strayNode_here (here.trans drained.carNode.symm), drained.ready, up, drained.route, if_neg not3, if_pos not2]
  rfl

variable (opened : (s.route (segKey g)).st = 2)
include opened

theorem State.sequenced_other (other : (s.route (segKey g)).ofRecord g = false) (f : State → Nat → State) :
    s.sequenced p g f = (s.takeFrame p g).countWrap .tunStale 0 1 := by
  have drained := s.drained_takeFrame p g
  unfold State.sequenced
  dsimp only
  rw [State.strayNode_here (here.trans drained.carNode.symm), drained.ready, up, drained.route, opened, other]
  rfl

/-- A segment of an open route's record meets the window (R323). -/
theorem State.sequenced_window (record : (s.route (segKey g)).ofRecord g = true) (sd : sound s) (f : State → Nat → State) :
    let t := s.takeFrame p g
    let key := segKey g
    let r := s.route key
    let d := (g.seq + 2 ^ 32 - r.rxNext) % 2 ^ 32
    s.sequenced p g f =
      if 2 ^ 31 ≤ d ∨ r.rxMarks.contains g.seq = true then (t.countWrap .tunDupdrop 0 1).oweAck key
      else if 256 < d then t else ((f t key).wake 65 key).wakeMesh 64 := by
  have drained := s.drained_takeFrame p g
  have sd' : sound (s.takeFrame p g) := by
    unfold sound
    rwa [drained.parity]
  unfold State.sequenced
  dsimp only
  rw [State.strayNode_here (here.trans drained.carNode.symm), drained.ready, up, drained.route, opened, record]
  simp only [State.useRegs_sound sd', State.held_sound sd', State.faulty_sound sd', ite_self, Bool.or_false, Bool.and_false,
    Bool.false_eq_true, if_false, Bool.not_true]
  exact (if_neg (by decide)).trans (if_neg (not_not.2 rfl))

end

/-! ### The commands -/

section
variable {s : State} {p : Fin 32} {g : Seg} (on : s.clocked = true)
include on

/-- The segments of Table 13-3 as commands. -/
def segmentCommands (p : Fin 32) (g : Seg) : List Instr :=
  [.data p g, .ack p g, .notReady p g, .participantReset p g, .openSeg p g, .openAck p g, .commit p g, .refused p g, .busy p g,
    .routeFail p g]

theorem exec_untaken (h : s.takes p g = false) : ∀ c ∈ segmentCommands p g, exec c s = .next s := by
  have not : ¬ s.takes p g = true := by rw [h]; exact Bool.false_ne_true
  unfold segmentCommands
  simp only [List.mem_cons, List.not_mem_nil, or_false]
  rintro c (rfl | rfl | rfl | rfl | rfl | rfl | rfl | rfl | rfl | rfl) <;>
    exact (whenClocked_on on _).trans (congrArg _ (if_neg not))

variable (taken : s.takes p g = true)
include taken

theorem exec_data : exec (.data p g) s = .next (s.sequenced p g fun y k => y.dataSeg p k g) :=
  (whenClocked_on on _).trans (congrArg _ (if_pos taken))

theorem exec_commit : exec (.commit p g) s = .next (s.sequenced p g fun y k => y.commitSeg k g) :=
  (whenClocked_on on _).trans (congrArg _ (if_pos taken))

theorem exec_openSeg : exec (.openSeg p g) s = .next (s.openIn p g) :=
  (whenClocked_on on _).trans (congrArg _ (if_pos taken))

theorem exec_openAck : exec (.openAck p g) s = .next (s.openAckIn p g) :=
  (whenClocked_on on _).trans (congrArg _ (if_pos taken))

/-- DATA and COMMIT pass the same checks. -/
theorem exec_sequenced {c : Instr} (h : c = .data p g ∨ c = .commit p g) : ∃ f, exec c s = .next (s.sequenced p g f) := by
  rcases h with rfl | rfl
  · exact ⟨_, exec_data on taken⟩
  · exact ⟨_, exec_commit on taken⟩

/-- A segment for another node is stale, whatever its type (R320). -/
theorem exec_stray (other : g.dstNode ≠ s.carNode) :
    ∀ c ∈ segmentCommands p g, exec c s = .next ((s.takeFrame p g).countWrap .tunStale 0 1) := by
  have stray : (s.takeFrame p g).strayNode g = true := State.strayNode_other (by rwa [(s.drained_takeFrame p g).carNode])
  unfold segmentCommands
  simp only [List.mem_cons, List.not_mem_nil, or_false]
  rintro c (rfl | rfl | rfl | rfl | rfl | rfl | rfl | rfl | rfl | rfl)
  · rw [exec_data on taken, State.sequenced_stray other]
  · rw [exec_ack on taken, State.control_stray other]
  · rw [exec_notReady on taken, State.control_stray other]
  · rw [exec_participantReset_stray on taken other]
  · exact (exec_openSeg on taken).trans (congrArg _ (if_pos stray))
  · exact (exec_openAck on taken).trans (congrArg _ (if_pos stray))
  · rw [exec_commit on taken, State.sequenced_stray other]
  · rw [exec_refused on taken, State.control_stray other]
  · rw [exec_busy on taken, State.control_stray other]
  · rw [exec_routeFail on taken, State.control_stray other]

end

/-- A stale segment is counted and changes nothing else (R320). -/
theorem State.Drained.stale {s t : State} (h : s.Drained t) : let u := t.countWrap .tunStale 0 1
    u.reg .tunStale 0 = wrapAdd32 (s.reg .tunStale 0) 1 ∧ u.tunil = s.tunil ∧ u.mem = s.mem ∧ u.homes = s.homes ∧
      u.queues = s.queues ∧ sameRegs (fun q i => q = .tunStale ∧ i = 0) s u := by
  refine ⟨?_, h.tunil, h.mem, h.homes, h.queues, ?_⟩
  · exact (State.reg_setReg_same t ..).trans (by rw [h.reg])
  · exact sameRegs.trans (.of_regs h.regs) (sameRegs_setReg t ⟨rfl, rfl⟩ _) fun _ _ e => e

end Sys2Proof.Machine
end

section
/-! PROOF. Messages that arrive on an open tenant route (R287, R323, R327, R328, R329): segments that are written, messages that
are delivered in order, refused or answered BUSY, and the COMMIT of a MOVE. -/
namespace Sys2Proof.Machine

/-! ### Without tasks in flight -/

section
variable {s : State} (idle : ∀ k, (s.queue k).tasks = [])
include idle

theorem State.oldestWait_idle (ks : List Nat) (f : List W32 → Bool) : s.oldestWait ks f = none := by
  unfold State.oldestWait
  rw [List.flatMap_eq_nil_iff.2 fun k _ => by rw [idle k]; rfl]
  rfl

theorem State.wakeMesh_idle (n : Nat) : s.wakeMesh n = s := by
  have none : s.landedWait = none := List.findSome?_eq_none_iff.2 fun c _ => List.findSome?_eq_none_iff.2 fun m _ => by
    rw [State.oldestWait_idle idle]
    rfl
  cases n with
  | zero => rfl
  | succ n =>
    unfold State.wakeMesh
    rw [none]

end

/-- Where no task is in flight, what is delivered stays in its route. -/
theorem State.wakes_idle {s u : State} {key : Nat} (h : s.deliver 65 key = u) (idle : ∀ k, (u.queue k).tasks = []) :
    (s.wake 65 key).wakeMesh 64 = u := by
  have stays : s.wake 65 key = u := by
    unfold State.wake
    dsimp only
    rw [h, State.oldestWait_idle idle]
    split
    · next none => cases none
    · rfl
  rw [stays, State.wakeMesh_idle idle]

/-! ### Delivery -/

/-- A message that waits for segments or for its COMMIT is not delivered. -/
theorem State.deliver_waits {s : State} {key : Nat}
    (h : ∀ m ∈ (s.route key).msgs, m.commit = true ∨ (m.code = 0 ∧ m.whole = false)) (n : Nat) : s.deliver n key = s := by
  have stuck : s.deliverOne key = (s, false) := by
    unfold State.deliverOne
    dsimp only
    split
    · rfl
    · next m found =>
      have due := List.find?_some found
      rw [Bool.and_eq_true, Bool.not_eq_true'] at due
      obtain ⟨code, part⟩ := (h m (List.mem_of_find?_eq_some found)).resolve_left fun commit => by
        rw [commit] at due
        cases due.2
      simp [code, part]
  cases n with
  | zero => rfl
  | succ n =>
    unfold State.deliver
    dsimp only
    rw [stuck]
    rfl

theorem State.deliver_once {s u : State} {key : Nat} (h : s.deliverOne key = (u, true)) (left : (u.route key).msgs = []) :
    s.deliver 65 key = u := by
  unfold State.deliver
  dsimp only
  rw [h]
  exact State.deliver_waits (by rw [left]; nofun) 64

section
variable {s : State} {key : Nat} {m : RxMsg} (only : (s.route key).msgs = [m]) (next : m.msgNo = (s.route key).rxMsg)
  (plain : m.commit = false) (room : (s.route key).rxQueue.length < 64) (noKiln : (s.route key).kiln = false)
include only next plain room noKiln

/-- A refused message enters the queue with its code, unless it is a MOVE's (R287, R328). -/
theorem State.deliverOne_refused (code : m.code ≠ 0) (stands : m.code ≠ 256) : s.deliverOne key =
    (s.setRoute key { s.route key with
      rxMsg := ((s.route key).rxMsg + 1) % 2 ^ 32, msgs := []
      rxQueue := if m.move then (s.route key).rxQueue else (s.route key).rxQueue ++ [⟨m.msgNo, m.handle, 0, m.code⟩] }, true) := by
  have found : (s.route key).msgs.find? (fun m => decide (m.msgNo = (s.route key).rxMsg) && !m.commit) = some m := by
    rw [only]
    exact List.find?_cons_of_pos (by simp [next, plain])
  have gone : (s.route key).msgs.erase m = [] := by rw [only, List.erase_cons_head]
  unfold State.deliverOne
  dsimp only
  rw [found]
  dsimp only
  rw [if_neg stands, if_pos code, gone, noKiln, if_neg (by omega : ¬ 64 ≤ (s.route key).rxQueue.length), Bool.or_false]
  split <;> rfl

/-- A whole message enters the queue with its length (R327). -/
theorem State.deliverOne_whole (tenant : keyFw key = false) (code : m.code = 0) (whole : m.whole = true)
    (notMove : m.move = false) (noTail : m.tail = false) : s.deliverOne key =
    (((s.endWrite (s.route key).tenant m.handle m.gen).lateCount (s.route key) m).setRoute key { s.route key with
      rxMsg := ((s.route key).rxMsg + 1) % 2 ^ 32, msgs := []
      rxQueue := (s.route key).rxQueue ++ [⟨m.msgNo, m.handle, m.bytes / 256, 0⟩] }, true) := by
  have found : (s.route key).msgs.find? (fun m => decide (m.msgNo = (s.route key).rxMsg) && !m.commit) = some m := by
    rw [only]
    exact List.find?_cons_of_pos (by simp [next, plain])
  have gone : (s.route key).msgs.erase m = [] := by rw [only, List.erase_cons_head]
  have tail : s.zeroTail m = s := if_neg (by rw [noTail]; exact Bool.false_ne_true)
  have full : ¬ 64 ≤ (s.route key).rxQueue.length := by omega
  unfold State.deliverOne
  dsimp only
  rw [found]
  simp only [code, whole, notMove, tenant, noKiln, gone, tail, full, decide_false, Bool.and_false, Bool.not_true,
    Bool.false_eq_true, if_false, ne_eq, not_true_eq_false, OfNat.zero_ne_ofNat]

end

theorem State.lateCount_frame (s : State) (r : Route) (m : RxMsg) : let u := s.lateCount r m
    u = { s with regs := u.regs } ∧ sameRegs (fun q i => q = .tunCl0late ∧ i = 0) s u := by
  unfold State.lateCount
  dsimp only
  split
  · exact ⟨rfl, sameRegs_setReg s ⟨rfl, rfl⟩ _⟩
  · exact ⟨rfl, fun _ _ _ => rfl⟩

/-- Messages of a route whose queue is full: those that enter none may go, and late ones are counted. -/
structure State.Backlogged (key : Nat) (s u : State) : Prop where
  frame : u = { s with regs := u.regs, tunil := u.tunil }
  regs : sameRegs (fun q i => q = .tunCl0late ∧ i = 0) s u
  rxNext : (u.route key).rxNext = (s.route key).rxNext
  rxQueue : (u.route key).rxQueue = (s.route key).rxQueue
  kiln : (u.route key).kiln = (s.route key).kiln

namespace State.Backlogged

variable {key : Nat} {s t u : State}

theorem refl (key : Nat) (s : State) : State.Backlogged key s s := ⟨rfl, fun _ _ _ => rfl, rfl, rfl, rfl⟩

theorem trans (h1 : State.Backlogged key s t) (h2 : State.Backlogged key t u) : State.Backlogged key s u where
  frame := by rw [h2.frame, h1.frame]
  regs := h1.regs.trans h2.regs fun _ _ e => e
  rxNext := h2.rxNext.trans h1.rxNext
  rxQueue := h2.rxQueue.trans h1.rxQueue
  kiln := h2.kiln.trans h1.kiln

/-- A change of the messages alone, after late ones are counted. -/
theorem setRoute {r : Route} (frame : t = { s with regs := t.regs }) (regs : sameRegs (fun q i => q = .tunCl0late ∧ i = 0) s t)
    (rxNext : r.rxNext = (s.route key).rxNext) (rxQueue : r.rxQueue = (s.route key).rxQueue)
    (kiln : r.kiln = (s.route key).kiln) : State.Backlogged key s (t.setRoute key r) where
  frame := by rw [frame]; rfl
  regs := regs
  rxNext := by rw [State.route_setRoute_same, rxNext]
  rxQueue := by rw [State.route_setRoute_same, rxQueue]
  kiln := by rw [State.route_setRoute_same, kiln]

end State.Backlogged

section
variable {key : Nat} (tenant : keyFw key = false)
include tenant

theorem State.deliverOne_backlogged {s : State} (full : 64 ≤ (s.route key).rxQueue.length) (noKiln : (s.route key).kiln = false) :
    State.Backlogged key s (s.deliverOne key).1 := by
  unfold State.deliverOne
  dsimp only
  split
  · exact .refl key s
  · next m _ =>
    obtain ⟨late, counted⟩ := s.lateCount_frame (s.route key) m
    simp only [noKiln, tenant, full, decide_true, Bool.not_false, Bool.and_true, Bool.or_false, Bool.false_eq_true, if_true, if_false]
    split
    · exact .setRoute rfl (fun _ _ _ => rfl) rfl rfl noKiln.symm
    split
    · split
      · exact .setRoute rfl (fun _ _ _ => rfl) rfl rfl noKiln.symm
      · exact .refl key s
    split
    · exact .refl key s
    split
    · exact .setRoute late counted rfl rfl noKiln.symm
    · exact .refl key s

theorem State.deliver_backlogged (n : Nat) : ∀ {s : State}, 64 ≤ (s.route key).rxQueue.length → (s.route key).kiln = false →
    State.Backlogged key s (s.deliver n key) := by
  induction n with
  | zero => exact fun _ _ => .refl key _
  | succ n ih =>
    intro s full noKiln
    have one := State.deliverOne_backlogged tenant full noKiln
    unfold State.deliver
    dsimp only
    split
    · exact one.trans (ih (by rwa [one.rxQueue]) (by rwa [one.kiln]))
    · exact one

end

/-! ### Segments of messages -/

/-- The record of a message that has taken a segment (R323). -/
def RxMsg.taking (m : RxMsg) (g : Seg) : RxMsg :=
  { m with got := if m.got.contains g.segIdx then m.got else g.segIdx :: m.got
           lastLen := if g.segIdx + 1 = m.segCnt then g.payload.length else m.lastLen }

theorem RxMsg.taking_got (m : RxMsg) (g : Seg) : (m.taking g).got.contains g.segIdx = true ∧
    (m.taking g).got.length ≤ m.got.length + 1 := by
  unfold RxMsg.taking
  dsimp only
  split
  · next had => exact ⟨had, Nat.le_succ _⟩
  · exact ⟨by simp, le_rfl⟩

section
variable {s : State} {key : Nat} {m : RxMsg} {g : Seg}

theorem State.route_putMsg (s : State) (key : Nat) (m : RxMsg) : (s.putMsg key m).route key =
    { s.route key with msgs := ((s.route key).msgs.filter fun x => !decide (x.msgNo = m.msgNo)) ++ [m] } :=
  State.route_modRoute_same ..

theorem State.writeSeg_refused (code : m.code ≠ 0) : s.writeSeg key m g = s.putMsg key (m.taking g) := by
  refine (if_pos code).trans ?_
  simp only [decide_eq_true_iff]
  rfl

/-- The bytes of a segment are written at its offset (R323). -/
theorem State.writeSeg_fits (tenant : keyFw key = false) (code : m.code = 0)
    (fits : 256 * g.offset + g.payload.length ≤ m.extent) (units : g.payload.length % 256 = 0) :
    s.writeSeg key m g = (s.putUnits (m.addr + 256 * g.offset) g.payload).putMsg key (m.taking g) := by
  have stands : ¬ (m.extent < 256 * g.offset + g.payload.length ∨ g.payload.length % 256 ≠ 0) := by omega
  have theirs : ¬ keyFw key = true := by rw [tenant]; exact Bool.false_ne_true
  refine (if_neg (not_not.2 code)).trans ((if_neg theirs).trans ((if_neg stands).trans ?_))
  simp only [decide_eq_true_iff]
  rfl

section
variable (fresh : (s.route key).cls ≠ 0 ∨ s.stepFloor (s.route key).tenant ≤ g.step)
include fresh

theorem State.floor_le :
    ¬ g.step < if (s.route key).cls = 0 ∧ (!keyFw key) = true then s.stepFloor (s.route key).tenant else 0 := by
  split <;> omega

theorem State.dataSeg_known (only : (s.route key).msgs = [m]) (same : m.msgNo = g.msgNo) (p : Nat) :
    s.dataSeg p key g = (s.writeSeg key m g).markSeq key g.seq := by
  have found : (s.route key).msgs.find? (fun m => decide (m.msgNo = g.msgNo)) = some m := by
    rw [only]
    exact List.find?_cons_of_pos (decide_eq_true same)
  unfold State.dataSeg
  dsimp only
  rw [found]
  exact if_neg (State.floor_le fresh)

/-- DATA of a message that the route does not hold and that has not passed (R327, R329). -/
theorem State.dataSeg_new (tenant : keyFw key = false) (new : ∀ m ∈ (s.route key).msgs, m.msgNo ≠ g.msgNo)
    (near : (g.msgNo + 2 ^ 32 - (s.route key).rxMsg) % 2 ^ 32 < 2 ^ 31) (p : Nat) : s.dataSeg p key g =
      if 64 ≤ (s.route key).rxQueue.length then (s.answer p g 9 10).countWrap .tunBusy 0 1
      else
        let f := s.firstSeg key g
        let x := f.1.writeSeg key f.2 g
        (if f.2.code ≠ 0 then x.refuse key f.2 else x).markSeq key g.seq := by
  have none : (s.route key).msgs.find? (fun m => decide (m.msgNo = g.msgNo)) = none :=
    List.find?_eq_none.2 fun m mem => by simpa using new m mem
  unfold State.dataSeg
  dsimp only
  rw [none]
  dsimp only
  rw [if_neg (State.floor_le fresh), decide_eq_false (Nat.not_le.2 near), tenant]
  simp only [Bool.not_false, and_true, Bool.false_eq_true, if_false]

end

/-! ### The first segment of a message -/

theorem HEntry.writeCode_lt (e : HEntry) (b : Bool) : e.writeCode b < 256 := by
  unfold HEntry.writeCode
  split_ifs <;> decide

theorem State.firstCode_ne (s : State) (t : Nat) (g : Seg) : s.firstCode t g ≠ 256 := by
  have code := (s.home t g.handle).writeCode_lt false
  unfold State.firstCode State.landCode
  dsimp only
  split_ifs <;> omega

end

end Sys2Proof.Machine
end

section
/-! PROOF. What DATA and COMMIT leave on an open tenant route, while no task is in flight (R287, R323, R327 to R329). -/
namespace Sys2Proof.Machine

section
variable {s : State} {key p : Nat} {g : Seg}

theorem State.idle_congr {u : State} (idle : ∀ k, (s.queue k).tasks = []) (h : u.queues = s.queues) : ∀ k, (u.queue k).tasks = [] := fun k =>
  (congrArg Queue.tasks (State.queue_congr h k)).trans (idle k)

/-! ### A message in progress -/

section
variable {m : RxMsg} (only : (s.route key).msgs = [m])
include only

theorem State.route_putMsg_only {m' : RxMsg} (same : m'.msgNo = m.msgNo) :
    (s.putMsg key m').route key = { s.route key with msgs := [m'] } := by
  rw [State.route_putMsg, only]
  simp [same]

/-- A segment that is not a message's last is written, noted and acknowledged, and nothing else happens (R323, R328). -/
theorem State.data_partial (sd : sound s) (idle : ∀ k, (s.queue k).tasks = []) (tenant : keyFw key = false)
    (fresh : (s.route key).cls ≠ 0 ∨ s.stepFloor (s.route key).tenant ≤ g.step) (same : m.msgNo = g.msgNo) (code : m.code = 0) (part : m.got.length + 1 < m.segCnt)
    (fits : 256 * g.offset + g.payload.length ≤ m.extent) (units : g.payload.length % 256 = 0) :
    let u := ((s.dataSeg p key g).wake 65 key).wakeMesh 64
    u.mem = (s.putUnits (m.addr + 256 * g.offset) g.payload).mem ∧ u.homes = s.homes ∧ u.queues = s.queues ∧
      (u.route key).msgs = [m.taking g] ∧ sameRegs (fun q i => q = .tunFinjcnt ∧ i = 0) s u := by
  have put := s.putUnits_frame (m.addr + 256 * g.offset) g.payload
  dsimp only
  rw [State.dataSeg_known fresh only same, State.writeSeg_fits tenant code fits units]
  generalize s.putUnits (m.addr + 256 * g.offset) g.payload = x at put
  have same : x.route key = s.route key := State.route_congr (congrArg (Tunil.routes ∘ State.tunil) put) key
  obtain ⟨next, marks, n, acks⟩ := (x.putMsg key (m.taking g)).markSeq_acks key g.seq
  rw [State.route_putMsg_only (m := m) (m' := m.taking g) (by rw [same, only]) rfl] at acks
  generalize (x.putMsg key (m.taking g)).markSeq key g.seq = y at acks
  have queues : y.queues = s.queues := acks.queues.trans (congrArg State.queues put :)
  have short : (m.taking g).whole = false := decide_eq_false (by
    have := (m.taking_got g).2
    change ¬ m.segCnt ≤ _
    omega)
  have waits : y.deliver 65 key = y := State.deliver_waits (by
    rw [acks.route]
    exact List.forall_mem_singleton.2 (.inr ⟨code, short⟩)) 65
  rw [State.wakes_idle waits (State.idle_congr idle queues), acks.route]
  refine ⟨acks.mem, acks.homes.trans (congrArg State.homes put :), queues, rfl, ?_⟩
  have sound' : sound x := by rwa [put]
  exact sameRegs.trans (.of_regs (congrArg State.regs put :)) (acks.regs sound') fun _ _ e => e

end

/-! ### COMMIT -/

/-- The entry that a MOVE has filled becomes VALID (R287). -/
def State.commitMove (s : State) (t : Nat) (m : RxMsg) : State :=
  s.genUpdate t m.handle m.gen fun x =>
    if (x.home t m.handle).st = stMoving then x.setSt t m.handle stValid else x

theorem State.commitMove_frame (s : State) (t : Nat) (m : RxMsg) :
    s.commitMove t m = { s with homes := (s.commitMove t m).homes, regs := (s.commitMove t m).regs } := by
  unfold State.commitMove State.genUpdate
  dsimp only
  split
  · split <;> rfl
  · rfl

theorem State.commitMove_valid {t : Nat} {m : RxMsg} (gen : (s.home t m.handle).gen = m.gen)
    (moving : (s.home t m.handle).st = stMoving) :
    (s.commitMove t m).home t m.handle = (s.home t m.handle).withSt stValid := by
  have done : s.commitMove t m = s.setSt t m.handle stValid := (if_pos gen).trans (if_pos moving)
  rw [done]
  exact State.home_setHome_same ..

/-- A COMMIT makes the entry of its message VALID and takes the message from the route (R287). -/
theorem State.commit_moves {m : RxMsg} (only : (s.route key).msgs = [m]) (commit : m.commit = true)
    (handle : m.handle = g.handle) (idle : ∀ k, (s.queue k).tasks = [])
    (fresh : (s.route key).cls ≠ 0 ∨ s.stepFloor (s.route key).tenant ≤ g.step) :
    let u := ((s.commitSeg key g).wake 65 key).wakeMesh 64
    u.mem = s.mem ∧ u.homes = (s.commitMove (s.route key).tenant m).homes ∧ (u.route key).msgs = [] := by
  have found : (s.route key).msgs.find? (fun m => m.commit && decide (m.handle = g.handle)) = some m := by
    rw [only]
    exact List.find?_cons_of_pos (by simp [commit, handle])
  have above : ((decide ((s.route key).cls = 0) && !keyFw key) && decide (g.step < s.stepFloor (s.route key).tenant)) = false := by
    simp only [Bool.and_eq_false_iff, decide_eq_false_iff_not]
    omega
  have step : s.commitSeg key g =
      ((s.commitMove (s.route key).tenant m).setRoute key { s.route key with msgs := [] }).markSeq key g.seq := by
    unfold State.commitSeg
    dsimp only
    rw [above, found, only]
    dsimp only
    rw [List.erase_cons_head]
    rfl
  dsimp only
  rw [step]
  have moved := s.commitMove_frame (s.route key).tenant m
  generalize s.commitMove (s.route key).tenant m = x at moved
  obtain ⟨next, marks, n, acks⟩ := (x.setRoute key { s.route key with msgs := [] }).markSeq_acks key g.seq
  rw [State.route_setRoute_same] at acks
  generalize (x.setRoute key { s.route key with msgs := [] }).markSeq key g.seq = y at acks
  have queues : y.queues = s.queues := acks.queues.trans (congrArg State.queues moved :)
  have waits : y.deliver 65 key = y := State.deliver_waits (by rw [acks.route]; nofun) 65
  rw [State.wakes_idle waits (State.idle_congr idle queues), acks.route]
  exact ⟨acks.mem.trans (congrArg State.mem moved :), acks.homes, rfl⟩

/-! ### A new message -/

section
variable (idle : ∀ k, (s.queue k).tasks = []) (tenant : keyFw key = false)
  (fresh : (s.route key).cls ≠ 0 ∨ s.stepFloor (s.route key).tenant ≤ g.step) (noKiln : (s.route key).kiln = false)

include tenant in
theorem State.firstSeg_code : (s.firstSeg key g).2.code = s.firstCode (s.route key).tenant g :=
  if_neg (by rw [tenant]; exact Bool.false_ne_true)

include idle tenant fresh noKiln

/-- A full receive queue answers BUSY (R329). -/
theorem State.data_busy (sd : sound s) (new : ∀ m ∈ (s.route key).msgs, m.msgNo ≠ g.msgNo)
    (near : (g.msgNo + 2 ^ 32 - (s.route key).rxMsg) % 2 ^ 32 < 2 ^ 31) (full : 64 ≤ (s.route key).rxQueue.length) :
    let u := ((s.dataSeg p key g).wake 65 key).wakeMesh 64
    u.reg .tunBusy 0 = wrapAdd32 (s.reg .tunBusy 0) 1 ∧ u.mem = s.mem ∧ u.homes = s.homes ∧
      (u.route key).rxNext = (s.route key).rxNext ∧ (u.route key).rxQueue = (s.route key).rxQueue ∧
      (bit (s.reg .tunFinj 0) 31 = false → s.portUsable p = true → u.says p 9 10 g.srcNode) := by
  have sent := s.sends_answer p g 9 10
  have said := fun quiet usable => State.answer_says (s := s) (p := p) quiet usable g 9 10
  have counted := (sent.regs sd).2 .tunBusy 0 nofun
  dsimp only
  rw [State.dataSeg_new fresh tenant new near, if_pos full]
  generalize s.answer p g 9 10 = x at sent said counted
  have same : (x.countWrap .tunBusy 0 1).route key = s.route key := sent.route key
  have done := State.deliver_backlogged tenant 65 (s := x.countWrap .tunBusy 0 1) (by rwa [same]) (by rwa [same])
  have queues : ((x.countWrap .tunBusy 0 1).deliver 65 key).queues = s.queues := (congrArg State.queues done.frame :).trans sent.queues
  rw [State.wakes_idle rfl (State.idle_congr idle queues)]
  generalize (x.countWrap .tunBusy 0 1).deliver 65 key = u at done
  refine ⟨?_, (congrArg State.mem done.frame :).trans sent.mem, (congrArg State.homes done.frame :).trans sent.homes,
    by rw [done.rxNext, same], by rw [done.rxQueue, same], fun quiet usable => ?_⟩
  · rw [done.regs .tunBusy 0 nofun, State.countWrap_eq, State.reg_setReg_same, counted]
  · exact State.says_congr (congrArg State.ports done.frame :) (said quiet usable)

section
variable (room : (s.route key).rxQueue.length < 64) (empty : (s.route key).msgs = []) (next : g.msgNo = (s.route key).rxMsg)

include room empty next

omit idle noKiln in
/-- The next message in order opens a record. -/
theorem State.dataSeg_first : s.dataSeg p key g =
    let f := s.firstSeg key g
    let x := f.1.writeSeg key f.2 g
    (if f.2.code ≠ 0 then x.refuse key f.2 else x).markSeq key g.seq := by
  have near : (g.msgNo + 2 ^ 32 - (s.route key).rxMsg) % 2 ^ 32 < 2 ^ 31 := by
    rw [next, Nat.add_sub_cancel_left]
    decide
  rw [State.dataSeg_new fresh tenant (by rw [empty]; nofun) near, if_neg (by omega)]

/-- The next message in order, when it cannot be taken: it is delivered with its code (R328). -/
theorem State.data_refused (code : s.firstCode (s.route key).tenant g ≠ 0) :
    let u := ((s.dataSeg p key g).wake 65 key).wakeMesh 64
    u.mem = s.mem ∧ u.homes = s.homes ∧ (u.route key).rxMsg = ((s.route key).rxMsg + 1) % 2 ^ 32 ∧ (u.route key).msgs = [] ∧
      (u.route key).rxQueue = if g.move then (s.route key).rxQueue
        else (s.route key).rxQueue ++ [⟨g.msgNo, g.handle, 0, s.firstCode (s.route key).tenant g⟩] := by
  have known : (s.firstSeg key g).2.code = _ := State.firstSeg_code tenant
  have refused : (s.firstSeg key g).2.code ≠ 0 := by rwa [known]
  have still : (s.firstSeg key g).1 = s := if_pos (by rw [tenant]; simpa using code)
  have number : (s.firstSeg key g).2.msgNo = g.msgNo := rfl
  have handle : (s.firstSeg key g).2.handle = g.handle := rfl
  have move : (s.firstSeg key g).2.move = g.move := rfl
  have plain : (s.firstSeg key g).2.commit = false := rfl
  have stands := s.firstCode_ne (s.route key).tenant g
  dsimp only
  rw [State.dataSeg_first tenant fresh room empty next]
  dsimp only
  rw [still, if_pos refused, State.writeSeg_refused refused]
  generalize (s.firstSeg key g).2 = m at known refused number handle move plain
  have put : (s.putMsg key (m.taking g)).route key = { s.route key with msgs := [m.taking g] } := by
    rw [State.route_putMsg, empty]
    rfl
  have sent : (s.putMsg key (m.taking g)).Sends ((s.putMsg key (m.taking g)).refuse key m) := State.sends_sendCtl ..
  obtain ⟨n1, marks, n, acks⟩ := ((s.putMsg key (m.taking g)).refuse key m).markSeq_acks key g.seq
  rw [sent.route, put] at acks
  have acks := acks.of_sends sent
  generalize ((s.putMsg key (m.taking g)).refuse key m).markSeq key g.seq = y at acks
  have one := State.deliverOne_refused (s := y) (key := key) (m := m.taking g) (by rw [acks.route])
    (by rw [acks.route]; exact number.trans next) plain (by rwa [acks.route]) (by rwa [acks.route]) refused
    (by rw [← known] at stands; exact stands)
  rw [State.wakes_idle (State.deliver_once one (by rw [State.route_setRoute_same])) (State.idle_congr idle acks.queues), State.route_setRoute_same, acks.route]
  refine ⟨acks.mem, acks.homes, rfl, rfl, ?_⟩
  rw [← known, ← number, ← handle, ← move]
  rfl

end

end

/-! ### A message of one segment -/

theorem State.landCode_fits {t h off len : Nat} (code : s.landCode t h off len = 0) :
    off + len ≤ (s.home t h).bytes ∧ len % 256 = 0 := by
  unfold State.landCode at code
  dsimp only at code
  split_ifs at code <;> omega

theorem State.beginFilled_valid {t h : Nat} (valid : (s.home t h).st = stValid) (still : s.fills = []) (cls : Nat) (covers : Bool) :
    s.beginFilled t h cls covers = s := by
  have written : s.beginWrite t h cls covers = s := if_neg (by rw [valid]; decide)
  unfold State.beginFilled State.fillNow State.filling
  rw [written, still]
  rfl

theorem State.endWrite_valid {t h gen : Nat} (same : (s.home t h).gen = gen) (valid : (s.home t h).st = stValid) :
    s.endWrite t h gen = s :=
  (if_pos same).trans (if_neg (by rw [valid]; decide))

/-- The record of a whole message of one segment into a VALID tensor. -/
theorem State.firstSeg_valid {a : Nat} (tenant : keyFw key = false) (code : s.firstCode (s.route key).tenant g = 0)
    (notMove : g.move = false) (still : s.fills = []) (valid : (s.home (s.route key).tenant g.handle).st = stValid)
    (address : s.homeAddr (s.home (s.route key).tenant g.handle) = some a) : let f := s.firstSeg key g
    f.1 = s ∧ f.2.addr = a ∧ f.2.tail = false := by
  refine ⟨?_, congrArg (Option.getD · 0) address, ?_⟩
  · refine (if_neg (by rw [code, tenant]; decide)).trans ((if_neg (by rw [notMove]; exact Bool.false_ne_true)).trans ?_)
    exact State.beginFilled_valid valid still ..
  · unfold State.firstSeg
    dsimp only
    rw [valid]
    simp [stValid, stUnwritten]

/-- The next message in order, of one segment for a VALID tensor: written whole and delivered (R327, R328). -/
theorem State.data_whole {a : Nat} (idle : ∀ k, (s.queue k).tasks = []) (tenant : keyFw key = false)
    (fresh : (s.route key).cls ≠ 0 ∨ s.stepFloor (s.route key).tenant ≤ g.step) (noKiln : (s.route key).kiln = false)
    (room : (s.route key).rxQueue.length < 64) (empty : (s.route key).msgs = []) (next : g.msgNo = (s.route key).rxMsg)
    (code : s.firstCode (s.route key).tenant g = 0) (notMove : g.move = false) (first : g.segIdx = 0) (one : g.segCnt = 1)
    (still : s.fills = []) (valid : (s.home (s.route key).tenant g.handle).st = stValid)
    (address : s.homeAddr (s.home (s.route key).tenant g.handle) = some a) :
    let u := ((s.dataSeg p key g).wake 65 key).wakeMesh 64
    u.mem = (s.putUnits (a + 256 * g.offset) g.payload).mem ∧ u.homes = s.homes ∧
      (u.route key).rxMsg = ((s.route key).rxMsg + 1) % 2 ^ 32 ∧
      (u.route key).rxQueue = (s.route key).rxQueue ++ [⟨g.msgNo, g.handle, g.payload.length / 256, 0⟩] := by
  obtain ⟨stays, addr, noTail⟩ := State.firstSeg_valid tenant code notMove still valid address
  obtain ⟨fits, units⟩ := State.landCode_fits ((if_neg (by rw [notMove]; exact Bool.false_ne_true)).symm.trans code)
  have known : (s.firstSeg key g).2.code = 0 := (State.firstSeg_code tenant).trans code
  have number : (s.firstSeg key g).2.msgNo = g.msgNo := rfl
  have handle : (s.firstSeg key g).2.handle = g.handle := rfl
  have gen : (s.home (s.route key).tenant g.handle).gen = (s.firstSeg key g).2.gen := rfl
  have move : (s.firstSeg key g).2.move = false := notMove
  have plain : (s.firstSeg key g).2.commit = false := rfl
  have count : (s.firstSeg key g).2.segCnt = 1 := one
  have none : (s.firstSeg key g).2.got = [] := rfl
  have extent : (s.firstSeg key g).2.extent = (s.home (s.route key).tenant g.handle).bytes := rfl
  dsimp only
  rw [State.dataSeg_first tenant fresh room empty next]
  dsimp only
  rw [stays, if_neg (not_not.2 known), State.writeSeg_fits tenant known (by rwa [extent]) units]
  generalize (s.firstSeg key g).2 = m at addr noTail known number handle gen move plain count none
  have taken : (m.taking g).whole = true ∧ (m.taking g).bytes = g.payload.length := by
    constructor
    · unfold RxMsg.taking RxMsg.whole
      simp [none, count]
    · unfold RxMsg.taking RxMsg.bytes
      simp [count, first]
  have put := s.putUnits_frame (m.addr + 256 * g.offset) g.payload
  rw [addr] at put ⊢
  generalize s.putUnits (a + 256 * g.offset) g.payload = x at put
  have same : x.route key = s.route key := State.route_congr (congrArg (Tunil.routes ∘ State.tunil) put) key
  have record : (x.putMsg key (m.taking g)).route key = { s.route key with msgs := [m.taking g] } := by
    rw [State.route_putMsg, same, empty]
    rfl
  obtain ⟨n1, marks, n, acks⟩ := (x.putMsg key (m.taking g)).markSeq_acks key g.seq
  rw [record] at acks
  generalize (x.putMsg key (m.taking g)).markSeq key g.seq = y at acks
  have homes : y.homes = s.homes := acks.homes.trans (congrArg State.homes put :)
  have home (t h : Nat) : y.home t h = s.home t h := congrArg (mget HEntry.free · (hkey t h)) homes
  have done := State.deliverOne_whole (s := y) (key := key) (m := m.taking g) (by rw [acks.route])
    (by rw [acks.route]; exact number.trans next) plain (by rwa [acks.route]) (by rwa [acks.route]) tenant known taken.1 move noTail
  have ended : y.endWrite (y.route key).tenant (m.taking g).handle (m.taking g).gen = y := by
    have place : (m.taking g).handle = g.handle := handle
    rw [acks.route, place]
    exact State.endWrite_valid (by rw [home]; exact gen) (by rw [home]; exact valid)
  rw [ended] at done
  have late := (y.lateCount_frame (y.route key) (m.taking g)).1
  generalize y.lateCount (y.route key) (m.taking g) = z at done late
  have queues : z.queues = s.queues := (congrArg State.queues late :).trans (acks.queues.trans (congrArg State.queues put :))
  rw [State.wakes_idle (State.deliver_once done (by rw [State.route_setRoute_same])) (State.idle_congr idle queues),
    State.route_setRoute_same, acks.route]
  refine ⟨(congrArg State.mem late :).trans acks.mem, (congrArg State.homes late :).trans homes, rfl, ?_⟩
  rw [taken.2, ← number, ← handle]
  rfl

end

end Sys2Proof.Machine
end

section
/-! PROOF. Routes that open, and the statement about segments that arrive (R316, R319, R320, R323, R327 to R329, R333, R336,
R337). -/
namespace Sys2Proof.Machine

/-! ### OPEN and OPEN_ACK -/

theorem Route.mates_iff {r : Route} {g : Seg} :
    r.mates g = true ↔ r.cls = g.cls ∧ r.peerRoute = g.aux % 65536 ∧ r.peerNode = g.srcNode := by
  unfold Route.mates
  simp only [Bool.and_eq_true, decide_eq_true_iff, and_assoc]

section
variable {s : State} {p : Nat} {g : Seg} (here : g.dstNode = s.carNode)
include here

theorem State.openIn_unready (down : s.tunReady = false) : s.openIn p g = (s.takeFrame p g).notReadyYet p g := by
  have drained := s.drained_takeFrame p g
  unfold State.openIn
  dsimp only
  rw [State.strayNode_here (here.trans drained.carNode.symm), drained.ready, down]
  rfl

theorem State.openIn_reset (up : s.tunReady = true) (reset : (s.route (segKey g)).st = 3) :
    s.openIn p g = s.takeFrame p g := by
  have drained := s.drained_takeFrame p g
  unfold State.openIn
  dsimp only
  rw [State.strayNode_here (here.trans drained.carNode.symm), drained.ready, up, drained.route, if_pos reset]
  rfl

/-- An OPEN that fits no opening or open entry is answered NOT_READY (R319). -/
theorem State.openIn_refused (up : s.tunReady = true) (not3 : (s.route (segKey g)).st ≠ 3)
    (h : (s.route (segKey g)).mates g = false ∨ ((s.route (segKey g)).st ≠ 1 ∧ (s.route (segKey g)).st ≠ 2)) :
    s.openIn p g = (s.takeFrame p g).notReady p g 100 := by
  have drained := s.drained_takeFrame p g
  have refused : (!(s.route (segKey g)).mates g ||
      !(decide ((s.route (segKey g)).st = 1) || decide ((s.route (segKey g)).st = 2))) = true := by
    rcases h with h | ⟨not1, not2⟩
    · rw [h]
      rfl
    · simp [not1, not2]
  unfold State.openIn
  dsimp only
  rw [State.strayNode_here (here.trans drained.carNode.symm), drained.ready, up, drained.route, if_neg not3, if_pos refused]
  rfl

section
variable (up : s.tunReady = true) (mates : (s.route (segKey g)).mates g = true)
include up mates

theorem State.openIn_opens (opening : (s.route (segKey g)).st = 1) : let t := s.takeFrame p g
    s.openIn p g = (((t.setRoute (segKey g) ((s.route (segKey g)).opened g.epoch)).answer p g 6
      (t.ownEpoch (segKey g))).routeNoted (segKey g)).tunilRequests := by
  have drained := s.drained_takeFrame p g
  unfold State.openIn
  dsimp only
  rw [State.strayNode_here (here.trans drained.carNode.symm), drained.ready, up, drained.route, mates, opening]
  rfl

theorem State.openIn_again (opened : (s.route (segKey g)).st = 2) (epoch : (s.route (segKey g)).peerEpoch = g.epoch) :
    let t := s.takeFrame p g
    s.openIn p g = t.answer p g 6 (t.ownEpoch (segKey g)) := by
  have drained := s.drained_takeFrame p g
  unfold State.openIn
  dsimp only
  rw [State.strayNode_here (here.trans drained.carNode.symm), drained.ready, up, drained.route, mates, opened, if_pos epoch]
  rfl

end

theorem State.openAckIn_opens (opening : (s.route (segKey g)).st = 1) (peer : (s.route (segKey g)).peerNode = g.srcNode) :
    s.openAckIn p g = (((s.takeFrame p g).setRoute (segKey g)
      ((s.route (segKey g)).opened (g.aux % 65536))).routeNoted (segKey g)).tunilRequests := by
  have drained := s.drained_takeFrame p g
  unfold State.openAckIn
  dsimp only
  rw [State.strayNode_here (here.trans drained.carNode.symm), drained.route, if_pos (And.intro opening peer)]
  rfl

theorem State.openAckIn_idle (h : (s.route (segKey g)).st ≠ 1 ∨ (s.route (segKey g)).peerNode ≠ g.srcNode) :
    s.openAckIn p g = s.takeFrame p g := by
  have drained := s.drained_takeFrame p g
  have stays : ¬ ((s.route (segKey g)).st = 1 ∧ (s.route (segKey g)).peerNode = g.srcNode) := by tauto
  unfold State.openAckIn
  dsimp only
  rw [State.strayNode_here (here.trans drained.carNode.symm), drained.route, if_neg stays]
  rfl

end

/-- What an opened route's service and requests leave: the route is OPEN from sequence 0 (R319). -/
theorem State.opened_settles {x : State} {key epoch : Nat} {r : Route} (h : x.route key = r.opened epoch) :
    let u := (x.routeNoted key).tunilRequests
    (u.route key).st = 2 ∧ (u.route key).peerEpoch = epoch ∧ (u.route key).txSeq = 0 ∧ (u.route key).rxNext = 0 ∧
      (u.route key).unacked = [] ∧ (u.route key).rxMarks = [] ∧ u.mem = x.mem ∧ u.ports = x.ports ∧
      (r.mailbox = none → u.regs = x.regs) := by
  obtain ⟨noted, frame⟩ := x.routeNoted_notes key
  obtain ⟨b, route⟩ := noted key
  have still : r.mailbox = none → x.routeNoted key = x := fun none => State.routeNoted_none (by rw [h]; exact none)
  dsimp only
  generalize x.routeNoted key = y at frame route still
  have asked := y.tunilRequests_frame
  rw [State.route_tunilRequests, route, h]
  generalize y.tunilRequests = u at asked
  refine ⟨rfl, rfl, rfl, rfl, rfl, rfl, ?_, ?_, fun none => ?_⟩
  · rw [asked, frame]
  · rw [asked, frame]
  · rw [asked, still none]

theorem State.answer_regs {s : State} (quiet : bit (s.reg .tunFinj 0) 31 = false) (p : Nat) (g : Seg) (typ aux : Nat) :
    (s.answer p g typ aux).regs = s.regs := by
  unfold State.answer State.answerAt
  simp only [State.routeFrame_quiet quiet]
  split_ifs <;> rfl

/-- An opened route answers OPEN_ACK first (R319). -/
theorem State.opened_answers {x : State} {key epoch : Nat} {r : Route} (h : x.route key = r.opened epoch) (p : Nat) (g : Seg)
    (aux : Nat) : let u := ((x.answer p g 6 aux).routeNoted key).tunilRequests
    (u.route key).st = 2 ∧ (u.route key).peerEpoch = epoch ∧ (u.route key).txSeq = 0 ∧ (u.route key).rxNext = 0 ∧
      (u.route key).unacked = [] ∧ (u.route key).rxMarks = [] ∧ u.mem = x.mem ∧
      (bit (x.reg .tunFinj 0) 31 = false → x.portUsable p = true → u.says p 6 aux g.srcNode) ∧
      (r.mailbox = none → bit (x.reg .tunFinj 0) 31 = false → u.regs = x.regs) := by
  have sent := x.sends_answer p g 6 aux
  obtain ⟨st, epoch, txSeq, rxNext, unacked, rxMarks, mem, ports, same⟩ := State.opened_settles ((sent.route key).trans h)
  exact ⟨st, epoch, txSeq, rxNext, unacked, rxMarks, mem.trans sent.mem,
    fun quiet usable => State.says_congr ports (State.answer_says quiet usable g 6 aux),
    fun none quiet => (same none).trans (State.answer_regs quiet p g 6 aux)⟩

/-! ### Segments that hold a route or end a message's task -/

section
variable {s : State} {key : Nat}

theorem State.notReadyIn_holds (h : (s.route key).st = 1 ∨ (s.route key).st = 2) :
    s.notReadyIn key = s.setRoute key { s.route key with held := true, solo := none, retry := none } :=
  congrArg (s.setRoute key) (if_pos h)

theorem State.busyIn_holds (opened : (s.route key).st = 2) (g : Seg) :
    s.busyIn key g = s.setRoute key { s.route key with held := true, solo := none, retry := some g.seq } :=
  congrArg (s.setRoute key) (if_pos opened)

/-- The task of a refused message that is unacknowledged ends (R328). -/
theorem State.refusedIn_ends {g : Seg} {x : TxSeg} {rest : List TxSeg}
    (sent : (s.route key).unacked.filter (fun y => decide (y.seg.msgNo = g.msgNo) && decide (y.seg.typ = 1)) = x :: rest) :
    (s.refusedIn key g).task? x.task.1 x.task.2 = none := by
  have gone := (s.abortTask_ends x.task.1 x.task.2 (g.aux % 256)).2
  unfold State.refusedIn
  dsimp only
  rw [sent]
  change (s.abortTask x.task.1 x.task.2 (g.aux % 256)).tunilRequests.task? x.task.1 x.task.2 = none
  generalize s.abortTask x.task.1 x.task.2 (g.aux % 256) = y at gone ⊢
  rwa [show y.tunilRequests.task? x.task.1 x.task.2 = y.task? x.task.1 x.task.2 by rw [State.tunilRequests_frame]; rfl]

theorem State.refusedIn_idle {g : Seg} (sent : ∀ y ∈ (s.route key).unacked, y.seg.msgNo ≠ g.msgNo)
    (waiting : ∀ y ∈ (s.route key).toSend, y.seg.msgNo ≠ g.msgNo) : s.refusedIn key g = s := by
  unfold State.refusedIn
  dsimp only
  rw [List.filter_eq_nil_iff.2 fun y hy => by simp [sent y hy], List.filter_eq_nil_iff.2 fun y hy => by simp [waiting y hy]]
  rfl

end

/-! ### The window of an open tenant route -/

section
variable {s t : State} (h : s.Drained t)
include h

theorem State.Drained.sound (sd : sound s) : Machine.sound t := by
  unfold Machine.sound
  rwa [h.parity]

theorem State.Drained.idle (idle : ∀ k, (s.queue k).tasks = []) : ∀ k, (t.queue k).tasks = [] := State.idle_congr idle h.queues

theorem State.Drained.byte (a : Nat) : t.byte a = s.byte a := State.byte_congr (congrArg Mem.bytes h.mem) a

theorem State.Drained.home (n i : Nat) : t.home n i = s.home n i := congrArg (mget HEntry.free · (hkey n i)) h.homes

theorem State.Drained.fills : t.fills = s.fills := (congrArg State.fills h.frame :)

theorem State.Drained.homeAddr (e : HEntry) : t.homeAddr e = s.homeAddr e := by
  rw [h.frame]
  rfl

theorem State.Drained.ownEpoch (key : Nat) : t.ownEpoch key = s.ownEpoch key := by
  rw [h.frame]
  rfl

theorem State.Drained.quiet (off : bit (s.reg .tunFinj 0) 31 = false) : bit (t.reg .tunFinj 0) 31 = false := by
  rwa [h.reg]

theorem State.Drained.aboveFloor {key : Nat} {g : Seg}
    (fresh : (s.route key).cls ≠ 0 ∨ s.stepFloor (s.route key).tenant ≤ g.step) :
    (t.route key).cls ≠ 0 ∨ t.stepFloor (t.route key).tenant ≤ g.step := by
  unfold State.stepFloor State.reg64
  rwa [h.route, h.reg, h.reg]

theorem State.Drained.firstCode (n : Nat) (g : Seg) : t.firstCode n g = s.firstCode n g := by
  rw [h.frame]
  rfl

theorem State.Drained.sameRegs {P : Reg → Nat → Prop} {u : State} (same : Machine.sameRegs P t u) : Machine.sameRegs P s u :=
  (sameRegs.of_regs h.regs).trans same fun _ _ e => e

end

section
variable {s : State} {p : Nat} {g : Seg} (here : g.dstNode = s.carNode) (up : s.tunReady = true)
  (opened : (s.route (segKey g)).st = 2) (record : (s.route (segKey g)).ofRecord g = true) (sd : sound s)
include here up opened record sd

theorem State.sequenced_dup
    (dup : 2 ^ 31 ≤ (g.seq + 2 ^ 32 - (s.route (segKey g)).rxNext) % 2 ^ 32 ∨ (s.route (segKey g)).rxMarks.contains g.seq = true)
    (f : State → Nat → State) :
    s.sequenced p g f = ((s.takeFrame p g).countWrap .tunDupdrop 0 1).oweAck (segKey g) :=
  (State.sequenced_window here up opened record sd f).trans (if_pos dup)

theorem State.sequenced_fresh
    (new : ¬ (2 ^ 31 ≤ (g.seq + 2 ^ 32 - (s.route (segKey g)).rxNext) % 2 ^ 32 ∨
      (s.route (segKey g)).rxMarks.contains g.seq = true))
    (near : (g.seq + 2 ^ 32 - (s.route (segKey g)).rxNext) % 2 ^ 32 ≤ 256) (f : State → Nat → State) :
    s.sequenced p g f = ((f (s.takeFrame p g) (segKey g)).wake 65 (segKey g)).wakeMesh 64 :=
  (State.sequenced_window here up opened record sd f).trans ((if_neg new).trans (if_neg (Nat.not_lt.2 near)))

end

/-- A duplicate is counted and acknowledged again, and nothing else happens (R323). -/
theorem State.Drained.dup {s t : State} (h : s.Drained t) (sd : Machine.sound s) (key : Nat) :
    let u := (t.countWrap .tunDupdrop 0 1).oweAck key
    u.reg .tunDupdrop 0 = wrapAdd32 (s.reg .tunDupdrop 0) 1 ∧ u.mem = s.mem ∧ u.homes = s.homes ∧ u.queues = s.queues ∧
      (u.route key).msgs = (s.route key).msgs ∧ (u.route key).rxNext = (s.route key).rxNext := by
  obtain ⟨n, acks⟩ := (t.countWrap .tunDupdrop 0 1).oweAck_acks key
  have route : (t.countWrap .tunDupdrop 0 1).route key = s.route key := h.route key
  have counted := acks.regs (h.sound sd) .tunDupdrop 0 nofun
  rw [route] at acks
  dsimp only
  rw [counted, acks.route]
  refine ⟨?_, acks.mem.trans h.mem, acks.homes.trans h.homes, acks.queues.trans h.queues, rfl, rfl⟩
  rw [State.countWrap_eq, State.reg_setReg_same, h.reg]

/-- Bytes after a store into memory that is otherwise the same. -/
theorem State.Drained.stored {s t u : State} (h : s.Drained t) {a : Nat} {bs : List Byte} (mem : u.mem = (t.putUnits a bs).mem)
    (x : Nat) : u.byte x = if a ≤ x ∧ x < a + bs.length then (bs[x - a]?).getD 0 else s.byte x := by
  rw [State.byte_congr (congrArg Mem.bytes mem), State.byte_putUnits, h.byte]

/-! ### Answers that leave the routes -/

/-- A NOT_READY before readiness (R337). -/
theorem State.Drained.notReadyYet {s t : State} (h : s.Drained t) (sd : Machine.sound s) (p : Nat) (g : Seg) :
    let u := t.notReadyYet p g
    u.mem = s.mem ∧ u.homes = s.homes ∧ u.queues = s.queues ∧ u.tunil.routes = s.tunil.routes ∧
      Machine.sameRegs (fun q i => (q = .tunNotready ∨ q = .tunFinjcnt) ∧ i = 0) s u := by
  obtain ⟨mem, homes, queues, routes, regs⟩ :=
    ({ t with freeCtr := t.freeCtr + 1 } : State).notReady_keeps p g (t.startRetry g)
  exact ⟨mem.trans h.mem, homes.trans h.homes, queues.trans h.queues, routes.trans (congrArg Tunil.routes h.tunil),
    h.sameRegs (regs (h.sound sd))⟩

/-- A NOT_READY for a route that cannot take the segment (R319, R323). -/
theorem State.Drained.notReady {s t : State} (h : s.Drained t) (sd : Machine.sound s) (p : Nat) (g : Seg) :
    let u := t.notReady p g 100
    u.mem = s.mem ∧ u.homes = s.homes ∧ u.queues = s.queues ∧ u.tunil.routes = s.tunil.routes ∧
      (mget 0 s.tunil.notReadyAt (65536 * segKey g + g.srcNode % 65536) = 0 → bit (s.reg .tunFinj 0) 31 = false →
        s.portUsable p = true → u.says p 3 100 g.srcNode) ∧
      Machine.sameRegs (fun q i => (q = .tunNotready ∨ q = .tunFinjcnt) ∧ i = 0) s u := by
  obtain ⟨mem, homes, queues, routes, regs⟩ := t.notReady_keeps p g 100
  refine ⟨mem.trans h.mem, homes.trans h.homes, queues.trans h.queues, routes.trans (congrArg Tunil.routes h.tunil),
    fun first quiet usable => ?_, h.sameRegs (regs (h.sound sd))⟩
  exact State.notReady_says (by rwa [h.tunil]) (by rwa [h.reg]) (by rwa [h.usable]) 100

end Sys2Proof.Machine
end

section
/-! PROOF. The statement about segments that arrive, from what each branch leaves (R316, R319, R320, R323, R327 to R329, R333,
R336, R337). -/
namespace Sys2Proof.Machine

section
variable {s : State} {p : Fin 32} {g : Seg} (on : s.clocked = true) (taken : s.takes p g = true) (here : g.dstNode = s.carNode)
include on taken here

/-- What a closed route makes of the segments without a sequence number (R323). -/
theorem exec_control_closed (closed : (s.route (segKey g)).st = 0) : ∀ c, c = .ack p g ∨ c = .notReady p g ∨ c = .busy p g ∨
    c = .refused p g ∨ c = .routeFail p g ∨ c = .participantReset p g → exec c s = .next (s.takeFrame p g) := by
  rintro c (rfl | rfl | rfl | rfl | rfl | rfl)
  · rw [exec_ack on taken, State.control_closed here closed]
  · rw [exec_notReady on taken, State.control_closed here closed]
  · rw [exec_busy on taken, State.control_closed here closed]
  · rw [exec_refused on taken, State.control_closed here closed]
  · rw [exec_routeFail on taken, State.control_closed here closed]
  · rw [exec_participantReset_here on taken here, if_pos closed]

/-- A segment of another record is stale (R320, R333). -/
theorem exec_control_stale (opened : 2 ≤ (s.route (segKey g)).st) (other : (s.route (segKey g)).ofRecord g = false) :
    ∀ c, c = .ack p g ∨ c = .notReady p g ∨ c = .busy p g ∨ c = .refused p g ∨ c = .routeFail p g →
      exec c s = .next ((s.takeFrame p g).countWrap .tunStale 0 1) := by
  rintro c (rfl | rfl | rfl | rfl | rfl)
  · rw [exec_ack on taken, State.control_stale here opened other]
  · rw [exec_notReady on taken, State.control_stale here opened other]
  · rw [exec_busy on taken, State.control_stale here opened other]
  · rw [exec_refused on taken, State.control_stale here opened other]
  · rw [exec_routeFail on taken, State.control_stale here opened other]

/-- Before readiness no sequenced segment and no OPEN is taken (R337). -/
theorem exec_unready (down : s.tunReady = false) : ∀ c, c = .data p g ∨ c = .commit p g ∨ c = .openSeg p g →
    exec c s = .next ((s.takeFrame p g).notReadyYet p g) := by
  rintro c (rfl | rfl | rfl)
  · rw [exec_data on taken, State.sequenced_unready here down]
  · rw [exec_commit on taken, State.sequenced_unready here down]
  · rw [exec_openSeg on taken, State.openIn_unready here down]

/-- A RESET route drops them (R334). -/
theorem exec_reset (up : s.tunReady = true) (reset : (s.route (segKey g)).st = 3) :
    ∀ c, c = .data p g ∨ c = .commit p g ∨ c = .openSeg p g → exec c s = .next (s.takeFrame p g) := by
  rintro c (rfl | rfl | rfl)
  · rw [exec_data on taken, State.sequenced_reset here up reset]
  · rw [exec_commit on taken, State.sequenced_reset here up reset]
  · rw [exec_openSeg on taken, State.openIn_reset here up reset]

end

/-- Settles O53: a segment meets the checks in turn, and each branch leaves what its lemma says. -/
theorem segmentsArriveInTheirRoute : Obligations.SegmentsArriveInTheirRoute := by
  unfold Obligations.SegmentsArriveInTheirRoute
  refine fun p g s on => ⟨fun no => exec_untaken on no, fun taken sd => ?_⟩
  have drained := s.drained_takeFrame p g
  have route := drained.route (segKey g)
  refine ⟨fun other c hc => ⟨_, exec_stray on taken other c hc, drained.stale⟩, fun here => ?_⟩
  refine ⟨fun up opened record tenant => ⟨fun dup c hc => ?dup, fun new near fresh idle => ⟨?part, ?commit⟩⟩,
    fun up opened record tenant idle new near fresh none noKiln => ⟨fun full ahead => ?busy, fun room empty next => ⟨?refused, ?whole⟩⟩,
    fun down c hc => ⟨_, exec_unready on taken here down c hc, drained.notReadyYet sd p g⟩, fun up closed c hc => ?closed,
    fun up reset => exec_reset on taken here up reset, fun up opened other c hc => ?other,
    ⟨fun up mates opening => ?opens, fun up mates opened epoch => ?again, fun up not3 h => ?refusedOpen⟩,
    fun opening peer => ?acked, fun h => ?ackIdle, fun closed => exec_control_closed on taken here closed,
    fun opened other => exec_control_stale on taken here opened other, fun h => ?holds, fun opened record => ?busyHolds,
    fun known => ⟨fun x rest sent => ?ends, fun sent waiting => ?endsNot⟩⟩
  case dup =>
    obtain ⟨f, run⟩ := exec_sequenced on taken hc
    exact ⟨_, run.trans (congrArg _ (State.sequenced_dup here up opened record sd dup f)), drained.dup sd (segKey g)⟩
  case part =>
    intro m only same code part fits units
    obtain ⟨mem, homes, queues, msgs, regs⟩ := State.data_partial (s := s.takeFrame p g) (key := segKey g) (p := p)
      (by rwa [route]) (drained.sound sd) (drained.idle idle) tenant (drained.aboveFloor fresh) same code part fits units
    refine ⟨_, exec_data on taken, ?_⟩
    rw [State.sequenced_fresh here up opened record sd new near]
    refine ⟨homes.trans drained.homes, queues.trans drained.queues, drained.stored mem, ⟨_, msgs, rfl, (m.taking_got g).1⟩,
      fun wf => ?_, drained.sameRegs regs⟩
    rw [mem]
    exact State.putUnits_wf (by rwa [drained.mem]) ..
  case commit =>
    intro m only commit handle
    obtain ⟨mem, homes, msgs⟩ := State.commit_moves (s := s.takeFrame p g) (key := segKey g) (by rwa [route]) commit handle
      (drained.idle idle) (drained.aboveFloor fresh)
    refine ⟨_, exec_commit on taken, ?_⟩
    rw [State.sequenced_fresh here up opened record sd new near]
    refine ⟨mem.trans drained.mem, msgs, fun gen moving => ?_⟩
    have valid := State.commitMove_valid (s := s.takeFrame p g) (m := m) (by rwa [drained.home]) (by rwa [drained.home])
    rw [drained.home] at valid
    rw [route] at homes
    exact (congrArg (mget HEntry.free · _) homes).trans valid
  case busy =>
    obtain ⟨busy, mem, homes, rxNext, rxQueue, said⟩ := State.data_busy (s := s.takeFrame p g) (key := segKey g) (p := p)
      (drained.idle idle) tenant (drained.aboveFloor fresh) (by rwa [route]) (drained.sound sd) (by rwa [route]) (by rwa [route])
      (by rwa [route])
    refine ⟨_, exec_data on taken, ?_⟩
    rw [State.sequenced_fresh here up opened record sd new near]
    exact ⟨busy.trans (by rw [drained.reg]), mem.trans drained.mem, homes.trans drained.homes, rxNext.trans (by rw [route]),
      rxQueue.trans (by rw [route]), fun quiet usable => said (by rwa [drained.reg]) (by rwa [drained.usable])⟩
  case refused =>
    intro code
    obtain ⟨mem, homes, rxMsg, msgs, rxQueue⟩ := State.data_refused (s := s.takeFrame p g) (key := segKey g) (p := p)
      (drained.idle idle) tenant (drained.aboveFloor fresh) (by rwa [route]) (by rwa [route]) (by rwa [route]) (by rwa [route])
      (by rwa [route, drained.firstCode])
    rw [route] at rxMsg rxQueue
    rw [drained.firstCode] at rxQueue
    refine ⟨_, exec_data on taken, ?_⟩
    rw [State.sequenced_fresh here up opened record sd new near]
    exact ⟨mem.trans drained.mem, homes.trans drained.homes, rxMsg, msgs, rxQueue⟩
  case whole =>
    intro a code notMove first one still valid address
    obtain ⟨mem, homes, rxMsg, rxQueue⟩ := State.data_whole (s := s.takeFrame p g) (key := segKey g) (p := p) (a := a)
      (drained.idle idle) tenant (drained.aboveFloor fresh) (by rwa [route]) (by rwa [route]) (by rwa [route]) (by rwa [route])
      (by rwa [route, drained.firstCode]) notMove first one (by rwa [drained.fills]) (by rwa [route, drained.home])
      (by rwa [route, drained.home, drained.homeAddr])
    rw [route] at rxMsg rxQueue
    refine ⟨_, exec_data on taken, ?_⟩
    rw [State.sequenced_fresh here up opened record sd new near]
    exact ⟨homes.trans drained.homes, rxMsg, drained.stored mem, rxQueue⟩
  case closed =>
    obtain ⟨f, run⟩ := exec_sequenced on taken hc
    refine ⟨_, run, ?_⟩
    rw [State.sequenced_closed here up (by omega) (by omega)]
    exact drained.notReady sd p g
  case other =>
    obtain ⟨f, run⟩ := exec_sequenced on taken hc
    rw [run, State.sequenced_other here up opened other]
  case opens =>
    obtain ⟨st, epoch, txSeq, rxNext, unacked, rxMarks, mem, said, same⟩ := State.opened_answers (State.route_setRoute_same
      (s.takeFrame p g) (segKey g) ((s.route (segKey g)).opened g.epoch)) p g ((s.takeFrame p g).ownEpoch (segKey g))
    refine ⟨_, exec_openSeg on taken, ?_⟩
    rw [State.openIn_opens here up (Route.mates_iff.2 mates) opening]
    refine ⟨st, epoch, txSeq, rxNext, unacked, rxMarks, mem.trans drained.mem, fun quiet usable => ?_,
      fun none quiet => (same none (drained.quiet quiet)).trans drained.regs⟩
    rw [← drained.ownEpoch]
    exact said (drained.quiet quiet) ((drained.usable p).trans usable)
  case again =>
    have sent := (s.takeFrame p g).sends_answer p g 6 ((s.takeFrame p g).ownEpoch (segKey g))
    refine ⟨_, exec_openSeg on taken, ?_⟩
    rw [State.openIn_again here up (Route.mates_iff.2 mates) opened epoch]
    refine ⟨sent.mem.trans drained.mem, sent.homes.trans drained.homes, sent.queues.trans drained.queues,
      sent.routes.trans (congrArg Tunil.routes drained.tunil), fun quiet usable => ?_⟩
    rw [← drained.ownEpoch]
    exact State.answer_says (drained.quiet quiet) ((drained.usable p).trans usable) g 6 _
  case refusedOpen =>
    obtain ⟨mem, homes, queues, routes, said, -⟩ := drained.notReady sd p g
    refine ⟨_, exec_openSeg on taken, ?_⟩
    rw [State.openIn_refused here up not3 (h.imp_left fun no => Bool.eq_false_iff.2 fun yes => no (Route.mates_iff.1 yes))]
    exact ⟨mem, homes, queues, routes, said⟩
  case acked =>
    refine ⟨_, exec_openAck on taken, ?_⟩
    rw [State.openAckIn_opens here opening peer]
    obtain ⟨st, epoch, txSeq, rxNext, unacked, -, mem, -, same⟩ := State.opened_settles (State.route_setRoute_same
      (s.takeFrame p g) (segKey g) ((s.route (segKey g)).opened (g.aux % 65536)))
    exact ⟨st, epoch, txSeq, rxNext, unacked, mem.trans drained.mem, fun none => (same none).trans drained.regs⟩
  case ackIdle => rw [exec_openAck on taken, State.openAckIn_idle here h]
  case holds =>
    have known := h.imp_right fun ⟨opened, record⟩ => And.intro (by omega : (s.route (segKey g)).st ≠ 0) record
    rw [exec_notReady on taken, State.control_known here known, State.notReadyIn_holds (by rw [route]; exact h.imp_right And.left),
      route]
  case busyHolds =>
    rw [exec_busy on taken, State.control_known here (.inr ⟨by omega, record⟩), State.busyIn_holds (by rwa [route]), route]
  case ends =>
    refine ⟨_, exec_refused on taken, ?_⟩
    rw [State.control_known here known]
    exact State.refusedIn_ends (by rwa [route])
  case endsNot =>
    rw [exec_refused on taken, State.control_known here known, State.refusedIn_idle (by rwa [route]) (by rwa [route])]

end Sys2Proof.Machine
end
